-- ==== Sys2Proof/Word.lean ====
section
/-! DEFINITION. The word type, sparse tables of plain data, and the plainest arithmetic on them. -/

namespace Sys2Proof

/-- A 32-bit register word as it crosses a bus (R13), kept as its number. -/
abbrev Word := Nat

/-- A sparse table: key and value pairs with strictly rising keys. A key that is not listed reads as a default,
which the reader names, and no listed value equals that default. -/
abbrev Tab (α : Type) := List (Nat × α)

/-- The value a table lists at a key. -/
def tabFind {α : Type} : Tab α → Nat → Option α
  | [], _ => none
  | (k, v) :: t, n => if k = n then some v else tabFind t n

/-- Lists a value at a key, in its place by key. -/
def tabPut {α : Type} : Tab α → Nat → α → Tab α
  | [], n, x => [(n, x)]
  | (k, v) :: t, n, x =>
    if n < k then (n, x) :: (k, v) :: t
    else if n = k then (n, x) :: t
    else (k, v) :: tabPut t n x

/-- Strikes a key from the table. -/
def tabDel {α : Type} : Tab α → Nat → Tab α
  | [], _ => []
  | (k, v) :: t, n => if k = n then tabDel t n else (k, v) :: tabDel t n

/-- Reads a table whose unlisted keys hold `d`. -/
def tabGet {α : Type} (d : α) (t : Tab α) (n : Nat) : α :=
  match tabFind t n with
  | some v => v
  | none => d

/-- Writes a table whose unlisted keys hold `d`: writing `d` strikes the key. -/
def tabSet {α : Type} [DecidableEq α] (d : α) (t : Tab α) (n : Nat) (x : α) : Tab α :=
  if x = d then tabDel t n else tabPut t n x

/-- The keys of a table rise strictly from above `lo`. -/
def tabSortedFrom {α : Type} : Nat → Tab α → Bool
  | _, [] => true
  | lo, (k, _) :: t => decide (lo ≤ k) && tabSortedFrom (k + 1) t

/-- The bits `lo` and up of a word, `w` of them. -/
def bits (x lo w : Nat) : Nat := x / 2 ^ lo % 2 ^ w

/-- Bit `n` of a word. -/
def bitAt (x n : Nat) : Bool := bits x n 1 == 1

/-- A truth value as a bit. -/
def b2n (b : Bool) : Nat := if b then 1 else 0

/-- The two's-complement reading of the low `w` bits. -/
def toSigned (w x : Nat) : Int :=
  if x % 2 ^ w < 2 ^ (w - 1) then (x % 2 ^ w : Nat) else (x % 2 ^ w : Nat) - (2 ^ w : Nat)

/-- The two's-complement code of a number in `w` bits, wrapping. -/
def ofSigned (w : Nat) (x : Int) : Nat := (x % (2 ^ w : Nat)).toNat

/-- The nearer limit for a number outside a range, else the number. -/
def clampInt (lo hi x : Int) : Int := if x < lo then lo else if hi < x then hi else x

/-- Signed saturation to `w` bits. -/
def satSigned (w : Nat) (x : Int) : Int := clampInt (-(2 ^ (w - 1) : Nat)) ((2 ^ (w - 1) : Nat) - 1) x

/-- A count of `w` bits that stops at its largest value. -/
def satNat (w x : Nat) : Nat := if x < 2 ^ w then x else 2 ^ w - 1

/-- Division rounded to nearest, ties away from zero. -/
def divNear (a : Int) (b : Nat) : Int :=
  if b = 0 then 0
  else if 0 ≤ a then (2 * a + b) / (2 * b)
  else -((2 * (-a) + b) / (2 * b))

/-- Entry `n` of a list of numbers, 0 past its end. -/
def listAt : List Nat → Nat → Nat
  | [], _ => 0
  | x :: _, 0 => x
  | _ :: t, n + 1 => listAt t n

/-- The numbers 0 to `n − 1`, rising. -/
abbrev upTo (n : Nat) : List Nat := List.range n

/-- Adds up a function over the numbers below `n`. -/
def sumBelow (n : Nat) (f : Nat → Int) : Int :=
  match n with
  | 0 => 0
  | k + 1 => sumBelow k f + f k

/-- The least number below `n` that meets a test, searched upward. -/
def firstBelow (n : Nat) (p : Nat → Bool) : Option Nat := (upTo n).find? p

/-- How many numbers below `n` meet a test. -/
def countBelow (n : Nat) (p : Nat → Bool) : Nat := ((upTo n).filter p).length

/-- One number with the bit field `[lo + w − 1 : lo]` replaced by `v`. -/
def withBits (x lo w v : Nat) : Nat := x - bits x lo w * 2 ^ lo + v % 2 ^ w * 2 ^ lo

/-- The octet `n` of a number, the least significant first. -/
def octet (x n : Nat) : Nat := bits x (8 * n) 8

/-- The number whose octets are these, the least significant first. -/
def fromOctets : List Nat → Nat
  | [] => 0
  | x :: t => x % 256 + 256 * fromOctets t

/-- The `n` octets of a number, the least significant first. -/
def toOctets : Nat → Nat → List Nat
  | 0, _ => []
  | n + 1, x => x % 256 :: toOctets n (x / 256)

/-- The first `n` of a list, filled up with zeros. -/
def takeFill : Nat → List Nat → List Nat
  | 0, _ => []
  | n + 1, [] => 0 :: takeFill n []
  | n + 1, x :: t => x :: takeFill n t

end Sys2Proof
end

