-- ==== Sys2Proof/Syntax.lean ====
section
/-! DEFINITION. The commands of the block, one constructor per row of the opcode table, and their operands. -/

namespace Sys2Proof

/-- The path of a master access (R813, R861): all but the last act as HOST; the last is the side-band management
port. -/
inductive Path where
  | bar0 | bar2 | dma | usb | smp
  deriving DecidableEq, Repr

/-- One donor slice of a slice plan (R31). `map` is its place on the donor links: receive link and pair, transmit link
and pair (R264). -/
structure DonorSlice where
  rate : Nat := 0
  centreKhz : Nat := 0
  orbit : Nat := 0
  tdd : Bool := false
  dlEn : Bool := false
  ulEn : Bool := false
  sharp : Bool := false
  rxLink : Option Nat := none
  rxPair : Nat := 0
  txLink : Option Nat := none
  txPair : Nat := 0
  deriving DecidableEq, Repr

/-- One port slice of a port (R33, R34, R36): its number in the port, its donor slice, its directions and its muting
priority. -/
structure PortSlice where
  num : Nat := 0
  donor : Nat := 0
  dlEn : Bool := false
  ulEn : Bool := false
  prio : Nat := 0
  deriving DecidableEq, Repr

/-- One port of a slice plan (R36), with the lane it declares, and of a protected pair the second lane. Where nothing else
is given, these are the lanes that R36 asks for. -/
structure PortDecl where
  port : Nat := 0
  pair : Bool := false
  lane : Nat := port
  second : Option Nat := if pair then some (port + 64) else none
  rate10 : Bool := false
  eth : Bool := false
  stations : Nat := 0
  slices : List PortSlice := []
  deriving DecidableEq, Repr

/-- A slice plan (R31, R33): donor slices by number, and ports. -/
structure Plan where
  donors : Tab DonorSlice := []
  ports : List PortDecl := []
  deriving DecidableEq, Repr

/-- What the sections of an image say, read by the controller. The spec gives the sections their contents and not their
encoding, so the contents come with the command: the plan, the placement of each stream on a logical processor (R40),
the times of `IDENTITY`, the register words that the other sections load, as pairs of a BAR0 offset and a word, and the
channel entries that `STATIONS` carries, as pairs of a station and an entry (R285). -/
structure ImageBody where
  plan : Plan := {}
  places : List (Nat × Nat) := []
  confirmTime : Nat := 600
  orbitWaitMs : Nat := 2000
  migWaitMs : Nat := 5
  regs : Tab Nat := []
  channels : List (Nat × List Nat) := []
  deriving DecidableEq, Repr

/-- A cell that the search of a donor source finds (R95 to R97): its identity and strength, when its synchronisation signal
lies on the orbit counter, in 1/16 sample, and for `NR_SSB` what the decoding gives: the SSB's subcarrier spacing in kHz and
its Lmax, its index, the half-frame bit, the SFN, and where it lies from the slice centre in 15 kHz units. -/
structure SyncCell where
  pci : Nat := 0
  power : Int := 0
  time : Int := 0
  scs : Nat := 15
  lmax : Nat := 4
  ssb : Nat := 0
  half : Bool := false
  sfn : Nat := 0
  ofs : Int := 0
  deriving DecidableEq, Repr

/-- One 64b/66b block of a lane (R173): its sync header, as R173 writes it (1 data, 2 control), and its 64 payload bits, the
first sent as bit 0. On the line the payload is scrambled. -/
structure LineBlock where
  sync : Nat := 1
  payload : Nat := 0
  deriving DecidableEq, Repr

/-- What a lane's receiver takes in around one frame: the blocks since the frame before, as they came from the line, up to the
block that ends the frame, and the instant at which the first bit of the `SOF` (in Ethernet carriage, of the start block)
arrived, in 1/16 sample of the frame grid (R177, R181, R225). -/
structure TdlFrame where
  arrived : Nat := 0
  line : List LineBlock := []
  deriving DecidableEq, Repr

/-- The commands, one for each row of the opcode table: those with operands in the table's order, then those of rare
expiries, then those without operands (the compiler bounds the number of constructors that hold data and can be built in
compiled code). Each row's rule and summary stand beside it. -/
inductive Instr where
  /-- `REGISTER_WRITE` (R15): A master writes a register that has no row of its own; the field types decide the effect. `hw`
  holds the W1C bits that hardware sets in the same cycle (R17). -/
  | registerWrite (p : Path) (a len : Nat) (whole : Bool) (w hw : Nat)
  /-- `LATCHING_READ` (R155): A read of a _LO register latches its _HI partner so that a 64-bit read is coherent. -/
  | latchingRead (p : Path) (k : Nat)
  /-- `OWNER_WRITE` (R816): A write to an OWNER field claims, releases, hands over or is rejected. -/
  | ownerWrite (p : Path) (b w : Nat) (other : Option Nat)
  /-- `LOAD_FLASH` (R74): Command to load an image from flash, accepted only in HALT. -/
  | loadFlash (p : Path) (w : Nat)
  /-- `LOAD_STAGED` (R72): Command to load the staged full image, muting and restarting where in service. -/
  | loadStaged (p : Path) (w : Nat)
  /-- `WRITE_SLOT` (R65): Command to check the staged full image and program the inactive slot. -/
  | writeSlot (p : Path) (w : Nat)
  /-- `RELOAD` (R72): Command to mute fully and restart from the preferred slot. -/
  | reload (p : Path) (w : Nat)
  /-- `CONFIRM` (R64): Command confirming the active full image and clearing its trial. -/
  | confirm (p : Path) (w : Nat)
  /-- `REMOULD` (R75): Command applying a staged delta image to one port or donor slice. -/
  | remould (p : Path) (w : Nat)
  /-- `ABORT` (R49): Command abandoning a delta or migration before its switch. -/
  | abort (p : Path) (w : Nat)
  /-- `GO` (R68): Command granting the permit in ORBIT_WAIT, or holding it when written earlier. -/
  | go (p : Path) (w : Nat)
  /-- `CMD_RESERVED` (R81): A reserved CMD value is refused. -/
  | cmdReserved (p : Path) (cmd w : Nat)
  /-- `IMAGE_LOAD_DONE` (R61): Reading and checking an image finishes; a pass leads to APPLY, a failure to the next source or HALT. -/
  | imageLoadDone (body : ImageBody) (bad : Option (Nat × Nat × Nat))
  /-- `SLOT_PROGRAM_DONE` (R65): A slot program completes and is read back; a trial directory copy is written. -/
  | slotProgramDone (ok : Bool)
  /-- `MIGRATION_REQUEST` (R44): A migration of a stream is requested; a new placement is written in shadow with epoch + 1. -/
  | migrationRequest (m sp : Nat)
  /-- `MIG_SHADOW_START` (R45): One TDL frame after acceptance the target processor starts on the same input. -/
  | migShadowStart (m : Nat)
  /-- `MIG_SHADOW_END` (R46): The shadow time ends and the search for a switch boundary begins. -/
  | migShadowEnd (m : Nat)
  /-- `MIG_SWITCH` (R47): At the switch boundary consumers accept only the new epoch and the sequence count continues. -/
  | migSwitch (m stale : Nat)
  /-- `MIG_RELEASE` (R47): One TDL frame after the switch the old placement is released and the shadow mark clears. -/
  | migRelease (m : Nat)
  /-- `ORB_MEASUREMENT` (R107): An orbit source delivers a frame-boundary measurement, acted on per the orbit state. -/
  | orbMeasurement (o : Nat) (cells : List SyncCell)
  /-- `MEASUREMENT_MISSING` (R107): No measurement arrives for the expected interval plus MISS_TIME. -/
  | measurementMissing (o : Nat)
  /-- `HOLD_LIMIT_EXPIRY` (R108): HOLDOVER lasts HOLD_LIMIT and the orbit enters LOST. -/
  | holdLimitExpiry (o : Nat)
  /-- `UNC_LIMIT_EXCEEDED` (R109): Holdover uncertainty passes UNC_LIMIT and the orbit enters LOST. -/
  | uncLimitExceeded (o : Nat)
  /-- `ORBIT_MUTE_END` (R112): The orbit-loss mute ends at the first frame boundary 10 ms after relock. -/
  | orbitMuteEnd (o : Nat)
  /-- `ORB_CTL_WRITE` (R111): A write to ORB_CTL enables, disables or changes the source of an orbit. -/
  | orbCtlWrite (p : Path) (o w : Nat)
  /-- `REACQUIRE` (R108): REACQUIRE sends a locked orbit to LOST or restarts its lock count. -/
  | reacquire (p : Path) (o w : Nat)
  /-- `ORB_CLR_CNT` (R149): Clears ORB_CNT of the orbit. -/
  | orbClrCnt (p : Path) (o w : Nat)
  /-- `ORB_PIN_EDGE` (R100): An edge on ORB_SYNC_IN gives a pin-source measurement. -/
  | orbPinEdge (falling : Bool)
  /-- `LEARN` (R121): Starts a TDD pattern learning run on the orbit's source slice. -/
  | learn (p : Path) (o w : Nat)
  /-- `LEARN_RUN_END` (R123): A learning run ends after LEARN_FRAMES and writes its result to the standby bank. -/
  | learnRunEnd (o : Nat)
  /-- `INTERNAL_PATTERN_SWAP` (R123): An AGREED result with AUTO_ADOPT becomes active at the next orbit frame boundary. -/
  | internalPatternSwap (o : Nat)
  /-- `TRN_ENTRY_WRITE` (R132): A word-0 write moves a staged transit entry into the table. -/
  | trnEntryWrite (p : Path) (o n w : Nat)
  /-- `TRN_CLR_CNT` (R164): Clears TRN_CNT of the orbit. -/
  | trnClrCnt (p : Path) (o w : Nat)
  /-- `PATTERN_EDGE` (R119): A TDD pattern edge falls due and the gates change at its early position. -/
  | patternEdge (o : Nat)
  /-- `TICK_COMMIT` (R128): The per-tick commit transit commits the pending gain banks of the orbit's streams. -/
  | tickCommit (o : Nat)
  /-- `GAIN_COMMIT` (R348): A GAIN_COMMIT transit makes pending banks active and copies them back. -/
  | gainCommit (o n : Nat)
  /-- `TRANSIT_NONE` (R134): An entry with action NONE falls due and performs nothing. -/
  | transitNone (o n : Nat)
  /-- `FES_CMD` (R298): A transit runs a command slot of an on-board station or sends STN_CMD to a remote station. -/
  | fesCmd (o n : Nat)
  /-- `HK_INJECT` (R626): A transit delivers injected triggers to the converters of its mask. -/
  | hkInject (o n : Nat)
  /-- `CAPTURE` (R419): A transit starts the capture of its descriptor. -/
  | capture (o n : Nat)
  /-- `TDD_PAT_SWAP` (R133): A transit makes the standby pattern bank active. -/
  | tddPatSwap (o n : Nat)
  /-- `MARK` (R133): A transit writes a TRANSIT_MARK record. -/
  | mark (o n : Nat)
  /-- `IRQ` (R133): A transit raises an MSI-X vector and may assert SMP_ALERT_N. -/
  | irq (o n : Nat)
  /-- `LANE_ENABLE_WRITE` (R215): Setting or clearing EN of a lane moves it to SIGNAL or DISABLED. -/
  | laneEnableWrite (p : Path) (n w : Nat)
  /-- `LANE_RESTART` (R215): RESTART sends the lane to SIGNAL. -/
  | laneRestart (p : Path) (n w : Nat)
  /-- `LNK_CLR_CNT` (R243): Clears every counter of the lane. -/
  | lnkClrCnt (p : Path) (n w : Nat)
  /-- `SIGNAL_LOSS` (R215): Loss of signal detect sends the lane to SIGNAL. -/
  | signalLoss (n : Nat)
  /-- `BLOCK_LOCK` (R174): 64 valid sync headers give block lock and the lane enters BLOCK. -/
  | blockLock (n : Nat)
  /-- `BLOCK_LOCK_LOSS` (R174): 16 invalid sync headers in 64 lose block lock. -/
  | blockLockLoss (n : Nat)
  /-- `TDL_FRAME_RX` (R190): A received TDL frame is checked and accepted or discarded. -/
  | tdlFrameRx (n : Nat) (f : TdlFrame)
  /-- `FRAME_MISSING` (R191): A frame fails to arrive within one frame period; its sections count invalid. -/
  | frameMissing (n : Nat)
  /-- `NO_FRAME_TIMEOUT` (R215): No frame for 4 frame periods sends a FRAMED lane back to BLOCK. -/
  | noFrameTimeout (n : Nat)
  /-- `HELLO_RX` (R217): A HELLO message moves the port to CAPS or INCOMPATIBLE. -/
  | helloRx (p : Nat)
  /-- `CAPS_RX` (R217): A CAPS message is checked; pass offers the slice map. -/
  | capsRx (p : Nat)
  /-- `SLICE_ACK_RX` (R217): A SLICE_ACK accepts the map (to RTD) or rejects it. -/
  | sliceAckRx (p : Nat)
  /-- `MAP_ID_SWITCH` (R217): Four frames after acceptance the downlink header switches MAP_ID. -/
  | mapIdSwitch (p : Nat)
  /-- `STN_RSP_RX` (R202): A remote station response updates FES_REM_STS. -/
  | stnRspRx (p : Nat)
  /-- `ALARM_RX` (R262): An ALARM message is copied to the ring and recorded. -/
  | alarmRx (p : Nat)
  /-- `READ_RSP_RX` (R262): A READ_RSP message is copied to the lane's receive ring. -/
  | readRspRx (p : Nat)
  /-- `WRITE_RSP_RX` (R262): A WRITE_RSP message is copied to the lane's receive ring. -/
  | writeRspRx (p : Nat)
  /-- `VENDOR_RX` (R262): A VENDOR message is copied to the lane's receive ring. -/
  | vendorRx (p : Nat)
  /-- `HEARTBEAT_RX` (R201): A HEARTBEAT is taken; a new SESSION returns the port to HELLO. -/
  | heartbeatRx (p : Nat)
  /-- `LAT_UPDATE_RX` (R217): A LAT_UPDATE updates latencies and returns the port to RTD. -/
  | latUpdateRx (p : Nat)
  /-- `HELLO_TX` (R199): Every 16 frames in HELLO the controller sends HELLO. -/
  | helloTx (p : Nat)
  /-- `HEARTBEAT_TX` (R199): Every 480 frames of an open session the controller sends HEARTBEAT. -/
  | heartbeatTx (p : Nat)
  /-- `RESEND_TIMEOUT` (R196): The oldest unacknowledged message waited 64 frames; unacknowledged messages are resent. -/
  | resendTimeout (p : Nat)
  /-- `HB_LIMIT_EXPIRY` (R217): No HEARTBEAT for HB_LIMIT returns the port to HELLO. -/
  | hbLimitExpiry (p : Nat)
  /-- `TDD_EDGE_SEND` (R212): A TDD_EDGE is sent in three frames at least EDGE_LEAD before its position. -/
  | tddEdgeSend (p q : Nat) (up opens : Bool) (pos : Nat)
  /-- `LNK_MSG_SEND` (R261): SEND transmits the mailbox cell as a reliable message. -/
  | lnkMsgSend (p : Path) (n w : Nat)
  /-- `PROT_REQ_WRITE` (R229): A write of REQ sets lockout, force, manual or clear on a protected pair. -/
  | protReqWrite (p : Path) (k w : Nat)
  /-- `PAIR_SWITCH_APPLY` (R230): A selection change takes effect at the next TDL frame boundary. -/
  | pairSwitchApply (k : Nat)
  /-- `MGB_POLL` (R235): Every POLL_MS the controller polls each managed lane's device. -/
  | mgbPoll (n : Nat) (ack : Bool) (l : List Nat)
  /-- `MGB_XFER` (R242): GO starts a host transaction on a management bus. -/
  | mgbXfer (p : Path) (b w : Nat)
  /-- `MGB_XFER_DONE` (R237): A management bus transaction completes with its result. -/
  | mgbXferDone (b : Nat) (ack : Bool) (data : Nat)
  /-- `DON_SH_LOCK` (R275): Sync header lock on every lane moves a receive link to EMB_SEARCH. -/
  | donShLock (j : Nat)
  /-- `DON_EMB_LOCK` (R275): Extended multiblock lock moves the link to ALIGN. -/
  | donEmbLock (j : Nat)
  /-- `DON_DATA_ENTRY` (R275): With LEMC phase set and lanes ahead, the link enters DATA at the release point. -/
  | donDataEntry (j : Nat) (l : List Nat)
  /-- `DON_LOCK_LOSS` (R275): Loss of lock or a CRC-12 run sends a receive link to SH_SEARCH. -/
  | donLockLoss (j : Nat) (lost : Bool) (sh : Nat) (l : List (List Bool))
  /-- `DON_LATE` (R273): Data arriving after its release point sets LATE and sends the link to ALIGN. -/
  | donLate (j a : Nat)
  /-- `DON_TX_DATA_ENTRY` (R276): A transmit link enters DATA at the first LEMC boundary after phase is set. -/
  | donTxDataEntry (j : Nat)
  /-- `SYSREF_PULSE` (R271): A SYSREF pulse sets, checks or re-phases the LEMC per SYSREF_MODE. -/
  | sysrefPulse (h : Nat)
  /-- `SYSREF_ARM` (R306): Arms the next SYSREF pulse to set the LEMC phase. -/
  | sysrefArm (p : Path) (w : Nat)
  /-- `RELINK` (R276): Restarts every enabled donor link. -/
  | relink (p : Path) (w : Nat)
  /-- `DON_CLR_CNT` (R306): Clears every DON_ counter and BUF_MARGIN. -/
  | donClrCnt (p : Path) (w : Nat)
  /-- `DON_LINK_CFG_WRITE` (R310): A write to DON_LINK_CFG changes only EN while the link runs. -/
  | donLinkCfgWrite (p : Path) (j w : Nat)
  /-- `FES_EN_WRITE` (R289): Setting or clearing EN moves a station between OFF and IDLE. -/
  | fesEnWrite (p : Path) (t w : Nat)
  /-- `FES_RUN` (R303): RUN executes the command of slot RUN_SLOT at once. -/
  | fesRun (p : Path) (t w : Nat)
  /-- `STN_NOP` (R302): Station command NOP, answered DONE. -/
  | stnNop (t k : Nat)
  /-- `STN_TUNE` (R289): Station command TUNE sends a cached channel entry and starts settling. -/
  | stnTune (t k ch : Nat) (keep : Bool)
  /-- `STN_TX_ON` (R292): Station command TX_ON arms the transmitter or enters the pending slot. -/
  | stnTxOn (t k : Nat)
  /-- `STN_TX_OFF` (R289): Station command TX_OFF disarms the transmitter or cancels pending. -/
  | stnTxOff (t k : Nat)
  /-- `STN_RENEW` (R294): Station command RENEW restarts MAX_ON in TRANSMIT. -/
  | stnRenew (t k : Nat)
  /-- `STN_RX_SET` (R302): Station command RX_SET sets RXEN and LNABYP. -/
  | stnRxSet (t k : Nat) (rxen lna : Bool)
  /-- `STN_PIN_SET` (R297): Station command PIN_SET sets TRSW and AUX, refused if it breaks the RXEN rule. -/
  | stnPinSet (t k mask v : Nat)
  /-- `STN_CALIBRATE` (R287): Station command CALIBRATE resends the channel words plus CAL_WORD and waits CAL. -/
  | stnCalibrate (t k w : Nat) (keep : Bool)
  /-- `STN_SPI_WRITE` (R302): Station command SPI_WRITE sends one raw SPI word. -/
  | stnSpiWrite (t k len : Nat) (l : List Nat)
  /-- `STN_SPI_READ` (R302): Station command SPI_READ reads octets into FES_RDATA. -/
  | stnSpiRead (t k wlen rlen : Nat) (l : List Nat)
  /-- `STN_BAD_OPCODE` (R302): A reserved opcode is refused with BAD_COMMAND. -/
  | stnBadOpcode (t k op : Nat)
  /-- `LOCK_POLL` (R290): A synthesiser lock poll runs every POLL_US. -/
  | lockPoll (t data : Nat)
  /-- `MAX_ON_EXPIRY` (R294): A transmitter not renewed within MAX_ON is dropped. -/
  | maxOnExpiry (t : Nat)
  /-- `PA_DELAY_EXPIRY` (R295): PA_DELAY after the first pin change of an orderly drop or raise, the second pin changes. -/
  | paDelayExpiry (t : Nat)
  /-- `STATION_PIN_EDGE` (R296): A station pin change scheduled from a pattern edge falls due. -/
  | stationPinEdge (t e : Nat)
  /-- `FES_ALM_ACTIVE` (R301): FES_ALM held for FILTER becomes active and takes ACTION. -/
  | fesAlmActive (t : Nat) (high : Bool) (held : Nat)
  /-- `FES_ALM_LOCKOUT_END` (R301): A LOCKOUT period ends and suppressed activations give one record. -/
  | fesAlmLockoutEnd (t : Nat)
  /-- `FAULT_CLR` (R289): FAULT_CLR moves a station from FAULT to IDLE. -/
  | faultClr (p : Path) (t w : Nat)
  /-- `ALM_REARM` (R320): ALM_REARM clears STUCK and re-arms the alarm. -/
  | almRearm (p : Path) (t w : Nat)
  /-- `CACHE_LOAD` (R284): LOAD reads a channel entry from SDRAM into a cache place. -/
  | cacheLoad (p : Path) (t w : Nat)
  /-- `CACHE_LOAD_DONE` (R284): A cache load ends with its RESULT. -/
  | cacheLoadDone (t : Nat) (ue : Bool)
  /-- `REM_RENEW` (R304): Every REM_RENEW × 0.5 ms an armed remote station is sent RENEW. -/
  | remRenew (q : Nat)
  /-- `FES_CLR_CNT` (R318): Clears every FES_ counter. -/
  | fesClrCnt (p : Path) (w : Nat)
  /-- `PENDING_GAIN_WRITE` (R347): A master writes the pending gain bank, rejected unless MANUAL is set. -/
  | pendingGainWrite (p : Path) (k w : Nat)
  /-- `TIL_COMMIT_WRITE` (R349): COMMIT on a MANUAL stream commits at the next tile sample. -/
  | tilCommitWrite (p : Path) (m w : Nat)
  /-- `TIL_MANUAL_WRITE` (R544): Setting or clearing MANUAL hands the pending bank between master and loops. -/
  | tilManualWrite (p : Path) (m w : Nat)
  /-- `FADE_END` (R351): A cross-fade ends; a deferred commit or swap then executes. -/
  | fadeEnd (m : Nat)
  /-- `TIL_CLR_CNT` (R388): Clears every TIL_ counter. -/
  | tilClrCnt (p : Path) (w : Nat)
  /-- `REALIGN` (R356): Recomputes the AUTO alignment target of a donor slice. -/
  | realign (p : Path) (n w : Nat)
  /-- `RESIDUE_MISMATCH` (R364): A residue check fails; samples are marked invalid and the fault is counted and recorded. -/
  | residueMismatch (m u sp : Nat)
  /-- `SP_WATCHDOG_EXPIRY` (R367): No processor heartbeat for 2 TDL frames declares a slice processor failed. -/
  | spWatchdogExpiry (sp : Nat)
  /-- `SLC_TEST_FAIL` (R374): TEST_FAIL declares processor TEST_SP failed. -/
  | slcTestFail (p : Path) (w : Nat)
  /-- `SLC_CLR_CNT` (R374): Clears every SLC_ counter. -/
  | slcClrCnt (p : Path) (w : Nat)
  /-- `SP_FAILURE` (R367): A slice processor is declared failed and fenced, and a takeover starts. -/
  | spFailure (sp cause : Nat) (sends : List Bool)
  /-- `SP_TAKEOVER_SWITCH` (R368): After the filter banks fill, output switches to the target at a frame boundary. -/
  | spTakeoverSwitch (stale : Nat)
  /-- `FAST_TAIL_WINDOW` (R569): A fast-detector window ends and the growth and ceiling criteria are judged. -/
  | fastTailWindow (m t : Nat)
  /-- `FT_HOLDOFF_EXPIRY` (R572): FT_HOLDOFF ends and further triggers may step again. -/
  | ftHoldoffExpiry (m : Nat)
  /-- `CHAIN_OUTPUT` (R403): At each tick boundary a measurement chain produces a stamped output. -/
  | chainOutput (m tap : Nat)
  /-- `DEC_SYNC_EDGE` (R409): An accepted DEC_SYNC edge requests a sync reset. -/
  | decSyncEdge (falling held : Bool)
  /-- `MEA_SYNC` (R409): SYNC requests a sync reset. -/
  | meaSync (p : Path) (w : Nat)
  /-- `SYNC_RESET_EXEC` (R409): At the stream's tick boundary its chains clear and restart. -/
  | syncResetExec (n : Nat)
  /-- `MEA_SWAP` (R413): SWAP requests the standby preset bank. -/
  | meaSwap (p : Path) (m w : Nat)
  /-- `SWAP_EXEC` (R413): At the next tick boundary the standby bank becomes active and the chain restarts. -/
  | swapExec (m : Nat)
  /-- `CAPTURE_START` (R419): START begins a capture at once. -/
  | captureStart (p : Path) (c w : Nat)
  /-- `CAPTURE_DONE` (R421): A capture ends with its RESULT. -/
  | captureDone (c : Nat) (ue : Bool)
  /-- `MEA_WATCH_WRITE` (R418): Rewriting a watch entry clears its conditions. -/
  | meaWatchWrite (p : Path) (e word w : Nat)
  /-- `MEA_CLR_CNT` (R426): Clears every MEA_ counter. -/
  | meaClrCnt (p : Path) (w : Nat)
  /-- `WEAVE_PERIOD_BOUNDARY` (R439): At a code period boundary weave depth, chip length and duty changes take effect. -/
  | weavePeriodBoundary (n : Nat)
  /-- `ISO_BLOCK_CLOSE` (R445): A correlator block closes as detected or as a floor. -/
  | isoBlockClose (m t : Nat)
  /-- `CANC_BLOCK_CLOSE` (R454): A residual block closes and updates the canceller branch and its depth. -/
  | cancBlockClose (n t b : Nat)
  /-- `ISO_SURVEY` (R460): SURVEY starts a blocking survey of its target. -/
  | isoSurvey (p : Path) (w : Nat)
  /-- `ISO_ABORT` (R467): ABORT ends every running survey. -/
  | isoAbort (p : Path) (w : Nat)
  /-- `ISO_FORGET` (R470): FORGET sets the confidence of the target's cells to 0. -/
  | isoForget (p : Path) (w : Nat)
  /-- `ISO_CLR_CNT` (R470): Clears ISO_CNT. -/
  | isoClrCnt (p : Path) (w : Nat)
  /-- `CANC_DISABLE` (R475): Clearing canceller EN sends every branch to RELEASING. -/
  | cancDisable (p : Path) (w : Nat)
  /-- `SURVEY_PREP_END` (R462): The preparation ends and downlink round 0 starts with the probe. -/
  | surveyPrepEnd (n : Nat)
  /-- `SURVEY_ROUND_END` (R463): A survey round ends; gains rise, tiles cap or port slices are blocked. -/
  | surveyRoundEnd (n : Nat)
  /-- `TILE_UPDATE` (R523): A stream's tile loops update once its chain outputs for the tick arrive. -/
  | tileUpdate (m : Nat)
  /-- `BUILDING_LOOP` (R524): After all tile updates the building loop evaluates, reselects and updates reclaim. -/
  | buildingLoop (n r : Nat)
  /-- `GAIN_RELEASE` (R524): Staged gains are released to the pending banks once the tick commit has executed. -/
  | gainRelease (n r : Nat)
  /-- `SLICE_LOOP` (R497): A slice loop updates its trim from the composite power. -/
  | sliceLoop (m : Nat)
  /-- `TICK_DEADLINE` (R525): A tick's deadline passes and unfinished work is abandoned. -/
  | tickDeadline (o : Nat)
  /-- `TICK_LENGTH_CHANGE` (R522): A new tick length takes effect at the next orbit frame boundary. -/
  | tickLengthChange (o : Nat)
  /-- `COEF_COMMIT` (R540): COEF_COMMIT requests the shadow coefficient bank. -/
  | coefCommit (p : Path) (w : Nat)
  /-- `COEF_COMMIT_APPLY` (R540): At a slice's next tick boundary the shadow bank is copied to active. -/
  | coefCommitApply (n : Nat)
  /-- `LP_WATCHDOG_EXPIRY` (R548): A work unit held 16 µs without progress fails the loop processor. -/
  | lpWatchdogExpiry (lp : Nat)
  /-- `LP_FAILURE` (R548): A loop processor is failed; its work is abandoned or requeued. -/
  | lpFailure (lp cause : Nat)
  /-- `CE_TEST_FAIL` (R553): TEST_FAIL declares TEST_LP failed. -/
  | ceTestFail (p : Path) (w : Nat)
  /-- `CE_CLR_CNT` (R553): Clears every CE_ counter and PEAK. -/
  | ceClrCnt (p : Path) (w : Nat)
  /-- `CE_RUN_WRITE` (R551): Clearing RUN holds the loops; setting it releases them. -/
  | ceRunWrite (p : Path) (w : Nat)
  /-- `LCX_EN_WRITE` (R538): Setting or clearing a tile loop's EN starts or stops its updates. -/
  | lcxEnWrite (p : Path) (id w : Nat)
  /-- `CUT_HOLD_EXPIRY` (R567): The cut hold ends and the fall begins. -/
  | cutHoldExpiry (m : Nat)
  /-- `CUT_FALL_STEP` (R567): Every REL_STEP ms the cut falls by 0.5 dB. -/
  | cutFallStep (m : Nat)
  /-- `SLOW_TAIL_TICK` (R577): At a tick boundary the ripple statistics are judged. -/
  | slowTailTick (n r : Nat)
  /-- `PRT_REENABLE` (R579): GO clears RECUR on a port slice. -/
  | prtReenable (p : Path) (w : Nat)
  /-- `DLOSS_BLOCK` (R580): A 1 ms donor downlink block is judged for loss or restore. -/
  | dlossBlock (n : Nat)
  /-- `NOISE_RISE_EVAL` (R582): The uplink noise floors are compared with the noise budget. -/
  | noiseRiseEval (n : Nat)
  /-- `OL_BLOCK` (R586): A 1 ms output block is judged against the output ceiling. -/
  | olBlock (m : Nat)
  /-- `PRT_CLR_CNT` (R596): Clears every PRT_ counter. -/
  | prtClrCnt (p : Path) (w : Nat)
  /-- `HK_TIMER_EXPIRY` (R664): A converter timer triggers its regular or injected sequence. -/
  | hkTimerExpiry (k : Nat)
  /-- `HK_TRIG_EDGE` (R627): A qualified HK_TRIG edge triggers the converters that select it. -/
  | hkTrigEdge (p : Nat) (falling : Bool)
  /-- `REG_GO` (R657): REG_GO gives a regular trigger to the named converters. -/
  | regGo (p : Path) (m : Nat)
  /-- `INJ_GO` (R633): INJ_GO gives one injected trigger event to the named converters. -/
  | injGo (p : Path) (m : Nat)
  /-- `CONVERSION_DONE` (R618): A conversion completes, its result is written and the sequence proceeds. -/
  | conversionDone (k raw : Nat)
  /-- `HK_CAL_ZERO` (R637): GO with POINT ZERO starts a zero-scale calibration burst. -/
  | hkCalZero (p : Path) (w : Nat)
  /-- `HK_CAL_FULL` (R637): GO with POINT FULL starts a full-scale burst and computes the gain. -/
  | hkCalFull (p : Path) (w : Nat)
  /-- `HK_CLR_CNT` (R654): Clears every HK_ and WM_ counter. -/
  | hkClrCnt (p : Path) (w : Nat)
  /-- `WM_ENABLE` (R646): Setting or clearing EN of a window monitor starts settling or clears it. -/
  | wmEnable (p : Path) (n w : Nat)
  /-- `WM_THR_WRITE` (R645): A threshold write is checked and starts settling. -/
  | wmThrWrite (p : Path) (n w : Nat)
  /-- `WM_BLANK_END` (R646): Blanking ends; the comparators resolve or a resolve reading is queued. -/
  | wmBlankEnd (n : Nat) (hi hiH lo loH : Bool)
  /-- `WM_CROSSING` (R644): A deglitched comparator crossing changes the monitor state. -/
  | wmCrossing (n : Nat) (hi lo : Bool)
  /-- `WM_LOCKOUT_END` (R649): A lockout ends; suppressed activations give one event. -/
  | wmLockoutEnd (n : Nat)
  /-- `WM_REARM` (R650): REARM clears STUCK. -/
  | wmRearm (p : Path) (n w : Nat)
  /-- `START_MS_EXPIRY` (R681): A crystal's start delay ends and it enters QUALIFYING. -/
  | startMsExpiry (x : Nat)
  /-- `XTAL_GATE` (R682): A crystal gate ends and is judged against WIN. -/
  | xtalGate (x n : Nat)
  /-- `XTAL_STOP` (R682): No crystal edge within 8 FIO cycles is a stop. -/
  | xtalStop (x : Nat)
  /-- `PERMIT` (R698): PERMIT grants the release of the safe state. -/
  | permit (p : Path) (w : Nat)
  /-- `SWITCH` (R689): SWITCH moves REF to the named qualified crystal. -/
  | switch (p : Path) (t w : Nat)
  /-- `RETRY_A` (R681): RETRY_A restarts a failed XTAL_A. -/
  | retryA (p : Path) (w : Nat)
  /-- `RETRY_B` (R681): RETRY_B restarts a failed XTAL_B. -/
  | retryB (p : Path) (w : Nat)
  /-- `XTAL_CFG_WRITE` (R715): A crystal configuration write may enable or disable the crystal. -/
  | xtalCfgWrite (p : Path) (x w : Nat)
  /-- `CLK_CLR_CNT` (R713): Clears CLK_CNT and CLK_CNT2. -/
  | clkClrCnt (p : Path) (w : Nat)
  /-- `SAMPCLK_GATE` (R699): A SAMPCLK gate ends and qualifies or trips SAMPCLK. -/
  | sampclkGate (n : Nat)
  /-- `LREF_GATE` (R703): An LREFCLK gate ends and sets or clears LREF_OK. -/
  | lrefGate (j : Nat) (n : Option Nat)
  /-- `CHIP_RESET` (R709): CHIP with KEY 0x5A causes an AO reset. -/
  | chipReset (p : Path) (w : Nat)
  /-- `CORE_RESET` (R709): CORE with KEY 0x5A resets the compute and link dies. -/
  | coreReset (p : Path) (w : Nat)
  /-- `DOMAIN_SUPPLY_GOOD` (R728): A waking domain's supply is good and isolation is released. -/
  | domainSupplyGood (n : Nat)
  /-- `DOMAIN_FAULT` (R729): A domain faults; its switch opens and consequences follow per domain. -/
  | domainFault (n cause : Nat)
  /-- `PWR_RETRY` (R730): RETRY queues one wake of a faulted DON, MEM or link-die domain. -/
  | pwrRetry (p : Path) (n w : Nat)
  /-- `SHUTDOWN_PROGRAM_END` (R748): The page program completes or 4 ms pass and gating starts. -/
  | shutdownProgramEnd (done : Bool)
  /-- `RESTART` (R751): RESTART leaves STOPPED when the cooling conditions hold. -/
  | restart (p : Path) (w : Nat)
  /-- `PWR_CLR_CNT` (R754): Clears every counter of the power chapter. -/
  | pwrClrCnt (p : Path) (w : Nat)
  /-- `GOVERNOR_ROUND` (R746): The budget governor estimates power and takes or undoes actions. -/
  | governorRound
  /-- `EVENT_RAISE` (R783): A block raises an event; it takes a token and enters the input queue. -/
  | eventRaise (code index arg : Nat)
  /-- `TOKEN_REFILL` (R783): A bucket gains a token; a due SUPPRESSED summary follows. -/
  | tokenRefill (code : Nat)
  /-- `EVT_CODE_WRITE` (R783): A write of EVT_CODE refills the bucket and makes a summary due. -/
  | evtCodeWrite (p : Path) (c w : Nat)
  /-- `TIME_RESUME` (R780): The anchor and archive are read and time, SEQ and power-cycle count resume. -/
  | timeResume (readable : Bool)
  /-- `ARCHIVE_PROGRAM_DONE` (R789): An archive program or erase completes or fails. -/
  | archiveProgramDone (eraseOk progOk : Bool)
  /-- `ARCH_READ` (R792): GO reads a record from the archive. -/
  | archRead (p : Path) (w : Nat)
  /-- `ARCH_READ_DONE` (R792): The archive read ends with its result. -/
  | archReadDone (bad : Bool)
  /-- `CALENDAR_SET` (R782): SET loads calendar time and writes a record. -/
  | calendarSet (p : Path) (w : Nat)
  /-- `NONCE_REQ` (R793): NONCE_REQ draws a new clearing nonce. -/
  | nonceReq (p : Path) (w : Nat)
  /-- `CLEAR_GO` (R793): GO checks the response and starts or refuses clearing. -/
  | clearGo (p : Path) (w : Nat)
  /-- `EVT_CLR_CNT` (R797): Clears EVT_CNT, EVT_CNT2 and QMAX. -/
  | evtClrCnt (p : Path) (w : Nat)
  /-- `BAR2_ACCESS` (R833): A PCIe access to BAR2 reaches external SDRAM. -/
  | bar2Access (x len : Nat) (write : Bool) (data : List Nat) (ecc at0 : Nat)
  /-- `HOST_LINK_CHANGE` (R856): The USB4 link state changes. -/
  | hostLinkChange (st gen : Nat) (lanes2 d3hot : Bool)
  /-- `PCIE_LINK_DOWN` (R825): PCIe link loss ends running DMA channels. -/
  | pcieLinkDown (st : Nat)
  /-- `SMP_TAKE` (R821): TAKE moves every HOST-owned block to SMP. -/
  | smpTake (p : Path) (w : Nat)
  /-- `DMA_RUN` (R827): RUN starts a DMA chain. -/
  | dmaRun (p : Path) (c w : Nat) (desc : List Nat)
  /-- `DMA_ABORT` (R827): ABORT ends a DMA chain after its burst. -/
  | dmaAbort (p : Path) (c w : Nat)
  /-- `DMA_DESCRIPTOR_DONE` (R827): A DMA descriptor completes and its result is written back. -/
  | dmaDescriptorDone (c : Nat) (host : List Nat) (moved err at0 : Nat) (next : List Nat)
  /-- `MEM_READY` (R831): SDRAM becomes usable and READY is set. -/
  | memReady (cap : Nat)
  /-- `SCRUB_STEP` (R835): The scrubber reads and corrects the next SDRAM line. -/
  | scrubStep (ecc : Nat)
  /-- `HIF_CLR_CNT` (R859): Clears every HIF_ counter. -/
  | hifClrCnt (p : Path) (w : Nat)
  /-- `USB_CONFIGURE` (R836): The recovery function is configured or unconfigured. -/
  | usbConfigure (st : Nat)
  /-- `USB_READ` (R837): Recovery command READ of a register. -/
  | usbRead (magic tag a len : Nat)
  /-- `USB_WRITE` (R837): Recovery command WRITE of a register. -/
  | usbWrite (magic tag a len w : Nat)
  /-- `USB_MEM_WRITE` (R837): Recovery command MEM_WRITE into SDRAM. -/
  | usbMemWrite (magic tag a len : Nat) (data : List Nat)
  /-- `USB_MEM_READ` (R837): Recovery command MEM_READ from SDRAM. -/
  | usbMemRead (magic tag a len ecc at0 : Nat)
  /-- `USB_EVT_READ` (R838): Recovery command EVT_READ of event records. -/
  | usbEvtRead (magic tag len data : Nat)
  /-- `USB_BAD_OP` (R837): An unknown recovery command ends BAD_OP. -/
  | usbBadOp (magic tag op : Nat)
  /-- `SMP_FRAME` (R840): A side-band frame is received and answered with the previous response. -/
  | smpFrame (l : List Nat)
  /-- `SMP_MEM_READ64` (R842): Side-band operation MEM_READ64. -/
  | smpMemRead64 (ecc : Nat)
  /-- `SMP_CLR_CNT` (R869): Clears SMP_CNT. -/
  | smpClrCnt (p : Path) (w : Nat)
  /-- `MB_POST` (R846): POST moves a mailbox slot to POSTED. -/
  | mbPost (p : Path) (k w : Nat)
  /-- `MB_ACCEPT` (R846): A sequencer accepts a posted request. -/
  | mbAccept (k : Nat)
  /-- `MB_POST_TIMEOUT` (R846): No sequencer accepts within 10 ms; the slot ends NO_SERVICE. -/
  | mbPostTimeout (k : Nat)
  /-- `MB_RESPONSE` (R847): The sequencer writes the response and the slot enters DONE. -/
  | mbResponse (k : Nat) (refused : Bool) (l : List Nat)
  /-- `MB_ACK` (R846): ACK moves a DONE slot to OPEN. -/
  | mbAck (p : Path) (k w : Nat)
  /-- `MB_RELEASE` (R847): Releasing a slot frees it, or is rejected in POSTED or TAKEN. -/
  | mbRelease (p : Path) (k w : Nat)
  /-- `FLASH_READ` (R850): Flash operation READ. -/
  | flashRead (p : Path) (w : Nat)
  /-- `FLASH_PROGRAM` (R850): Flash operation PROGRAM in the user region. -/
  | flashProgram (p : Path) (w : Nat)
  /-- `FLASH_ERASE` (R850): Flash operation ERASE in the user region. -/
  | flashErase (p : Path) (w : Nat)
  /-- `FLASH_OP_DONE` (R849): A flash operation completes with its result. -/
  | flashOpDone (bad : Bool)
  /-- `OTP_GO` (R854): GO with KEY 0xC3 programs an OTP target. -/
  | otpGo (p : Path) (w : Nat)
  /-- `OTP_PROG_DONE` (R854): OTP programming ends with its result and a record. -/
  | otpProgDone (bad : Bool)
  /-- `REGISTER_READ` (R815): A master's register read that ends DOMAIN_OFF or ACCESS_ERROR returns zero or aborts, is logged in HIF_ACC_STS, may raise ERR_VEC and writes an ACCESS_FAULT record. -/
  | registerRead (p : Path) (a len : Nat)
  /-- `SPI_READ_DONE` (R302): The SPI transaction of an SPI_READ station command ends, the read octets land in FES_RDATA and the final result is reported. -/
  | spiReadDone (t data : Nat)
  /-- `MIG_WAIT_EXPIRY` (R46): No eclipse boundary came within MIG_WAIT; the switch falls on a symbol boundary. -/
  | migWaitExpiry (m : Nat)
  /-- `INCOMPATIBLE_TIMEOUT` (R217): After 10 s in INCOMPATIBLE the port returns to HELLO. -/
  | incompatibleTimeout (p : Nat)
  /-- `WTR_EXPIRY` (R230): Wait-to-restore expires and the pair reverts to lane k. -/
  | wtrExpiry (k : Nat)
  /-- `SIGNAL_DEGRADE_CLEAR` (R227): A full second with few discards clears signal degrade. -/
  | signalDegradeClear (n : Nat)
  /-- `MGB_TIMEOUT` (R233): Clock stretching beyond 10 ms ends the transaction with TIMEOUT. -/
  | mgbTimeout (b : Nat)
  /-- `HOP_TIME_EXPIRY` (R287): The hop or calibration time elapses; without polling, lock is declared. -/
  | hopTimeExpiry (t : Nat)
  /-- `TX_WAIT_LIMIT_EXPIRY` (R293): A pending TX_ON without lock is rejected with NO_LOCK. -/
  | txWaitLimitExpiry (t : Nat)
  /-- `FES_ALM_STUCK` (R301): An alarm input active beyond STUCK_TIME sets STUCK and disarms the action. -/
  | fesAlmStuck (t : Nat)
  /-- `BRANCH_REASSIGN` (R451): Each REASSIGN interval one branch of a donor tile may change port. -/
  | branchReassign (n t : Nat)
  /-- `BRANCH_RELEASE_EXPIRY` (R455): A RELEASING branch becomes FREE after RELEASE_TICKS. -/
  | branchReleaseExpiry (n t b : Nat)
  /-- `ISO_HOLD_LIMIT_EXPIRY` (R448): A cell held for HOLD_LIMIT loses its confidence. -/
  | isoHoldLimitExpiry (m t : Nat)
  /-- `RESURVEY_TIMER` (R468): PERIOD hours after the last survey a re-survey starts. -/
  | resurveyTimer (n : Nat)
  /-- `NR_CURE_EXPIRY` (R583): NR_CURE in a noise-rise stage escalates to squelch or mute. -/
  | nrCureExpiry (n : Nat)
  /-- `NR_RETRY_EXPIRY` (R585): After the clear time NOISE is released one port slice at a time. -/
  | nrRetryExpiry (n : Nat)
  /-- `OL_RETRY_EXPIRY` (R586): OVER clears OL_RETRY after it was set. -/
  | olRetryExpiry (m : Nat)
  /-- `STALE_MUTE_EXPIRY` (R587): A tile still stale STALE_MUTE after the event sets STALE. -/
  | staleMuteExpiry (m : Nat)
  /-- `WM_STUCK_EXPIRY` (R650): An input active beyond STUCK_TIME sets STUCK. -/
  | wmStuckExpiry (n : Nat)
  /-- `XCHK_SPAN` (R685): A 64-gate span compares the two crystals. -/
  | xchkSpan
  /-- `SP_GATE_TIMER` (R731): A slice processor left without streams is gated 1 ms later. -/
  | spGateTimer (n : Nat)
  /-- `LINK_QUARTER_IDLE` (R731): A link-die quarter with all lanes disabled for 1 s is gated. -/
  | linkQuarterIdle (q : Nat)
  /-- `AGE_MEASURE` (R896): Every PERIOD_H an ageing monitor measures slowdown. -/
  | ageMeasure (n : Nat) (slow : Int)
  /-- `CORE_WAKE_DONE` (R66): The compute die is powered and OTP read; the controller chooses a slot and enters LOAD. -/
  | coreWakeDone
  /-- `APPLY_DONE` (R66): Every section has been written into its block; the controller enters LINK_UP. -/
  | applyDone
  /-- `LINK_UP_DONE` (R66): Lanes and donor link complete bring-up or their limits expire; the controller enters ORBIT_WAIT. -/
  | linkUpDone
  /-- `ORBIT_WAIT_DONE` (R68): Needed orbits are locked and a permit exists; the controller enters SURVEY. -/
  | orbitWaitDone
  /-- `ORBIT_WAIT_LIMIT_EXPIRY` (R69): ORBIT_WAIT_LIMIT expires and the controller proceeds with the locked slices. -/
  | orbitWaitLimitExpiry
  /-- `CONFIRM_TIME_EXPIRY` (R64): With AUTO_CONFIRM, uninterrupted SERVICE for CONFIRM_TIME confirms the image. -/
  | confirmTimeExpiry
  /-- `DELTA_RESUME` (R78): A delta held behind a protected-lane switch proceeds once the switch completes. -/
  | deltaResume
  /-- `TDL_FRAME_TX` (R182): At each frame boundary the controller sends a TDL frame on every enabled lane. -/
  | tdlFrameTx
  /-- `SAFE_N_ASSERT` (R299): SAFE_N low forces every TXEN and PAEN off and drops TRANSMIT stations to READY. -/
  | safeNAssert
  /-- `SAFE_N_RELEASE` (R299): SAFE_N high releases the forcing without changing pins or states. -/
  | safeNRelease
  /-- `TAKEOVER_PLACEMENT_DONE` (R368): Placements are rewritten to the target with epoch + 1 and its state loaded. -/
  | takeoverPlacementDone
  /-- `SURVEY_RETRY_TIMER` (R465): Every RETRY minutes muted verdicts are surveyed again. -/
  | surveyRetryTimer
  /-- `HK_ROUND_START` (R624): A housekeeping round starts and triggers every converter's regular run. -/
  | hkRoundStart
  /-- `AO_POWER_GOOD` (R710): AO power-good releases POR; the controller enters AO_ONLY. -/
  | aoPowerGood
  /-- `RESET_N_ASSERT` (R708): RESET_N low for 1 µs holds the always-on die in reset. -/
  | resetNAssert
  /-- `RESET_N_RELEASE` (R708): RESET_N high ends the AO reset. -/
  | resetNRelease
  /-- `CLK_WAIT_ENTRY` (R710): After 8,192 FIO cycles the fuse word is read and CLK_WAIT entered. -/
  | clkWaitEntry
  /-- `REF_SWITCH_DONE` (R691): The REF multiplexer completes a glitch-free switch. -/
  | refSwitchDone
  /-- `REF_HANG_EXPIRY` (R692): A hung switch is forced after HANG_CYC with REF domains isolated and reset. -/
  | refHangExpiry
  /-- `DOMAIN_RESET_RELEASE` (R692): 64 cycles of the new input release the REF domain reset. -/
  | domainResetRelease
  /-- `SYSPLL_LOCK` (R694): SYSPLL relocks after a REF change and ungates its outputs. -/
  | syspllLock
  /-- `SAFE_STATE_END` (R697): Qualified REF, qualified SAMPCLK and a permit end the safe state. -/
  | safeStateEnd
  /-- `AUTO_PERMIT_EXPIRY` (R698): In hostless operation the sequencer grants the permit after AUTO_PERMIT. -/
  | autoPermitExpiry
  /-- `SAMPCLK_STOP` (R699): A SAMPCLK stop is detected. -/
  | sampclkStop
  /-- `CLK_SAMP_WAIT` (R710): Every second without SAMPCLK qualification writes a record. -/
  | clkSampWait
  /-- `AO_WATCHDOG` (R704): No FIO edge in 2 SIO cycles causes an AO watchdog reset. -/
  | aoWatchdog
  /-- `SIO_FAIL` (R704): No SIO edge in 8,192 FIO cycles sets SIO_FAIL. -/
  | sioFail
  /-- `LADDER_STEP` (R732): A wake-ladder step wakes or gates domains within MAX_A. -/
  | ladderStep
  /-- `THERMAL_EVAL` (R740): Each round the thermal levels are evaluated on T_hot. -/
  | thermalEval
  /-- `THROTTLE_STEP` (R741): Every PERIOD a throttle step is taken or returned. -/
  | throttleStep
  /-- `THERMAL_TRIP` (R750): A trip comparator fires; domains are cut and the controller enters STOPPED. -/
  | thermalTrip
  /-- `AUTO_RESTART` (R751): With AUTO_RESTART a thermal stop restarts once the conditions hold. -/
  | autoRestart
  /-- `RING_WRITE` (R784): The recorder writes the queue head into the ring with its SEQ. -/
  | ringWrite
  /-- `ARCHIVE_REREAD` (R780): A later archive read steps time or SEQ forward and writes TIME_STEP. -/
  | archiveReread
  /-- `ANCHOR_WRITE` (R779): A new time anchor is written to the journal. -/
  | anchorWrite
  /-- `ARCHIVE_PROGRAM` (R789): Ring records are programmed into the flash archive. -/
  | archiveProgram
  /-- `NONCE_EXPIRY` (R793): A nonce expires after 60 s. -/
  | nonceExpiry
  /-- `CLEAR_DONE` (R793): Clearing of ring and archive completes and CLEARED is written. -/
  | clearDone
  /-- `HOST_HOLD_EXPIRY` (R820): After HOST_HOLD without a host every HOST-owned block is released. -/
  | hostHoldExpiry
  /-- `SMP_NOP` (R842): Side-band operation NOP. -/
  | smpNop
  /-- `SMP_READ32` (R842): Side-band operation READ32. -/
  | smpRead32
  /-- `SMP_READ64` (R842): Side-band operation READ64. -/
  | smpRead64
  /-- `SMP_WRITE32` (R842): Side-band operation WRITE32. -/
  | smpWrite32
  /-- `SMP_WRITE64` (R842): Side-band operation WRITE64. -/
  | smpWrite64
  /-- `SMP_MEM_WRITE64` (R842): Side-band operation MEM_WRITE64. -/
  | smpMemWrite64
  /-- `SMP_BAD_OP` (R842): An unknown side-band operation ends BAD_OP. -/
  | smpBadOp
  /-- `SMP_REQUEST_DONE` (R843): A side-band request completes and its response is stored. -/
  | smpRequestDone
  /-- `SAMPCLK_RETURN` (R699): Edges return on a SAMPCLK in FAILED and SAMP_STATE returns to QUALIFYING at once. -/
  | sampclkReturn
  deriving DecidableEq, Repr

end Sys2Proof
end

