-- ==== Sys2Proof/Machine/Numerics.lean ====
section
/-! DEFINITION. Arithmetic in decibels: powers of ten and their logarithms in steps of 1/256 dB, square roots, and the block-floating stages of R533. -/

namespace Sys2Proof.Machine

/-- 10^(1/2560) in units of 2^-128: the power ratio of 1/256 dB. -/
def dbUnit : Nat := 0x1003af90297e3f07280c715373e0485c5

/-- 10^(1/5120) in units of 2^-128: the power ratio of half a step. -/
def dbHalf : Nat := 0x1001d7acec510c7e7bc8478e6f8060866

/-- `dbUnit` raised to 2^0, 2^1 and so on, `n` of them. -/
def dbPows : Nat → Nat → List Nat
  | 0, _ => []
  | n + 1, c => c :: dbPows n (c * c / 2 ^ 128)

/-- The product of those powers that the bits of `x` select, from `acc` upward. -/
def dbMul : List Nat → Nat → Nat → Nat
  | [], _, acc => acc
  | c :: t, x, acc => dbMul t (x / 2) (if x % 2 = 1 then acc * c / 2 ^ 128 else acc)

/-- The power of a level in 1/256 dB, in units of 2^-64 × 10^-16. -/
def dbPow (x : Int) : Nat := dbMul (dbPows 18 dbUnit) (x + 40960).toNat (2 ^ 64)

/-- The amplitude of a level in 1/256 dB, 10^(x / 5,120), in units of 2^-40. -/
def dbAmp (x : Int) : Nat :=
  (dbMul (dbPows 18 dbHalf) (x + 40960).toNat (2 ^ 128) * 2 ^ 40 + 10 ^ 8 * 2 ^ 127) / (10 ^ 8 * 2 ^ 128)

/-- π in units of 2^-64. -/
def piUnit : Nat := 0x3243F6A8885A308D3

/-- The terms (jx)^k / k! of a cis, `n` of them from `k` on: `t` is x^(k−1) / (k−1)! in units of 2^-64. -/
def cisTerms : Nat → Nat → Nat → Nat → Int × Int → Int × Int
  | 0, _, _, _, acc => acc
  | n + 1, k, x, t, acc =>
    let u : Nat := t * x / 2 ^ 64 / k
    let acc1 : Int × Int := if k % 4 = 0 then (acc.1 + u, acc.2) else if k % 4 = 1 then (acc.1, acc.2 + u)
      else if k % 4 = 2 then (acc.1 - u, acc.2) else (acc.1, acc.2 - u)
    cisTerms n (k + 1) x u acc1

/-- Cosine and sine of `num` / `den` of a turn, in units of 2^-40. -/
def cisTurn (num : Int) (den : Nat) : Int × Int :=
  let x : Nat := 2 * piUnit * (num % (max 1 den : Nat)).toNat / max 1 den
  let c := cisTerms 48 1 x (2 ^ 64) ((2 ^ 64 : Nat), 0)
  (divNear c.1 (2 ^ 24), divNear c.2 (2 ^ 24))

/-- The greatest number of steps whose power stays at or below `s`: the powers come largest first. -/
def dbFind : List (Nat × Nat) → Nat → Nat → Nat → Nat × Nat
  | [], _, r, acc => (r, acc)
  | (w, c) :: t, s, r, acc =>
    if acc * c / 2 ^ 128 ≤ s then dbFind t s (r + w) (acc * c / 2 ^ 128) else dbFind t s r acc

/-- The level in 1/256 dB of a power in units of 2^-64 × 10^-16, rounded to nearest; `none` for no power at all. -/
def dbLog (s : Nat) : Option Int :=
  if s < 2 ^ 64 then (if s = 0 then none else some (-40960))
  else
    let ps := ((upTo 18).zip (dbPows 18 dbUnit)).map (fun p => (2 ^ p.1, p.2))
    let r := dbFind ps.reverse s 0 (2 ^ 64)
    some ((if r.2 * dbHalf / 2 ^ 128 ≤ s then r.1 + 1 else r.1 : Nat) - 40960)

/-- 10 log10 of a ratio of whole numbers, in 1/256 dB. -/
def dbRatio (a b : Nat) : Int := (dbLog (a * (10 ^ 16 * 2 ^ 64) / max 1 b)).getD (-40960)

/-- The power sum of levels: 10 log10 Σ 10^(x/10), in 1/256 dB; `none` for an empty sum. -/
def dbSum (l : List Int) : Option Int := dbLog (l.foldl (fun a x => a + dbPow x) 0)

/-- A level as the 16-bit code of a register, 0x8000 for none. -/
def dbCode (x : Option Int) : Nat :=
  match x with
  | some v => ofSigned 16 (clampInt (-32767) 32767 v)
  | none => 0x8000

/-- The size of a number. -/
def absI (x : Int) : Int := x.natAbs

/-- A reading as a level: 0x8000 enters as −128 dB (R485). -/
def dbOf (c : Nat) : Int := toSigned 16 c

/-- The whole square root. -/
def isqrt (n : Nat) : Nat :=
  (upTo ((Nat.log2 n) / 2 + 1)).reverse.foldl (fun r k => if (r + 2 ^ k) * (r + 2 ^ k) ≤ n then r + 2 ^ k else r) 0

/-- cos(π/n) in units of 2^-96, for n from 2 to 15. -/
def cosTab : List Nat := [
   0x0, 0x800000000000000000000000, 0xb504f333f9de6484597d89b3, 0xcf1bbcdcbfa53e0af9ce6030,
   0xddb3d742c265539d92ba16b8, 0xe6a5e54e5ae386937189f495, 0xec835e79946a31457e610232,
   0xf08fb2129168dcd717d31355, 0xf378709a22a7faf31bb70d18, 0xf5a154de6a82b987cd8cc248,
   0xf746ea3a45f8a62a45cb4ef3, 0xf88fa49829e8011b58260328, 0xf994e02ac74b471caa5277a9,
   0xfa67e193d003fc54fadf21e3]

/-- A quotient rounded to nearest, ties away from zero, of a whole number by a power of two. -/
def shrNear (x : Int) (n : Nat) : Int := divNear x (2 ^ n)

/-- A number scaled by 2^n, rounded to nearest where n is below zero. -/
def scaleInt (x : Int) (n : Int) : Int := if 0 ≤ n then x * (2 ^ n.toNat : Nat) else shrNear x (-n).toNat

end Sys2Proof.Machine
end

