-- ==== Sys2Proof/Machine/Hash.lean ====
section
/-! DEFINITION. The check functions of the spec over octet lists: CRC-8 (R841), CRC-32C (R189), the Ethernet FCS (R223), SHA-256 and HMAC-SHA-256 (R57, R793), and the P-256 signature check (R57). -/

namespace Sys2Proof.Machine

/-- One bit of CRC-8 with polynomial 0x07, most significant bit first (R841). -/
def crc8Bit (c : Nat) : Nat := if 128 ≤ c then (c * 2 % 256) ^^^ 7 else c * 2 % 256

/-- One octet of CRC-8. -/
def crc8Octet (c o : Nat) : Nat :=
  crc8Bit (crc8Bit (crc8Bit (crc8Bit (crc8Bit (crc8Bit (crc8Bit (crc8Bit (c ^^^ (o % 256)))))))))

/-- CRC-8 of R841: initial value 0, no reflection, no final exclusive-or. -/
def crc8 (l : List Nat) : Nat := l.foldl crc8Octet 0

/-- One bit of a reflected 32-bit CRC whose reversed polynomial is `p`. -/
def crc32Bit (p c : Nat) : Nat := if c % 2 = 1 then (c / 2) ^^^ p else c / 2

/-- One octet of a reflected 32-bit CRC. -/
def crc32Octet (p c o : Nat) : Nat := (upTo 8).foldl (fun x _ => crc32Bit p x) (c ^^^ (o % 256))

/-- A reflected 32-bit CRC with initial value and final exclusive-or 0xFFFFFFFF. -/
def crc32 (p : Nat) (l : List Nat) : Nat := (l.foldl (crc32Octet p) 0xFFFFFFFF) ^^^ 0xFFFFFFFF

/-- CRC-32C of R189: the Castagnoli polynomial 0x1EDC6F41, reversed. -/
def crc32c (l : List Nat) : Nat := crc32 0x82F63B78 l

/-- The frame check sequence of a MAC frame (R223). PRESUMED (log 93): that of IEEE 802.3, whose polynomial 0x04C11DB7 the spec
does not write out. -/
def fcs32 (l : List Nat) : Nat := crc32 0xEDB88320 l

/-- Rotation of a 32-bit word to the right. -/
def rotr32 (x n : Nat) : Nat := (x / 2 ^ n) + (x % 2 ^ n) * 2 ^ (32 - n)

/-- The complement of a 32-bit word. -/
def not32 (x : Nat) : Nat := 0xFFFFFFFF - x % 2 ^ 32

/-- The greatest number whose power `e` is at most `x`, found bit by bit from bit `n - 1` down. -/
def floorRoot (e x : Nat) : Nat → Nat → Nat
  | 0, r => r
  | n + 1, r => floorRoot e x n (if (r + 2 ^ n) ^ e ≤ x then r + 2 ^ n else r)

/-- The first 32 bits of the fractional part of the `e`-th root of `p`: how SHA-256 makes its constants (R57). -/
def rootFraction (e p : Nat) : Nat := floorRoot e (p * 2 ^ (32 * e)) 38 0 % 2 ^ 32

/-- `n` has no divisor from 2 to `n - 1`. -/
def isPrimeNat (n : Nat) : Bool := decide (2 ≤ n) && (List.range n).all (fun d => decide (d < 2) || decide (n % d ≠ 0))

/-- The 64 primes below 312. -/
def shaPrimes : List Nat := (List.range 312).filter isPrimeNat

/-- The round constants of SHA-256: the cube roots of the first 64 primes. -/
def shaRoundKeys : List Nat := shaPrimes.map (rootFraction 3)

/-- The eight working words of SHA-256. -/
structure Sha where
  a : Nat
  b : Nat
  c : Nat
  d : Nat
  e : Nat
  f : Nat
  g : Nat
  h : Nat
  deriving DecidableEq, Repr

/-- The working words out of a list of eight. -/
def Sha.ofList (l : List Nat) : Sha :=
  ⟨listAt l 0, listAt l 1, listAt l 2, listAt l 3, listAt l 4, listAt l 5, listAt l 6, listAt l 7⟩

/-- The words of a hash state, in order. -/
def Sha.toList (s : Sha) : List Nat := [s.a, s.b, s.c, s.d, s.e, s.f, s.g, s.h]

/-- The initial hash value of SHA-256: the square roots of the first eight primes. -/
def shaInit : Sha := Sha.ofList ((shaPrimes.take 8).map (rootFraction 2))

/-- One round of SHA-256 with round constant `k` and schedule word `w`. -/
def shaRound (s : Sha) (kw : Nat × Nat) : Sha :=
  let s1 := (rotr32 s.e 6 ^^^ rotr32 s.e 11) ^^^ rotr32 s.e 25
  let ch := (s.e &&& s.f) ^^^ (not32 s.e &&& s.g)
  let t1 := s.h + s1 + ch + kw.1 + kw.2
  let s0 := (rotr32 s.a 2 ^^^ rotr32 s.a 13) ^^^ rotr32 s.a 22
  let mj := ((s.a &&& s.b) ^^^ (s.a &&& s.c)) ^^^ (s.b &&& s.c)
  ⟨(t1 + s0 + mj) % 2 ^ 32, s.a, s.b, s.c, (s.d + t1) % 2 ^ 32, s.e, s.f, s.g⟩

/-- Extends a message schedule, newest word first, by `n` words. -/
def shaExtend : Nat → List Nat → List Nat
  | 0, w => w
  | n + 1, w =>
    let x2 := listAt w 1
    let x15 := listAt w 14
    let g1 := (rotr32 x2 17 ^^^ rotr32 x2 19) ^^^ (x2 / 2 ^ 10)
    let g0 := (rotr32 x15 7 ^^^ rotr32 x15 18) ^^^ (x15 / 2 ^ 3)
    shaExtend n (((g1 + listAt w 6 + g0 + listAt w 15) % 2 ^ 32) :: w)

/-- The big-endian 32-bit words of an octet list whose length is a multiple of 4. -/
def beWords : List Nat → List Nat
  | a :: b :: c :: d :: t => (((a % 256 * 256 + b % 256) * 256 + c % 256) * 256 + d % 256) :: beWords t
  | _ => []

/-- One 64-octet block of SHA-256. -/
def shaBlock (s : Sha) (block : List Nat) : Sha :=
  let w := (shaExtend 48 (beWords block).reverse).reverse
  Sha.ofList (List.zipWith (fun x y => (x + y) % 2 ^ 32) s.toList ((shaRoundKeys.zip w).foldl shaRound s).toList)

/-- The octets of a number, most significant first. -/
def beOctets (n x : Nat) : List Nat := (toOctets n x).reverse

/-- The number whose octets, most significant first, are these. -/
def fromBe (l : List Nat) : Nat := l.foldl (fun a o => a * 256 + o % 256) 0

/-- Runs `n` blocks of SHA-256 over a padded message. -/
def shaBlocks : Nat → List Nat → Sha → Sha
  | 0, _, s => s
  | n + 1, l, s => shaBlocks n (l.drop 64) (shaBlock s (l.take 64))

/-- SHA-256 of an octet list, as 32 octets. -/
def sha256 (l : List Nat) : List Nat :=
  let n := l.length
  let pad := l ++ [128] ++ List.replicate ((119 - n % 64) % 64) 0 ++ beOctets 8 (8 * n)
  let s := shaBlocks (pad.length / 64) pad shaInit
  s.toList.flatMap (beOctets 4)

/-- HMAC-SHA-256 with a key of at most 64 octets (R793). -/
def hmacSha256 (key msg : List Nat) : List Nat :=
  let k := takeFill 64 key
  sha256 (k.map (fun x => x ^^^ 0x5c) ++ sha256 (k.map (fun x => x ^^^ 0x36) ++ msg))

/-- The prime of the curve P-256. -/
def p256P : Nat := 0xffffffff00000001000000000000000000000000ffffffffffffffffffffffff

/-- The order of the curve P-256. -/
def p256N : Nat := 0xffffffff00000000ffffffffffffffffbce6faada7179e84f3b9cac2fc632551

/-- The coefficient b of the curve P-256. -/
def p256B : Nat := 0x5ac635d8aa3a93e7b3ebbd55769886bc651d06b0cc53b0f63bce3c3e27d2604b

/-- The base point of the curve P-256. -/
def p256G : Nat × Nat :=
  (0x6b17d1f2e12c4247f8bce6e563a440f277037d812deb33a0f4a13945d898c296,
   0x4fe342e2fe1a7f9b8ee7eb4a7c0f9e162bce33576b315ececbb6406837bf51f5)

/-- Modular power by squaring, over `n` bits of the exponent. -/
def powModGo : Nat → Nat → Nat → Nat → Nat → Nat
  | 0, _, _, _, acc => acc
  | n + 1, b, e, m, acc => powModGo n (b * b % m) (e / 2) m (if e % 2 = 1 then acc * b % m else acc)

/-- The inverse of `x` modulo a prime below 2^256. -/
def invMod (x m : Nat) : Nat := powModGo 256 (x % m) (m - 2) m 1

/-- A point of P-256 in Jacobian coordinates; `z = 0` is the point at infinity. -/
structure JPoint where
  x : Nat
  y : Nat
  z : Nat
  deriving DecidableEq, Repr

/-- Subtraction modulo the prime of P-256. -/
def subP (a b : Nat) : Nat := (a + (p256P - b % p256P)) % p256P

/-- Point doubling on P-256. -/
def jDouble (p : JPoint) : JPoint :=
  let delta := p.z * p.z % p256P
  let gamma := p.y * p.y % p256P
  let beta := p.x * gamma % p256P
  let alpha := 3 * (subP p.x delta * (p.x + delta) % p256P) % p256P
  let x3 := subP (alpha * alpha) (8 * beta)
  ⟨x3, subP (alpha * subP (4 * beta) x3) (8 * (gamma * gamma % p256P)),
   subP (subP ((p.y + p.z) * (p.y + p.z)) gamma) delta⟩

/-- Point addition on P-256. -/
def jAdd (p q : JPoint) : JPoint :=
  if p.z = 0 then q
  else if q.z = 0 then p
  else
    let zz1 := p.z * p.z % p256P
    let zz2 := q.z * q.z % p256P
    let u1 := p.x * zz2 % p256P
    let h := subP (q.x * zz1) u1
    let s1 := p.y * (q.z * zz2 % p256P) % p256P
    let r := subP (q.y * (p.z * zz1 % p256P)) s1
    if h = 0 then (if r = 0 then jDouble p else ⟨1, 1, 0⟩)
    else
      let h2 := h * h % p256P
      let h3 := h * h2 % p256P
      let v := u1 * h2 % p256P
      let x3 := subP (subP (r * r) h3) (2 * v)
      ⟨x3, subP (r * subP v x3) (s1 * h3), h * (p.z * q.z % p256P) % p256P⟩

/-- Scalar multiplication on P-256 over `n` bits of the scalar, the least significant first. -/
def jMulGo : Nat → Nat → JPoint → JPoint → JPoint
  | 0, _, _, acc => acc
  | n + 1, k, p, acc => jMulGo n (k / 2) (jDouble p) (if k % 2 = 1 then jAdd acc p else acc)

/-- Scalar multiplication on P-256. -/
def jMul (k : Nat) (p : Nat × Nat) : JPoint := jMulGo 256 k ⟨p.1, p.2, 1⟩ ⟨1, 1, 0⟩

/-- The pair is a point of P-256. -/
def p256OnCurve (q : Nat × Nat) : Bool :=
  decide (q.1 < p256P) && decide (q.2 < p256P) &&
    decide (q.2 * q.2 % p256P = (q.1 * q.1 * q.1 + (p256P - 3) * q.1 + p256B) % p256P)

/-- The affine x of a point, reduced modulo the order of the curve, is `r`. -/
def xIsMod (p : JPoint) (r : Nat) : Bool :=
  let zz := p.z * p.z % p256P
  p.x == r * zz % p256P || (decide (r + p256N < p256P) && p.x == (r + p256N) * zz % p256P)

/-- The ECDSA P-256 check of a 32-octet digest against signature (r, s) and public key q (R57). -/
def ecdsaOk (digest : List Nat) (q : Nat × Nat) (r s : Nat) : Bool :=
  if r = 0 ∨ p256N ≤ r ∨ s = 0 ∨ p256N ≤ s then false
  else if !(p256OnCurve q) then false
  else
    let w := invMod s p256N
    let e := fromBe digest
    let p := jAdd (jMul (e * w % p256N) p256G) (jMul (r * w % p256N) q)
    if p.z = 0 then false else xIsMod p r

end Sys2Proof.Machine
end

