-- ==== Sys2Proof/Machine/State.lean ====
section
/-! DEFINITION. The state of the block as plain data, and the state after reset. -/

namespace Sys2Proof.Machine

/-- A migration of one stream (R44 to R49). `phase`: 1 accepted, 2 shadow running, 3 seeking an eclipse boundary, 4
seeking a symbol boundary, 5 switched with the old placement not yet released; 7, 8 and 9 as 1, 2 and 3 after the old
processor has failed, when the switch falls on the next frame boundary (R49), settled in 9. `oldSp` is the old
placement's processor from the switch to the release. -/
structure Mig where
  phase : Nat := 0
  oldSp : Nat := 0
  /-- Sample count of the shadow's start, or of a restart of the stream's chains in it; once the shadow has ended, of its end (R45, R46). -/
  since : Nat := 0
  deriving DecidableEq, Repr

/-- A delta that has passed its checks and is being applied (R75 to R79): its kind and scope, the plan, placement and
register words that it gives, the lanes and stations it names, the streams to create or rebuild, those to remove or
rebuild, and those to migrate with their processors. `tag` identifies its octets. -/
structure Delta where
  slice : Bool := false
  scope : Nat := 0
  /-- The plan and placement with the delta, and the register words and channel entries that the delta brings. -/
  body : ImageBody := {}
  /-- The delta carries `PLACEMENT`; the streams in its scope once it is applied. -/
  placed : Bool := false
  now : List Nat := []
  build : List Nat := []
  drop : List Nat := []
  move : List (Nat × Nat) := []
  tag : Nat := 0
  /-- A switch of a protected pair holds the delta (R78); its streams have been rebuilt. -/
  held : Bool := false
  built : Bool := false
  deriving DecidableEq, Repr

/-- Bring-up and the mould loader's state that no register field holds. -/
structure Mould where
  /-- Where the load in progress reads: 0 slot A, 1 slot B, 2 host staging, 3 USB staging (R83). -/
  source : Nat := 0
  /-- A failed load from a slot may still try the other slot (R63). -/
  fallback : Bool := false
  /-- A command whose staged image is still being read: 0 none, 3 `WRITE_SLOT`, 6 `REMOULD` (R61). -/
  checking : Nat := 0
  /-- The staged image came through the recovery function (R83). -/
  usbStaged : Bool := false
  /-- The active image: where it came from, its header fields and what its sections say. -/
  activeSource : Nat := 0
  config : Nat := 0
  flags : Nat := 0
  secLevel : Nat := 0
  body : ImageBody := {}
  /-- The section types that the image and its deltas have written into their blocks (R72). -/
  sections : List Nat := []
  /-- The plan in force, deltas included. -/
  plan : Plan := {}
  /-- The permit of R68, granted or held for *ORBIT_WAIT* (R74), and the expiry of `ORBIT_WAIT_LIMIT`. -/
  permit : Bool := false
  permitHeld : Bool := false
  waitOver : Bool := false
  /-- Sample counts: entry into the bring-up state in force (R64), and since when `ORBIT_WAIT_LIMIT` runs (R69). -/
  stateAt : Nat := 0
  waitAt : Nat := 0
  /-- *SURVEY* has been entered since the load (R67). -/
  entered : Bool := false
  /-- The load in progress was commanded (R82). -/
  commanded : Bool := false
  /-- A restart that waits for the next transit: the source it loads from (R72). -/
  restart : Option Nat := none
  /-- A load was abandoned by a clock failure and restarts on a qualified source (R72). -/
  loadAbandoned : Bool := false
  /-- The slot that `WRITE_SLOT` is programming, and the image (R65). -/
  writing : Option (Nat × List Nat) := none
  delta : Option Delta := none
  migs : Tab Mig := []
  /-- The physical processor of each logical processor that a takeover moved (R40). -/
  lpMap : Tab Nat := []
  deriving DecidableEq, Repr

/-- An enabled transit entry that waits (R134 to R144): its due position, the sample at which it is next taken, whether
that lies after its due sample, and, where R144 moved it, the order of the move. -/
structure TrnDue where
  base : Nat := 0
  take : Nat := 0
  late : Bool := false
  moved : Option Nat := none
  deriving DecidableEq, Repr

/-- A commit of one port stream that executes at position `at` (R342), `tick` for a tick commit (R128); of a donor slice `n`
the rest of its tick commit stands as stream 2,080 + n. -/
structure CommitJob where
  pos : Nat := 0
  stream : Nat := 0
  tick : Bool := false
  deriving DecidableEq, Repr

/-- What a learning run has observed (R121, R122): the source slice, the sample count and the orbit position of its start, and the
summed |z|² and the number of samples of every symbol, by 28 × half millisecond + symbol. Half milliseconds count from the last
multiple of 20 ms before the start. -/
structure LearnRun where
  slice : Nat := 0
  since : Nat := 0
  start : Nat := 0
  energy : Tab Nat := []
  heard : Tab Nat := []
  deriving DecidableEq, Repr

/-- One orbit instance's state that no register field holds (R92 to R145). -/
structure Orbit where
  /-- Position in samples over 65,536 frames (R27). -/
  pos : Nat := 0
  /-- Fractional frequency accumulator (R101), the slew still to apply in samples and the counts since the last slew
  count (R102). -/
  acc : Int := 0
  slew : Int := 0
  slewGap : Nat := 0
  /-- The last measurements that may count toward lock, oldest first (R107): the sample count of each, and there the
  network's position less the sample count, in 1/16 sample. -/
  hist : List (Nat × Int) := []
  /-- Sample count of the last measurement, or since which one is awaited (R107); the cell tracked (R97); the SSB
  periodicity found in acquisition, in samples, 0 before (R98). -/
  measAt : Nat := 0
  cell : Option Nat := none
  ssbGap : Nat := 0
  /-- Measurements outside the window in a row (R108). -/
  outside : Nat := 0
  /-- The last phase errors, newest first, in 1/16 sample (R109). -/
  errs : List Int := []
  /-- *HOLDOVER* entry: sample count and u0 in 1/16 sample (R109). -/
  holdAt : Nat := 0
  holdU0 : Nat := 0
  /-- The orbit has lost its timing and its mute has not ended; after the relock, the position of the boundary that ends
  it (R112). -/
  lossMute : Bool := false
  muteEnd : Option Nat := none
  /-- The orbit holds ORB_SYNC_IN (R94), and the sample count of the last accepted pin edge (R100). -/
  pin : Bool := false
  pinAt : Option Nat := none
  /-- Tick boundaries: 0 none, 1 they start at the position `tickFrom`, 2 they run; `tick` counts base ticks since then
  (R128). The positions of the tick commits that wait, by donor slice (R129). -/
  ticks : Nat := 0
  tickFrom : Nat := 0
  commitAt : Tab Nat := []
  /-- Donor slices the tick commit of whose next boundary has been placed (R129, R342). -/
  placed : List Nat := []
  /-- Commits under way (R342). -/
  jobs : List CommitJob := []
  /-- The base tick in force (R521, R522). -/
  base : Nat := 122880
  tick : Nat := 0
  /-- The gate that the active pattern sets: 0 downlink, 1 uplink, 2 guard, 3 no pattern (R114). -/
  gate : Nat := 3
  /-- The learning run under way (R121, R122). -/
  learning : LearnRun := {}
  /-- The first result of a learning pair (R123): period and segments of type and start. -/
  learned : Option (Nat × List (Nat × Nat)) := none
  /-- An agreed result waits for this frame boundary to become active (R123). -/
  adopt : Option Nat := none
  /-- Staging copies of entry words 1 to 3, by entry × 4 + word (R132). -/
  stage : Tab Nat := []
  /-- The enabled entries that wait (R134). -/
  due : Tab TrnDue := []
  /-- The sample being served: its position, how many entries it has taken, what they acted on, as pairs of an action and
  a target, and how many entries have been moved so far (R143, R144). -/
  slotAt : Nat := 0
  slotCount : Nat := 0
  slotDone : List (Nat × Nat) := []
  movedSeq : Nat := 0
  deriving DecidableEq, Repr

/-- One port slice of a slice map as the link sends it (R200). -/
structure MapSlice where
  num : Nat := 0
  rate : Nat := 0
  dl : Bool := false
  ul : Bool := false
  tdd : Bool := false
  centre : Nat := 0
  deriving DecidableEq, Repr

/-- A reliable message in the sender's window (R196): its cell, when it was last sent, as an LFN, and how often it has
been resent. `mail` names the lane whose mailbox gave the cell. -/
structure RelMsg where
  cell : List Nat := []
  sentAt : Nat := 0
  resends : Nat := 0
  mail : Option Nat := none
  deriving DecidableEq, Repr

/-- One port's session and queues (R195 to R221). Cells are lists of 32 octets. -/
structure LinkPort where
  /-- The controller's `SESSION`, and the remote's once heard (R201). -/
  session : Nat := 0
  peer : Option Nat := none
  /-- The last reliable `SEQ` given, the reliable cells that wait for the window, those unacknowledged, oldest first, and
  the `SEQ` values still to be resent (R196). -/
  txSeq : Nat := 0
  waiting : List (List Nat × Option Nat) := []
  unacked : List RelMsg := []
  resend : List Nat := []
  /-- Copies left of timed messages (R197). -/
  timed : List (Nat × List Nat) := []
  /-- A `HELLO` or a `HEARTBEAT` is due (R199), and the LFN at which the last one fell due. -/
  greet : Option (List Nat) := none
  greetAt : Option Nat := none
  /-- Sample count of the session's opening or of the last `HEARTBEAT` (R217). -/
  hbAt : Nat := 0
  /-- The highest reliable `SEQ` received in order (R195). -/
  rxSeq : Nat := 0
  /-- The message of the last accepted frame, until it is acted on. -/
  rxCell : Option (List Nat) := none
  edgeId : Nat := 0
  /-- The map offered, the one in force and its predecessor (R209, R217). -/
  offered : Option (Nat × List MapSlice) := none
  map : Option (Nat × List MapSlice) := none
  prev : Option (Nat × List MapSlice) := none
  /-- The accepted map and the LFN from which the header carries it (R217). -/
  accepted : Option (Nat × List MapSlice) := none
  switchAt : Nat := 0
  /-- The port left *RTD* or *ACTIVE* for *DOWN* at this LFN (R217), and the *RTD* in progress is a re-check (R220). -/
  leftAt : Option Nat := none
  recheck : Bool := false
  /-- A selection that takes effect at the next frame boundary (R230), and a `CLEAR` written during a switch (R232). -/
  pend : Option Nat := none
  clearDue : Bool := false
  /-- Both lanes of the pair came into signal fail in one frame, and neither has reached *FRAMED* since (R232). -/
  dark : Bool := false
  /-- Lane k has had a fault for which wait-to-restore has not run out, and the sample count at which the wait under way began
  (R230). -/
  aFault : Bool := false
  wtrAt : Nat := 0
  /-- Sample count at which the port entered *INCOMPATIBLE* (R217). -/
  incAt : Nat := 0
  /-- What `LNK_REM_ID` shows from *MAP* onward (R248). -/
  remId : Nat := 0
  /-- The opcode of the command last sent to the port's station `k` from slot `s`, by 16 × k + s, and the sample count of the last
  `RENEW` sent to it, by station (R202, R304). -/
  commands : Tab Nat := []
  renewedAt : Tab Nat := []
  /-- The port's stations that a command retunes or calibrates and that have not answered it (R416). -/
  tuning : List Nat := []
  deriving DecidableEq, Repr

/-- One lane's receiver (R215 to R228). -/
structure LinkLane where
  /-- Accepted, discarded and missing frames in a row. -/
  good : Nat := 0
  disc : Nat := 0
  miss : Nat := 0
  /-- Sample counts of the newest discarded frames, up to 256 (R227), and the last sixteen round trips, newest first. -/
  lost : List Nat := []
  meas : List Nat := []
  /-- A destination address learned (R224); the lane's first frame since *HELLO* has been taken. -/
  da : Option Nat := none
  /-- Header and cell of the frame last started (R184, R195), its `LOFS` (R181), and in Ethernet carriage its destination,
  source, EtherType and tag (R223, R224). -/
  sentHdr : Nat := 0
  sentCell : List Nat := []
  sentLofs : Nat := 0
  sentMac : Option (Nat × Nat × Nat × Option Nat) := none
  /-- The frame last completed: its words, and all its blocks as they went onto the line (R173, R182, R183). -/
  sentWords : List Nat := []
  sentLine : List LineBlock := []
  /-- The last 58 bits of each direction's scrambled payload, the newest in bit 0 (R173). -/
  txBits : Nat := 0
  rxBits : Nat := 0
  /-- The `LOFS`-corrected arrival of the last accepted frame, in 1/16 sample of the frame grid (R215). -/
  lastAt : Option Nat := none
  /-- The next frame's expected boundary, in 1/16 sample of the frame grid (R191). -/
  due : Nat := 0
  /-- The frames in which the signal fail in force began (R227, R232) and *FRAMED* was last reached, and the cause of the last exit
  from *FRAMED* (R226). -/
  sfAt : Option Nat := none
  framedAt : Option Nat := none
  exit : Nat := 0
  /-- Sample count of the device's last poll (R235). -/
  polledAt : Option Nat := none
  deriving DecidableEq, Repr

/-- One access on a management bus (R233): device address, direction, register of the device where the access names one, and the
octets carried. -/
structure BusAccess where
  dev : Nat := 0
  write : Bool := false
  reg : Option Nat := none
  data : List Nat := []
  deriving DecidableEq, Repr

/-- The distribution link's state that no register field holds. -/
structure Link where
  /-- Sample count at which the frame grid started (R177). -/
  grid : Nat := 0
  ports : Tab LinkPort := []
  lanes : Tab LinkLane := []
  /-- Port slices held muted for their remote guard, by downlink stream (R214). -/
  guard : List Nat := []
  /-- The last channel selection written on each bus: switch address and channel (R234). -/
  muxed : Tab (Nat × Nat) := []
  /-- The accesses of the last transaction on each bus, in order (R234, R235). -/
  accesses : Tab (List BusAccess) := []
  /-- Sample count of the last `GO` of each bus's host transaction (R233). -/
  xferAt : Tab Nat := []
  deriving DecidableEq, Repr

/-- One component of a sample as the datapath carries it: its value and the residue that travels with it (R362). -/
structure Comp where
  v : Int := 0
  res : Nat := 0
  deriving DecidableEq, Repr

/-- A complex sample. -/
structure Cx where
  i : Comp := {}
  q : Comp := {}
  deriving DecidableEq, Repr

/-- A sample block (R24): its exponent, 15 for an invalid one, and its mantissas, I and Q. -/
structure Block where
  exp : Nat := 15
  smp : List (Int × Int) := []
  deriving DecidableEq, Repr

/-- The 256 tile samples of a stream at one tile sample instant: values, the invalid flag, and the tiles that saturated. -/
structure Row where
  smp : List Cx := []
  bad : Bool := false
  sat : List Nat := []
  deriving DecidableEq, Repr

/-- What the datapath holds of one stream (R335, R336). A donor downlink stream uses the first group, an uplink port stream the
received samples, and a downlink port stream and a donor uplink stream the synthesis. -/
structure PlaneStream where
  /-- The donor samples of the block under way, each with the downlink gate at its antenna reference position; a lost one stands
  among them (R269, R278, R354). -/
  raw : List (Int × Int × Bool) := []
  lost : Bool := false
  /-- Time-domain samples that the analysis still covers, newest first, each with its instant in 1/16 sample of the frame grid and
  whether it belongs to a frame that counts as invalid (R194). -/
  hist : List (Nat × Bool × Cx) := []
  /-- The tile samples of the two taps at the last tile sample instant (R393). -/
  inTap : Row := {}
  outTap : Row := {}
  /-- Rows that a later stage still covers, newest first: the alignment buffer of an uplink port stream, the synthesis bank's
  memory of the others, and a downlink port stream's reference for the cancellers. A donor stream keeps the rows of the tap that
  the slow watch and the uplink correlators delay (R444, R574). -/
  rows : List Row := []
  refs : List Row := []
  /-- A downlink port stream's gained tiles before rotation times its chips, newest first; in a survey round the probe as gained
  (R442, R461). -/
  gained : List Row := []
  /-- By how much the newest sample of an uplink's last analysis was later than its instant, in 1/16 sample. -/
  late : Nat := 0
  /-- Synthesised samples not yet taken, and the samples of the block under way. -/
  out : List Cx := []
  blk : List Cx := []
  /-- The blocks of the frame under way and of the last complete one (R186); a donor uplink's block last sent (R270). -/
  frame : List Block := []
  full : List Block := []
  /-- A residue mismatch in the time domain makes the block under way invalid (R364, R372). -/
  spoilt : Bool := false
  deriving DecidableEq, Repr

/-- Where the last tile sample of a donor slice and direction lay: its offset in the loop tick, its millisecond of the orbit and the
segment type of the pattern. -/
structure TileClock where
  off : Nat := 0
  ms : Nat := 0
  gate : Nat := 0
  deriving DecidableEq, Repr

/-- The sample datapath (chapter 05). -/
structure Plane where
  streams : Tab PlaneStream := []
  /-- By 2 × donor slice + direction. -/
  clocks : Tab TileClock := []
  /-- The donor tiles that a processor has last received over the ring, by 64 × donor slice + processor (R353). -/
  ring : Tab Row := []
  /-- The octets of the last block sent by each physical transmit lane of the donor interface (R268, R270). -/
  dtx : Tab (List Nat) := []
  deriving DecidableEq, Repr

/-- The donor interface's state that no register field holds. -/
structure Donor where
  /-- The next SYSREF pulse sets the LEMC phase (R271). -/
  armed : Bool := false
  /-- The LEMC phase: the sampling instant of the pulse that set it, in half samples since AO power-good. -/
  phase : Option Nat := none
  /-- Multiblocks in a row that failed their CRC-12, by 8 × receive link + lane of the link (R275). -/
  runs : Tab Nat := []
  deriving DecidableEq, Repr

/-- One on-board station's state that no register field holds (R280 to R301). Pin levels are `true` where active;
`TXEN` and `PAEN` stand in `FES_STS_s`. -/
structure Station where
  rxen : Bool := false
  lna : Bool := false
  trsw : Bool := false
  aux : Bool := false
  /-- The pattern's transmit segment is open at the station (R296). -/
  patTx : Bool := false
  /-- The slot whose `TX_ON` is pending, and the sample count at which one first entered the slot (R292, R293). -/
  pend : Option Nat := none
  pendAt : Nat := 0
  /-- A `TUNE` held until the calibration ends: its slot and body (R289). -/
  held : Option (Nat × List Nat) := none
  /-- The hop or calibration runs from this sample count for this many periods of 200 MHz; it has elapsed (R287). -/
  hopAt : Nat := 0
  hopLen : Nat := 0
  hopOver : Bool := false
  /-- Polls in a row without lock, and the sample count of the last poll since the hop began (R290). -/
  missed : Nat := 0
  pollAt : Option Nat := none
  /-- 0 none, 1 a drop whose `TXEN` is still active, 2 a raise whose `PAEN` is still inactive, since `stepAt` (R295). -/
  step : Nat := 0
  stepAt : Nat := 0
  /-- Sample count of the last renewal (R294). -/
  renewAt : Nat := 0
  /-- Sample count of the alarm's activation, its lockout's start, and the activations suppressed in it (R301). -/
  alarmAt : Nat := 0
  lockout : Option Nat := none
  suppressed : Nat := 0
  /-- Cached channel entries of 64 octets, by cache place (R284). -/
  cache : Tab (List Nat) := []
  /-- A cache load that runs: cache place and channel (R330). -/
  load : Option (Nat × Nat) := none
  /-- The words of the last SPI transaction as they went out, the bit sent first as the most significant, each with its width in
  bits (R282). -/
  spi : List (Nat × Nat) := []
  /-- The slot whose `SPI_READ` runs (R302). -/
  reading : Option Nat := none
  deriving DecidableEq, Repr


/-- One port stream's datapath and loop state that no register field holds. -/
structure Stream where
  /-- The gains from which a running cross-fade started, by tile, and the number of its first tile sample (R350). -/
  fadeFrom : Tab Nat := []
  fadeAt : Nat := 0
  /-- The gains that the last tick commit replaced, by tile (R485). -/
  before : Tab Nat := []
  /-- The stream passes invalid blocks while its processor has failed or a takeover or an advanced switch runs (R49,
  R368). -/
  invalid : Bool := false
  /-- TDL frames of invalid blocks still to pass after the stream's creation (R48). -/
  fill : Nat := 0
  /-- A changed alignment that takes effect at the next tick commit; the one it replaced, and the number of the first tile sample
  of the cross-fade between them (R359). -/
  newAdd : Option Int := none
  oldAdd : Int := 0
  addAt : Nat := 0
  /-- The chains clear at the next tile sample whose reference position is at or after the one given, or at the very next one, and
  then take so many tile samples as invalid (R409, R413). -/
  restart : Option (Option Nat × Nat) := none
  /-- Sample count of the request of the swap that waits (R413). -/
  swapAt : Nat := 0
  /-- A swap whose tile sample found the stream cross-fading (R414). -/
  swapLate : Bool := false
  /-- The slice loop's profiled ceiling: position, velocity and acceleration in 2^-24 dB units (R508); `none` before its
  first tick. -/
  ceil : Option (Int × Int × Int) := none
  deriving DecidableEq, Repr

/-- The takeover that runs (R368): the failed processor, its target once chosen, and the streams moved. -/
structure Takeover where
  failed : Nat := 0
  target : Option Nat := none
  streams : List Nat := []
  /-- Sample count at which the placements named the target (step 3). -/
  placedAt : Nat := 0
  deriving DecidableEq, Repr

/-- The slice processors' state that no register field holds. -/
structure SliceProcs where
  /-- Processors declared failed since the last AO reset, with their causes; held on the always-on die (R370). -/
  failed : Tab Nat := []
  takeover : Option Takeover := none
  /-- Failures that wait for the running takeover to end: processor and cause (R370). -/
  waiting : List (Nat × Nat) := []
  /-- Sample counts of the last residue mismatches of each processor, newest first, and its failed ring transfers in a row (R367). -/
  resAt : Tab (List Nat) := []
  ringRuns : Tab Nat := []
  deriving DecidableEq, Repr

/-- A running capture (R419 to R421): the orbit position of its start, the stamp of its first tile sample once that has come, the
stream's epoch at its start, and the tiles copied so far, each as I, Q and flags, the newest tile sample first. -/
structure CapRun where
  start : Nat := 0
  stamp : Option Nat := none
  epoch : Nat := 0
  rows : List (List (Nat × Nat × Nat)) := []
  deriving DecidableEq, Repr

/-- One tile's reading in an output (R394, R406): its level, whether its window holds a cross-fade, and a saturated tile sample. -/
structure Reading where
  power : Nat := 0x8000
  mixed : Bool := false
  sat : Bool := false
  deriving DecidableEq, Repr

/-- A sub-interval that has ended (R396, R398): the tile means in units of 2^-32, whether it yields a valid intermediate, whether it
lies wholly at or after the chain's start point (R410), and the tiles that cross-faded and saturated in it. -/
structure SubMean where
  mean : List Nat := []
  ok : Bool := false
  clean : Bool := false
  mixed : List Nat := []
  sat : List Nat := []
  deriving DecidableEq, Repr

/-- An output that a chain has formed at a tick boundary and not yet delivered (R403 to R406): its stamp, the preset and effective H
that gave it, whether the chain was past its suppression, whether it is valid, and its readings by tile. -/
structure ChainOut where
  stamp : Nat := 0
  preset : Nat := 0
  effH : Nat := 0
  clean : Bool := false
  ok : Bool := false
  tiles : List Reading := []
  /-- The sample count at which it was formed. -/
  made : Nat := 0
  deriving DecidableEq, Repr

/-- One chain, a tap of a stream (R396 to R410). -/
structure ChainRun where
  /-- The preset and the effective H with which the chain runs. -/
  preset : Nat := 0
  effH : Nat := 0
  /-- The sub-interval under way, its tile samples and those valid, whether a change makes it invalid (R416), and whether it lies
  wholly at or after the start point. -/
  sub : Option Nat := none
  seen : Nat := 0
  good : Nat := 0
  spoilt : Bool := false
  clean : Bool := true
  /-- The sums of |I|² + |Q|² of its valid tile samples, by tile, and the tiles that cross-faded and saturated in it. -/
  acc : List Nat := []
  mixed : List Nat := []
  sat : List Nat := []
  /-- Tile samples still to be taken as invalid before the start point (R409). -/
  skip : Nat := 0
  /-- The sub-intervals that have ended, newest first. -/
  past : List SubMean := []
  ready : Option ChainOut := none
  /-- When the output last delivered was formed (R524). -/
  gaveAt : Option Nat := none
  deriving DecidableEq, Repr

/-- The measurement chains' state that no register field holds. -/
structure Chains where
  /-- By 2 × stream + tap. -/
  chains : Tab ChainRun := []
  /-- Streams that a pending sync reset has yet to reach, by orbit, and the sample count of its request (R409, R411). -/
  sync : Tab (List Nat) := []
  syncAt : Tab Nat := []
  /-- Runs of watched readings, by entry: toward the high condition's change and toward the low one's (R417). -/
  runs : Tab (Nat × Nat) := []
  /-- Captures that run, by descriptor. -/
  caps : Tab CapRun := []
  deriving DecidableEq, Repr

/-- One tile loop's state beside its context (R486 to R506, R541, R542). -/
structure TileX where
  /-- The tile's soft-start begins at its next update (R506); after a survey, from this gain (R465). -/
  start : Bool := false
  startFrom : Option Nat := none
  /-- Reading OUT minus IN of the newest valid pair without `MIXED` (R506). -/
  meas : Option Int := none
  /-- The observer has been held since its last update (R486). -/
  held : Bool := false
  /-- The operator set-point read 0x8000 at the last update (R506). -/
  opMute : Bool := false
  /-- The notch's last input in 1/256 dB (R541). -/
  lastIn : Int := 0
  /-- The integrator waits for the output to leave its limit (R542). -/
  freezeQ : Bool := false
  /-- The words of the coefficient set of the last update (R541). -/
  coef : List Nat := []
  deriving DecidableEq, Repr

/-- A unit of work of the loop engine (R526): a stream's tile updates, the building loop of a donor slice and direction, a stream's
slice loop. -/
inductive LoopUnit where
  | tiles (m : Nat)
  | building (n r : Nat)
  | slice (m : Nat)
  deriving DecidableEq, Repr

/-- The unit that a loop processor holds, and since which sample count (R526, R548). -/
structure LoopProc where
  unit : LoopUnit
  since : Nat
  deriving DecidableEq, Repr

/-- What one tick of a donor slice and direction has done (R524). -/
structure LoopTick where
  /-- The engine ran as the tick began, so that its work may be done (R551); its deadline has passed (R525). -/
  live : Bool := false
  closed : Bool := false
  /-- Streams whose tile updates, and whose slice loops, have completed; those whose tile updates, and whose slice loops, have been
  abandoned (R526, R549). -/
  updated : List Nat := []
  sliced : List Nat := []
  missed : List Nat := []
  unsliced : List Nat := []
  /-- Slice trims of the tick before, by stream whose slice loop has already run (R482). -/
  trims : Tab Int := []
  /-- Reclaim trims β and ν of the tick before, by tile, while a building loop that has evaluated has not released (R530). -/
  before : Tab (Nat × Nat) := []
  /-- Reselections of this tick and of the one before (R526). -/
  resel : Nat := 0
  reserve : Nat := 0
  /-- Selected gains in the staging buffer, by tile identifier. -/
  staged : Tab Nat := []
  /-- The building loop has evaluated; the staged gains have been released. -/
  evaluated : Bool := false
  released : Bool := false
  deriving DecidableEq, Repr

/-- The building loop's profile generators (R508): position, velocity and acceleration in 2^-24 dB units. -/
structure Profile where
  budget : Option (Int × Int × Int) := none
  noise : Option (Int × Int × Int) := none
  deriving DecidableEq, Repr

/-- The loop engine's state that no register field holds. -/
structure Engine where
  tiles : Tab TileX := []
  /-- By donor slice × 2 + direction. -/
  ticks : Tab LoopTick := []
  profiles : Tab Profile := []
  /-- Streams whose tick commit for the current boundary has executed, 2,080 + n for the rest of that of donor slice n (R524); those
  whose tick commit for the boundary to come has executed (R342). -/
  committed : List Nat := []
  ahead : List Nat := []
  /-- Donor slices that have yet to take the committed coefficients (R540), and the active bank's fields as they stood
  before the commit, by bit address: those slices still use them. -/
  coefWait : List Nat := []
  coefOld : Tab Nat := []
  /-- Slices whose tick boundary since that commit has fallen: they take the bank before their tick's work starts. -/
  coefDue : List Nat := []
  /-- What each loop processor holds (R526). -/
  procs : Tab LoopProc := []
  /-- Since an orbit's last base tick boundary: samples for which a processor was busy, by 2 × processor + orbit, and cycles of the
  orbit's own units (R557, R563). -/
  busy : Tab Nat := []
  cycles : Tab Nat := []
  /-- Orbits whose base tick's deadline has been taken (R528). -/
  beats : List Nat := []
  /-- Processors declared failed since the last AO reset, with their causes; held on the always-on die (R550). -/
  failed : Tab Nat := []
  /-- A processor has failed during the current base tick, by orbit (R528). -/
  tickFault : List Nat := []
  deriving DecidableEq, Repr

/-- The result of a block (R445): the estimate z in 2^-24 units, the lag chosen in 1/16 sample, the level m or its floor in 1/256 dB,
and whether it is a floor. -/
structure BlockOut where
  re : Int := 0
  im : Int := 0
  lag : Nat := 0
  level : Int := 0
  floor : Bool := false
  deriving DecidableEq, Repr

/-- A correlator's block under way (R442 to R445): for each of the three lags Σ y r*, real and imaginary, and Σ|r|²; then Σ|y|², the
tile samples accumulated, and the code periods that the block has lasted. A block that has closed waits in `done`. -/
structure Corr where
  lags : List (Int × Int × Nat) := [(0, 0, 0), (0, 0, 0), (0, 0, 0)]
  y2 : Nat := 0
  used : Nat := 0
  periods : Nat := 0
  done : Option BlockOut := none
  deriving DecidableEq, Repr

/-- One cell's estimator (R447 to R449), in 1/256 dB. -/
structure Cell where
  run : Option Int := none
  seed : Option Int := none
  /-- The estimate z of the last block, in 2^-24 units, and the lag chosen, in 1/16 sample (R442, R453). -/
  zRe : Int := 0
  zIm : Int := 0
  lag : Nat := 0
  deriving DecidableEq, Repr

/-- One canceller branch's coefficient in 2^-24 units, and the coefficient and delay that the next tick commit brings
(R453). -/
structure Branch where
  wRe : Int := 0
  wIm : Int := 0
  next : Option (Int × Int × Nat) := none
  deriving DecidableEq, Repr

/-- The weave of one donor slice as it runs (R439, R440): what is in force, the period of the duty cycle, and the
re-survey that raises its depth, with its periods so far (R468). -/
structure Weave where
  on : Bool := false
  depth : Nat := 6
  chip : Nat := 1
  period : Nat := 0
  resurvey : Option Nat := none
  /-- The code period whose boundary was last taken. -/
  seen : Option Nat := none
  /-- The largest nominal delay among the weaving ports, in tile samples rounded up (R443). -/
  late : Nat := 0
  deriving DecidableEq, Repr

/-- A survey of one donor slice (R462). `step`: 0 waits to restart, 1 muting at the next tick commit, 2 preparing,
3 downlink rounds, 4 between, 5 uplink rounds. -/
structure Survey where
  step : Nat := 1
  streams : List Nat := []
  round : Nat := 0
  /-- Sample count at which the preparation, or the round, began. -/
  since : Nat := 0
  /-- Tile identifiers capped in this survey; gains of the round and blocks of the round by tile identifier. -/
  capped : List Nat := []
  gains : Tab Nat := []
  blocks : Tab (Int × Bool) := []
  last : Tab (Int × Bool) := []
  /-- Rounds that closed a block, by stream, and rounds run in each direction. -/
  good : Tab Nat := []
  roundsDl : Nat := 0
  roundsUl : Nat := 0
  /-- The preparation's power sum and count of readings, by tile, and the probe's level (R461). -/
  acc : Tab (Nat × Nat) := []
  probe : Tab Int := []
  deriving DecidableEq, Repr

/-- The stored survey result of one port slice (R466): when, for which image, remote and delay. -/
structure SurveyResult where
  made : Nat := 0
  image : Nat := 0
  serialLo : Nat := 0
  serialHi : Nat := 0
  rtd : Nat := 0
  deriving DecidableEq, Repr

/-- Leakage estimation's state that no register field holds. -/
structure Isolation where
  /-- By tile identifier. -/
  cells : Tab Cell := []
  /-- The correlators of the cells, by tile identifier, and those of the residuals, by branch (R442, R444, R453). -/
  corrs : Tab Corr := []
  residuals : Tab Corr := []
  /-- Sample counts: since which a port stream's cells are held (R448), at which a branch entered `RELEASING` (R455), at which the last
  survey of a donor slice ended (R468), and of the last retry (R465). -/
  heldAt : Tab Nat := []
  releasedAt : Tab Nat := []
  surveyedAt : Tab Nat := []
  retriedAt : Nat := 0
  /-- By (donor slice × 256 + tile) × 4 + branch. -/
  branches : Tab Branch := []
  weaves : Tab Weave := []
  surveys : Tab Survey := []
  /-- Streams that wait for a survey of their donor slice to end. -/
  waiting : List Nat := []
  /-- Port slices that a probe re-survey has yet to survey, one at a time (R468). -/
  oneByOne : List Nat := []
  /-- By the downlink stream index of the port slice, 16 × port + port slice. -/
  results : Tab SurveyResult := []
  /-- The active full image, by the digest of its octets, and the deltas that have touched a port slice since, by its
  downlink stream (R466). -/
  image : Nat := 0
  touched : Tab Nat := []
  /-- The sample count of the last change in each donor tile's branches, by donor slice × 256 + tile (R451). -/
  changed : Tab Nat := []
  deriving DecidableEq, Repr

/-- A tile's fast detector (R569): the last window mean that may serve as predecessor and the rises so far. -/
structure FastWin where
  prev : Option Int := none
  rises : Nat := 0
  deriving DecidableEq, Repr

/-- The fast detector's window under way in a port stream (R568, R570): its tile samples, whether a tile sample breaks it, the sums of
|I|² + |Q|² and the tiles that cross-faded; and the windows that have ended, by tile: the mean in 1/256 dB, and whether it breaks the
run. -/
structure FastAcc where
  seen : Nat := 0
  bad : Bool := false
  acc : List Nat := []
  faded : List Nat := []
  done : Tab (Int × Bool) := []
  deriving DecidableEq, Repr

/-- A 1 ms block of a tap (R580, R586): the tile samples that count and the sum of |I|² + |Q|² over every tile; and the level of the
block that has ended, `none` in it where no tile sample counted. -/
structure PowerBlock where
  seen : Nat := 0
  sum : Nat := 0
  done : Option (Option Nat) := none
  deriving DecidableEq, Repr

/-- The slow watch's sums of a tick (R574): Σ_t e^(j2πfτ) Σ y y*, real and imaginary, Σ|y|² and the tile samples taken; and the
ripple of the tick that has ended. -/
structure SlowAcc where
  re : Int := 0
  im : Int := 0
  den : Nat := 0
  seen : Nat := 0
  done : Option Nat := none
  deriving DecidableEq, Repr

/-- A port stream's slow watch (R575 to R577): the last ripple, the ticks of each criterion in a row, and whether the
stream has taken a step of the run that still lasts. -/
structure SlowWin where
  last : Option Int := none
  ripples : Nat := 0
  rises : Nat := 0
  stepped : Bool := false
  deriving DecidableEq, Repr

/-- The protection logic's state that no register field holds. A port slice is named by its downlink stream. -/
structure Protect where
  /-- The hold, fall, retry and cure timers are paused after a clock failure (R590): since this sample count, and for how many samples
  before. -/
  paused : Bool := false
  pausedAt : Nat := 0
  lost : Nat := 0
  /-- Times by that paused clock: at which a stream's hold began or its cut last fell (R567), at which a donor slice came into the
  stage of its noise rise or last took its action (R583), at which its `NOISE` was last released (R585), and at which a port slice
  came over its limit (R586). -/
  stepAt : Tab Nat := []
  stageAt : Tab Nat := []
  retryAt : Tab Nat := []
  overAt : Tab Nat := []
  /-- By tile identifier, and by stream. -/
  fast : Tab FastWin := []
  slow : Tab SlowWin := []
  fastAcc : Tab FastAcc := []
  slowAcc : Tab SlowAcc := []
  /-- 1 ms blocks of a donor downlink's IN tap, by donor slice, and of the OUT tap, by stream (R580, R586). -/
  donorBlk : Tab PowerBlock := []
  outBlk : Tab PowerBlock := []
  /-- Port slices within `FT_HOLDOFF` of a fast step, and the sample count of the last fast step (R571, R572). -/
  holdoff : List Nat := []
  lastFast : Tab Nat := []
  /-- Sample counts of tail steps, newest first (R578). -/
  hist : Tab (List Nat) := []
  /-- Runs of low blocks and of good blocks, by donor slice (R580, R581). -/
  low : Tab Nat := []
  good : Tab Nat := []
  /-- Floors of the donor uplink, by donor slice × 256 + tile (R582). -/
  floor : Tab Int := []
  /-- Port slices muted for noise, by donor slice, in order (R585). -/
  noisy : Tab (List Nat) := []
  /-- Runs of blocks over the limit, by stream (R586). -/
  overRuns : Tab Nat := []
  /-- Port slices whose MEAS_STALE event awaits `STALE_MUTE`, and the sample counts of the events (R587). -/
  stale : List Nat := []
  staleAt : Tab Nat := []
  deriving DecidableEq, Repr


/-- One post-filter unit (R640 to R643): the configuration word in force, whether it restarts at its sequence's next start,
the results since its restart, and the last of them, newest first. -/
structure HkFilt where
  cfg : Nat := 0x1000
  dirty : Bool := true
  count : Nat := 0
  hist : List Nat := []
  deriving DecidableEq, Repr

/-- An injected run that runs or waits for its start (R629 to R633): entries left, as pairs of index and entry word, the
group that starts together, and whether it is a calibration burst (R637). -/
structure HkRun where
  left : List (Nat × Nat) := []
  started : Bool := false
  group : Option Nat := none
  cal : Bool := false
  deriving DecidableEq, Repr

/-- One converter (R618 to R643). -/
structure HkConv where
  /-- Low-power mode is in force (R619). -/
  lp : Bool := true
  /-- The housekeeping clock switched source during the conversion in progress (R621). -/
  switched : Bool := false
  inj : Option HkRun := none
  /-- The regular run's entries left, as pairs of index and entry word. -/
  reg : Option (List (Nat × Nat)) := none
  /-- The regular trigger that waits is a round start (R631); the pending slot holds a calibration burst. -/
  waitRound : Bool := false
  pendCal : Bool := false
  /-- Monitors whose resolve readings wait, rising; the one being read (R646). -/
  resolve : List Nat := []
  reading : Option Nat := none
  filts : Tab HkFilt := []
  /-- Sample count at which the conversion in progress began (R618). -/
  since : Nat := 0
  /-- The HKCLK cycles of the last regular and of the last injected trigger (R627, R631); the last regular run was a round's. -/
  regAt : Option Nat := none
  injAt : Option Nat := none
  regRound : Bool := false
  /-- When the timer's period began, in 1/100 sample (R664). -/
  timerAt : Nat := 0
  deriving DecidableEq, Repr

/-- The calibration step that runs (R637): input, converter, point, target, conversions so far, their sum, and whether one
was invalid. -/
structure HkStep where
  ain : Nat := 0
  conv : Nat := 0
  full : Bool := false
  target : Nat := 0
  count : Nat := 0
  sum : Nat := 0
  bad : Bool := false
  deriving DecidableEq, Repr

/-- One window monitor (R644 to R650). -/
structure WinMon where
  /-- The comparators' states. -/
  hi : Bool := false
  lo : Bool := false
  /-- Blanking runs since this sample count. -/
  blank : Option Nat := none
  /-- A lockout runs since this sample count; the activations it suppressed. -/
  lockout : Option Nat := none
  chat : Nat := 0
  /-- The stuck timer's start. -/
  activeAt : Option Nat := none
  deriving DecidableEq, Repr

/-- The housekeeping block's state that no register field holds. -/
structure Housekeep where
  convs : Tab HkConv := []
  /-- Converters of each group of R633 that have yet to reach their boundary, by group, and the number of the next. -/
  groups : Tab (List Nat) := []
  nextGroup : Nat := 0
  step : Option HkStep := none
  /-- A completed `ZERO` step: input, converter and mean (R638). -/
  zero : Option (Nat × Nat × Nat) := none
  mons : Tab WinMon := []
  /-- Sample count of the last round start (R624). -/
  roundAt : Nat := 0
  deriving DecidableEq, Repr


/-- The clock supervisor's state that no register field holds (R676 to R711). -/
structure Clocks where
  /-- Attempts of each crystal (R681), and its gates within the window in a row (R682): 0 XTAL_A, 1 XTAL_B. -/
  tries : Tab Nat := []
  gates : Tab Nat := []
  /-- The input that a switch in progress moves REF to (R691). -/
  switchTo : Option Nat := none
  /-- A forced switch holds the REF domains in reset (R692). -/
  domainReset : Bool := false
  /-- SYSPLL is relocking and its outputs are gated (R694). -/
  pllLocking : Bool := false
  /-- The crystals' difference has been above the limit since some span (R685). -/
  excursion : Bool := false
  /-- SAMPCLK gates within the window in a row (R699). -/
  sampGates : Nat := 0
  /-- A permit has been granted; a standing permit would apply (R698). -/
  permit : Bool := false
  standing : Bool := false
  /-- RESET_N is low and the always-on die is in reset (R708). -/
  resetLow : Bool := false
  /-- The compute die's next power-up follows an AO reset (R707, R721). -/
  cold : Bool := true
  /-- Sample counts, of each crystal: its last start (R681), and the start of the gate under way (R682). -/
  startAt : Tab Nat := []
  gateAt : Tab Nat := []
  /-- The common span of R685: gates of each crystal in it so far, and their counts. -/
  spanGates : Tab Nat := []
  spanSum : Tab Nat := []
  /-- Sample counts: the last switch request (R692), the start of a reset hold, the start of the gate of SAMPCLK (R699) and of
  each LREFCLK (R703) under way, and the entry into *APPLY* or the last `CLK_SAMP_WAIT` record since (R710). -/
  switchAt : Nat := 0
  holdAt : Nat := 0
  sampAt : Nat := 0
  lrefAt : Tab Nat := []
  waitAt : Nat := 0
  /-- Sample count since which the always-on die is out of reset and FIO runs (R710). -/
  bootAt : Nat := 0
  /-- Sample count since which the first two conditions of R697 have held in a safe state (R698). -/
  okAt : Option Nat := none
  deriving DecidableEq, Repr

/-- One action of the budget governor's ladder (R744). -/
inductive BgvAction where
  | defer | weave
  | tick (slice : Nat)
  | mute (stream : Nat)
  deriving DecidableEq, Repr

/-- One thermal sensor's cross-check (R737, R738): rounds in a row outside its reference's window, rounds in a row within
the re-admission window, rounds in a row without a valid reading, and whether it is suspect for want of readings. -/
structure Sensor where
  far : Nat := 0
  near : Nat := 0
  missed : Nat := 0
  mute : Bool := false
  deriving DecidableEq, Repr

/-- One thermal level's counts (R740): rounds in a row above the threshold, and below the release. -/
structure Level where
  above : Nat := 0
  under : Nat := 0
  deriving DecidableEq, Repr

/-- What the budget governor counts in a round (R742 to R744), by activity class of R743; class 5 is in half lane-samples, class 6 in
eighths of a bit. The parts of it that the ladder can remove: that of deferrable services, class 2 of the downlink correlators and
class 3 by donor slice, and the classes of a port slice, at 8 × its downlink stream + class. -/
structure Activity where
  counts : Tab Nat := []
  defer : Tab Nat := []
  weave : Tab Nat := []
  updates : Tab Nat := []
  slices : Tab Nat := []
  deriving DecidableEq, Repr

/-- The power controller's state that no register field holds (R723 to R752). -/
structure Power where
  /-- Domains whose supply is good and whose isolation is released, in the order of their waking (R728). -/
  good : List Nat := []
  /-- The wake ladder, head first: a domain, and whether it is a wake (R732, R733). -/
  queue : List (Nat × Bool) := []
  /-- Gates that wait for their domain to finish waking (R733). -/
  gateAfter : List Nat := []
  /-- Domains already retried since the last AO reset (R730). -/
  retried : List Nat := []
  /-- The orderly stop that runs (R748): its cause of R755, and whether the gating of step 4 has begun. -/
  stopping : Option Nat := none
  stopGating : Bool := false
  /-- Sample counts: the last ladder step (R732), the closing of each domain's switch (R728), the isolation of each domain that is
  *GATING* (R728), and since when each domain that is on has had nothing to do (R731). -/
  stepAt : Option Nat := none
  wakeAt : Tab Nat := []
  gating : Tab Nat := []
  idleAt : Tab Nat := []
  /-- Sample counts: the orderly stop's crossing (R748), and the last crossing, release or step of THROTTLE (R741). -/
  stopAt : Nat := 0
  throttleAt : Nat := 0
  /-- Sample count of each ageing monitor's last measurement (R896). -/
  agedAt : Tab Nat := []
  /-- A round's readings have yet to be evaluated (R740), and to be taken by the governor (R742). -/
  evalOwed : Bool := false
  governOwed : Bool := false
  /-- The activity of the round so far (R743). -/
  act : Activity := {}
  /-- Sample count of entry into *STOPPED*, and rounds in a row below 105 °C since (R751). -/
  stoppedAt : Nat := 0
  cool : Nat := 0
  /-- Rounds in a row without a valid current, by rail (R725). -/
  railMiss : Tab Nat := []
  sensors : Tab Sensor := []
  warn : Level := {}
  throttle : Level := {}
  shutdown : Level := {}
  /-- The governor's correction c, in 0.1 nW (R742). -/
  corr : Int := 0
  /-- Rounds of headroom (R746), and the ladder's actions in force with what each saved when it was taken, newest first
  (R744). -/
  rel : Nat := 0
  actions : List (BgvAction × Int) := []
  /-- Life consumed, in 2^-32 of a housekeeping round at 85 °C (R898). -/
  life : Nat := 0
  deriving DecidableEq, Repr

/-- One event record (R775), without its CRC, which is computed from the rest. -/
structure Rec where
  seq : Nat := 0
  code : Nat := 0
  unbound : Bool := false
  unsure : Bool := false
  snapOff : Bool := false
  time : Nat := 0
  pcycle : Nat := 0
  index : Nat := 0
  arg : Nat := 0
  snaps : List Nat := []
  deriving DecidableEq, Repr

/-- One entry of the recorder's input queue (R784). `early` marks an entry that arrived before time resumption, whose
`time` is then the milliseconds since AO power-good. -/
structure QEnt where
  /-- The FIO cycle of its arrival (R784); none for a `LOST` or `SUPPRESSED` entry, which keeps its place (R785). -/
  cycle : Option Nat := none
  code : Nat := 0
  index : Nat := 0
  arg : Nat := 0
  time : Nat := 0
  early : Bool := false
  snapOff : Bool := false
  snaps : List Nat := []
  deriving DecidableEq, Repr

/-- The event recorder's state that no register field holds (R775 to R795). -/
structure Recorder where
  /-- Records in the ring, by `SEQ` (R787). -/
  ring : Tab Rec := []
  /-- The `SEQ` of the next record (R776). -/
  nextSeq : Nat := 0
  /-- The oldest `SEQ` that readers may take from the ring (R787). -/
  tail : Nat := 0
  /-- The power-cycle count (R778). -/
  pcycle : Nat := 0
  /-- The input queue, oldest first (R784). -/
  queue : List QEnt := []
  /-- Events lost since the last `LOST` record, with the time and code of the first (R785). -/
  lostCount : Nat := 0
  lostTime : Nat := 0
  lostCode : Nat := 0
  /-- Time of the first pending suppression of a code (R783). -/
  supFirst : Tab Nat := []
  /-- Summaries due, by code: count and time of the first suppression (R783). -/
  supDue : Tab (Nat × Nat) := []
  /-- Sample counts: since when the queue's head is being written (R784), the start of a code's token period (R783), and the drawing of
  the nonce (R793). -/
  headAt : Nat := 0
  tokenAt : Tab Nat := []
  nonceAt : Nat := 0
  /-- Operating time: `tBase` ms at the sample count `tRef` (R778). -/
  tBase : Nat := 0
  tRef : Nat := 0
  /-- The bounds of the anchor last written (R779); `none` where none has been read or written. -/
  anchor : Option (Nat × Nat) := none
  /-- The next free 32-byte anchor slot of journal sector 0 (R851). -/
  anchorSlot : Nat := 0
  /-- Calendar time is `calBase` plus the operating time since `calRef` (R782). -/
  calBase : Nat := 0
  calRef : Nat := 0
  /-- The staging copy of `EVT_CAL_LO` (R802). -/
  calStageLo : Nat := 0
  /-- The next archive slot to program, 0 to 65,535 (R788). -/
  archSlot : Nat := 0
  /-- The next `SEQ` to archive (R789). -/
  archNext : Nat := 0
  /-- Records being programmed into the archive: the slot, the record and whether this is the second try (R789). -/
  archBusy : List (Nat × Rec × Bool) := []
  /-- Sectors left unused until the next wrap after a failed erase (R789). -/
  archSkip : List Nat := []
  /-- The nonce shown is valid for one `GO` (R793). -/
  nonceLive : Bool := false
  /-- `CLR_TO` of the clearing that runs (R793). -/
  clearTo : Option Nat := none
  /-- A clearing was abandoned and its record is owed (R794). -/
  clearAborted : Bool := false
  /-- The `SEQ` an archive read looks for (R792). -/
  archRead : Option Nat := none
  /-- The newest archived `SEQ` (R803). -/
  archNewest : Option Nat := none
  deriving DecidableEq, Repr

/-- What a master access ends with (R814): its status and the data returned, 32 or 64 bits. -/
structure Completion where
  status : Nat := 0
  data : Nat := 0
  deriving DecidableEq, Repr

/-- The run of one DMA channel (R826, R827): the host address of the descriptor that runs, its octets, and whether `ABORT`
has been written. -/
structure DmaChan where
  addr : Nat := 0
  desc : List Nat := []
  aborting : Bool := false
  deriving DecidableEq, Repr

/-- The side-band port's request state (R840 to R844). -/
structure Smp where
  /-- The last executed request, octets 0 to 14; empty before any. -/
  lastReq : List Nat := []
  /-- The stored response: status, `SEQ`, `OP` and data. -/
  status : Nat := 10
  seq : Nat := 0
  op : Nat := 0
  data : Nat := 0
  /-- The request that runs: its `OP`, `SEQ`, `ADDR` and `DATA`; and once executed, its status and data. -/
  running : Option (Nat × Nat × Nat × Nat) := none
  result : Option (Nat × Nat) := none
  /-- The answer that the next frame returns instead of the stored response: status and `SEQ`. -/
  instead : Option (Nat × Nat) := none
  /-- The octets last sent on SMP_SDO. -/
  sent : List Nat := []
  /-- `SMP_ERR` is armed: no damaged frame since `SMP_CNT` was last read (R856). -/
  errArmed : Bool := true
  deriving DecidableEq, Repr

/-- A flash operation that waits or runs, in arrival order (R849). -/
structure FlashJob where
  /-- 0 read, 1 program, 2 erase (R865). -/
  op : Nat := 0
  addr : Nat := 0
  len : Nat := 0
  /-- The slot write of R65, whose image the loader holds; else a user operation (R850). -/
  slot : Bool := false
  data : List Nat := []
  /-- Its journal intent has been written (R852). -/
  begun : Bool := false
  deriving DecidableEq, Repr

/-- The host attachment's state that no register field holds. -/
structure HostIf where
  /-- The last master access's completion (R815). -/
  cpl : Completion := {}
  /-- The recovery function: 0 detached, 1 attached, 2 configured (R836, R860). -/
  usb : Nat := 0
  /-- Octets last sent on EP1 IN and EP2 IN of the recovery function (R837). -/
  usbResp : List Nat := []
  usbData : List Nat := []
  /-- MSI-X messages sent, by vector (R824). -/
  msiSent : Tab Nat := []
  chans : Tab DmaChan := []
  /-- What the last DMA descriptor wrote to host memory: addresses and octets (R827). -/
  dmaOut : List (Nat × List Nat) := []
  smp : Smp := {}
  flashJobs : List FlashJob := []
  /-- The next free 32-byte entry of journal sectors 1 to 15, and the next journal sequence (R851). -/
  jrnSlot : Nat := 0
  jrnSeq : Nat := 0
  /-- Journal recovery has run since the last core reset (R852). -/
  jrnRecovered : Bool := false
  /-- The next line the scrubber reads, in 64-byte units (R835). -/
  scrubAt : Nat := 0
  /-- The OTP target being programmed (R854). -/
  otpRun : Option Nat := none
  /-- Sample counts: the scrubber's last line (R835), the posting of a mailbox slot (R846), and since when the host has been absent
  (R820). -/
  scrubbedAt : Nat := 0
  postedAt : Tab Nat := []
  absentAt : Option Nat := none
  deriving DecidableEq, Repr

/-- Everything inside the part but the large memories: every register field the spec describes, kept sparsely by its
bit address where it differs from its reset value (`regs`), and what each block holds beside its registers. -/
structure Dev where
  /-- Register fields that differ from their reset value, by bit address (R15). -/
  regs : Tab Nat := []
  /-- Samples of 122.88 MHz since AO power-good (R29). -/
  now : Nat := 0
  /-- How many free values the part has drawn; a free value is `Config.free` of this count. -/
  draws : Nat := 0
  er : Recorder := {}
  hif : HostIf := {}
  orbs : Tab Orbit := []
  lnk : Link := {}
  don : Donor := {}
  stns : Tab Station := []
  hk : Housekeep := {}
  clk : Clocks := {}
  mld : Mould := {}
  streams : Tab Stream := []
  plane : Plane := {}
  slc : SliceProcs := {}
  pwr : Power := {}
  chn : Chains := {}
  eng : Engine := {}
  iso : Isolation := {}
  prt : Protect := {}
  /-- FAULT_N is driven low (R591). -/
  faultLow : Bool := true
  deriving DecidableEq, Repr

/-- One-time programmable memory (R59, R853). -/
structure Otp where
  key0 : List Nat := []
  key1 : List Nat := []
  clearKey : List Nat := []
  aoFuse : Nat := 0
  /-- Bit t: target t of R853 is programmed. -/
  done : Nat := 0
  /-- Revocation fuses of key slots 0 and 1 (R59). -/
  revoked : Nat := 0
  /-- Rollback fuses blown (R59). -/
  rollback : Nat := 0
  deriving DecidableEq, Repr

/-- The memories: external SDRAM by byte address in usable capacity (R829), flash by byte address (R50), and OTP. -/
structure Mem where
  sdram : List Host.Cell := []
  flash : List Host.Cell := []
  otp : Otp := {}
  deriving DecidableEq, Repr

/-- The machine: the block, its memories, and the commands that wait, first in first out. -/
structure State where
  dev : Dev := {}
  mem : Mem := {}
  pending : List Instr := []
  deriving DecidableEq, Repr

/-- Why a command stops the machine. -/
inductive Fault where
  /-- A command names a unit the part lacks (a lane above 127, a stream above 2,079). Every meaning that takes an
  index raises it. Safe: `wellFormed` refuses the command, and no sender can form it. -/
  | noSuchUnit
  deriving DecidableEq, Repr

/-- Why a command has no meaning. -/
inductive Refusal where
  /-- The command's meaning is not written. Raised by an arm of `exec` only. Safe: the machine stops. -/
  | notModelled (mnemonic : String)
  deriving DecidableEq, Repr

/-- The machine after an AO power-on reset, step 1 of R710: every register field at its reset value, *AO_ONLY*, blank
flash and OTP, nothing written to SDRAM, no command waiting. -/
def State.reset : State := {}

end Sys2Proof.Machine
end

