-- ==== Sys2Proof/Machine/MemOps.lean ====
section
/-! DEFINITION. The named operations over external SDRAM and flash: bytes, pages, sectors, in one canonical form. -/

namespace Sys2Proof.Machine

/-- What a byte of SDRAM that nothing has written reads as. DESIGN CHOICE, unsafe: the spec gives none. -/
def sdramBlank : Nat := 0

/-- What a byte of flash that nothing has programmed since its erase reads as (R788, an erased slot is empty).
PRESUMED of flash devices of the JESD216 kind, unsafe. -/
def flashBlank : Nat := 255

/-- Reads one byte of a memory whose unlisted bytes read as `b`. -/
def cellGet (b : Nat) : List Host.Cell → Nat → Nat
  | [], _ => b
  | (k, v) :: t, n => if k = n then v.toNat else cellGet b t n

/-- Lists one byte, in its place by address. -/
def cellPut : List Host.Cell → Nat → BitVec 8 → List Host.Cell
  | [], n, x => [(n, x)]
  | (k, v) :: t, n, x =>
    if n < k then (n, x) :: (k, v) :: t
    else if n = k then (n, x) :: t
    else (k, v) :: cellPut t n x

/-- Strikes one byte. -/
def cellDel : List Host.Cell → Nat → List Host.Cell
  | [], _ => []
  | (k, v) :: t, n => if k = n then cellDel t n else (k, v) :: cellDel t n

/-- Writes one byte of a memory whose unlisted bytes read as `b`: writing `b` strikes the entry. -/
def cellSet (b : Nat) (m : List Host.Cell) (n x : Nat) : List Host.Cell :=
  if x % 256 = b then cellDel m n else cellPut m n (BitVec.ofNat 8 x)

/-- The canonical form of a memory: addresses strictly rising from `lo`, no entry equal to the blank byte. -/
def cellsWf (b : Nat) : Nat → List Host.Cell → Bool
  | _, [] => true
  | lo, (k, v) :: t => decide (lo ≤ k) && decide (v.toNat ≠ b) && cellsWf b (k + 1) t

/-- Both memories hold their canonical form. -/
def Memory.wf (m : Mem) : Bool := cellsWf sdramBlank 0 m.sdram && cellsWf flashBlank 0 m.flash

/-- Reads `n` bytes from address `a` upward. -/
def cellsRead (b : Nat) (m : List Host.Cell) : Nat → Nat → List Nat
  | _, 0 => []
  | a, n + 1 => cellGet b m a :: cellsRead b m (a + 1) n

/-- Writes bytes from address `a` upward. -/
def cellsWrite (b : Nat) (m : List Host.Cell) : Nat → List Nat → List Host.Cell
  | _, [] => m
  | a, x :: t => cellsWrite b (cellSet b m a x) (a + 1) t

/-- Programs bytes of flash from address `a` upward: a program clears bits and sets none. PRESUMED of the device. -/
def cellsProgram (m : List Host.Cell) : Nat → List Nat → List Host.Cell
  | _, [] => m
  | a, x :: t => cellsProgram (cellSet flashBlank m a (cellGet flashBlank m a &&& (x % 256))) (a + 1) t

/-- Strikes every entry of an address range: what an erase, or the loss of contents, leaves. -/
def cellsErase (m : List Host.Cell) (lo hi : Nat) : List Host.Cell :=
  m.filter (fun p => decide (p.1 < lo) || decide (hi ≤ p.1))

/-- Reads bytes of SDRAM. -/
def Mem.sdRead (m : Mem) (a n : Nat) : List Nat := cellsRead sdramBlank m.sdram a n

/-- Writes bytes of SDRAM. -/
def Mem.sdWrite (m : Mem) (a : Nat) (l : List Nat) : Mem := { m with sdram := cellsWrite sdramBlank m.sdram a l }

/-- The contents of SDRAM are lost (R832). -/
def Mem.sdLose (m : Mem) : Mem := { m with sdram := [] }

/-- Reads bytes of flash. -/
def Mem.flRead (m : Mem) (a n : Nat) : List Nat := cellsRead flashBlank m.flash a n

/-- Programs bytes of flash. -/
def Mem.flProgram (m : Mem) (a : Nat) (l : List Nat) : Mem := { m with flash := cellsProgram m.flash a l }

/-- Erases a range of flash. -/
def Mem.flErase (m : Mem) (a n : Nat) : Mem := { m with flash := cellsErase m.flash a (a + n) }

/-- The 32-byte slots of a flash range that hold any programmed byte, by slot number, rising. -/
def Mem.flSlots (m : Mem) (base size slot : Nat) : List Nat :=
  ((m.flash.filter (fun p => decide (base ≤ p.1) && decide (p.1 < base + size))).map
    (fun p => (p.1 - base) / slot)).eraseDups

/-- Octets `lo` to `lo + n − 1` of a list as a little-endian number (R51, R775). -/
def leAt (l : List Nat) (lo n : Nat) : Nat := fromOctets ((l.drop lo).take n)

end Sys2Proof.Machine
end

