-- ==== Sys2Proof/Config.lean ====
section
/-! DEFINITION. The values the spec leaves open, as constants without a body. -/

namespace Sys2Proof

/-- The value of draw `n` of a value that the spec leaves open: the recorder's nonce words (R793), and results that no
rule states. Nothing constrains it. -/
opaque Config.free : Nat → Nat

/-- The controller's latency through a donor link (R274): a function of the link, its configuration word and the LEMC
phase, and nothing else. The spec gives no value. -/
opaque Config.donorLat : Nat → Nat → Nat → Nat

/-- `CE_LOAD_i.LOAD` where the load of R527 has no finite value: no healthy loop processor, or no window left. The spec
gives no value. -/
opaque Config.loadOpen : Nat → Nat

/-- The factory trim of thermal sensor `n`, in 1/16 °C (R735): fuses that the spec gives no value. -/
opaque Config.thermalTrim : Nat → Int

/-- The start of an NR synchronisation signal block within its half frame, in samples, by subcarrier spacing in kHz, Lmax and
index (R95). The spec names the block and gives no table of its places. -/
opaque Config.ssbStart : Nat → Nat → Nat → Nat

/-- The noise floor of a donor slice's downlink in the learning run that starts at a sample count, as the mean of |z|² of its samples
(R122). The spec does not say how it is found. -/
opaque Config.noiseFloor : Nat → Nat → Nat

/-- The octets that the transceivers send on a physical receive lane of the donor interface, in the order of the link's frames
(R263): the signal of the donor antennas, which the block takes from outside. -/
opaque Config.donorOctet : Nat → Nat → Nat

/-- The taps of the two banks by mode, tile and sample (R339): the prototype of the ROM turned to the tile's centre frequency. The
spec gives their properties and no values. -/
opaque Config.analysisTap : Bool → Nat → Nat → Int × Int
opaque Config.synthesisTap : Bool → Nat → Nat → Int × Int

/-- The taps of the 8-tap fractional-delay interpolator, by delay in 1/16 sample and tap (R358). -/
opaque Config.interpTap : Nat → Nat → Int

/-- Fraction bits of the taps of the banks and of the interpolator. -/
opaque Config.tapBits : Nat

/-- The taps of the chains' half-band filters by distance from the centre (R396), and the error of the logarithm of a reading by its
mean, in 1/256 dB, within ±0.02 dB (R394). -/
opaque Config.halfBand : Nat → Int
opaque Config.logError : Nat → Int

/-- The error of the gain factor of a gain, in 2^-20 (R343 bounds it to 0.005 dB). -/
opaque Config.gainError : Nat → Int

/-- The two bits that the survey's probe generator gives for a step of its sequence (R461). -/
opaque Config.probeBits : Nat → Nat

/-- Where a lane's first block boundary falls after the frame boundary of a frame, in 1/16 sample (R181, R182): the line clock is
unrelated to the sample clock (R170). -/
opaque Config.launch : Nat → Nat → Nat

end Sys2Proof
end

