-- ==== Sys2Proof/Machine/RegTypes.lean ====
section
/-! DEFINITION. What a register field is, and the reset tables that the spec gives by index. -/

namespace Sys2Proof.Machine

/-- The field types of R15. `RSV` bits are the bits that no field of a register covers. -/
inductive FTy where
  | rw | ro | wo | w1c | w1s | rwl
  deriving DecidableEq, Repr

/-- One field of one register, or of an array of registers with up to three indices.
`off` is the BAR0 offset of the register with every index 0, `s1` to `s3` the strides of the indices. -/
structure Fld where
  off : Nat
  lo : Nat
  w : Nat
  ty : FTy
  s1 : Nat := 0
  s2 : Nat := 0
  s3 : Nat := 0
  rst : Nat → Nat → Nat → Nat := fun _ _ _ => 0

/-- One register or array of registers: its BAR0 offset, the count and stride of each index, its domain (R12),
whether it is owner-lockable, the block whose owner governs it (R864), and its fields. -/
structure RegD where
  base : Nat
  dims : List (Nat × Nat)
  ao : Bool
  lock : Bool
  blk : Option Nat
  flds : List Fld

/-- Where a field is kept: its bit address in BAR0. -/
def Fld.key (f : Fld) (i j k : Nat) : Nat := (f.off + i * f.s1 + j * f.s2 + k * f.s3) * 8 + f.lo

/-- Nominal rail voltages of R723 in mV, by sense. -/
def railMv : List Nat := [750, 750, 850, 800, 800, 1200, 1050, 1800]

/-- Default current scales of R723 in µA per LSB, by sense. -/
def railScale : List Nat := [25000, 25000, 5000, 10000, 10000, 5000, 2000, 1000]

/-- Wake steps of R726 in units of 0.25 A. -/
def wakeStep (n : Nat) : Nat :=
  if n < 4 then 48 else if n = 4 then 24 else if n = 5 then 20 else if n < 42 then 16 else if n < 74 then 6 else 40

/-- Default activity weights of R743 in pJ. -/
def bgvWeights : List Nat := [80, 120, 16, 6000, 40, 90000, 6000, 15]

/-- The channel of system entry `e` of the regular sequence of converter `k` (R620, R623); 0 for a user entry. -/
def hkSystemChannel (k e : Nat) : Nat :=
  if 10 ≤ e then 0
  else if k < 3 then (if e < 8 then 48 + 8 * k + e else 80 + 2 * k + (e - 8))
  else if e < 6 then 72 + e else if e < 8 then 86 + (e - 6) else 88 + (e - 8)

end Sys2Proof.Machine
end

