-- ==== Sys2Proof/Machine/RegMapA.lean ====
section
/-! DEFINITION. The registers of chapters 00, 01, 12 to 16: one constant per field and one description per register, as the field tables of the spec give them. -/

namespace Sys2Proof.Machine

def F.GLB_ID_DEVICE : Fld := { off := 0x0, lo := 16, w := 16, ty := .ro, rst := fun _ _ _ => 0x4128 }
def F.GLB_ID_VENDOR : Fld := { off := 0x0, lo := 0, w := 16, ty := .ro, rst := fun _ _ _ => 0x1D7E }
/-- `GLB_ID` (R18, 00_scope.md). -/
def RD.GLB_ID : RegD := { base := 0x0, dims := [], ao := false, lock := false, blk := none, flds := [F.GLB_ID_DEVICE, F.GLB_ID_VENDOR] }
def F.GLB_REV_COMPUTE_STEP : Fld := { off := 0x4, lo := 24, w := 8, ty := .ro, rst := fun _ _ _ => 0x10 }
def F.GLB_REV_LINK0_STEP : Fld := { off := 0x4, lo := 16, w := 8, ty := .ro, rst := fun _ _ _ => 0x10 }
def F.GLB_REV_LINK1_STEP : Fld := { off := 0x4, lo := 8, w := 8, ty := .ro, rst := fun _ _ _ => 0x10 }
def F.GLB_REV_AO_STEP : Fld := { off := 0x4, lo := 0, w := 8, ty := .ro, rst := fun _ _ _ => 0x10 }
/-- `GLB_REV` (R19, 00_scope.md). -/
def RD.GLB_REV : RegD := { base := 0x4, dims := [], ao := false, lock := false, blk := none, flds := [F.GLB_REV_COMPUTE_STEP, F.GLB_REV_LINK0_STEP, F.GLB_REV_LINK1_STEP, F.GLB_REV_AO_STEP] }
def F.GLB_CAPS_STATIONS : Fld := { off := 0x8, lo := 20, w := 4, ty := .ro, rst := fun _ _ _ => 8 }
def F.GLB_CAPS_ORBITS : Fld := { off := 0x8, lo := 16, w := 4, ty := .ro, rst := fun _ _ _ => 2 }
def F.GLB_CAPS_SLICE_PROCS : Fld := { off := 0x8, lo := 8, w := 8, ty := .ro, rst := fun _ _ _ => 0x24 }
def F.GLB_CAPS_LANES : Fld := { off := 0x8, lo := 0, w := 8, ty := .ro, rst := fun _ _ _ => 0x80 }
/-- `GLB_CAPS` (R20, 00_scope.md). -/
def RD.GLB_CAPS : RegD := { base := 0x8, dims := [], ao := false, lock := false, blk := none, flds := [F.GLB_CAPS_STATIONS, F.GLB_CAPS_ORBITS, F.GLB_CAPS_SLICE_PROCS, F.GLB_CAPS_LANES] }
def F.GLB_SCRATCH_VALUE : Fld := { off := 0xC, lo := 0, w := 32, ty := .rw }
/-- `GLB_SCRATCH` (R21, 00_scope.md). -/
def RD.GLB_SCRATCH : RegD := { base := 0xC, dims := [], ao := false, lock := false, blk := none, flds := [F.GLB_SCRATCH_VALUE] }
def F.CLK_OWNER_CLAIM_CONFLICT : Fld := { off := 0x100000, lo := 8, w := 1, ty := .w1c }
def F.CLK_OWNER_OWNER : Fld := { off := 0x100000, lo := 0, w := 2, ty := .rw }
/-- `CLK_OWNER` (R712, 12_clocks_and_reset.md). -/
def RD.CLK_OWNER : RegD := { base := 0x100000, dims := [], ao := true, lock := false, blk := some 12, flds := [F.CLK_OWNER_CLAIM_CONFLICT, F.CLK_OWNER_OWNER] }
def F.CLK_CTL_RETRY_B : Fld := { off := 0x100004, lo := 11, w := 1, ty := .w1s }
def F.CLK_CTL_RETRY_A : Fld := { off := 0x100004, lo := 10, w := 1, ty := .w1s }
def F.CLK_CTL_SWITCH_TO : Fld := { off := 0x100004, lo := 8, w := 2, ty := .rwl }
def F.CLK_CTL_SWITCH : Fld := { off := 0x100004, lo := 7, w := 1, ty := .w1s }
def F.CLK_CTL_PERMIT : Fld := { off := 0x100004, lo := 6, w := 1, ty := .w1s }
def F.CLK_CTL_STANDING : Fld := { off := 0x100004, lo := 5, w := 1, ty := .rwl }
def F.CLK_CTL_B_COLD : Fld := { off := 0x100004, lo := 4, w := 1, ty := .rwl }
def F.CLK_CTL_CLR_CNT : Fld := { off := 0x100004, lo := 0, w := 1, ty := .w1s }
/-- `CLK_CTL` (R713, 12_clocks_and_reset.md). -/
def RD.CLK_CTL : RegD := { base := 0x100004, dims := [], ao := true, lock := true, blk := some 12, flds := [F.CLK_CTL_RETRY_B, F.CLK_CTL_RETRY_A, F.CLK_CTL_SWITCH_TO, F.CLK_CTL_SWITCH, F.CLK_CTL_PERMIT, F.CLK_CTL_STANDING, F.CLK_CTL_B_COLD, F.CLK_CTL_CLR_CNT] }
def F.CLK_STS_A_STATE : Fld := { off := 0x100008, lo := 25, w := 3, ty := .ro }
def F.CLK_STS_B_STATE : Fld := { off := 0x100008, lo := 22, w := 3, ty := .ro }
def F.CLK_STS_SAMP_STATE : Fld := { off := 0x100008, lo := 20, w := 2, ty := .ro }
def F.CLK_STS_LREF_OK : Fld := { off := 0x100008, lo := 16, w := 4, ty := .ro }
def F.CLK_STS_SIO_FAIL : Fld := { off := 0x100008, lo := 15, w := 1, ty := .ro }
def F.CLK_STS_SWITCHING : Fld := { off := 0x100008, lo := 13, w := 1, ty := .ro }
def F.CLK_STS_PERMIT_WAIT : Fld := { off := 0x100008, lo := 12, w := 1, ty := .ro }
def F.CLK_STS_SAFE : Fld := { off := 0x100008, lo := 11, w := 1, ty := .ro }
def F.CLK_STS_SAFE_CAUSE : Fld := { off := 0x100008, lo := 9, w := 2, ty := .ro }
def F.CLK_STS_REF_SEL : Fld := { off := 0x100008, lo := 0, w := 2, ty := .ro, rst := fun _ _ _ => 2 }
/-- `CLK_STS` (R714, 12_clocks_and_reset.md). -/
def RD.CLK_STS : RegD := { base := 0x100008, dims := [], ao := true, lock := false, blk := some 12, flds := [F.CLK_STS_A_STATE, F.CLK_STS_B_STATE, F.CLK_STS_SAMP_STATE, F.CLK_STS_LREF_OK, F.CLK_STS_SIO_FAIL, F.CLK_STS_SWITCHING, F.CLK_STS_PERMIT_WAIT, F.CLK_STS_SAFE, F.CLK_STS_SAFE_CAUSE, F.CLK_STS_REF_SEL] }
def F.CLK_XTAL_CFG_A_EN : Fld := { off := 0x100010, lo := 31, w := 1, ty := .rwl, rst := fun _ _ _ => 1 }
def F.CLK_XTAL_CFG_A_BYPASS : Fld := { off := 0x100010, lo := 30, w := 1, ty := .rwl }
def F.CLK_XTAL_CFG_A_START_MS : Fld := { off := 0x100010, lo := 16, w := 8, ty := .rwl, rst := fun _ _ _ => 0x14 }
def F.CLK_XTAL_CFG_A_QUAL_GATES : Fld := { off := 0x100010, lo := 12, w := 4, ty := .rwl, rst := fun _ _ _ => 6 }
def F.CLK_XTAL_CFG_A_START_TRIES : Fld := { off := 0x100010, lo := 8, w := 4, ty := .rwl, rst := fun _ _ _ => 3 }
def F.CLK_XTAL_CFG_A_WIN : Fld := { off := 0x100010, lo := 0, w := 8, ty := .rwl, rst := fun _ _ _ => 0x3C }
/-- `CLK_XTAL_CFG_A` (R715, 12_clocks_and_reset.md). -/
def RD.CLK_XTAL_CFG_A : RegD := { base := 0x100010, dims := [], ao := true, lock := true, blk := some 12, flds := [F.CLK_XTAL_CFG_A_EN, F.CLK_XTAL_CFG_A_BYPASS, F.CLK_XTAL_CFG_A_START_MS, F.CLK_XTAL_CFG_A_QUAL_GATES, F.CLK_XTAL_CFG_A_START_TRIES, F.CLK_XTAL_CFG_A_WIN] }
def F.CLK_XTAL_CFG_B_EN : Fld := { off := 0x100014, lo := 31, w := 1, ty := .rwl }
def F.CLK_XTAL_CFG_B_BYPASS : Fld := { off := 0x100014, lo := 30, w := 1, ty := .rwl }
def F.CLK_XTAL_CFG_B_START_MS : Fld := { off := 0x100014, lo := 16, w := 8, ty := .rwl, rst := fun _ _ _ => 0x14 }
def F.CLK_XTAL_CFG_B_QUAL_GATES : Fld := { off := 0x100014, lo := 12, w := 4, ty := .rwl, rst := fun _ _ _ => 6 }
def F.CLK_XTAL_CFG_B_START_TRIES : Fld := { off := 0x100014, lo := 8, w := 4, ty := .rwl, rst := fun _ _ _ => 3 }
def F.CLK_XTAL_CFG_B_WIN : Fld := { off := 0x100014, lo := 0, w := 8, ty := .rwl, rst := fun _ _ _ => 0x3C }
/-- `CLK_XTAL_CFG_B` (R715, 12_clocks_and_reset.md). -/
def RD.CLK_XTAL_CFG_B : RegD := { base := 0x100014, dims := [], ao := true, lock := true, blk := some 12, flds := [F.CLK_XTAL_CFG_B_EN, F.CLK_XTAL_CFG_B_BYPASS, F.CLK_XTAL_CFG_B_START_MS, F.CLK_XTAL_CFG_B_QUAL_GATES, F.CLK_XTAL_CFG_B_START_TRIES, F.CLK_XTAL_CFG_B_WIN] }
def F.CLK_MON_CFG_HANG_CYC : Fld := { off := 0x100018, lo := 24, w := 8, ty := .rwl, rst := fun _ _ _ => 8 }
def F.CLK_MON_CFG_AUTO_PERMIT : Fld := { off := 0x100018, lo := 16, w := 8, ty := .rwl, rst := fun _ _ _ => 0xA }
def F.CLK_MON_CFG_SAMP_WIN : Fld := { off := 0x100018, lo := 8, w := 8, ty := .rwl, rst := fun _ _ _ => 0x64 }
def F.CLK_MON_CFG_XCHK_PPM : Fld := { off := 0x100018, lo := 0, w := 8, ty := .rwl, rst := fun _ _ _ => 0x32 }
/-- `CLK_MON_CFG` (R716, 12_clocks_and_reset.md). -/
def RD.CLK_MON_CFG : RegD := { base := 0x100018, dims := [], ao := true, lock := true, blk := some 12, flds := [F.CLK_MON_CFG_HANG_CYC, F.CLK_MON_CFG_AUTO_PERMIT, F.CLK_MON_CFG_SAMP_WIN, F.CLK_MON_CFG_XCHK_PPM] }
def F.CLK_MEAS_A_VALID : Fld := { off := 0x100020, lo := 31, w := 1, ty := .ro }
def F.CLK_MEAS_A_DEV : Fld := { off := 0x100020, lo := 0, w := 24, ty := .ro }
/-- `CLK_MEAS_A` (R717, 12_clocks_and_reset.md). -/
def RD.CLK_MEAS_A : RegD := { base := 0x100020, dims := [], ao := true, lock := false, blk := some 12, flds := [F.CLK_MEAS_A_VALID, F.CLK_MEAS_A_DEV] }
def F.CLK_MEAS_B_VALID : Fld := { off := 0x100024, lo := 31, w := 1, ty := .ro }
def F.CLK_MEAS_B_DEV : Fld := { off := 0x100024, lo := 0, w := 24, ty := .ro }
/-- `CLK_MEAS_B` (R717, 12_clocks_and_reset.md). -/
def RD.CLK_MEAS_B : RegD := { base := 0x100024, dims := [], ao := true, lock := false, blk := some 12, flds := [F.CLK_MEAS_B_VALID, F.CLK_MEAS_B_DEV] }
def F.CLK_MEAS_S_VALID : Fld := { off := 0x100028, lo := 31, w := 1, ty := .ro }
def F.CLK_MEAS_S_DEV : Fld := { off := 0x100028, lo := 0, w := 24, ty := .ro }
/-- `CLK_MEAS_S` (R717, 12_clocks_and_reset.md). -/
def RD.CLK_MEAS_S : RegD := { base := 0x100028, dims := [], ao := true, lock := false, blk := some 12, flds := [F.CLK_MEAS_S_VALID, F.CLK_MEAS_S_DEV] }
def F.CLK_CNT_TRIPS_A : Fld := { off := 0x10002C, lo := 24, w := 8, ty := .ro }
def F.CLK_CNT_TRIPS_B : Fld := { off := 0x10002C, lo := 16, w := 8, ty := .ro }
def F.CLK_CNT_TRIPS_S : Fld := { off := 0x10002C, lo := 8, w := 8, ty := .ro }
def F.CLK_CNT_FORCED : Fld := { off := 0x10002C, lo := 0, w := 8, ty := .ro }
/-- `CLK_CNT` (R718, 12_clocks_and_reset.md). -/
def RD.CLK_CNT : RegD := { base := 0x10002C, dims := [], ao := true, lock := false, blk := some 12, flds := [F.CLK_CNT_TRIPS_A, F.CLK_CNT_TRIPS_B, F.CLK_CNT_TRIPS_S, F.CLK_CNT_FORCED] }
def F.CLK_CNT2_SWITCHES : Fld := { off := 0x100030, lo := 16, w := 16, ty := .ro }
def F.CLK_CNT2_PERMIT_REFUSED : Fld := { off := 0x100030, lo := 8, w := 8, ty := .ro }
def F.CLK_CNT2_XCHK : Fld := { off := 0x100030, lo := 0, w := 8, ty := .ro }
/-- `CLK_CNT2` (R719, 12_clocks_and_reset.md). -/
def RD.CLK_CNT2 : RegD := { base := 0x100030, dims := [], ao := true, lock := false, blk := some 12, flds := [F.CLK_CNT2_SWITCHES, F.CLK_CNT2_PERMIT_REFUSED, F.CLK_CNT2_XCHK] }
def F.CLK_RST_CTL_KEY : Fld := { off := 0x100040, lo := 24, w := 8, ty := .wo }
def F.CLK_RST_CTL_CHIP : Fld := { off := 0x100040, lo := 1, w := 1, ty := .w1s }
def F.CLK_RST_CTL_CORE : Fld := { off := 0x100040, lo := 0, w := 1, ty := .w1s }
/-- `CLK_RST_CTL` (R720, 12_clocks_and_reset.md). -/
def RD.CLK_RST_CTL : RegD := { base := 0x100040, dims := [], ao := true, lock := true, blk := some 12, flds := [F.CLK_RST_CTL_KEY, F.CLK_RST_CTL_CHIP, F.CLK_RST_CTL_CORE] }
def F.CLK_RST_CAUSE_DOMAIN : Fld := { off := 0x100044, lo := 7, w := 1, ty := .w1c }
def F.CLK_RST_CAUSE_CORE_PWR : Fld := { off := 0x100044, lo := 6, w := 1, ty := .w1c }
def F.CLK_RST_CAUSE_THERMAL : Fld := { off := 0x100044, lo := 5, w := 1, ty := .w1c }
def F.CLK_RST_CAUSE_AO_WDT : Fld := { off := 0x100044, lo := 4, w := 1, ty := .w1c }
def F.CLK_RST_CAUSE_CORE_SW : Fld := { off := 0x100044, lo := 3, w := 1, ty := .w1c }
def F.CLK_RST_CAUSE_CHIP_SW : Fld := { off := 0x100044, lo := 2, w := 1, ty := .w1c }
def F.CLK_RST_CAUSE_PIN : Fld := { off := 0x100044, lo := 1, w := 1, ty := .w1c }
def F.CLK_RST_CAUSE_POR : Fld := { off := 0x100044, lo := 0, w := 1, ty := .w1c, rst := fun _ _ _ => 1 }
/-- `CLK_RST_CAUSE` (R721, 12_clocks_and_reset.md). -/
def RD.CLK_RST_CAUSE : RegD := { base := 0x100044, dims := [], ao := true, lock := false, blk := some 12, flds := [F.CLK_RST_CAUSE_DOMAIN, F.CLK_RST_CAUSE_CORE_PWR, F.CLK_RST_CAUSE_THERMAL, F.CLK_RST_CAUSE_AO_WDT, F.CLK_RST_CAUSE_CORE_SW, F.CLK_RST_CAUSE_CHIP_SW, F.CLK_RST_CAUSE_PIN, F.CLK_RST_CAUSE_POR] }
def F.CLK_BOOT_STS_CORE_ON : Fld := { off := 0x100048, lo := 4, w := 1, ty := .ro }
def F.CLK_BOOT_STS_BOOT_STATE : Fld := { off := 0x100048, lo := 0, w := 4, ty := .ro }
/-- `CLK_BOOT_STS` (R722, 12_clocks_and_reset.md). -/
def RD.CLK_BOOT_STS : RegD := { base := 0x100048, dims := [], ao := true, lock := false, blk := some 12, flds := [F.CLK_BOOT_STS_CORE_ON, F.CLK_BOOT_STS_BOOT_STATE] }
def F.PWR_OWNER_CLAIM_CONFLICT : Fld := { off := 0x200000, lo := 8, w := 1, ty := .w1c }
def F.PWR_OWNER_OWNER : Fld := { off := 0x200000, lo := 0, w := 2, ty := .rw }
/-- `PWR_OWNER` (R753, 13_power_thermal_budget.md). -/
def RD.PWR_OWNER : RegD := { base := 0x200000, dims := [], ao := true, lock := false, blk := some 13, flds := [F.PWR_OWNER_CLAIM_CONFLICT, F.PWR_OWNER_OWNER] }
def F.PWR_CTL_COOL_S : Fld := { off := 0x200004, lo := 16, w := 8, ty := .rwl, rst := fun _ _ _ => 0x3C }
def F.PWR_CTL_AUTO_MAX : Fld := { off := 0x200004, lo := 12, w := 4, ty := .rwl, rst := fun _ _ _ => 3 }
def F.PWR_CTL_AUTO_RESTART : Fld := { off := 0x200004, lo := 2, w := 1, ty := .rwl }
def F.PWR_CTL_RESTART : Fld := { off := 0x200004, lo := 1, w := 1, ty := .w1s }
def F.PWR_CTL_CLR_CNT : Fld := { off := 0x200004, lo := 0, w := 1, ty := .w1s }
/-- `PWR_CTL` (R754, 13_power_thermal_budget.md). -/
def RD.PWR_CTL : RegD := { base := 0x200004, dims := [], ao := true, lock := true, blk := some 13, flds := [F.PWR_CTL_COOL_S, F.PWR_CTL_AUTO_MAX, F.PWR_CTL_AUTO_RESTART, F.PWR_CTL_RESTART, F.PWR_CTL_CLR_CNT] }
def F.PWR_STS_RESTART_REFUSED : Fld := { off := 0x200008, lo := 24, w := 8, ty := .ro }
def F.PWR_STS_AUTO_DONE : Fld := { off := 0x200008, lo := 20, w := 4, ty := .ro }
def F.PWR_STS_QUEUED : Fld := { off := 0x200008, lo := 10, w := 7, ty := .ro }
def F.PWR_STS_STOP_CAUSE : Fld := { off := 0x200008, lo := 8, w := 2, ty := .ro }
def F.PWR_STS_LINK1_ON : Fld := { off := 0x200008, lo := 2, w := 1, ty := .ro }
def F.PWR_STS_LINK0_ON : Fld := { off := 0x200008, lo := 1, w := 1, ty := .ro }
def F.PWR_STS_CORE_ON : Fld := { off := 0x200008, lo := 0, w := 1, ty := .ro }
/-- `PWR_STS` (R755, 13_power_thermal_budget.md). -/
def RD.PWR_STS : RegD := { base := 0x200008, dims := [], ao := true, lock := false, blk := some 13, flds := [F.PWR_STS_RESTART_REFUSED, F.PWR_STS_AUTO_DONE, F.PWR_STS_QUEUED, F.PWR_STS_STOP_CAUSE, F.PWR_STS_LINK1_ON, F.PWR_STS_LINK0_ON, F.PWR_STS_CORE_ON] }
def F.PWR_LADDER_GAP_US : Fld := { off := 0x20000C, lo := 8, w := 8, ty := .rwl, rst := fun _ _ _ => 0x14 }
def F.PWR_LADDER_MAX_A : Fld := { off := 0x20000C, lo := 0, w := 8, ty := .rwl, rst := fun _ _ _ => 0x3C }
/-- `PWR_LADDER` (R756, 13_power_thermal_budget.md). -/
def RD.PWR_LADDER : RegD := { base := 0x20000C, dims := [], ao := true, lock := true, blk := some 13, flds := [F.PWR_LADDER_GAP_US, F.PWR_LADDER_MAX_A] }
def F.PWR_LADDER_CNT_STEPS : Fld := { off := 0x200010, lo := 16, w := 16, ty := .ro }
def F.PWR_LADDER_CNT_MERGED : Fld := { off := 0x200010, lo := 8, w := 8, ty := .ro }
def F.PWR_LADDER_CNT_URGENT : Fld := { off := 0x200010, lo := 0, w := 8, ty := .ro }
/-- `PWR_LADDER_CNT` (R757, 13_power_thermal_budget.md). -/
def RD.PWR_LADDER_CNT : RegD := { base := 0x200010, dims := [], ao := true, lock := false, blk := some 13, flds := [F.PWR_LADDER_CNT_STEPS, F.PWR_LADDER_CNT_MERGED, F.PWR_LADDER_CNT_URGENT] }
def F.PWR_RAIL_MV : Fld := { off := 0x200040, lo := 16, w := 16, ty := .rwl, s1 := 0x4, rst := fun i _ _ => listAt railMv i }
def F.PWR_RAIL_SCALE : Fld := { off := 0x200040, lo := 0, w := 16, ty := .rwl, s1 := 0x4, rst := fun i _ _ => listAt railScale i }
/-- `PWR_RAIL_r` (R758, 13_power_thermal_budget.md). -/
def RD.PWR_RAIL : RegD := { base := 0x200040, dims := [(8, 0x4)], ao := true, lock := true, blk := some 13, flds := [F.PWR_RAIL_MV, F.PWR_RAIL_SCALE] }
def F.PWR_RAIL_I_VALID : Fld := { off := 0x200060, lo := 31, w := 1, ty := .ro, s1 := 0x4 }
def F.PWR_RAIL_I_CURRENT : Fld := { off := 0x200060, lo := 0, w := 24, ty := .ro, s1 := 0x4 }
/-- `PWR_RAIL_I_r` (R758, 13_power_thermal_budget.md). -/
def RD.PWR_RAIL_I : RegD := { base := 0x200060, dims := [(8, 0x4)], ao := true, lock := false, blk := some 13, flds := [F.PWR_RAIL_I_VALID, F.PWR_RAIL_I_CURRENT] }
def F.PWR_DOM_RETRY : Fld := { off := 0x200100, lo := 31, w := 1, ty := .w1s, s1 := 0x4 }
def F.PWR_DOM_WAKE_DI : Fld := { off := 0x200100, lo := 8, w := 8, ty := .ro, s1 := 0x4, rst := fun i _ _ => wakeStep i }
def F.PWR_DOM_CAUSE : Fld := { off := 0x200100, lo := 4, w := 2, ty := .ro, s1 := 0x4 }
def F.PWR_DOM_STATE : Fld := { off := 0x200100, lo := 0, w := 3, ty := .ro, s1 := 0x4 }
/-- `PWR_DOM_n` (R759, 13_power_thermal_budget.md). -/
def RD.PWR_DOM : RegD := { base := 0x200100, dims := [(82, 0x4)], ao := true, lock := false, blk := some 13, flds := [F.PWR_DOM_RETRY, F.PWR_DOM_WAKE_DI, F.PWR_DOM_CAUSE, F.PWR_DOM_STATE] }
def F.THM_THR_READMIT : Fld := { off := 0x201000, lo := 24, w := 8, ty := .rwl, rst := fun _ _ _ => 0x64 }
def F.THM_THR_SHUTDOWN : Fld := { off := 0x201000, lo := 16, w := 8, ty := .rwl, rst := fun _ _ _ => 0x73 }
def F.THM_THR_THROTTLE : Fld := { off := 0x201000, lo := 8, w := 8, ty := .rwl, rst := fun _ _ _ => 0x69 }
def F.THM_THR_WARN : Fld := { off := 0x201000, lo := 0, w := 8, ty := .rwl, rst := fun _ _ _ => 0x5F }
/-- `THM_THR` (R760, 13_power_thermal_budget.md). -/
def RD.THM_THR : RegD := { base := 0x201000, dims := [], ao := true, lock := true, blk := some 13, flds := [F.THM_THR_READMIT, F.THM_THR_SHUTDOWN, F.THM_THR_THROTTLE, F.THM_THR_WARN] }
def F.THM_THROTTLE_CFG_STEP_W : Fld := { off := 0x201004, lo := 24, w := 8, ty := .rwl, rst := fun _ _ _ => 0x18 }
def F.THM_THROTTLE_CFG_PERIOD : Fld := { off := 0x201004, lo := 16, w := 8, ty := .rwl, rst := fun _ _ _ => 5 }
def F.THM_THROTTLE_CFG_MAX_STEPS : Fld := { off := 0x201004, lo := 8, w := 8, ty := .rwl, rst := fun _ _ _ => 0x10 }
def F.THM_THROTTLE_CFG_RESTART_STEPS : Fld := { off := 0x201004, lo := 0, w := 8, ty := .rwl, rst := fun _ _ _ => 2 }
/-- `THM_THROTTLE_CFG` (R761, 13_power_thermal_budget.md). -/
def RD.THM_THROTTLE_CFG : RegD := { base := 0x201004, dims := [], ao := true, lock := true, blk := some 13, flds := [F.THM_THROTTLE_CFG_STEP_W, F.THM_THROTTLE_CFG_PERIOD, F.THM_THROTTLE_CFG_MAX_STEPS, F.THM_THROTTLE_CFG_RESTART_STEPS] }
def F.THM_STS_T_HOT : Fld := { off := 0x201008, lo := 16, w := 16, ty := .ro }
def F.THM_STS_HOT_SENSOR : Fld := { off := 0x201008, lo := 11, w := 5, ty := .ro }
def F.THM_STS_TRIP : Fld := { off := 0x201008, lo := 10, w := 1, ty := .ro }
def F.THM_STS_SHUTDOWN : Fld := { off := 0x201008, lo := 9, w := 1, ty := .ro }
def F.THM_STS_THROTTLE : Fld := { off := 0x201008, lo := 8, w := 1, ty := .ro }
def F.THM_STS_WARN : Fld := { off := 0x201008, lo := 7, w := 1, ty := .ro }
def F.THM_STS_CHECK_OFF : Fld := { off := 0x201008, lo := 6, w := 1, ty := .ro }
def F.THM_STS_STEPS : Fld := { off := 0x201008, lo := 0, w := 6, ty := .ro }
/-- `THM_STS` (R762, 13_power_thermal_budget.md). -/
def RD.THM_STS : RegD := { base := 0x201008, dims := [], ao := true, lock := false, blk := some 13, flds := [F.THM_STS_T_HOT, F.THM_STS_HOT_SENSOR, F.THM_STS_TRIP, F.THM_STS_SHUTDOWN, F.THM_STS_THROTTLE, F.THM_STS_WARN, F.THM_STS_CHECK_OFF, F.THM_STS_STEPS] }
def F.THM_SUSPECT_SUSPECT : Fld := { off := 0x20100C, lo := 0, w := 30, ty := .ro }
/-- `THM_SUSPECT` (R763, 13_power_thermal_budget.md). -/
def RD.THM_SUSPECT : RegD := { base := 0x20100C, dims := [], ao := true, lock := false, blk := some 13, flds := [F.THM_SUSPECT_SUSPECT] }
def F.THM_CNT_SHUTDOWNS : Fld := { off := 0x201010, lo := 24, w := 8, ty := .ro }
def F.THM_CNT_THROTTLES : Fld := { off := 0x201010, lo := 16, w := 8, ty := .ro }
def F.THM_CNT_WARNS : Fld := { off := 0x201010, lo := 8, w := 8, ty := .ro }
def F.THM_CNT_SUSPECTS : Fld := { off := 0x201010, lo := 0, w := 8, ty := .ro }
/-- `THM_CNT` (R764, 13_power_thermal_budget.md). -/
def RD.THM_CNT : RegD := { base := 0x201010, dims := [], ao := true, lock := false, blk := some 13, flds := [F.THM_CNT_SHUTDOWNS, F.THM_CNT_THROTTLES, F.THM_CNT_WARNS, F.THM_CNT_SUSPECTS] }
def F.THM_TS_RAW : Fld := { off := 0x201100, lo := 16, w := 16, ty := .ro, s1 := 0x4 }
def F.THM_TS_EFFECTIVE : Fld := { off := 0x201100, lo := 0, w := 16, ty := .ro, s1 := 0x4 }
/-- `THM_TS_n` (R765, 13_power_thermal_budget.md). -/
def RD.THM_TS : RegD := { base := 0x201100, dims := [(30, 0x4)], ao := true, lock := false, blk := some 13, flds := [F.THM_TS_RAW, F.THM_TS_EFFECTIVE] }
def F.THM_AGE_CFG_IRQ_EN : Fld := { off := 0x201200, lo := 31, w := 1, ty := .rwl }
def F.THM_AGE_CFG_IRQ_VEC : Fld := { off := 0x201200, lo := 24, w := 6, ty := .rwl }
def F.THM_AGE_CFG_PERIOD_H : Fld := { off := 0x201200, lo := 16, w := 8, ty := .rwl, rst := fun _ _ _ => 1 }
def F.THM_AGE_CFG_AGE_LIM : Fld := { off := 0x201200, lo := 0, w := 16, ty := .rwl, rst := fun _ _ _ => 0x1F4 }
/-- `THM_AGE_CFG` (R899, 16_electrical_package.md). -/
def RD.THM_AGE_CFG : RegD := { base := 0x201200, dims := [], ao := true, lock := true, blk := some 13, flds := [F.THM_AGE_CFG_IRQ_EN, F.THM_AGE_CFG_IRQ_VEC, F.THM_AGE_CFG_PERIOD_H, F.THM_AGE_CFG_AGE_LIM] }
def F.THM_AGE_VALID : Fld := { off := 0x201210, lo := 31, w := 1, ty := .ro, s1 := 0x4 }
def F.THM_AGE_WARN : Fld := { off := 0x201210, lo := 30, w := 1, ty := .w1c, s1 := 0x4 }
def F.THM_AGE_SLOW : Fld := { off := 0x201210, lo := 0, w := 16, ty := .ro, s1 := 0x4 }
/-- `THM_AGE_n` (R900, 16_electrical_package.md). -/
def RD.THM_AGE : RegD := { base := 0x201210, dims := [(8, 0x4)], ao := true, lock := false, blk := some 13, flds := [F.THM_AGE_VALID, F.THM_AGE_WARN, F.THM_AGE_SLOW] }
def F.THM_LIFE_HOURS : Fld := { off := 0x201240, lo := 0, w := 32, ty := .ro }
/-- `THM_LIFE` (R901, 16_electrical_package.md). -/
def RD.THM_LIFE : RegD := { base := 0x201240, dims := [], ao := true, lock := false, blk := some 13, flds := [F.THM_LIFE_HOURS] }
def F.BGV_CTL_CORR_SHIFT : Fld := { off := 0x202000, lo := 4, w := 4, ty := .rwl, rst := fun _ _ _ => 5 }
def F.BGV_CTL_EN : Fld := { off := 0x202000, lo := 0, w := 1, ty := .rwl, rst := fun _ _ _ => 1 }
/-- `BGV_CTL` (R766, 13_power_thermal_budget.md). -/
def RD.BGV_CTL : RegD := { base := 0x202000, dims := [], ao := true, lock := true, blk := some 13, flds := [F.BGV_CTL_CORR_SHIFT, F.BGV_CTL_EN] }
def F.BGV_BUDGET_BUDGET_W : Fld := { off := 0x202004, lo := 20, w := 12, ty := .rwl, rst := fun _ _ _ => 0x258 }
def F.BGV_BUDGET_UNSENSED_W : Fld := { off := 0x202004, lo := 12, w := 8, ty := .rwl, rst := fun _ _ _ => 6 }
def F.BGV_BUDGET_REL_MARGIN : Fld := { off := 0x202004, lo := 6, w := 6, ty := .rwl, rst := fun _ _ _ => 8 }
def F.BGV_BUDGET_REL_ROUNDS : Fld := { off := 0x202004, lo := 0, w := 6, ty := .rwl, rst := fun _ _ _ => 0x32 }
/-- `BGV_BUDGET` (R767, 13_power_thermal_budget.md). -/
def RD.BGV_BUDGET : RegD := { base := 0x202004, dims := [], ao := true, lock := true, blk := some 13, flds := [F.BGV_BUDGET_BUDGET_W, F.BGV_BUDGET_UNSENSED_W, F.BGV_BUDGET_REL_MARGIN, F.BGV_BUDGET_REL_ROUNDS] }
def F.BGV_STS_EXHAUSTED : Fld := { off := 0x202008, lo := 7, w := 1, ty := .ro }
def F.BGV_STS_DUTY_GRANT : Fld := { off := 0x202008, lo := 3, w := 4, ty := .ro, rst := fun _ _ _ => 8 }
def F.BGV_STS_DEFER : Fld := { off := 0x202008, lo := 2, w := 1, ty := .ro }
def F.BGV_STS_STAGE : Fld := { off := 0x202008, lo := 0, w := 2, ty := .ro }
/-- `BGV_STS` (R768, 13_power_thermal_budget.md). -/
def RD.BGV_STS : RegD := { base := 0x202008, dims := [], ao := true, lock := false, blk := some 13, flds := [F.BGV_STS_EXHAUSTED, F.BGV_STS_DUTY_GRANT, F.BGV_STS_DEFER, F.BGV_STS_STAGE] }
def F.BGV_EST_P_EST : Fld := { off := 0x20200C, lo := 16, w := 16, ty := .ro }
def F.BGV_EST_B_NOW : Fld := { off := 0x20200C, lo := 0, w := 16, ty := .ro }
/-- `BGV_EST` (R769, 13_power_thermal_budget.md). -/
def RD.BGV_EST : RegD := { base := 0x20200C, dims := [], ao := true, lock := false, blk := some 13, flds := [F.BGV_EST_P_EST, F.BGV_EST_B_NOW] }
def F.BGV_MEAS_P_MEAS : Fld := { off := 0x202010, lo := 16, w := 16, ty := .ro }
def F.BGV_MEAS_CORR : Fld := { off := 0x202010, lo := 0, w := 16, ty := .ro }
/-- `BGV_MEAS` (R769, 13_power_thermal_budget.md). -/
def RD.BGV_MEAS : RegD := { base := 0x202010, dims := [], ao := true, lock := false, blk := some 13, flds := [F.BGV_MEAS_P_MEAS, F.BGV_MEAS_CORR] }
def F.BGV_CNT_MUTED : Fld := { off := 0x202014, lo := 21, w := 11, ty := .ro }
def F.BGV_CNT_TICK_STEPS : Fld := { off := 0x202014, lo := 15, w := 6, ty := .ro }
def F.BGV_CNT_DEFERRED : Fld := { off := 0x202014, lo := 8, w := 7, ty := .ro }
def F.BGV_CNT_ACTIONS : Fld := { off := 0x202014, lo := 0, w := 8, ty := .ro }
/-- `BGV_CNT` (R770, 13_power_thermal_budget.md). -/
def RD.BGV_CNT : RegD := { base := 0x202014, dims := [], ao := true, lock := false, blk := some 13, flds := [F.BGV_CNT_MUTED, F.BGV_CNT_TICK_STEPS, F.BGV_CNT_DEFERRED, F.BGV_CNT_ACTIONS] }
def F.BGV_WEIGHT_WEIGHT : Fld := { off := 0x202040, lo := 0, w := 24, ty := .rwl, s1 := 0x4, rst := fun i _ _ => listAt bgvWeights i }
/-- `BGV_WEIGHT_k` (R771, 13_power_thermal_budget.md). -/
def RD.BGV_WEIGHT : RegD := { base := 0x202040, dims := [(8, 0x4)], ao := true, lock := true, blk := some 13, flds := [F.BGV_WEIGHT_WEIGHT] }
def F.BGV_STATIC_CC : Fld := { off := 0x202060, lo := 24, w := 8, ty := .rwl, rst := fun _ _ _ => 0x28 }
def F.BGV_STATIC_LINK : Fld := { off := 0x202060, lo := 16, w := 8, ty := .rwl, rst := fun _ _ _ => 8 }
def F.BGV_STATIC_SP : Fld := { off := 0x202060, lo := 8, w := 8, ty := .rwl, rst := fun _ _ _ => 0x19 }
def F.BGV_STATIC_LP : Fld := { off := 0x202060, lo := 0, w := 8, ty := .rwl, rst := fun _ _ _ => 6 }
/-- `BGV_STATIC` (R772, 13_power_thermal_budget.md). -/
def RD.BGV_STATIC : RegD := { base := 0x202060, dims := [], ao := true, lock := true, blk := some 13, flds := [F.BGV_STATIC_CC, F.BGV_STATIC_LINK, F.BGV_STATIC_SP, F.BGV_STATIC_LP] }
def F.BGV_DSLICE_MULT_GRANT : Fld := { off := 0x202080, lo := 4, w := 2, ty := .ro, s1 := 0x4 }
def F.BGV_DSLICE_PRIO : Fld := { off := 0x202080, lo := 0, w := 4, ty := .rwl, s1 := 0x4, rst := fun _ _ _ => 8 }
/-- `BGV_DSLICE_d` (R773, 13_power_thermal_budget.md). -/
def RD.BGV_DSLICE : RegD := { base := 0x202080, dims := [(16, 0x4)], ao := true, lock := true, blk := some 13, flds := [F.BGV_DSLICE_MULT_GRANT, F.BGV_DSLICE_PRIO] }
def F.BGV_MUTE_MUTE : Fld := { off := 0x202100, lo := 0, w := 32, ty := .ro, s1 := 0x4 }
/-- `BGV_MUTE_w` (R774, 13_power_thermal_budget.md). -/
def RD.BGV_MUTE : RegD := { base := 0x202100, dims := [(64, 0x4)], ao := true, lock := false, blk := some 13, flds := [F.BGV_MUTE_MUTE] }
def F.EVT_OWNER_CLAIM_CONFLICT : Fld := { off := 0x500000, lo := 8, w := 1, ty := .w1c }
def F.EVT_OWNER_OWNER : Fld := { off := 0x500000, lo := 0, w := 2, ty := .rw }
/-- `EVT_OWNER` (R796, 14_event_recorder.md). -/
def RD.EVT_OWNER : RegD := { base := 0x500000, dims := [], ao := true, lock := false, blk := some 14, flds := [F.EVT_OWNER_CLAIM_CONFLICT, F.EVT_OWNER_OWNER] }
def F.EVT_CTL_ANCHOR_S : Fld := { off := 0x500004, lo := 24, w := 8, ty := .rwl, rst := fun _ _ _ => 0x3C }
def F.EVT_CTL_ARCH_EN : Fld := { off := 0x500004, lo := 2, w := 1, ty := .rwl, rst := fun _ _ _ => 1 }
def F.EVT_CTL_CLR_CNT : Fld := { off := 0x500004, lo := 0, w := 1, ty := .w1s }
/-- `EVT_CTL` (R797, 14_event_recorder.md). -/
def RD.EVT_CTL : RegD := { base := 0x500004, dims := [], ao := true, lock := true, blk := some 14, flds := [F.EVT_CTL_ANCHOR_S, F.EVT_CTL_ARCH_EN, F.EVT_CTL_CLR_CNT] }
def F.EVT_STS_QMAX : Fld := { off := 0x500008, lo := 24, w := 8, ty := .ro }
def F.EVT_STS_QDEPTH : Fld := { off := 0x500008, lo := 16, w := 8, ty := .ro }
def F.EVT_STS_CLEAR_LOCK : Fld := { off := 0x500008, lo := 4, w := 1, ty := .ro }
def F.EVT_STS_ARCH_WAIT : Fld := { off := 0x500008, lo := 3, w := 1, ty := .ro }
def F.EVT_STS_UNBOUND : Fld := { off := 0x500008, lo := 2, w := 1, ty := .ro }
def F.EVT_STS_UNSURE : Fld := { off := 0x500008, lo := 1, w := 1, ty := .ro }
def F.EVT_STS_RESUMED : Fld := { off := 0x500008, lo := 0, w := 1, ty := .ro }
/-- `EVT_STS` (R798, 14_event_recorder.md). -/
def RD.EVT_STS : RegD := { base := 0x500008, dims := [], ao := true, lock := false, blk := some 14, flds := [F.EVT_STS_QMAX, F.EVT_STS_QDEPTH, F.EVT_STS_CLEAR_LOCK, F.EVT_STS_ARCH_WAIT, F.EVT_STS_UNBOUND, F.EVT_STS_UNSURE, F.EVT_STS_RESUMED] }
def F.EVT_HEAD_LO_SEQ_LO : Fld := { off := 0x50000C, lo := 0, w := 32, ty := .ro }
/-- `EVT_HEAD_LO` (R799, 14_event_recorder.md). -/
def RD.EVT_HEAD_LO : RegD := { base := 0x50000C, dims := [], ao := true, lock := false, blk := some 14, flds := [F.EVT_HEAD_LO_SEQ_LO] }
def F.EVT_HEAD_HI_VALID : Fld := { off := 0x500010, lo := 31, w := 1, ty := .ro }
def F.EVT_HEAD_HI_SEQ_HI : Fld := { off := 0x500010, lo := 0, w := 16, ty := .ro }
/-- `EVT_HEAD_HI` (R799, 14_event_recorder.md). -/
def RD.EVT_HEAD_HI : RegD := { base := 0x500010, dims := [], ao := true, lock := false, blk := some 14, flds := [F.EVT_HEAD_HI_VALID, F.EVT_HEAD_HI_SEQ_HI] }
def F.EVT_TAIL_LO_SEQ_LO : Fld := { off := 0x500014, lo := 0, w := 32, ty := .ro }
/-- `EVT_TAIL_LO` (R799, 14_event_recorder.md). -/
def RD.EVT_TAIL_LO : RegD := { base := 0x500014, dims := [], ao := true, lock := false, blk := some 14, flds := [F.EVT_TAIL_LO_SEQ_LO] }
def F.EVT_TAIL_HI_VALID : Fld := { off := 0x500018, lo := 31, w := 1, ty := .ro }
def F.EVT_TAIL_HI_SEQ_HI : Fld := { off := 0x500018, lo := 0, w := 16, ty := .ro }
/-- `EVT_TAIL_HI` (R799, 14_event_recorder.md). -/
def RD.EVT_TAIL_HI : RegD := { base := 0x500018, dims := [], ao := true, lock := false, blk := some 14, flds := [F.EVT_TAIL_HI_VALID, F.EVT_TAIL_HI_SEQ_HI] }
def F.EVT_TIME_LO_TIME_LO : Fld := { off := 0x50001C, lo := 0, w := 32, ty := .ro }
/-- `EVT_TIME_LO` (R800, 14_event_recorder.md). -/
def RD.EVT_TIME_LO : RegD := { base := 0x50001C, dims := [], ao := true, lock := false, blk := some 14, flds := [F.EVT_TIME_LO_TIME_LO] }
def F.EVT_TIME_HI_TIME_HI : Fld := { off := 0x500020, lo := 0, w := 16, ty := .ro }
/-- `EVT_TIME_HI` (R800, 14_event_recorder.md). -/
def RD.EVT_TIME_HI : RegD := { base := 0x500020, dims := [], ao := true, lock := false, blk := some 14, flds := [F.EVT_TIME_HI_TIME_HI] }
def F.EVT_PCYCLE_PCYCLE : Fld := { off := 0x500024, lo := 0, w := 24, ty := .ro }
/-- `EVT_PCYCLE` (R800, 14_event_recorder.md). -/
def RD.EVT_PCYCLE : RegD := { base := 0x500024, dims := [], ao := true, lock := false, blk := some 14, flds := [F.EVT_PCYCLE_PCYCLE] }
def F.EVT_CNT_LOST : Fld := { off := 0x500028, lo := 16, w := 16, ty := .ro }
def F.EVT_CNT_UNARCHIVED : Fld := { off := 0x500028, lo := 0, w := 16, ty := .ro }
/-- `EVT_CNT` (R801, 14_event_recorder.md). -/
def RD.EVT_CNT : RegD := { base := 0x500028, dims := [], ao := true, lock := false, blk := some 14, flds := [F.EVT_CNT_LOST, F.EVT_CNT_UNARCHIVED] }
def F.EVT_CNT2_SUPPRESSED : Fld := { off := 0x50002C, lo := 0, w := 32, ty := .ro }
/-- `EVT_CNT2` (R801, 14_event_recorder.md). -/
def RD.EVT_CNT2 : RegD := { base := 0x50002C, dims := [], ao := true, lock := false, blk := some 14, flds := [F.EVT_CNT2_SUPPRESSED] }
def F.EVT_CAL_LO_CAL_LO : Fld := { off := 0x500030, lo := 0, w := 32, ty := .rwl }
/-- `EVT_CAL_LO` (R802, 14_event_recorder.md). -/
def RD.EVT_CAL_LO : RegD := { base := 0x500030, dims := [], ao := true, lock := true, blk := some 14, flds := [F.EVT_CAL_LO_CAL_LO] }
def F.EVT_CAL_HI_SET : Fld := { off := 0x500034, lo := 31, w := 1, ty := .w1s }
def F.EVT_CAL_HI_VALID : Fld := { off := 0x500034, lo := 30, w := 1, ty := .ro }
def F.EVT_CAL_HI_CAL_HI : Fld := { off := 0x500034, lo := 0, w := 16, ty := .rwl }
/-- `EVT_CAL_HI` (R802, 14_event_recorder.md). -/
def RD.EVT_CAL_HI : RegD := { base := 0x500034, dims := [], ao := true, lock := true, blk := some 14, flds := [F.EVT_CAL_HI_SET, F.EVT_CAL_HI_VALID, F.EVT_CAL_HI_CAL_HI] }
def F.EVT_ARCH_STS_LO_NEWEST_LO : Fld := { off := 0x500040, lo := 0, w := 32, ty := .ro }
/-- `EVT_ARCH_STS_LO` (R803, 14_event_recorder.md). -/
def RD.EVT_ARCH_STS_LO : RegD := { base := 0x500040, dims := [], ao := true, lock := false, blk := some 14, flds := [F.EVT_ARCH_STS_LO_NEWEST_LO] }
def F.EVT_ARCH_STS_HI_VALID : Fld := { off := 0x500044, lo := 31, w := 1, ty := .ro }
def F.EVT_ARCH_STS_HI_NEWEST_HI : Fld := { off := 0x500044, lo := 0, w := 16, ty := .ro }
/-- `EVT_ARCH_STS_HI` (R803, 14_event_recorder.md). -/
def RD.EVT_ARCH_STS_HI : RegD := { base := 0x500044, dims := [], ao := true, lock := false, blk := some 14, flds := [F.EVT_ARCH_STS_HI_VALID, F.EVT_ARCH_STS_HI_NEWEST_HI] }
def F.EVT_ARCH_RD_LO_SEQ_LO : Fld := { off := 0x500050, lo := 0, w := 32, ty := .rwl }
/-- `EVT_ARCH_RD_LO` (R804, 14_event_recorder.md). -/
def RD.EVT_ARCH_RD_LO : RegD := { base := 0x500050, dims := [], ao := true, lock := true, blk := some 14, flds := [F.EVT_ARCH_RD_LO_SEQ_LO] }
def F.EVT_ARCH_RD_HI_GO : Fld := { off := 0x500054, lo := 31, w := 1, ty := .w1s }
def F.EVT_ARCH_RD_HI_BUSY : Fld := { off := 0x500054, lo := 30, w := 1, ty := .ro }
def F.EVT_ARCH_RD_HI_RESULT : Fld := { off := 0x500054, lo := 28, w := 2, ty := .ro }
def F.EVT_ARCH_RD_HI_SEQ_HI : Fld := { off := 0x500054, lo := 0, w := 16, ty := .rwl }
/-- `EVT_ARCH_RD_HI` (R804, 14_event_recorder.md). -/
def RD.EVT_ARCH_RD_HI : RegD := { base := 0x500054, dims := [], ao := true, lock := true, blk := some 14, flds := [F.EVT_ARCH_RD_HI_GO, F.EVT_ARCH_RD_HI_BUSY, F.EVT_ARCH_RD_HI_RESULT, F.EVT_ARCH_RD_HI_SEQ_HI] }
def F.EVT_ARCH_BUF_DATA : Fld := { off := 0x500080, lo := 0, w := 32, ty := .ro, s1 := 0x4 }
/-- `EVT_ARCH_BUF_w` (R804, 14_event_recorder.md). -/
def RD.EVT_ARCH_BUF : RegD := { base := 0x500080, dims := [(16, 0x4)], ao := true, lock := false, blk := some 14, flds := [F.EVT_ARCH_BUF_DATA] }
def F.EVT_CLR_CTL_GO : Fld := { off := 0x500100, lo := 31, w := 1, ty := .w1s }
def F.EVT_CLR_CTL_NONCE_REQ : Fld := { off := 0x500100, lo := 30, w := 1, ty := .w1s }
def F.EVT_CLR_CTL_BUSY : Fld := { off := 0x500100, lo := 29, w := 1, ty := .ro }
def F.EVT_CLR_CTL_RESULT : Fld := { off := 0x500100, lo := 26, w := 3, ty := .ro }
def F.EVT_CLR_CTL_FAILS : Fld := { off := 0x500100, lo := 4, w := 4, ty := .ro }
/-- `EVT_CLR_CTL` (R805, 14_event_recorder.md). -/
def RD.EVT_CLR_CTL : RegD := { base := 0x500100, dims := [], ao := true, lock := true, blk := some 14, flds := [F.EVT_CLR_CTL_GO, F.EVT_CLR_CTL_NONCE_REQ, F.EVT_CLR_CTL_BUSY, F.EVT_CLR_CTL_RESULT, F.EVT_CLR_CTL_FAILS] }
def F.EVT_NONCE_NONCE : Fld := { off := 0x500110, lo := 0, w := 32, ty := .ro, s1 := 0x4 }
/-- `EVT_NONCE_i` (R806, 14_event_recorder.md). -/
def RD.EVT_NONCE : RegD := { base := 0x500110, dims := [(4, 0x4)], ao := true, lock := false, blk := some 14, flds := [F.EVT_NONCE_NONCE] }
def F.EVT_AUTH_AUTH : Fld := { off := 0x500120, lo := 0, w := 32, ty := .rwl, s1 := 0x4 }
/-- `EVT_AUTH_i` (R806, 14_event_recorder.md). -/
def RD.EVT_AUTH : RegD := { base := 0x500120, dims := [(4, 0x4)], ao := true, lock := true, blk := some 14, flds := [F.EVT_AUTH_AUTH] }
def F.EVT_CLR_TO_LO_CLR_TO_LO : Fld := { off := 0x500130, lo := 0, w := 32, ty := .rwl }
/-- `EVT_CLR_TO_LO` (R806, 14_event_recorder.md). -/
def RD.EVT_CLR_TO_LO : RegD := { base := 0x500130, dims := [], ao := true, lock := true, blk := some 14, flds := [F.EVT_CLR_TO_LO_CLR_TO_LO] }
def F.EVT_CLR_TO_HI_CLR_TO_HI : Fld := { off := 0x500134, lo := 0, w := 16, ty := .rwl }
/-- `EVT_CLR_TO_HI` (R806, 14_event_recorder.md). -/
def RD.EVT_CLR_TO_HI : RegD := { base := 0x500134, dims := [], ao := true, lock := true, blk := some 14, flds := [F.EVT_CLR_TO_HI_CLR_TO_HI] }
def F.EVT_IRQ_UNBOUND : Fld := { off := 0x500140, lo := 3, w := 1, ty := .w1c }
def F.EVT_IRQ_ARCH_ERR : Fld := { off := 0x500140, lo := 2, w := 1, ty := .w1c }
def F.EVT_IRQ_LOST : Fld := { off := 0x500140, lo := 1, w := 1, ty := .w1c }
def F.EVT_IRQ_NOTIFY : Fld := { off := 0x500140, lo := 0, w := 1, ty := .w1c }
/-- `EVT_IRQ` (R807, 14_event_recorder.md). -/
def RD.EVT_IRQ : RegD := { base := 0x500140, dims := [], ao := true, lock := false, blk := some 14, flds := [F.EVT_IRQ_UNBOUND, F.EVT_IRQ_ARCH_ERR, F.EVT_IRQ_LOST, F.EVT_IRQ_NOTIFY] }
def F.EVT_IRQ_CFG_ALERT_MASK : Fld := { off := 0x500144, lo := 16, w := 4, ty := .rwl }
def F.EVT_IRQ_CFG_IRQ_MASK : Fld := { off := 0x500144, lo := 8, w := 4, ty := .rwl }
def F.EVT_IRQ_CFG_IRQ_VEC : Fld := { off := 0x500144, lo := 0, w := 6, ty := .rwl }
/-- `EVT_IRQ_CFG` (R808, 14_event_recorder.md). -/
def RD.EVT_IRQ_CFG : RegD := { base := 0x500144, dims := [], ao := true, lock := true, blk := some 14, flds := [F.EVT_IRQ_CFG_ALERT_MASK, F.EVT_IRQ_CFG_IRQ_MASK, F.EVT_IRQ_CFG_IRQ_VEC] }
def F.EVT_SNAP_EN : Fld := { off := 0x501000, lo := 31, w := 1, ty := .rwl, s1 := 0x20, s2 := 0x4 }
def F.EVT_SNAP_OFFSET : Fld := { off := 0x501000, lo := 2, w := 25, ty := .rwl, s1 := 0x20, s2 := 0x4 }
/-- `EVT_SNAP_l_i` (R809, 14_event_recorder.md). -/
def RD.EVT_SNAP : RegD := { base := 0x501000, dims := [(64, 0x20), (8, 0x4)], ao := true, lock := true, blk := some 14, flds := [F.EVT_SNAP_EN, F.EVT_SNAP_OFFSET] }
def F.EVT_CODE_BURST : Fld := { off := 0x502000, lo := 24, w := 8, ty := .rwl, s1 := 0x4, rst := fun i _ _ => if i < 0x20 then 0 else 16 }
def F.EVT_CODE_REFILL : Fld := { off := 0x502000, lo := 12, w := 12, ty := .rwl, s1 := 0x4, rst := fun i _ _ => if i < 0x20 then 0 else 10 }
def F.EVT_CODE_SNAP_EN : Fld := { off := 0x502000, lo := 11, w := 1, ty := .rwl, s1 := 0x4 }
def F.EVT_CODE_SNAP_LIST : Fld := { off := 0x502000, lo := 5, w := 6, ty := .rwl, s1 := 0x4 }
def F.EVT_CODE_NOTIFY : Fld := { off := 0x502000, lo := 4, w := 1, ty := .rwl, s1 := 0x4 }
/-- `EVT_CODE_c` (R810, 14_event_recorder.md). -/
def RD.EVT_CODE : RegD := { base := 0x502000, dims := [(512, 0x4)], ao := true, lock := true, blk := some 14, flds := [F.EVT_CODE_BURST, F.EVT_CODE_REFILL, F.EVT_CODE_SNAP_EN, F.EVT_CODE_SNAP_LIST, F.EVT_CODE_NOTIFY] }
def F.EVT_CODE_STS_PENDING : Fld := { off := 0x503000, lo := 16, w := 16, ty := .ro, s1 := 0x4 }
def F.EVT_CODE_STS_TOKENS : Fld := { off := 0x503000, lo := 0, w := 8, ty := .ro, s1 := 0x4, rst := fun _ _ _ => 0x10 }
/-- `EVT_CODE_STS_c` (R811, 14_event_recorder.md). -/
def RD.EVT_CODE_STS : RegD := { base := 0x503000, dims := [(512, 0x4)], ao := true, lock := false, blk := some 14, flds := [F.EVT_CODE_STS_PENDING, F.EVT_CODE_STS_TOKENS] }
def F.EVT_RING_DATA : Fld := { off := 0x510000, lo := 0, w := 32, ty := .ro, s1 := 0x40, s2 := 0x4 }
/-- `EVT_RING_k_w` (R812, 14_event_recorder.md). -/
def RD.EVT_RING : RegD := { base := 0x510000, dims := [(2048, 0x40), (16, 0x4)], ao := true, lock := false, blk := some 14, flds := [F.EVT_RING_DATA] }
def F.MLD_OWNER_CLAIM_CONFLICT : Fld := { off := 0x600000, lo := 8, w := 1, ty := .w1c }
def F.MLD_OWNER_OWNER : Fld := { off := 0x600000, lo := 0, w := 2, ty := .rw }
/-- `MLD_OWNER` (R80, 01_structure_and_mould.md). -/
def RD.MLD_OWNER : RegD := { base := 0x600000, dims := [], ao := false, lock := false, blk := some 0, flds := [F.MLD_OWNER_CLAIM_CONFLICT, F.MLD_OWNER_OWNER] }
def F.MLD_CTL_USE_PREFERRED : Fld := { off := 0x600004, lo := 5, w := 1, ty := .rw, rst := fun _ _ _ => 1 }
def F.MLD_CTL_SLOT : Fld := { off := 0x600004, lo := 4, w := 1, ty := .rw }
def F.MLD_CTL_CMD : Fld := { off := 0x600004, lo := 0, w := 4, ty := .wo }
/-- `MLD_CTL` (R81, 01_structure_and_mould.md). -/
def RD.MLD_CTL : RegD := { base := 0x600004, dims := [], ao := false, lock := true, blk := some 0, flds := [F.MLD_CTL_USE_PREFERRED, F.MLD_CTL_SLOT, F.MLD_CTL_CMD] }
def F.MLD_STS_DELTAS : Fld := { off := 0x600008, lo := 16, w := 8, ty := .ro }
def F.MLD_STS_TRIAL_LEFT : Fld := { off := 0x600008, lo := 12, w := 4, ty := .ro }
def F.MLD_STS_BUSY : Fld := { off := 0x600008, lo := 7, w := 1, ty := .ro }
def F.MLD_STS_HOSTLESS : Fld := { off := 0x600008, lo := 6, w := 1, ty := .ro }
def F.MLD_STS_TRIAL : Fld := { off := 0x600008, lo := 5, w := 1, ty := .ro }
def F.MLD_STS_ACTIVE_SLOT : Fld := { off := 0x600008, lo := 4, w := 1, ty := .ro }
def F.MLD_STS_BOOT_STATE : Fld := { off := 0x600008, lo := 0, w := 4, ty := .ro, rst := fun _ _ _ => 2 }
/-- `MLD_STS` (R82, 01_structure_and_mould.md). -/
def RD.MLD_STS : RegD := { base := 0x600008, dims := [], ao := false, lock := false, blk := some 0, flds := [F.MLD_STS_DELTAS, F.MLD_STS_TRIAL_LEFT, F.MLD_STS_BUSY, F.MLD_STS_HOSTLESS, F.MLD_STS_TRIAL, F.MLD_STS_ACTIVE_SLOT, F.MLD_STS_BOOT_STATE] }
def F.MLD_ERR_NEW : Fld := { off := 0x60000C, lo := 31, w := 1, ty := .w1c }
def F.MLD_ERR_SOURCE : Fld := { off := 0x60000C, lo := 16, w := 4, ty := .ro }
def F.MLD_ERR_SECTION : Fld := { off := 0x60000C, lo := 8, w := 8, ty := .ro }
def F.MLD_ERR_CODE : Fld := { off := 0x60000C, lo := 0, w := 8, ty := .ro }
/-- `MLD_ERR` (R83, 01_structure_and_mould.md). -/
def RD.MLD_ERR : RegD := { base := 0x60000C, dims := [], ao := false, lock := false, blk := some 0, flds := [F.MLD_ERR_NEW, F.MLD_ERR_SOURCE, F.MLD_ERR_SECTION, F.MLD_ERR_CODE] }
def F.MLD_IMG_VER_VERSION : Fld := { off := 0x600010, lo := 0, w := 32, ty := .ro }
/-- `MLD_IMG_VER` (R84, 01_structure_and_mould.md). -/
def RD.MLD_IMG_VER : RegD := { base := 0x600010, dims := [], ao := false, lock := false, blk := some 0, flds := [F.MLD_IMG_VER_VERSION] }
def F.MLD_STAGE_ADDR_ADDR64 : Fld := { off := 0x600014, lo := 0, w := 32, ty := .rw }
/-- `MLD_STAGE_ADDR` (R85, 01_structure_and_mould.md). -/
def RD.MLD_STAGE_ADDR : RegD := { base := 0x600014, dims := [], ao := false, lock := true, blk := some 0, flds := [F.MLD_STAGE_ADDR_ADDR64] }
def F.MLD_STAGE_LEN_LENGTH : Fld := { off := 0x600018, lo := 0, w := 24, ty := .rw }
/-- `MLD_STAGE_LEN` (R86, 01_structure_and_mould.md). -/
def RD.MLD_STAGE_LEN : RegD := { base := 0x600018, dims := [], ao := false, lock := true, blk := some 0, flds := [F.MLD_STAGE_LEN_LENGTH] }
def F.MLD_REMOULD_STS_STREAMS_PENDING : Fld := { off := 0x60001C, lo := 16, w := 16, ty := .ro }
def F.MLD_REMOULD_STS_INDEX : Fld := { off := 0x60001C, lo := 8, w := 8, ty := .ro }
def F.MLD_REMOULD_STS_KIND : Fld := { off := 0x60001C, lo := 2, w := 1, ty := .ro }
def F.MLD_REMOULD_STS_PHASE : Fld := { off := 0x60001C, lo := 0, w := 2, ty := .ro }
/-- `MLD_REMOULD_STS` (R87, 01_structure_and_mould.md). -/
def RD.MLD_REMOULD_STS : RegD := { base := 0x60001C, dims := [], ao := false, lock := false, blk := some 0, flds := [F.MLD_REMOULD_STS_STREAMS_PENDING, F.MLD_REMOULD_STS_INDEX, F.MLD_REMOULD_STS_KIND, F.MLD_REMOULD_STS_PHASE] }
def F.MLD_SEC_ROLLBACK : Fld := { off := 0x600020, lo := 8, w := 7, ty := .ro }
def F.MLD_SEC_KEY_USED : Fld := { off := 0x600020, lo := 4, w := 1, ty := .ro }
def F.MLD_SEC_KEY1_REVOKED : Fld := { off := 0x600020, lo := 3, w := 1, ty := .ro }
def F.MLD_SEC_KEY1_SET : Fld := { off := 0x600020, lo := 2, w := 1, ty := .ro }
def F.MLD_SEC_KEY0_REVOKED : Fld := { off := 0x600020, lo := 1, w := 1, ty := .ro }
def F.MLD_SEC_KEY0_SET : Fld := { off := 0x600020, lo := 0, w := 1, ty := .ro }
/-- `MLD_SEC` (R88, 01_structure_and_mould.md). -/
def RD.MLD_SEC : RegD := { base := 0x600020, dims := [], ao := false, lock := false, blk := some 0, flds := [F.MLD_SEC_ROLLBACK, F.MLD_SEC_KEY_USED, F.MLD_SEC_KEY1_REVOKED, F.MLD_SEC_KEY1_SET, F.MLD_SEC_KEY0_REVOKED, F.MLD_SEC_KEY0_SET] }
def F.MLD_DISCARD_CNT_COUNT : Fld := { off := 0x600024, lo := 0, w := 32, ty := .ro }
/-- `MLD_DISCARD_CNT` (R89, 01_structure_and_mould.md). -/
def RD.MLD_DISCARD_CNT : RegD := { base := 0x600024, dims := [], ao := false, lock := false, blk := some 0, flds := [F.MLD_DISCARD_CNT_COUNT] }
def F.MLD_BOOT_CNT_FULL_LOADS : Fld := { off := 0x600028, lo := 16, w := 16, ty := .ro }
def F.MLD_BOOT_CNT_SLOT_FALLBACKS : Fld := { off := 0x600028, lo := 0, w := 16, ty := .ro }
/-- `MLD_BOOT_CNT` (R90, 01_structure_and_mould.md). -/
def RD.MLD_BOOT_CNT : RegD := { base := 0x600028, dims := [], ao := false, lock := false, blk := some 0, flds := [F.MLD_BOOT_CNT_FULL_LOADS, F.MLD_BOOT_CNT_SLOT_FALLBACKS] }
def F.MLD_PLACE_SHADOW_SP : Fld := { off := 0x604000, lo := 24, w := 6, ty := .ro, s1 := 0x4 }
def F.MLD_PLACE_DONOR_SLICE : Fld := { off := 0x604000, lo := 18, w := 4, ty := .ro, s1 := 0x4 }
def F.MLD_PLACE_RATE : Fld := { off := 0x604000, lo := 16, w := 2, ty := .ro, s1 := 0x4 }
def F.MLD_PLACE_EPOCH : Fld := { off := 0x604000, lo := 8, w := 8, ty := .ro, s1 := 0x4 }
def F.MLD_PLACE_SP : Fld := { off := 0x604000, lo := 2, w := 6, ty := .ro, s1 := 0x4 }
def F.MLD_PLACE_SHADOW : Fld := { off := 0x604000, lo := 1, w := 1, ty := .ro, s1 := 0x4 }
def F.MLD_PLACE_VALID : Fld := { off := 0x604000, lo := 0, w := 1, ty := .ro, s1 := 0x4 }
/-- `MLD_PLACE_n` (R91, 01_structure_and_mould.md). -/
def RD.MLD_PLACE : RegD := { base := 0x604000, dims := [(2080, 0x4)], ao := false, lock := false, blk := some 0, flds := [F.MLD_PLACE_SHADOW_SP, F.MLD_PLACE_DONOR_SLICE, F.MLD_PLACE_RATE, F.MLD_PLACE_EPOCH, F.MLD_PLACE_SP, F.MLD_PLACE_SHADOW, F.MLD_PLACE_VALID] }
def F.HIF_OWNER_CLAIM_CONFLICT : Fld := { off := 0x700000, lo := 8, w := 1, ty := .w1c }
def F.HIF_OWNER_OWNER : Fld := { off := 0x700000, lo := 0, w := 2, ty := .rw }
/-- `HIF_OWNER` (R858, 15_host_management_memory.md). -/
def RD.HIF_OWNER : RegD := { base := 0x700000, dims := [], ao := false, lock := false, blk := some 15, flds := [F.HIF_OWNER_CLAIM_CONFLICT, F.HIF_OWNER_OWNER] }
def F.HIF_CTL_HOST_HOLD : Fld := { off := 0x700004, lo := 24, w := 8, ty := .rwl, rst := fun _ _ _ => 0xA }
def F.HIF_CTL_ERR_VEC : Fld := { off := 0x700004, lo := 16, w := 6, ty := .rwl, rst := fun _ _ _ => 0x3F }
def F.HIF_CTL_ERR_IRQ_EN : Fld := { off := 0x700004, lo := 8, w := 1, ty := .rwl }
def F.HIF_CTL_CLR_CNT : Fld := { off := 0x700004, lo := 0, w := 1, ty := .w1s }
/-- `HIF_CTL` (R859, 15_host_management_memory.md). -/
def RD.HIF_CTL : RegD := { base := 0x700004, dims := [], ao := false, lock := true, blk := some 15, flds := [F.HIF_CTL_HOST_HOLD, F.HIF_CTL_ERR_VEC, F.HIF_CTL_ERR_IRQ_EN, F.HIF_CTL_CLR_CNT] }
def F.HIF_LINK_STS_USB2 : Fld := { off := 0x700008, lo := 10, w := 2, ty := .ro }
def F.HIF_LINK_STS_D3HOT : Fld := { off := 0x700008, lo := 9, w := 1, ty := .ro }
def F.HIF_LINK_STS_PCIE_UP : Fld := { off := 0x700008, lo := 8, w := 1, ty := .ro }
def F.HIF_LINK_STS_LANES2 : Fld := { off := 0x700008, lo := 6, w := 1, ty := .ro }
def F.HIF_LINK_STS_GEN : Fld := { off := 0x700008, lo := 4, w := 2, ty := .ro }
def F.HIF_LINK_STS_STATE : Fld := { off := 0x700008, lo := 0, w := 3, ty := .ro }
/-- `HIF_LINK_STS` (R860, 15_host_management_memory.md). -/
def RD.HIF_LINK_STS : RegD := { base := 0x700008, dims := [], ao := false, lock := false, blk := some 15, flds := [F.HIF_LINK_STS_USB2, F.HIF_LINK_STS_D3HOT, F.HIF_LINK_STS_PCIE_UP, F.HIF_LINK_STS_LANES2, F.HIF_LINK_STS_GEN, F.HIF_LINK_STS_STATE] }
def F.HIF_ACC_STS_NEW : Fld := { off := 0x70000C, lo := 31, w := 1, ty := .w1c }
def F.HIF_ACC_STS_PATH : Fld := { off := 0x70000C, lo := 28, w := 3, ty := .ro }
def F.HIF_ACC_STS_STATUS : Fld := { off := 0x70000C, lo := 24, w := 4, ty := .ro }
def F.HIF_ACC_STS_COUNT : Fld := { off := 0x70000C, lo := 0, w := 16, ty := .ro }
/-- `HIF_ACC_STS` (R861, 15_host_management_memory.md). -/
def RD.HIF_ACC_STS : RegD := { base := 0x70000C, dims := [], ao := false, lock := false, blk := some 15, flds := [F.HIF_ACC_STS_NEW, F.HIF_ACC_STS_PATH, F.HIF_ACC_STS_STATUS, F.HIF_ACC_STS_COUNT] }
def F.HIF_ACC_ADDR_ADDR : Fld := { off := 0x700010, lo := 0, w := 32, ty := .ro }
/-- `HIF_ACC_ADDR` (R861, 15_host_management_memory.md). -/
def RD.HIF_ACC_ADDR : RegD := { base := 0x700010, dims := [], ao := false, lock := false, blk := some 15, flds := [F.HIF_ACC_ADDR_ADDR] }
def F.HIF_OWN_MAP_OWN0 : Fld := { off := 0x700014, lo := 0, w := 2, ty := .ro }
def F.HIF_OWN_MAP_OWN1 : Fld := { off := 0x700014, lo := 2, w := 2, ty := .ro }
def F.HIF_OWN_MAP_OWN2 : Fld := { off := 0x700014, lo := 4, w := 2, ty := .ro }
def F.HIF_OWN_MAP_OWN3 : Fld := { off := 0x700014, lo := 6, w := 2, ty := .ro }
def F.HIF_OWN_MAP_OWN4 : Fld := { off := 0x700014, lo := 8, w := 2, ty := .ro }
def F.HIF_OWN_MAP_OWN5 : Fld := { off := 0x700014, lo := 10, w := 2, ty := .ro }
def F.HIF_OWN_MAP_OWN6 : Fld := { off := 0x700014, lo := 12, w := 2, ty := .ro }
def F.HIF_OWN_MAP_OWN7 : Fld := { off := 0x700014, lo := 14, w := 2, ty := .ro }
def F.HIF_OWN_MAP_OWN8 : Fld := { off := 0x700014, lo := 16, w := 2, ty := .ro }
def F.HIF_OWN_MAP_OWN9 : Fld := { off := 0x700014, lo := 18, w := 2, ty := .ro }
def F.HIF_OWN_MAP_OWN10 : Fld := { off := 0x700014, lo := 20, w := 2, ty := .ro }
def F.HIF_OWN_MAP_OWN11 : Fld := { off := 0x700014, lo := 22, w := 2, ty := .ro }
def F.HIF_OWN_MAP_OWN12 : Fld := { off := 0x700014, lo := 24, w := 2, ty := .ro }
def F.HIF_OWN_MAP_OWN13 : Fld := { off := 0x700014, lo := 26, w := 2, ty := .ro }
def F.HIF_OWN_MAP_OWN14 : Fld := { off := 0x700014, lo := 28, w := 2, ty := .ro }
def F.HIF_OWN_MAP_OWN15 : Fld := { off := 0x700014, lo := 30, w := 2, ty := .ro }
/-- `HIF_OWN_MAP` (R864, 15_host_management_memory.md). -/
def RD.HIF_OWN_MAP : RegD := { base := 0x700014, dims := [], ao := false, lock := false, blk := some 15, flds := [F.HIF_OWN_MAP_OWN0, F.HIF_OWN_MAP_OWN1, F.HIF_OWN_MAP_OWN2, F.HIF_OWN_MAP_OWN3, F.HIF_OWN_MAP_OWN4, F.HIF_OWN_MAP_OWN5, F.HIF_OWN_MAP_OWN6, F.HIF_OWN_MAP_OWN7, F.HIF_OWN_MAP_OWN8, F.HIF_OWN_MAP_OWN9, F.HIF_OWN_MAP_OWN10, F.HIF_OWN_MAP_OWN11, F.HIF_OWN_MAP_OWN12, F.HIF_OWN_MAP_OWN13, F.HIF_OWN_MAP_OWN14, F.HIF_OWN_MAP_OWN15] }
def F.HIF_BAR2_BASE_BASE_MB : Fld := { off := 0x700018, lo := 0, w := 14, ty := .rwl }
/-- `HIF_BAR2_BASE` (R862, 15_host_management_memory.md). -/
def RD.HIF_BAR2_BASE : RegD := { base := 0x700018, dims := [], ao := false, lock := true, blk := some 15, flds := [F.HIF_BAR2_BASE_BASE_MB] }
def F.HIF_MEM_STS_READY : Fld := { off := 0x700020, lo := 31, w := 1, ty := .ro }
def F.HIF_MEM_STS_LOST : Fld := { off := 0x700020, lo := 30, w := 1, ty := .w1c }
def F.HIF_MEM_STS_RATE : Fld := { off := 0x700020, lo := 28, w := 2, ty := .ro }
def F.HIF_MEM_STS_SIZE_MB : Fld := { off := 0x700020, lo := 0, w := 16, ty := .ro }
/-- `HIF_MEM_STS` (R863, 15_host_management_memory.md). -/
def RD.HIF_MEM_STS : RegD := { base := 0x700020, dims := [], ao := false, lock := false, blk := some 15, flds := [F.HIF_MEM_STS_READY, F.HIF_MEM_STS_LOST, F.HIF_MEM_STS_RATE, F.HIF_MEM_STS_SIZE_MB] }
def F.HIF_MEM_CFG_SCRUB_H : Fld := { off := 0x700024, lo := 8, w := 8, ty := .rwl, rst := fun _ _ _ => 0x18 }
def F.HIF_MEM_CFG_SCRUB_EN : Fld := { off := 0x700024, lo := 0, w := 1, ty := .rwl, rst := fun _ _ _ => 1 }
/-- `HIF_MEM_CFG` (R863, 15_host_management_memory.md). -/
def RD.HIF_MEM_CFG : RegD := { base := 0x700024, dims := [], ao := false, lock := true, blk := some 15, flds := [F.HIF_MEM_CFG_SCRUB_H, F.HIF_MEM_CFG_SCRUB_EN] }
def F.HIF_MEM_ECC_CE : Fld := { off := 0x700028, lo := 16, w := 16, ty := .ro }
def F.HIF_MEM_ECC_UE : Fld := { off := 0x700028, lo := 0, w := 16, ty := .ro }
/-- `HIF_MEM_ECC` (R863, 15_host_management_memory.md). -/
def RD.HIF_MEM_ECC : RegD := { base := 0x700028, dims := [], ao := false, lock := false, blk := some 15, flds := [F.HIF_MEM_ECC_CE, F.HIF_MEM_ECC_UE] }
def F.HIF_MEM_UE_ADDR_ADDR64 : Fld := { off := 0x70002C, lo := 0, w := 32, ty := .ro }
/-- `HIF_MEM_UE_ADDR` (R863, 15_host_management_memory.md). -/
def RD.HIF_MEM_UE_ADDR : RegD := { base := 0x70002C, dims := [], ao := false, lock := false, blk := some 15, flds := [F.HIF_MEM_UE_ADDR_ADDR64] }
def F.HIF_FLASH_CTL_GO : Fld := { off := 0x700040, lo := 31, w := 1, ty := .w1s }
def F.HIF_FLASH_CTL_BUSY : Fld := { off := 0x700040, lo := 30, w := 1, ty := .ro }
def F.HIF_FLASH_CTL_RESULT : Fld := { off := 0x700040, lo := 27, w := 3, ty := .ro }
def F.HIF_FLASH_CTL_OP : Fld := { off := 0x700040, lo := 24, w := 2, ty := .rwl }
def F.HIF_FLASH_CTL_LEN_M1 : Fld := { off := 0x700040, lo := 0, w := 8, ty := .rwl }
/-- `HIF_FLASH_CTL` (R865, 15_host_management_memory.md). -/
def RD.HIF_FLASH_CTL : RegD := { base := 0x700040, dims := [], ao := false, lock := true, blk := some 15, flds := [F.HIF_FLASH_CTL_GO, F.HIF_FLASH_CTL_BUSY, F.HIF_FLASH_CTL_RESULT, F.HIF_FLASH_CTL_OP, F.HIF_FLASH_CTL_LEN_M1] }
def F.HIF_FLASH_ADDR_ADDR : Fld := { off := 0x700044, lo := 0, w := 26, ty := .rwl }
/-- `HIF_FLASH_ADDR` (R865, 15_host_management_memory.md). -/
def RD.HIF_FLASH_ADDR : RegD := { base := 0x700044, dims := [], ao := false, lock := true, blk := some 15, flds := [F.HIF_FLASH_ADDR_ADDR] }
def F.HIF_FLASH_STS_INTERRUPTED : Fld := { off := 0x700048, lo := 31, w := 1, ty := .w1c }
def F.HIF_FLASH_STS_INT_ADDR : Fld := { off := 0x700048, lo := 0, w := 26, ty := .ro }
/-- `HIF_FLASH_STS` (R865, 15_host_management_memory.md). -/
def RD.HIF_FLASH_STS : RegD := { base := 0x700048, dims := [], ao := false, lock := false, blk := some 15, flds := [F.HIF_FLASH_STS_INTERRUPTED, F.HIF_FLASH_STS_INT_ADDR] }
def F.HIF_OTP_CTL_GO : Fld := { off := 0x700060, lo := 31, w := 1, ty := .w1s }
def F.HIF_OTP_CTL_BUSY : Fld := { off := 0x700060, lo := 30, w := 1, ty := .ro }
def F.HIF_OTP_CTL_RESULT : Fld := { off := 0x700060, lo := 27, w := 3, ty := .ro }
def F.HIF_OTP_CTL_TARGET : Fld := { off := 0x700060, lo := 24, w := 3, ty := .rwl }
def F.HIF_OTP_CTL_KEY : Fld := { off := 0x700060, lo := 16, w := 8, ty := .wo }
def F.HIF_OTP_CTL_DONE_MAP : Fld := { off := 0x700060, lo := 0, w := 5, ty := .ro }
/-- `HIF_OTP_CTL` (R866, 15_host_management_memory.md). -/
def RD.HIF_OTP_CTL : RegD := { base := 0x700060, dims := [], ao := false, lock := true, blk := some 15, flds := [F.HIF_OTP_CTL_GO, F.HIF_OTP_CTL_BUSY, F.HIF_OTP_CTL_RESULT, F.HIF_OTP_CTL_TARGET, F.HIF_OTP_CTL_KEY, F.HIF_OTP_CTL_DONE_MAP] }
def F.HIF_OTP_DATA_DATA : Fld := { off := 0x700080, lo := 0, w := 32, ty := .rwl, s1 := 0x4 }
/-- `HIF_OTP_DATA_w` (R866, 15_host_management_memory.md). -/
def RD.HIF_OTP_DATA : RegD := { base := 0x700080, dims := [(8, 0x4)], ao := false, lock := true, blk := some 15, flds := [F.HIF_OTP_DATA_DATA] }
def F.HIF_FLASH_BUF_DATA : Fld := { off := 0x700100, lo := 0, w := 32, ty := .rwl, s1 := 0x4 }
/-- `HIF_FLASH_BUF_w` (R865, 15_host_management_memory.md). -/
def RD.HIF_FLASH_BUF : RegD := { base := 0x700100, dims := [(64, 0x4)], ao := false, lock := true, blk := some 15, flds := [F.HIF_FLASH_BUF_DATA] }
def F.HIF_DMA_CTL_IRQ_VEC : Fld := { off := 0x701000, lo := 8, w := 6, ty := .rwl, s1 := 0x20, rst := fun i _ _ => i }
def F.HIF_DMA_CTL_ABORT : Fld := { off := 0x701000, lo := 1, w := 1, ty := .w1s, s1 := 0x20 }
def F.HIF_DMA_CTL_RUN : Fld := { off := 0x701000, lo := 0, w := 1, ty := .w1s, s1 := 0x20 }
/-- `HIF_DMA_CTL_c` (R867, 15_host_management_memory.md). -/
def RD.HIF_DMA_CTL : RegD := { base := 0x701000, dims := [(8, 0x20)], ao := false, lock := true, blk := some 15, flds := [F.HIF_DMA_CTL_IRQ_VEC, F.HIF_DMA_CTL_ABORT, F.HIF_DMA_CTL_RUN] }
def F.HIF_DMA_STS_BUSY : Fld := { off := 0x701004, lo := 31, w := 1, ty := .ro, s1 := 0x20 }
def F.HIF_DMA_STS_RESULT : Fld := { off := 0x701004, lo := 28, w := 3, ty := .ro, s1 := 0x20 }
def F.HIF_DMA_STS_DONE_CNT : Fld := { off := 0x701004, lo := 0, w := 24, ty := .ro, s1 := 0x20 }
/-- `HIF_DMA_STS_c` (R867, 15_host_management_memory.md). -/
def RD.HIF_DMA_STS : RegD := { base := 0x701004, dims := [(8, 0x20)], ao := false, lock := false, blk := some 15, flds := [F.HIF_DMA_STS_BUSY, F.HIF_DMA_STS_RESULT, F.HIF_DMA_STS_DONE_CNT] }
def F.HIF_DMA_DESC_LO_DESC_LO : Fld := { off := 0x701008, lo := 5, w := 27, ty := .rwl, s1 := 0x20 }
/-- `HIF_DMA_DESC_LO_c` (R867, 15_host_management_memory.md). -/
def RD.HIF_DMA_DESC_LO : RegD := { base := 0x701008, dims := [(8, 0x20)], ao := false, lock := true, blk := some 15, flds := [F.HIF_DMA_DESC_LO_DESC_LO] }
def F.HIF_DMA_DESC_HI_DESC_HI : Fld := { off := 0x70100C, lo := 0, w := 32, ty := .rwl, s1 := 0x20 }
/-- `HIF_DMA_DESC_HI_c` (R867, 15_host_management_memory.md). -/
def RD.HIF_DMA_DESC_HI : RegD := { base := 0x70100C, dims := [(8, 0x20)], ao := false, lock := true, blk := some 15, flds := [F.HIF_DMA_DESC_HI_DESC_HI] }
def F.HIF_MSIX_ADDR_LO_ADDR_LO : Fld := { off := 0x708000, lo := 0, w := 32, ty := .rw, s1 := 0x10 }
/-- `HIF_MSIX_ADDR_LO_v` (R824, 15_host_management_memory.md). -/
def RD.HIF_MSIX_ADDR_LO : RegD := { base := 0x708000, dims := [(64, 0x10)], ao := false, lock := false, blk := some 15, flds := [F.HIF_MSIX_ADDR_LO_ADDR_LO] }
def F.HIF_MSIX_ADDR_HI_ADDR_HI : Fld := { off := 0x708004, lo := 0, w := 32, ty := .rw, s1 := 0x10 }
/-- `HIF_MSIX_ADDR_HI_v` (R824, 15_host_management_memory.md). -/
def RD.HIF_MSIX_ADDR_HI : RegD := { base := 0x708004, dims := [(64, 0x10)], ao := false, lock := false, blk := some 15, flds := [F.HIF_MSIX_ADDR_HI_ADDR_HI] }
def F.HIF_MSIX_DATA_DATA : Fld := { off := 0x708008, lo := 0, w := 32, ty := .rw, s1 := 0x10 }
/-- `HIF_MSIX_DATA_v` (R824, 15_host_management_memory.md). -/
def RD.HIF_MSIX_DATA : RegD := { base := 0x708008, dims := [(64, 0x10)], ao := false, lock := false, blk := some 15, flds := [F.HIF_MSIX_DATA_DATA] }
def F.HIF_MSIX_CTRL_MASK : Fld := { off := 0x70800C, lo := 0, w := 1, ty := .rw, s1 := 0x10, rst := fun _ _ _ => 1 }
/-- `HIF_MSIX_CTRL_v` (R824, 15_host_management_memory.md). -/
def RD.HIF_MSIX_CTRL : RegD := { base := 0x70800C, dims := [(64, 0x10)], ao := false, lock := false, blk := some 15, flds := [F.HIF_MSIX_CTRL_MASK] }
def F.HIF_PBA_PEND : Fld := { off := 0x709000, lo := 0, w := 32, ty := .ro, s1 := 0x4 }
/-- `HIF_PBA_w` (R824, 15_host_management_memory.md). -/
def RD.HIF_PBA : RegD := { base := 0x709000, dims := [(2, 0x4)], ao := false, lock := false, blk := some 15, flds := [F.HIF_PBA_PEND] }
def F.HIF_MB_CTL_RESULT : Fld := { off := 0x70A000, lo := 24, w := 8, ty := .ro, s1 := 0x80 }
def F.HIF_MB_CTL_IRQ_VEC : Fld := { off := 0x70A000, lo := 16, w := 6, ty := .rwl, s1 := 0x80 }
def F.HIF_MB_CTL_STATE : Fld := { off := 0x70A000, lo := 8, w := 3, ty := .ro, s1 := 0x80 }
def F.HIF_MB_CTL_ACK : Fld := { off := 0x70A000, lo := 5, w := 1, ty := .w1s, s1 := 0x80 }
def F.HIF_MB_CTL_POST : Fld := { off := 0x70A000, lo := 4, w := 1, ty := .w1s, s1 := 0x80 }
def F.HIF_MB_CTL_SLOT_OWNER : Fld := { off := 0x70A000, lo := 0, w := 2, ty := .rw, s1 := 0x80 }
/-- `HIF_MB_CTL_k` (R868, 15_host_management_memory.md). -/
def RD.HIF_MB_CTL : RegD := { base := 0x70A000, dims := [(16, 0x80)], ao := false, lock := true, blk := some 15, flds := [F.HIF_MB_CTL_RESULT, F.HIF_MB_CTL_IRQ_VEC, F.HIF_MB_CTL_STATE, F.HIF_MB_CTL_ACK, F.HIF_MB_CTL_POST, F.HIF_MB_CTL_SLOT_OWNER] }
def F.HIF_MB_REQ_DATA : Fld := { off := 0x70A020, lo := 0, w := 32, ty := .rwl, s1 := 0x80, s2 := 0x4 }
/-- `HIF_MB_REQ_k_w` (R868, 15_host_management_memory.md). -/
def RD.HIF_MB_REQ : RegD := { base := 0x70A020, dims := [(16, 0x80), (8, 0x4)], ao := false, lock := true, blk := some 15, flds := [F.HIF_MB_REQ_DATA] }
def F.HIF_MB_RSP_DATA : Fld := { off := 0x70A040, lo := 0, w := 32, ty := .ro, s1 := 0x80, s2 := 0x4 }
/-- `HIF_MB_RSP_k_w` (R868, 15_host_management_memory.md). -/
def RD.HIF_MB_RSP : RegD := { base := 0x70A040, dims := [(16, 0x80), (8, 0x4)], ao := false, lock := false, blk := some 15, flds := [F.HIF_MB_RSP_DATA] }
def F.SMP_CTL_TAKE : Fld := { off := 0x780000, lo := 1, w := 1, ty := .w1s }
def F.SMP_CTL_CLR_CNT : Fld := { off := 0x780000, lo := 0, w := 1, ty := .w1s }
/-- `SMP_CTL` (R869, 15_host_management_memory.md). -/
def RD.SMP_CTL : RegD := { base := 0x780000, dims := [], ao := true, lock := false, blk := none, flds := [F.SMP_CTL_TAKE, F.SMP_CTL_CLR_CNT] }
def F.SMP_ALERT_STS_CLAIM : Fld := { off := 0x780004, lo := 7, w := 1, ty := .w1c }
def F.SMP_ALERT_STS_MAILBOX : Fld := { off := 0x780004, lo := 6, w := 1, ty := .ro }
def F.SMP_ALERT_STS_HOST_DOWN : Fld := { off := 0x780004, lo := 5, w := 1, ty := .ro, rst := fun _ _ _ => 1 }
def F.SMP_ALERT_STS_FAULT : Fld := { off := 0x780004, lo := 4, w := 1, ty := .ro, rst := fun _ _ _ => 1 }
def F.SMP_ALERT_STS_TRANSIT : Fld := { off := 0x780004, lo := 3, w := 1, ty := .w1c }
def F.SMP_ALERT_STS_WATCH : Fld := { off := 0x780004, lo := 2, w := 1, ty := .w1c }
def F.SMP_ALERT_STS_EVT : Fld := { off := 0x780004, lo := 1, w := 1, ty := .ro }
def F.SMP_ALERT_STS_HK : Fld := { off := 0x780004, lo := 0, w := 1, ty := .ro }
/-- `SMP_ALERT_STS` (R870, 15_host_management_memory.md). -/
def RD.SMP_ALERT_STS : RegD := { base := 0x780004, dims := [], ao := true, lock := false, blk := none, flds := [F.SMP_ALERT_STS_CLAIM, F.SMP_ALERT_STS_MAILBOX, F.SMP_ALERT_STS_HOST_DOWN, F.SMP_ALERT_STS_FAULT, F.SMP_ALERT_STS_TRANSIT, F.SMP_ALERT_STS_WATCH, F.SMP_ALERT_STS_EVT, F.SMP_ALERT_STS_HK] }
def F.SMP_ALERT_MASK_CLAIM : Fld := { off := 0x780008, lo := 7, w := 1, ty := .rw }
def F.SMP_ALERT_MASK_MAILBOX : Fld := { off := 0x780008, lo := 6, w := 1, ty := .rw }
def F.SMP_ALERT_MASK_HOST_DOWN : Fld := { off := 0x780008, lo := 5, w := 1, ty := .rw }
def F.SMP_ALERT_MASK_FAULT : Fld := { off := 0x780008, lo := 4, w := 1, ty := .rw, rst := fun _ _ _ => 1 }
def F.SMP_ALERT_MASK_TRANSIT : Fld := { off := 0x780008, lo := 3, w := 1, ty := .rw }
def F.SMP_ALERT_MASK_WATCH : Fld := { off := 0x780008, lo := 2, w := 1, ty := .rw }
def F.SMP_ALERT_MASK_EVT : Fld := { off := 0x780008, lo := 1, w := 1, ty := .rw, rst := fun _ _ _ => 1 }
def F.SMP_ALERT_MASK_HK : Fld := { off := 0x780008, lo := 0, w := 1, ty := .rw, rst := fun _ _ _ => 1 }
/-- `SMP_ALERT_MASK` (R870, 15_host_management_memory.md). -/
def RD.SMP_ALERT_MASK : RegD := { base := 0x780008, dims := [], ao := true, lock := false, blk := none, flds := [F.SMP_ALERT_MASK_CLAIM, F.SMP_ALERT_MASK_MAILBOX, F.SMP_ALERT_MASK_HOST_DOWN, F.SMP_ALERT_MASK_FAULT, F.SMP_ALERT_MASK_TRANSIT, F.SMP_ALERT_MASK_WATCH, F.SMP_ALERT_MASK_EVT, F.SMP_ALERT_MASK_HK] }
def F.SMP_CNT_CRC_ERR : Fld := { off := 0x78000C, lo := 24, w := 8, ty := .ro }
def F.SMP_CNT_FRAME_ERR : Fld := { off := 0x78000C, lo := 16, w := 8, ty := .ro }
def F.SMP_CNT_PENDING : Fld := { off := 0x78000C, lo := 8, w := 8, ty := .ro }
def F.SMP_CNT_DUP : Fld := { off := 0x78000C, lo := 0, w := 8, ty := .ro }
/-- `SMP_CNT` (R871, 15_host_management_memory.md). -/
def RD.SMP_CNT : RegD := { base := 0x78000C, dims := [], ao := true, lock := false, blk := none, flds := [F.SMP_CNT_CRC_ERR, F.SMP_CNT_FRAME_ERR, F.SMP_CNT_PENDING, F.SMP_CNT_DUP] }

end Sys2Proof.Machine
end

