-- ==== Sys2Proof/Machine/RegMapB.lean ====
section
/-! DEFINITION. The registers of chapters 02 to 05: one constant per field and one description per register, as the field tables of the spec give them. -/

namespace Sys2Proof.Machine

def F.ORB_OWNER_CLAIM_CONFLICT : Fld := { off := 0x400000, lo := 8, w := 1, ty := .w1c }
def F.ORB_OWNER_OWNER : Fld := { off := 0x400000, lo := 0, w := 2, ty := .rw }
/-- `ORB_OWNER` (R146, 02_orbit_timebase.md). -/
def RD.ORB_OWNER : RegD := { base := 0x400000, dims := [], ao := false, lock := false, blk := some 1, flds := [F.ORB_OWNER_CLAIM_CONFLICT, F.ORB_OWNER_OWNER] }
def F.ORB_SYNC_CFG_POLARITY : Fld := { off := 0x400004, lo := 10, w := 1, ty := .rwl }
def F.ORB_SYNC_CFG_PULSE_FRAMES : Fld := { off := 0x400004, lo := 0, w := 10, ty := .rwl, rst := fun _ _ _ => 1 }
/-- `ORB_SYNC_CFG` (R147, 02_orbit_timebase.md). -/
def RD.ORB_SYNC_CFG : RegD := { base := 0x400004, dims := [], ao := false, lock := true, blk := some 1, flds := [F.ORB_SYNC_CFG_POLARITY, F.ORB_SYNC_CFG_PULSE_FRAMES] }
def F.ORB_SLICE_CFG_SCS : Fld := { off := 0x400040, lo := 0, w := 2, ty := .rwl, s1 := 0x4 }
/-- `ORB_SLICE_CFG_d` (R148, 02_orbit_timebase.md). -/
def RD.ORB_SLICE_CFG : RegD := { base := 0x400040, dims := [(16, 0x4)], ao := false, lock := true, blk := some 1, flds := [F.ORB_SLICE_CFG_SCS] }
def F.ORB_CTL_CLR_CNT : Fld := { off := 0x400100, lo := 9, w := 1, ty := .w1s, s1 := 0x100 }
def F.ORB_CTL_REACQUIRE : Fld := { off := 0x400100, lo := 8, w := 1, ty := .w1s, s1 := 0x100 }
def F.ORB_CTL_SRC_SLICE : Fld := { off := 0x400100, lo := 4, w := 4, ty := .rwl, s1 := 0x100 }
def F.ORB_CTL_SRC : Fld := { off := 0x400100, lo := 1, w := 3, ty := .rwl, s1 := 0x100 }
def F.ORB_CTL_EN : Fld := { off := 0x400100, lo := 0, w := 1, ty := .rwl, s1 := 0x100 }
/-- `ORB_CTL_i` (R149, 02_orbit_timebase.md). -/
def RD.ORB_CTL : RegD := { base := 0x400100, dims := [(2, 0x100)], ao := false, lock := true, blk := some 1, flds := [F.ORB_CTL_CLR_CNT, F.ORB_CTL_REACQUIRE, F.ORB_CTL_SRC_SLICE, F.ORB_CTL_SRC, F.ORB_CTL_EN] }
def F.ORB_LOCK_CFG_LOCK_COUNT : Fld := { off := 0x400104, lo := 28, w := 4, ty := .rwl, s1 := 0x100, rst := fun _ _ _ => 4 }
def F.ORB_LOCK_CFG_LOCK_WIN : Fld := { off := 0x400104, lo := 20, w := 8, ty := .rwl, s1 := 0x100, rst := fun _ _ _ => 8 }
def F.ORB_LOCK_CFG_SLEW_MAX : Fld := { off := 0x400104, lo := 12, w := 8, ty := .rwl, s1 := 0x100, rst := fun _ _ _ => 0x20 }
def F.ORB_LOCK_CFG_MISS_TIME : Fld := { off := 0x400104, lo := 4, w := 8, ty := .rwl, s1 := 0x100, rst := fun _ _ _ => 6 }
/-- `ORB_LOCK_CFG_i` (R150, 02_orbit_timebase.md). -/
def RD.ORB_LOCK_CFG : RegD := { base := 0x400104, dims := [(2, 0x100)], ao := false, lock := true, blk := some 1, flds := [F.ORB_LOCK_CFG_LOCK_COUNT, F.ORB_LOCK_CFG_LOCK_WIN, F.ORB_LOCK_CFG_SLEW_MAX, F.ORB_LOCK_CFG_MISS_TIME] }
def F.ORB_HOLD_CFG_HOLD_LIMIT : Fld := { off := 0x400108, lo := 16, w := 16, ty := .rwl, s1 := 0x100, rst := fun _ _ _ => 0x1F4 }
def F.ORB_HOLD_CFG_UNC_LIMIT : Fld := { off := 0x400108, lo := 8, w := 8, ty := .rwl, s1 := 0x100, rst := fun _ _ _ => 0x3D }
def F.ORB_HOLD_CFG_DRIFT_PPB : Fld := { off := 0x400108, lo := 0, w := 8, ty := .rwl, s1 := 0x100, rst := fun _ _ _ => 0x32 }
/-- `ORB_HOLD_CFG_i` (R151, 02_orbit_timebase.md). -/
def RD.ORB_HOLD_CFG : RegD := { base := 0x400108, dims := [(2, 0x100)], ao := false, lock := true, blk := some 1, flds := [F.ORB_HOLD_CFG_HOLD_LIMIT, F.ORB_HOLD_CFG_UNC_LIMIT, F.ORB_HOLD_CFG_DRIFT_PPB] }
def F.ORB_REF_OFS_OFFSET : Fld := { off := 0x40010C, lo := 0, w := 24, ty := .rwl, s1 := 0x100 }
/-- `ORB_REF_OFS_i` (R152, 02_orbit_timebase.md). -/
def RD.ORB_REF_OFS : RegD := { base := 0x40010C, dims := [(2, 0x100)], ao := false, lock := true, blk := some 1, flds := [F.ORB_REF_OFS_OFFSET] }
def F.ORB_CELL_PCI : Fld := { off := 0x400110, lo := 16, w := 10, ty := .rwl, s1 := 0x100, rst := fun _ _ _ => 0x3FF }
def F.ORB_CELL_SSB_OFS : Fld := { off := 0x400110, lo := 0, w := 13, ty := .rwl, s1 := 0x100 }
/-- `ORB_CELL_i` (R153, 02_orbit_timebase.md). -/
def RD.ORB_CELL : RegD := { base := 0x400110, dims := [(2, 0x100)], ao := false, lock := true, blk := some 1, flds := [F.ORB_CELL_PCI, F.ORB_CELL_SSB_OFS] }
def F.ORB_STS_SFN : Fld := { off := 0x400114, lo := 22, w := 10, ty := .ro, s1 := 0x100 }
def F.ORB_STS_PCI : Fld := { off := 0x400114, lo := 12, w := 10, ty := .ro, s1 := 0x100 }
def F.ORB_STS_FREQ_RANGE : Fld := { off := 0x400114, lo := 11, w := 1, ty := .ro, s1 := 0x100 }
def F.ORB_STS_CAUSE : Fld := { off := 0x400114, lo := 3, w := 4, ty := .ro, s1 := 0x100 }
def F.ORB_STS_STATE : Fld := { off := 0x400114, lo := 0, w := 3, ty := .ro, s1 := 0x100 }
/-- `ORB_STS_i` (R154, 02_orbit_timebase.md). -/
def RD.ORB_STS : RegD := { base := 0x400114, dims := [(2, 0x100)], ao := false, lock := false, blk := some 1, flds := [F.ORB_STS_SFN, F.ORB_STS_PCI, F.ORB_STS_FREQ_RANGE, F.ORB_STS_CAUSE, F.ORB_STS_STATE] }
def F.ORB_POS_LO_SAMPLE : Fld := { off := 0x400118, lo := 0, w := 21, ty := .ro, s1 := 0x100 }
/-- `ORB_POS_LO_i` (R155, 02_orbit_timebase.md). -/
def RD.ORB_POS_LO : RegD := { base := 0x400118, dims := [(2, 0x100)], ao := false, lock := false, blk := some 1, flds := [F.ORB_POS_LO_SAMPLE] }
def F.ORB_POS_HI_FRAME : Fld := { off := 0x40011C, lo := 0, w := 16, ty := .ro, s1 := 0x100 }
/-- `ORB_POS_HI_i` (R156, 02_orbit_timebase.md). -/
def RD.ORB_POS_HI : RegD := { base := 0x40011C, dims := [(2, 0x100)], ao := false, lock := false, blk := some 1, flds := [F.ORB_POS_HI_FRAME] }
def F.ORB_FREQ_FREQ : Fld := { off := 0x400120, lo := 0, w := 32, ty := .ro, s1 := 0x100 }
/-- `ORB_FREQ_i` (R157, 02_orbit_timebase.md). -/
def RD.ORB_FREQ : RegD := { base := 0x400120, dims := [(2, 0x100)], ao := false, lock := false, blk := some 1, flds := [F.ORB_FREQ_FREQ] }
def F.ORB_ERR_UNC : Fld := { off := 0x400124, lo := 16, w := 16, ty := .ro, s1 := 0x100 }
def F.ORB_ERR_PHASE_ERR : Fld := { off := 0x400124, lo := 0, w := 16, ty := .ro, s1 := 0x100 }
/-- `ORB_ERR_i` (R158, 02_orbit_timebase.md). -/
def RD.ORB_ERR : RegD := { base := 0x400124, dims := [(2, 0x100)], ao := false, lock := false, blk := some 1, flds := [F.ORB_ERR_UNC, F.ORB_ERR_PHASE_ERR] }
def F.ORB_CNT_STEPS : Fld := { off := 0x400128, lo := 24, w := 8, ty := .ro, s1 := 0x100 }
def F.ORB_CNT_LOSSES : Fld := { off := 0x400128, lo := 16, w := 8, ty := .ro, s1 := 0x100 }
def F.ORB_CNT_HOLDOVERS : Fld := { off := 0x400128, lo := 8, w := 8, ty := .ro, s1 := 0x100 }
def F.ORB_CNT_PIN_CHATTER : Fld := { off := 0x400128, lo := 0, w := 8, ty := .ro, s1 := 0x100 }
/-- `ORB_CNT_i` (R159, 02_orbit_timebase.md). -/
def RD.ORB_CNT : RegD := { base := 0x400128, dims := [(2, 0x100)], ao := false, lock := false, blk := some 1, flds := [F.ORB_CNT_STEPS, F.ORB_CNT_LOSSES, F.ORB_CNT_HOLDOVERS, F.ORB_CNT_PIN_CHATTER] }
def F.ORB_TDD_CTL_LEARN_FRAMES : Fld := { off := 0x40012C, lo := 24, w := 8, ty := .rwl, s1 := 0x100, rst := fun _ _ _ => 0xC8 }
def F.ORB_TDD_CTL_LEARN_GUARD : Fld := { off := 0x40012C, lo := 20, w := 4, ty := .rwl, s1 := 0x100, rst := fun _ _ _ => 2 }
def F.ORB_TDD_CTL_LEARN_THR : Fld := { off := 0x40012C, lo := 16, w := 4, ty := .rwl, s1 := 0x100, rst := fun _ _ _ => 6 }
def F.ORB_TDD_CTL_LEARN_STS : Fld := { off := 0x40012C, lo := 10, w := 3, ty := .ro, s1 := 0x100 }
def F.ORB_TDD_CTL_LEARN : Fld := { off := 0x40012C, lo := 9, w := 1, ty := .w1s, s1 := 0x100 }
def F.ORB_TDD_CTL_AUTO_ADOPT : Fld := { off := 0x40012C, lo := 8, w := 1, ty := .rwl, s1 := 0x100 }
def F.ORB_TDD_CTL_PATTERN_VALID : Fld := { off := 0x40012C, lo := 5, w := 1, ty := .ro, s1 := 0x100 }
def F.ORB_TDD_CTL_SWAP_PENDING : Fld := { off := 0x40012C, lo := 1, w := 1, ty := .ro, s1 := 0x100 }
def F.ORB_TDD_CTL_ACTIVE_BANK : Fld := { off := 0x40012C, lo := 0, w := 1, ty := .ro, s1 := 0x100 }
/-- `ORB_TDD_CTL_i` (R160, 02_orbit_timebase.md). -/
def RD.ORB_TDD_CTL : RegD := { base := 0x40012C, dims := [(2, 0x100)], ao := false, lock := true, blk := some 1, flds := [F.ORB_TDD_CTL_LEARN_FRAMES, F.ORB_TDD_CTL_LEARN_GUARD, F.ORB_TDD_CTL_LEARN_THR, F.ORB_TDD_CTL_LEARN_STS, F.ORB_TDD_CTL_LEARN, F.ORB_TDD_CTL_AUTO_ADOPT, F.ORB_TDD_CTL_PATTERN_VALID, F.ORB_TDD_CTL_SWAP_PENDING, F.ORB_TDD_CTL_ACTIVE_BANK] }
def F.ORB_ECL_CFG_GUARD_ECL : Fld := { off := 0x400130, lo := 12, w := 1, ty := .rwl, s1 := 0x100, rst := fun _ _ _ => 1 }
def F.ORB_ECL_CFG_MARGIN : Fld := { off := 0x400130, lo := 0, w := 12, ty := .rwl, s1 := 0x100, rst := fun _ _ _ => 0x100 }
/-- `ORB_ECL_CFG_i` (R161, 02_orbit_timebase.md). -/
def RD.ORB_ECL_CFG : RegD := { base := 0x400130, dims := [(2, 0x100)], ao := false, lock := true, blk := some 1, flds := [F.ORB_ECL_CFG_GUARD_ECL, F.ORB_ECL_CFG_MARGIN] }
def F.ORB_TDD_PER_PERIOD : Fld := { off := 0x401000, lo := 0, w := 22, ty := .rwl, s1 := 0x400, s2 := 0x100 }
/-- `ORB_TDD_PER_i_b` (R162, 02_orbit_timebase.md). -/
def RD.ORB_TDD_PER : RegD := { base := 0x401000, dims := [(2, 0x400), (2, 0x100)], ao := false, lock := true, blk := some 1, flds := [F.ORB_TDD_PER_PERIOD] }
def F.ORB_TDD_SEG_TYPE : Fld := { off := 0x401004, lo := 30, w := 2, ty := .rwl, s1 := 0x400, s2 := 0x100, s3 := 0x4, rst := fun _ _ _ => 3 }
def F.ORB_TDD_SEG_START : Fld := { off := 0x401004, lo := 0, w := 22, ty := .rwl, s1 := 0x400, s2 := 0x100, s3 := 0x4 }
/-- `ORB_TDD_SEG_i_b_s` (R162, 02_orbit_timebase.md). -/
def RD.ORB_TDD_SEG : RegD := { base := 0x401004, dims := [(2, 0x400), (2, 0x100), (32, 0x4)], ao := false, lock := true, blk := some 1, flds := [F.ORB_TDD_SEG_TYPE, F.ORB_TDD_SEG_START] }
def F.ORB_QUIET_EN : Fld := { off := 0x401800, lo := 31, w := 1, ty := .rwl, s1 := 0x40, s2 := 0x4 }
def F.ORB_QUIET_LENGTH : Fld := { off := 0x401800, lo := 21, w := 10, ty := .rwl, s1 := 0x40, s2 := 0x4 }
def F.ORB_QUIET_SAMPLE : Fld := { off := 0x401800, lo := 0, w := 21, ty := .rwl, s1 := 0x40, s2 := 0x4 }
/-- `ORB_QUIET_i_n` (R163, 02_orbit_timebase.md). -/
def RD.ORB_QUIET : RegD := { base := 0x401800, dims := [(2, 0x40), (16, 0x4)], ao := false, lock := true, blk := some 1, flds := [F.ORB_QUIET_EN, F.ORB_QUIET_LENGTH, F.ORB_QUIET_SAMPLE] }
def F.TRN_CTL_CLR_CNT : Fld := { off := 0x402000, lo := 1, w := 1, ty := .w1s, s1 := 0x100 }
def F.TRN_CTL_EN : Fld := { off := 0x402000, lo := 0, w := 1, ty := .rwl, s1 := 0x100, rst := fun _ _ _ => 1 }
/-- `TRN_CTL_i` (R164, 02_orbit_timebase.md). -/
def RD.TRN_CTL : RegD := { base := 0x402000, dims := [(2, 0x100)], ao := false, lock := true, blk := some 1, flds := [F.TRN_CTL_CLR_CNT, F.TRN_CTL_EN] }
def F.TRN_TICK_CFG_TICK_SLACK : Fld := { off := 0x402004, lo := 8, w := 10, ty := .rwl, s1 := 0x100 }
def F.TRN_TICK_CFG_TICK_ALIGN : Fld := { off := 0x402004, lo := 0, w := 2, ty := .rwl, s1 := 0x100 }
/-- `TRN_TICK_CFG_i` (R165, 02_orbit_timebase.md). -/
def RD.TRN_TICK_CFG : RegD := { base := 0x402004, dims := [(2, 0x100)], ao := false, lock := true, blk := some 1, flds := [F.TRN_TICK_CFG_TICK_SLACK, F.TRN_TICK_CFG_TICK_ALIGN] }
def F.TRN_STS_ARMED : Fld := { off := 0x402008, lo := 16, w := 9, ty := .ro, s1 := 0x100 }
def F.TRN_STS_LAST_ENTRY : Fld := { off := 0x402008, lo := 8, w := 8, ty := .ro, s1 := 0x100 }
def F.TRN_STS_SLIP : Fld := { off := 0x402008, lo := 7, w := 1, ty := .w1c, s1 := 0x100 }
/-- `TRN_STS_i` (R166, 02_orbit_timebase.md). -/
def RD.TRN_STS : RegD := { base := 0x402008, dims := [(2, 0x100)], ao := false, lock := false, blk := some 1, flds := [F.TRN_STS_ARMED, F.TRN_STS_LAST_ENTRY, F.TRN_STS_SLIP] }
def F.TRN_CNT_CONFLICT : Fld := { off := 0x40200C, lo := 22, w := 10, ty := .ro, s1 := 0x100 }
def F.TRN_CNT_MISSED : Fld := { off := 0x40200C, lo := 11, w := 11, ty := .ro, s1 := 0x100 }
def F.TRN_CNT_LATE : Fld := { off := 0x40200C, lo := 0, w := 11, ty := .ro, s1 := 0x100 }
/-- `TRN_CNT_i` (R167, 02_orbit_timebase.md). -/
def RD.TRN_CNT : RegD := { base := 0x40200C, dims := [(2, 0x100)], ao := false, lock := false, blk := some 1, flds := [F.TRN_CNT_CONFLICT, F.TRN_CNT_MISSED, F.TRN_CNT_LATE] }
def F.TRN_ENT0_EN : Fld := { off := 0x410000, lo := 31, w := 1, ty := .rwl, s1 := 0x1000, s2 := 0x10 }
def F.TRN_ENT0_ACTION : Fld := { off := 0x410000, lo := 24, w := 5, ty := .rwl, s1 := 0x1000, s2 := 0x10 }
def F.TRN_ENT0_SAMPLE : Fld := { off := 0x410000, lo := 0, w := 21, ty := .rwl, s1 := 0x1000, s2 := 0x10 }
/-- `TRN_ENT0_i_n` (R168, 02_orbit_timebase.md). -/
def RD.TRN_ENT0 : RegD := { base := 0x410000, dims := [(2, 0x1000), (256, 0x10)], ao := false, lock := true, blk := some 1, flds := [F.TRN_ENT0_EN, F.TRN_ENT0_ACTION, F.TRN_ENT0_SAMPLE] }
def F.TRN_ENT1_FRAME : Fld := { off := 0x410004, lo := 16, w := 16, ty := .rwl, s1 := 0x1000, s2 := 0x10 }
def F.TRN_ENT1_PERIOD : Fld := { off := 0x410004, lo := 0, w := 16, ty := .rwl, s1 := 0x1000, s2 := 0x10 }
/-- `TRN_ENT1_i_n` (R168, 02_orbit_timebase.md). -/
def RD.TRN_ENT1 : RegD := { base := 0x410004, dims := [(2, 0x1000), (256, 0x10)], ao := false, lock := true, blk := some 1, flds := [F.TRN_ENT1_FRAME, F.TRN_ENT1_PERIOD] }
def F.TRN_ENT2_TARGET : Fld := { off := 0x410008, lo := 0, w := 32, ty := .rwl, s1 := 0x1000, s2 := 0x10 }
/-- `TRN_ENT2_i_n` (R168, 02_orbit_timebase.md). -/
def RD.TRN_ENT2 : RegD := { base := 0x410008, dims := [(2, 0x1000), (256, 0x10)], ao := false, lock := true, blk := some 1, flds := [F.TRN_ENT2_TARGET] }
def F.TRN_ENT3_ARG : Fld := { off := 0x41000C, lo := 0, w := 32, ty := .rwl, s1 := 0x1000, s2 := 0x10 }
/-- `TRN_ENT3_i_n` (R168, 02_orbit_timebase.md). -/
def RD.TRN_ENT3 : RegD := { base := 0x41000C, dims := [(2, 0x1000), (256, 0x10)], ao := false, lock := true, blk := some 1, flds := [F.TRN_ENT3_ARG] }
def F.LNK_CTL_CLR_CNT : Fld := { off := 0x800000, lo := 9, w := 1, ty := .w1s, s1 := 0x2000 }
def F.LNK_CTL_RESTART : Fld := { off := 0x800000, lo := 8, w := 1, ty := .w1s, s1 := 0x2000 }
def F.LNK_CTL_LOOPBACK : Fld := { off := 0x800000, lo := 6, w := 2, ty := .rwl, s1 := 0x2000 }
def F.LNK_CTL_CARRIAGE : Fld := { off := 0x800000, lo := 3, w := 1, ty := .rwl, s1 := 0x2000 }
def F.LNK_CTL_RATE : Fld := { off := 0x800000, lo := 2, w := 1, ty := .rwl, s1 := 0x2000 }
def F.LNK_CTL_EN : Fld := { off := 0x800000, lo := 0, w := 1, ty := .rwl, s1 := 0x2000 }
/-- `LNK_CTL_n` (R243, 03_tarcor_distribution_link.md). -/
def RD.LNK_CTL : RegD := { base := 0x800000, dims := [(128, 0x2000)], ao := false, lock := true, blk := some 2, flds := [F.LNK_CTL_CLR_CNT, F.LNK_CTL_RESTART, F.LNK_CTL_LOOPBACK, F.LNK_CTL_CARRIAGE, F.LNK_CTL_RATE, F.LNK_CTL_EN] }
def F.LNK_STS_DL_MAP_ID : Fld := { off := 0x800004, lo := 24, w := 8, ty := .ro, s1 := 0x2000 }
def F.LNK_STS_UL_MAP_ID : Fld := { off := 0x800004, lo := 16, w := 8, ty := .ro, s1 := 0x2000 }
def F.LNK_STS_CAUSE : Fld := { off := 0x800004, lo := 12, w := 4, ty := .ro, s1 := 0x2000 }
def F.LNK_STS_SEL : Fld := { off := 0x800004, lo := 11, w := 1, ty := .ro, s1 := 0x2000 }
def F.LNK_STS_SIG_DET : Fld := { off := 0x800004, lo := 10, w := 1, ty := .ro, s1 := 0x2000 }
def F.LNK_STS_PORT_STATE : Fld := { off := 0x800004, lo := 4, w := 3, ty := .ro, s1 := 0x2000 }
def F.LNK_STS_LANE_STATE : Fld := { off := 0x800004, lo := 0, w := 2, ty := .ro, s1 := 0x2000 }
/-- `LNK_STS_n` (R244, 03_tarcor_distribution_link.md). -/
def RD.LNK_STS : RegD := { base := 0x800004, dims := [(128, 0x2000)], ao := false, lock := false, blk := some 2, flds := [F.LNK_STS_DL_MAP_ID, F.LNK_STS_UL_MAP_ID, F.LNK_STS_CAUSE, F.LNK_STS_SEL, F.LNK_STS_SIG_DET, F.LNK_STS_PORT_STATE, F.LNK_STS_LANE_STATE] }
def F.LNK_TIMING_RTD_WIN : Fld := { off := 0x800008, lo := 24, w := 8, ty := .rwl, s1 := 0x2000, rst := fun _ _ _ => 8 }
def F.LNK_TIMING_HB_LIMIT : Fld := { off := 0x800008, lo := 16, w := 8, ty := .rwl, s1 := 0x2000, rst := fun _ _ _ => 8 }
def F.LNK_TIMING_CRC_LIMIT : Fld := { off := 0x800008, lo := 8, w := 8, ty := .rwl, s1 := 0x2000, rst := fun _ _ _ => 8 }
def F.LNK_TIMING_EDGE_LEAD : Fld := { off := 0x800008, lo := 0, w := 8, ty := .rwl, s1 := 0x2000, rst := fun _ _ _ => 8 }
/-- `LNK_TIMING_n` (R245, 03_tarcor_distribution_link.md). -/
def RD.LNK_TIMING : RegD := { base := 0x800008, dims := [(128, 0x2000)], ao := false, lock := true, blk := some 2, flds := [F.LNK_TIMING_RTD_WIN, F.LNK_TIMING_HB_LIMIT, F.LNK_TIMING_CRC_LIMIT, F.LNK_TIMING_EDGE_LEAD] }
def F.LNK_RTD_VALID : Fld := { off := 0x80000C, lo := 31, w := 1, ty := .ro, s1 := 0x2000 }
def F.LNK_RTD_VALUE : Fld := { off := 0x80000C, lo := 0, w := 24, ty := .ro, s1 := 0x2000 }
/-- `LNK_RTD_n` (R246, 03_tarcor_distribution_link.md). -/
def RD.LNK_RTD : RegD := { base := 0x80000C, dims := [(128, 0x2000)], ao := false, lock := false, blk := some 2, flds := [F.LNK_RTD_VALID, F.LNK_RTD_VALUE] }
def F.LNK_OWD_VALID : Fld := { off := 0x800010, lo := 31, w := 1, ty := .ro, s1 := 0x2000 }
def F.LNK_OWD_VALUE : Fld := { off := 0x800010, lo := 0, w := 24, ty := .ro, s1 := 0x2000 }
/-- `LNK_OWD_n` (R246, 03_tarcor_distribution_link.md). -/
def RD.LNK_OWD : RegD := { base := 0x800010, dims := [(128, 0x2000)], ao := false, lock := false, blk := some 2, flds := [F.LNK_OWD_VALID, F.LNK_OWD_VALUE] }
def F.LNK_ASYM_ASYM : Fld := { off := 0x800014, lo := 0, w := 16, ty := .rwl, s1 := 0x2000 }
/-- `LNK_ASYM_n` (R247, 03_tarcor_distribution_link.md). -/
def RD.LNK_ASYM : RegD := { base := 0x800014, dims := [(128, 0x2000)], ao := false, lock := true, blk := some 2, flds := [F.LNK_ASYM_ASYM] }
def F.LNK_REM_ID_MODEL : Fld := { off := 0x800018, lo := 16, w := 16, ty := .ro, s1 := 0x2000 }
def F.LNK_REM_ID_VENDOR : Fld := { off := 0x800018, lo := 0, w := 16, ty := .ro, s1 := 0x2000 }
/-- `LNK_REM_ID_n` (R248, 03_tarcor_distribution_link.md). -/
def RD.LNK_REM_ID : RegD := { base := 0x800018, dims := [(128, 0x2000)], ao := false, lock := false, blk := some 2, flds := [F.LNK_REM_ID_MODEL, F.LNK_REM_ID_VENDOR] }
def F.LNK_REM_LAT_UL_LAT : Fld := { off := 0x80001C, lo := 16, w := 16, ty := .ro, s1 := 0x2000 }
def F.LNK_REM_LAT_DL_LAT : Fld := { off := 0x80001C, lo := 0, w := 16, ty := .ro, s1 := 0x2000 }
/-- `LNK_REM_LAT_n` (R249, 03_tarcor_distribution_link.md). -/
def RD.LNK_REM_LAT : RegD := { base := 0x80001C, dims := [(128, 0x2000)], ao := false, lock := false, blk := some 2, flds := [F.LNK_REM_LAT_UL_LAT, F.LNK_REM_LAT_DL_LAT] }
def F.LNK_REM_CAP_MAX_SUM : Fld := { off := 0x800020, lo := 24, w := 8, ty := .ro, s1 := 0x2000 }
def F.LNK_REM_CAP_TDL_VER : Fld := { off := 0x800020, lo := 16, w := 8, ty := .ro, s1 := 0x2000 }
def F.LNK_REM_CAP_RATES : Fld := { off := 0x800020, lo := 12, w := 4, ty := .ro, s1 := 0x2000 }
def F.LNK_REM_CAP_MAX_SLICES : Fld := { off := 0x800020, lo := 8, w := 4, ty := .ro, s1 := 0x2000 }
def F.LNK_REM_CAP_STATIONS : Fld := { off := 0x800020, lo := 0, w := 3, ty := .ro, s1 := 0x2000 }
/-- `LNK_REM_CAP_n` (R250, 03_tarcor_distribution_link.md). -/
def RD.LNK_REM_CAP : RegD := { base := 0x800020, dims := [(128, 0x2000)], ao := false, lock := false, blk := some 2, flds := [F.LNK_REM_CAP_MAX_SUM, F.LNK_REM_CAP_TDL_VER, F.LNK_REM_CAP_RATES, F.LNK_REM_CAP_MAX_SLICES, F.LNK_REM_CAP_STATIONS] }
def F.LNK_REM_SER_LO_SERIAL_LO : Fld := { off := 0x800024, lo := 0, w := 32, ty := .ro, s1 := 0x2000 }
/-- `LNK_REM_SER_LO_n` (R251, 03_tarcor_distribution_link.md). -/
def RD.LNK_REM_SER_LO : RegD := { base := 0x800024, dims := [(128, 0x2000)], ao := false, lock := false, blk := some 2, flds := [F.LNK_REM_SER_LO_SERIAL_LO] }
def F.LNK_REM_SER_HI_SERIAL_HI : Fld := { off := 0x800028, lo := 0, w := 32, ty := .ro, s1 := 0x2000 }
/-- `LNK_REM_SER_HI_n` (R251, 03_tarcor_distribution_link.md). -/
def RD.LNK_REM_SER_HI : RegD := { base := 0x800028, dims := [(128, 0x2000)], ao := false, lock := false, blk := some 2, flds := [F.LNK_REM_SER_HI_SERIAL_HI] }
def F.LNK_CNT_CRC_CRC_ERR : Fld := { off := 0x80002C, lo := 0, w := 32, ty := .ro, s1 := 0x2000 }
/-- `LNK_CNT_CRC_n` (R252, 03_tarcor_distribution_link.md). -/
def RD.LNK_CNT_CRC : RegD := { base := 0x80002C, dims := [(128, 0x2000)], ao := false, lock := false, blk := some 2, flds := [F.LNK_CNT_CRC_CRC_ERR] }
def F.LNK_CNT_BLOCK_LOSS : Fld := { off := 0x800030, lo := 24, w := 8, ty := .ro, s1 := 0x2000 }
def F.LNK_CNT_FRAME_LOSS : Fld := { off := 0x800030, lo := 16, w := 8, ty := .ro, s1 := 0x2000 }
def F.LNK_CNT_FORMAT_ERR : Fld := { off := 0x800030, lo := 8, w := 8, ty := .ro, s1 := 0x2000 }
def F.LNK_CNT_RESENDS : Fld := { off := 0x800030, lo := 0, w := 8, ty := .ro, s1 := 0x2000 }
/-- `LNK_CNT_n` (R253, 03_tarcor_distribution_link.md). -/
def RD.LNK_CNT : RegD := { base := 0x800030, dims := [(128, 0x2000)], ao := false, lock := false, blk := some 2, flds := [F.LNK_CNT_BLOCK_LOSS, F.LNK_CNT_FRAME_LOSS, F.LNK_CNT_FORMAT_ERR, F.LNK_CNT_RESENDS] }
def F.LNK_ETH_CFG_PCP : Fld := { off := 0x800034, lo := 29, w := 3, ty := .rwl, s1 := 0x2000 }
def F.LNK_ETH_CFG_VLAN_EN : Fld := { off := 0x800034, lo := 28, w := 1, ty := .rwl, s1 := 0x2000 }
def F.LNK_ETH_CFG_VID : Fld := { off := 0x800034, lo := 16, w := 12, ty := .rwl, s1 := 0x2000 }
def F.LNK_ETH_CFG_LEARN_DA : Fld := { off := 0x800034, lo := 0, w := 1, ty := .rwl, s1 := 0x2000, rst := fun _ _ _ => 1 }
/-- `LNK_ETH_CFG_n` (R254, 03_tarcor_distribution_link.md). -/
def RD.LNK_ETH_CFG : RegD := { base := 0x800034, dims := [(128, 0x2000)], ao := false, lock := true, blk := some 2, flds := [F.LNK_ETH_CFG_PCP, F.LNK_ETH_CFG_VLAN_EN, F.LNK_ETH_CFG_VID, F.LNK_ETH_CFG_LEARN_DA] }
def F.LNK_ETH_DA_LO_DA_LO : Fld := { off := 0x800038, lo := 0, w := 32, ty := .rwl, s1 := 0x2000 }
/-- `LNK_ETH_DA_LO_n` (R255, 03_tarcor_distribution_link.md). -/
def RD.LNK_ETH_DA_LO : RegD := { base := 0x800038, dims := [(128, 0x2000)], ao := false, lock := true, blk := some 2, flds := [F.LNK_ETH_DA_LO_DA_LO] }
def F.LNK_ETH_DA_HI_DA_HI : Fld := { off := 0x80003C, lo := 0, w := 16, ty := .rwl, s1 := 0x2000 }
/-- `LNK_ETH_DA_HI_n` (R255, 03_tarcor_distribution_link.md). -/
def RD.LNK_ETH_DA_HI : RegD := { base := 0x80003C, dims := [(128, 0x2000)], ao := false, lock := true, blk := some 2, flds := [F.LNK_ETH_DA_HI_DA_HI] }
def F.LNK_CNT_ETH_FCS_ERR : Fld := { off := 0x800040, lo := 16, w := 16, ty := .ro, s1 := 0x2000 }
def F.LNK_CNT_ETH_FOREIGN : Fld := { off := 0x800040, lo := 0, w := 16, ty := .ro, s1 := 0x2000 }
/-- `LNK_CNT_ETH_n` (R256, 03_tarcor_distribution_link.md). -/
def RD.LNK_CNT_ETH : RegD := { base := 0x800040, dims := [(128, 0x2000)], ao := false, lock := false, blk := some 2, flds := [F.LNK_CNT_ETH_FCS_ERR, F.LNK_CNT_ETH_FOREIGN] }
def F.LNK_PROT_WTR : Fld := { off := 0x800044, lo := 16, w := 8, ty := .rwl, s1 := 0x2000, rst := fun _ _ _ => 0xA }
def F.LNK_PROT_SD_THR : Fld := { off := 0x800044, lo := 8, w := 8, ty := .rwl, s1 := 0x2000, rst := fun _ _ _ => 0x64 }
def F.LNK_PROT_REVERTIVE : Fld := { off := 0x800044, lo := 7, w := 1, ty := .rwl, s1 := 0x2000 }
def F.LNK_PROT_REQ : Fld := { off := 0x800044, lo := 0, w := 3, ty := .rwl, s1 := 0x2000 }
/-- `LNK_PROT_n` (R257, 03_tarcor_distribution_link.md). -/
def RD.LNK_PROT : RegD := { base := 0x800044, dims := [(64, 0x2000)], ao := false, lock := true, blk := some 2, flds := [F.LNK_PROT_WTR, F.LNK_PROT_SD_THR, F.LNK_PROT_REVERTIVE, F.LNK_PROT_REQ] }
def F.LNK_PROT_STS_SWITCHES : Fld := { off := 0x800048, lo := 16, w := 16, ty := .ro, s1 := 0x2000 }
def F.LNK_PROT_STS_WTR_RUN : Fld := { off := 0x800048, lo := 9, w := 1, ty := .ro, s1 := 0x2000 }
def F.LNK_PROT_STS_PAIR_SKEW : Fld := { off := 0x800048, lo := 8, w := 1, ty := .ro, s1 := 0x2000 }
def F.LNK_PROT_STS_SD_B : Fld := { off := 0x800048, lo := 7, w := 1, ty := .ro, s1 := 0x2000 }
def F.LNK_PROT_STS_SD_A : Fld := { off := 0x800048, lo := 6, w := 1, ty := .ro, s1 := 0x2000 }
def F.LNK_PROT_STS_SF_B : Fld := { off := 0x800048, lo := 5, w := 1, ty := .ro, s1 := 0x2000 }
def F.LNK_PROT_STS_SF_A : Fld := { off := 0x800048, lo := 4, w := 1, ty := .ro, s1 := 0x2000 }
def F.LNK_PROT_STS_PRIORITY : Fld := { off := 0x800048, lo := 1, w := 3, ty := .ro, s1 := 0x2000 }
def F.LNK_PROT_STS_SELECTED : Fld := { off := 0x800048, lo := 0, w := 1, ty := .ro, s1 := 0x2000 }
/-- `LNK_PROT_STS_n` (R258, 03_tarcor_distribution_link.md). -/
def RD.LNK_PROT_STS : RegD := { base := 0x800048, dims := [(64, 0x2000)], ao := false, lock := false, blk := some 2, flds := [F.LNK_PROT_STS_SWITCHES, F.LNK_PROT_STS_WTR_RUN, F.LNK_PROT_STS_PAIR_SKEW, F.LNK_PROT_STS_SD_B, F.LNK_PROT_STS_SD_A, F.LNK_PROT_STS_SF_B, F.LNK_PROT_STS_SF_A, F.LNK_PROT_STS_PRIORITY, F.LNK_PROT_STS_SELECTED] }
def F.LNK_MGMT_KIND : Fld := { off := 0x80004C, lo := 30, w := 2, ty := .rwl, s1 := 0x2000 }
def F.LNK_MGMT_DEV_ADDR : Fld := { off := 0x80004C, lo := 23, w := 7, ty := .rwl, s1 := 0x2000, rst := fun _ _ _ => 0x50 }
def F.LNK_MGMT_MUX_ADDR : Fld := { off := 0x80004C, lo := 16, w := 7, ty := .rwl, s1 := 0x2000 }
def F.LNK_MGMT_POLL_REG : Fld := { off := 0x80004C, lo := 8, w := 8, ty := .rwl, s1 := 0x2000 }
def F.LNK_MGMT_MUX_CH : Fld := { off := 0x80004C, lo := 0, w := 3, ty := .rwl, s1 := 0x2000 }
/-- `LNK_MGMT_n` (R259, 03_tarcor_distribution_link.md). -/
def RD.LNK_MGMT : RegD := { base := 0x80004C, dims := [(128, 0x2000)], ao := false, lock := true, blk := some 2, flds := [F.LNK_MGMT_KIND, F.LNK_MGMT_DEV_ADDR, F.LNK_MGMT_MUX_ADDR, F.LNK_MGMT_POLL_REG, F.LNK_MGMT_MUX_CH] }
def F.LNK_MGMT_STS_TEMP : Fld := { off := 0x800050, lo := 16, w := 16, ty := .ro, s1 := 0x2000 }
def F.LNK_MGMT_STS_RAW : Fld := { off := 0x800050, lo := 8, w := 8, ty := .ro, s1 := 0x2000 }
def F.LNK_MGMT_STS_TX_FAULT : Fld := { off := 0x800050, lo := 2, w := 1, ty := .ro, s1 := 0x2000 }
def F.LNK_MGMT_STS_RX_LOS : Fld := { off := 0x800050, lo := 1, w := 1, ty := .ro, s1 := 0x2000 }
def F.LNK_MGMT_STS_PRESENT : Fld := { off := 0x800050, lo := 0, w := 1, ty := .ro, s1 := 0x2000 }
/-- `LNK_MGMT_STS_n` (R260, 03_tarcor_distribution_link.md). -/
def RD.LNK_MGMT_STS : RegD := { base := 0x800050, dims := [(128, 0x2000)], ao := false, lock := false, blk := some 2, flds := [F.LNK_MGMT_STS_TEMP, F.LNK_MGMT_STS_RAW, F.LNK_MGMT_STS_TX_FAULT, F.LNK_MGMT_STS_RX_LOS, F.LNK_MGMT_STS_PRESENT] }
def F.LNK_MSG_CTL_RESULT : Fld := { off := 0x800054, lo := 8, w := 2, ty := .ro, s1 := 0x2000 }
def F.LNK_MSG_CTL_BUSY : Fld := { off := 0x800054, lo := 1, w := 1, ty := .ro, s1 := 0x2000 }
def F.LNK_MSG_CTL_SEND : Fld := { off := 0x800054, lo := 0, w := 1, ty := .w1s, s1 := 0x2000 }
/-- `LNK_MSG_CTL_n` (R261, 03_tarcor_distribution_link.md). -/
def RD.LNK_MSG_CTL : RegD := { base := 0x800054, dims := [(128, 0x2000)], ao := false, lock := true, blk := some 2, flds := [F.LNK_MSG_CTL_RESULT, F.LNK_MSG_CTL_BUSY, F.LNK_MSG_CTL_SEND] }
def F.LNK_MSG_RX_OVERFLOW : Fld := { off := 0x800058, lo := 8, w := 8, ty := .ro, s1 := 0x2000 }
def F.LNK_MSG_RX_TAIL : Fld := { off := 0x800058, lo := 4, w := 4, ty := .rw, s1 := 0x2000 }
def F.LNK_MSG_RX_HEAD : Fld := { off := 0x800058, lo := 0, w := 4, ty := .ro, s1 := 0x2000 }
/-- `LNK_MSG_RX_n` (R262, 03_tarcor_distribution_link.md). -/
def RD.LNK_MSG_RX : RegD := { base := 0x800058, dims := [(128, 0x2000)], ao := false, lock := false, blk := some 2, flds := [F.LNK_MSG_RX_OVERFLOW, F.LNK_MSG_RX_TAIL, F.LNK_MSG_RX_HEAD] }
def F.LNK_MSG_TXB_DATA : Fld := { off := 0x800800, lo := 0, w := 32, ty := .rwl, s1 := 0x2000, s2 := 0x4 }
/-- `LNK_MSG_TXB_n_w` (R261, 03_tarcor_distribution_link.md). -/
def RD.LNK_MSG_TXB : RegD := { base := 0x800800, dims := [(128, 0x2000), (8, 0x4)], ao := false, lock := true, blk := some 2, flds := [F.LNK_MSG_TXB_DATA] }
def F.LNK_MSG_RXB_DATA : Fld := { off := 0x801000, lo := 0, w := 32, ty := .ro, s1 := 0x2000, s2 := 0x20, s3 := 0x4 }
/-- `LNK_MSG_RXB_n_c_w` (R262, 03_tarcor_distribution_link.md). -/
def RD.LNK_MSG_RXB : RegD := { base := 0x801000, dims := [(128, 0x2000), (16, 0x20), (8, 0x4)], ao := false, lock := false, blk := some 2, flds := [F.LNK_MSG_RXB_DATA] }
def F.LNK_OWNER_CLAIM_CONFLICT : Fld := { off := 0x801800, lo := 8, w := 1, ty := .w1c }
def F.LNK_OWNER_OWNER : Fld := { off := 0x801800, lo := 0, w := 2, ty := .rw }
/-- `LNK_OWNER` (R238, 03_tarcor_distribution_link.md). -/
def RD.LNK_OWNER : RegD := { base := 0x801800, dims := [], ao := false, lock := false, blk := some 2, flds := [F.LNK_OWNER_CLAIM_CONFLICT, F.LNK_OWNER_OWNER] }
def F.LNK_GLB_CFG_ETHERTYPE : Fld := { off := 0x801804, lo := 0, w := 16, ty := .rwl, rst := fun _ _ _ => 0x88B5 }
/-- `LNK_GLB_CFG` (R239, 03_tarcor_distribution_link.md). -/
def RD.LNK_GLB_CFG : RegD := { base := 0x801804, dims := [], ao := false, lock := true, blk := some 2, flds := [F.LNK_GLB_CFG_ETHERTYPE] }
def F.LNK_MAC_LO_MAC_LO : Fld := { off := 0x801808, lo := 0, w := 32, ty := .rwl }
/-- `LNK_MAC_LO` (R240, 03_tarcor_distribution_link.md). -/
def RD.LNK_MAC_LO : RegD := { base := 0x801808, dims := [], ao := false, lock := true, blk := some 2, flds := [F.LNK_MAC_LO_MAC_LO] }
def F.LNK_MAC_HI_MAC_HI : Fld := { off := 0x80180C, lo := 0, w := 16, ty := .rwl }
/-- `LNK_MAC_HI` (R240, 03_tarcor_distribution_link.md). -/
def RD.LNK_MAC_HI : RegD := { base := 0x80180C, dims := [], ao := false, lock := true, blk := some 2, flds := [F.LNK_MAC_HI_MAC_HI] }
def F.LNK_MGB_CFG_POLL_MS : Fld := { off := 0x801810, lo := 8, w := 8, ty := .rwl, s1 := 0x4, rst := fun _ _ _ => 0x64 }
def F.LNK_MGB_CFG_FAST : Fld := { off := 0x801810, lo := 1, w := 1, ty := .rwl, s1 := 0x4 }
def F.LNK_MGB_CFG_EN : Fld := { off := 0x801810, lo := 0, w := 1, ty := .rwl, s1 := 0x4, rst := fun _ _ _ => 1 }
/-- `LNK_MGB_CFG_b` (R241, 03_tarcor_distribution_link.md). -/
def RD.LNK_MGB_CFG : RegD := { base := 0x801810, dims := [(4, 0x4)], ao := false, lock := true, blk := some 2, flds := [F.LNK_MGB_CFG_POLL_MS, F.LNK_MGB_CFG_FAST, F.LNK_MGB_CFG_EN] }
def F.LNK_MGB_XFER_GO : Fld := { off := 0x801820, lo := 31, w := 1, ty := .w1s, s1 := 0x8 }
def F.LNK_MGB_XFER_BUSY : Fld := { off := 0x801820, lo := 30, w := 1, ty := .ro, s1 := 0x8 }
def F.LNK_MGB_XFER_RESULT : Fld := { off := 0x801820, lo := 28, w := 2, ty := .ro, s1 := 0x8 }
def F.LNK_MGB_XFER_WRITE : Fld := { off := 0x801820, lo := 27, w := 1, ty := .rwl, s1 := 0x8 }
def F.LNK_MGB_XFER_LEN_M1 : Fld := { off := 0x801820, lo := 25, w := 2, ty := .rwl, s1 := 0x8 }
def F.LNK_MGB_XFER_LANE_IDX : Fld := { off := 0x801820, lo := 20, w := 5, ty := .rwl, s1 := 0x8 }
def F.LNK_MGB_XFER_DEV : Fld := { off := 0x801820, lo := 8, w := 7, ty := .rwl, s1 := 0x8 }
def F.LNK_MGB_XFER_REG : Fld := { off := 0x801820, lo := 0, w := 8, ty := .rwl, s1 := 0x8 }
/-- `LNK_MGB_XFER_b` (R242, 03_tarcor_distribution_link.md). -/
def RD.LNK_MGB_XFER : RegD := { base := 0x801820, dims := [(4, 0x8)], ao := false, lock := true, blk := some 2, flds := [F.LNK_MGB_XFER_GO, F.LNK_MGB_XFER_BUSY, F.LNK_MGB_XFER_RESULT, F.LNK_MGB_XFER_WRITE, F.LNK_MGB_XFER_LEN_M1, F.LNK_MGB_XFER_LANE_IDX, F.LNK_MGB_XFER_DEV, F.LNK_MGB_XFER_REG] }
def F.LNK_MGB_DATA_DATA : Fld := { off := 0x801824, lo := 0, w := 32, ty := .rwl, s1 := 0x8 }
/-- `LNK_MGB_DATA_b` (R242, 03_tarcor_distribution_link.md). -/
def RD.LNK_MGB_DATA : RegD := { base := 0x801824, dims := [(4, 0x8)], ao := false, lock := true, blk := some 2, flds := [F.LNK_MGB_DATA_DATA] }
def F.DON_OWNER_CLAIM_CONFLICT : Fld := { off := 0x900000, lo := 8, w := 1, ty := .w1c }
def F.DON_OWNER_OWNER : Fld := { off := 0x900000, lo := 0, w := 2, ty := .rw }
/-- `DON_OWNER` (R305, 04_donor_and_front_end_stations.md). -/
def RD.DON_OWNER : RegD := { base := 0x900000, dims := [], ao := false, lock := false, blk := some 3, flds := [F.DON_OWNER_CLAIM_CONFLICT, F.DON_OWNER_OWNER] }
def F.DON_CTL_SYSREF_ARM : Fld := { off := 0x900004, lo := 6, w := 1, ty := .w1s }
def F.DON_CTL_SYSREF_MODE : Fld := { off := 0x900004, lo := 4, w := 2, ty := .rwl, rst := fun _ _ _ => 1 }
def F.DON_CTL_CLR_CNT : Fld := { off := 0x900004, lo := 3, w := 1, ty := .w1s }
def F.DON_CTL_RELINK : Fld := { off := 0x900004, lo := 2, w := 1, ty := .w1s }
def F.DON_CTL_TX_EN : Fld := { off := 0x900004, lo := 1, w := 1, ty := .rwl }
def F.DON_CTL_RX_EN : Fld := { off := 0x900004, lo := 0, w := 1, ty := .rwl }
/-- `DON_CTL` (R306, 04_donor_and_front_end_stations.md). -/
def RD.DON_CTL : RegD := { base := 0x900004, dims := [], ao := false, lock := true, blk := some 3, flds := [F.DON_CTL_SYSREF_ARM, F.DON_CTL_SYSREF_MODE, F.DON_CTL_CLR_CNT, F.DON_CTL_RELINK, F.DON_CTL_TX_EN, F.DON_CTL_RX_EN] }
def F.DON_SYSREF_STS_SYSREF_ERR : Fld := { off := 0x900008, lo := 16, w := 16, ty := .ro }
def F.DON_SYSREF_STS_ALIGNED : Fld := { off := 0x900008, lo := 1, w := 1, ty := .ro }
def F.DON_SYSREF_STS_SEEN : Fld := { off := 0x900008, lo := 0, w := 1, ty := .ro }
/-- `DON_SYSREF_STS` (R307, 04_donor_and_front_end_stations.md). -/
def RD.DON_SYSREF_STS : RegD := { base := 0x900008, dims := [], ao := false, lock := false, blk := some 3, flds := [F.DON_SYSREF_STS_SYSREF_ERR, F.DON_SYSREF_STS_ALIGNED, F.DON_SYSREF_STS_SEEN] }
def F.DON_LANE_MAP_RX_LO_Q0 : Fld := { off := 0x900010, lo := 0, w := 4, ty := .rwl }
def F.DON_LANE_MAP_RX_LO_Q1 : Fld := { off := 0x900010, lo := 4, w := 4, ty := .rwl, rst := fun _ _ _ => 1 }
def F.DON_LANE_MAP_RX_LO_Q2 : Fld := { off := 0x900010, lo := 8, w := 4, ty := .rwl, rst := fun _ _ _ => 2 }
def F.DON_LANE_MAP_RX_LO_Q3 : Fld := { off := 0x900010, lo := 12, w := 4, ty := .rwl, rst := fun _ _ _ => 3 }
def F.DON_LANE_MAP_RX_LO_Q4 : Fld := { off := 0x900010, lo := 16, w := 4, ty := .rwl, rst := fun _ _ _ => 4 }
def F.DON_LANE_MAP_RX_LO_Q5 : Fld := { off := 0x900010, lo := 20, w := 4, ty := .rwl, rst := fun _ _ _ => 5 }
def F.DON_LANE_MAP_RX_LO_Q6 : Fld := { off := 0x900010, lo := 24, w := 4, ty := .rwl, rst := fun _ _ _ => 6 }
def F.DON_LANE_MAP_RX_LO_Q7 : Fld := { off := 0x900010, lo := 28, w := 4, ty := .rwl, rst := fun _ _ _ => 7 }
/-- `DON_LANE_MAP_RX_LO` (R308, 04_donor_and_front_end_stations.md). -/
def RD.DON_LANE_MAP_RX_LO : RegD := { base := 0x900010, dims := [], ao := false, lock := true, blk := some 3, flds := [F.DON_LANE_MAP_RX_LO_Q0, F.DON_LANE_MAP_RX_LO_Q1, F.DON_LANE_MAP_RX_LO_Q2, F.DON_LANE_MAP_RX_LO_Q3, F.DON_LANE_MAP_RX_LO_Q4, F.DON_LANE_MAP_RX_LO_Q5, F.DON_LANE_MAP_RX_LO_Q6, F.DON_LANE_MAP_RX_LO_Q7] }
def F.DON_LANE_MAP_RX_HI_Q0 : Fld := { off := 0x900014, lo := 0, w := 4, ty := .rwl, rst := fun _ _ _ => 8 }
def F.DON_LANE_MAP_RX_HI_Q1 : Fld := { off := 0x900014, lo := 4, w := 4, ty := .rwl, rst := fun _ _ _ => 9 }
def F.DON_LANE_MAP_RX_HI_Q2 : Fld := { off := 0x900014, lo := 8, w := 4, ty := .rwl, rst := fun _ _ _ => 0xA }
def F.DON_LANE_MAP_RX_HI_Q3 : Fld := { off := 0x900014, lo := 12, w := 4, ty := .rwl, rst := fun _ _ _ => 0xB }
def F.DON_LANE_MAP_RX_HI_Q4 : Fld := { off := 0x900014, lo := 16, w := 4, ty := .rwl, rst := fun _ _ _ => 0xC }
def F.DON_LANE_MAP_RX_HI_Q5 : Fld := { off := 0x900014, lo := 20, w := 4, ty := .rwl, rst := fun _ _ _ => 0xD }
def F.DON_LANE_MAP_RX_HI_Q6 : Fld := { off := 0x900014, lo := 24, w := 4, ty := .rwl, rst := fun _ _ _ => 0xE }
def F.DON_LANE_MAP_RX_HI_Q7 : Fld := { off := 0x900014, lo := 28, w := 4, ty := .rwl, rst := fun _ _ _ => 0xF }
/-- `DON_LANE_MAP_RX_HI` (R308, 04_donor_and_front_end_stations.md). -/
def RD.DON_LANE_MAP_RX_HI : RegD := { base := 0x900014, dims := [], ao := false, lock := true, blk := some 3, flds := [F.DON_LANE_MAP_RX_HI_Q0, F.DON_LANE_MAP_RX_HI_Q1, F.DON_LANE_MAP_RX_HI_Q2, F.DON_LANE_MAP_RX_HI_Q3, F.DON_LANE_MAP_RX_HI_Q4, F.DON_LANE_MAP_RX_HI_Q5, F.DON_LANE_MAP_RX_HI_Q6, F.DON_LANE_MAP_RX_HI_Q7] }
def F.DON_LANE_MAP_TX_LO_Q0 : Fld := { off := 0x900018, lo := 0, w := 4, ty := .rwl }
def F.DON_LANE_MAP_TX_LO_Q1 : Fld := { off := 0x900018, lo := 4, w := 4, ty := .rwl, rst := fun _ _ _ => 1 }
def F.DON_LANE_MAP_TX_LO_Q2 : Fld := { off := 0x900018, lo := 8, w := 4, ty := .rwl, rst := fun _ _ _ => 2 }
def F.DON_LANE_MAP_TX_LO_Q3 : Fld := { off := 0x900018, lo := 12, w := 4, ty := .rwl, rst := fun _ _ _ => 3 }
def F.DON_LANE_MAP_TX_LO_Q4 : Fld := { off := 0x900018, lo := 16, w := 4, ty := .rwl, rst := fun _ _ _ => 4 }
def F.DON_LANE_MAP_TX_LO_Q5 : Fld := { off := 0x900018, lo := 20, w := 4, ty := .rwl, rst := fun _ _ _ => 5 }
def F.DON_LANE_MAP_TX_LO_Q6 : Fld := { off := 0x900018, lo := 24, w := 4, ty := .rwl, rst := fun _ _ _ => 6 }
def F.DON_LANE_MAP_TX_LO_Q7 : Fld := { off := 0x900018, lo := 28, w := 4, ty := .rwl, rst := fun _ _ _ => 7 }
/-- `DON_LANE_MAP_TX_LO` (R308, 04_donor_and_front_end_stations.md). -/
def RD.DON_LANE_MAP_TX_LO : RegD := { base := 0x900018, dims := [], ao := false, lock := true, blk := some 3, flds := [F.DON_LANE_MAP_TX_LO_Q0, F.DON_LANE_MAP_TX_LO_Q1, F.DON_LANE_MAP_TX_LO_Q2, F.DON_LANE_MAP_TX_LO_Q3, F.DON_LANE_MAP_TX_LO_Q4, F.DON_LANE_MAP_TX_LO_Q5, F.DON_LANE_MAP_TX_LO_Q6, F.DON_LANE_MAP_TX_LO_Q7] }
def F.DON_LANE_MAP_TX_HI_Q0 : Fld := { off := 0x90001C, lo := 0, w := 4, ty := .rwl, rst := fun _ _ _ => 8 }
def F.DON_LANE_MAP_TX_HI_Q1 : Fld := { off := 0x90001C, lo := 4, w := 4, ty := .rwl, rst := fun _ _ _ => 9 }
def F.DON_LANE_MAP_TX_HI_Q2 : Fld := { off := 0x90001C, lo := 8, w := 4, ty := .rwl, rst := fun _ _ _ => 0xA }
def F.DON_LANE_MAP_TX_HI_Q3 : Fld := { off := 0x90001C, lo := 12, w := 4, ty := .rwl, rst := fun _ _ _ => 0xB }
def F.DON_LANE_MAP_TX_HI_Q4 : Fld := { off := 0x90001C, lo := 16, w := 4, ty := .rwl, rst := fun _ _ _ => 0xC }
def F.DON_LANE_MAP_TX_HI_Q5 : Fld := { off := 0x90001C, lo := 20, w := 4, ty := .rwl, rst := fun _ _ _ => 0xD }
def F.DON_LANE_MAP_TX_HI_Q6 : Fld := { off := 0x90001C, lo := 24, w := 4, ty := .rwl, rst := fun _ _ _ => 0xE }
def F.DON_LANE_MAP_TX_HI_Q7 : Fld := { off := 0x90001C, lo := 28, w := 4, ty := .rwl, rst := fun _ _ _ => 0xF }
/-- `DON_LANE_MAP_TX_HI` (R308, 04_donor_and_front_end_stations.md). -/
def RD.DON_LANE_MAP_TX_HI : RegD := { base := 0x90001C, dims := [], ao := false, lock := true, blk := some 3, flds := [F.DON_LANE_MAP_TX_HI_Q0, F.DON_LANE_MAP_TX_HI_Q1, F.DON_LANE_MAP_TX_HI_Q2, F.DON_LANE_MAP_TX_HI_Q3, F.DON_LANE_MAP_TX_HI_Q4, F.DON_LANE_MAP_TX_HI_Q5, F.DON_LANE_MAP_TX_HI_Q6, F.DON_LANE_MAP_TX_HI_Q7] }
def F.DON_POL_TX_INV : Fld := { off := 0x900020, lo := 16, w := 16, ty := .rwl }
def F.DON_POL_RX_INV : Fld := { off := 0x900020, lo := 0, w := 16, ty := .rwl }
/-- `DON_POL` (R309, 04_donor_and_front_end_stations.md). -/
def RD.DON_POL : RegD := { base := 0x900020, dims := [], ao := false, lock := true, blk := some 3, flds := [F.DON_POL_TX_INV, F.DON_POL_RX_INV] }
def F.DON_LINK_CFG_EN : Fld := { off := 0x900100, lo := 31, w := 1, ty := .rwl, s1 := 0x40 }
def F.DON_LINK_CFG_RBD : Fld := { off := 0x900100, lo := 23, w := 8, ty := .rwl, s1 := 0x40 }
def F.DON_LINK_CFG_N_M1 : Fld := { off := 0x900100, lo := 19, w := 4, ty := .rwl, s1 := 0x40, rst := fun _ _ _ => 0xF }
def F.DON_LINK_CFG_RATE : Fld := { off := 0x900100, lo := 17, w := 2, ty := .rwl, s1 := 0x40 }
def F.DON_LINK_CFG_E_CODE : Fld := { off := 0x900100, lo := 15, w := 2, ty := .rwl, s1 := 0x40 }
def F.DON_LINK_CFG_S_CODE : Fld := { off := 0x900100, lo := 13, w := 2, ty := .rwl, s1 := 0x40 }
def F.DON_LINK_CFG_M_PAIRS : Fld := { off := 0x900100, lo := 9, w := 4, ty := .rwl, s1 := 0x40, rst := fun _ _ _ => 1 }
def F.DON_LINK_CFG_L_CODE : Fld := { off := 0x900100, lo := 7, w := 2, ty := .rwl, s1 := 0x40 }
def F.DON_LINK_CFG_FIRST_LANE : Fld := { off := 0x900100, lo := 0, w := 4, ty := .rwl, s1 := 0x40 }
/-- `DON_LINK_CFG_j` (R310, 04_donor_and_front_end_stations.md). -/
def RD.DON_LINK_CFG : RegD := { base := 0x900100, dims := [(8, 0x40)], ao := false, lock := true, blk := some 3, flds := [F.DON_LINK_CFG_EN, F.DON_LINK_CFG_RBD, F.DON_LINK_CFG_N_M1, F.DON_LINK_CFG_RATE, F.DON_LINK_CFG_E_CODE, F.DON_LINK_CFG_S_CODE, F.DON_LINK_CFG_M_PAIRS, F.DON_LINK_CFG_L_CODE, F.DON_LINK_CFG_FIRST_LANE] }
def F.DON_LINK_STS_BUF_MAX : Fld := { off := 0x900104, lo := 24, w := 8, ty := .ro, s1 := 0x40 }
def F.DON_LINK_STS_BUF_MARGIN : Fld := { off := 0x900104, lo := 16, w := 8, ty := .ro, s1 := 0x40, rst := fun _ _ _ => 0xFF }
def F.DON_LINK_STS_LATE : Fld := { off := 0x900104, lo := 3, w := 1, ty := .w1c, s1 := 0x40 }
def F.DON_LINK_STS_STATE : Fld := { off := 0x900104, lo := 0, w := 3, ty := .ro, s1 := 0x40 }
/-- `DON_LINK_STS_j` (R311, 04_donor_and_front_end_stations.md). -/
def RD.DON_LINK_STS : RegD := { base := 0x900104, dims := [(8, 0x40)], ao := false, lock := false, blk := some 3, flds := [F.DON_LINK_STS_BUF_MAX, F.DON_LINK_STS_BUF_MARGIN, F.DON_LINK_STS_LATE, F.DON_LINK_STS_STATE] }
def F.DON_LINK_CNT_CRC_ERR : Fld := { off := 0x900108, lo := 16, w := 16, ty := .ro, s1 := 0x40 }
def F.DON_LINK_CNT_SH_ERR : Fld := { off := 0x900108, lo := 8, w := 8, ty := .ro, s1 := 0x40 }
def F.DON_LINK_CNT_RELINKS : Fld := { off := 0x900108, lo := 0, w := 8, ty := .ro, s1 := 0x40 }
/-- `DON_LINK_CNT_j` (R312, 04_donor_and_front_end_stations.md). -/
def RD.DON_LINK_CNT : RegD := { base := 0x900108, dims := [(8, 0x40)], ao := false, lock := false, blk := some 3, flds := [F.DON_LINK_CNT_CRC_ERR, F.DON_LINK_CNT_SH_ERR, F.DON_LINK_CNT_RELINKS] }
def F.DON_LINK_RATE_RATE_KBPS : Fld := { off := 0x90010C, lo := 0, w := 25, ty := .ro, s1 := 0x40 }
/-- `DON_LINK_RATE_j` (R313, 04_donor_and_front_end_stations.md). -/
def RD.DON_LINK_RATE : RegD := { base := 0x90010C, dims := [(8, 0x40)], ao := false, lock := false, blk := some 3, flds := [F.DON_LINK_RATE_RATE_KBPS] }
def F.DON_LINK_LAT_LAT : Fld := { off := 0x900110, lo := 0, w := 16, ty := .ro, s1 := 0x40 }
/-- `DON_LINK_LAT_j` (R313, 04_donor_and_front_end_stations.md). -/
def RD.DON_LINK_LAT : RegD := { base := 0x900110, dims := [(8, 0x40)], ao := false, lock := false, blk := some 3, flds := [F.DON_LINK_LAT_LAT] }
def F.DON_PATH_TX_PATH : Fld := { off := 0x900400, lo := 16, w := 16, ty := .rwl, s1 := 0x10 }
def F.DON_PATH_RX_PATH : Fld := { off := 0x900400, lo := 0, w := 16, ty := .rwl, s1 := 0x10 }
/-- `DON_PATH_d` (R314, 04_donor_and_front_end_stations.md). -/
def RD.DON_PATH : RegD := { base := 0x900400, dims := [(16, 0x10)], ao := false, lock := true, blk := some 3, flds := [F.DON_PATH_TX_PATH, F.DON_PATH_RX_PATH] }
def F.DON_SMAP_TX_VALID : Fld := { off := 0x900404, lo := 15, w := 1, ty := .ro, s1 := 0x10 }
def F.DON_SMAP_TX_PAIR : Fld := { off := 0x900404, lo := 12, w := 3, ty := .ro, s1 := 0x10 }
def F.DON_SMAP_TX_LINK : Fld := { off := 0x900404, lo := 8, w := 2, ty := .ro, s1 := 0x10 }
def F.DON_SMAP_RX_VALID : Fld := { off := 0x900404, lo := 7, w := 1, ty := .ro, s1 := 0x10 }
def F.DON_SMAP_RX_PAIR : Fld := { off := 0x900404, lo := 4, w := 3, ty := .ro, s1 := 0x10 }
def F.DON_SMAP_RX_LINK : Fld := { off := 0x900404, lo := 0, w := 2, ty := .ro, s1 := 0x10 }
/-- `DON_SMAP_d` (R315, 04_donor_and_front_end_stations.md). -/
def RD.DON_SMAP : RegD := { base := 0x900404, dims := [(16, 0x10)], ao := false, lock := false, blk := some 3, flds := [F.DON_SMAP_TX_VALID, F.DON_SMAP_TX_PAIR, F.DON_SMAP_TX_LINK, F.DON_SMAP_RX_VALID, F.DON_SMAP_RX_PAIR, F.DON_SMAP_RX_LINK] }
def F.DON_CLIP_CLIP : Fld := { off := 0x900408, lo := 0, w := 32, ty := .ro, s1 := 0x10 }
/-- `DON_CLIP_d` (R316, 04_donor_and_front_end_stations.md). -/
def RD.DON_CLIP : RegD := { base := 0x900408, dims := [(16, 0x10)], ao := false, lock := false, blk := some 3, flds := [F.DON_CLIP_CLIP] }
def F.FES_OWNER_CLAIM_CONFLICT : Fld := { off := 0xA00000, lo := 8, w := 1, ty := .w1c }
def F.FES_OWNER_OWNER : Fld := { off := 0xA00000, lo := 0, w := 2, ty := .rw }
/-- `FES_OWNER` (R317, 04_donor_and_front_end_stations.md). -/
def RD.FES_OWNER : RegD := { base := 0xA00000, dims := [], ao := false, lock := false, blk := some 4, flds := [F.FES_OWNER_CLAIM_CONFLICT, F.FES_OWNER_OWNER] }
def F.FES_GLB_CTL_REM_RENEW : Fld := { off := 0xA00004, lo := 8, w := 8, ty := .rwl, rst := fun _ _ _ => 2 }
def F.FES_GLB_CTL_CLR_CNT : Fld := { off := 0xA00004, lo := 1, w := 1, ty := .w1s }
def F.FES_GLB_CTL_HB_EN : Fld := { off := 0xA00004, lo := 0, w := 1, ty := .rwl, rst := fun _ _ _ => 1 }
/-- `FES_GLB_CTL` (R318, 04_donor_and_front_end_stations.md). -/
def RD.FES_GLB_CTL : RegD := { base := 0xA00004, dims := [], ao := false, lock := true, blk := some 4, flds := [F.FES_GLB_CTL_REM_RENEW, F.FES_GLB_CTL_CLR_CNT, F.FES_GLB_CTL_HB_EN] }
def F.FES_SAFE_STS_SAFE_CNT : Fld := { off := 0xA00008, lo := 16, w := 16, ty := .ro }
def F.FES_SAFE_STS_CLK_SAFE : Fld := { off := 0xA00008, lo := 1, w := 1, ty := .ro }
def F.FES_SAFE_STS_SAFE_N : Fld := { off := 0xA00008, lo := 0, w := 1, ty := .ro }
/-- `FES_SAFE_STS` (R319, 04_donor_and_front_end_stations.md). -/
def RD.FES_SAFE_STS : RegD := { base := 0xA00008, dims := [], ao := true, lock := false, blk := some 4, flds := [F.FES_SAFE_STS_SAFE_CNT, F.FES_SAFE_STS_CLK_SAFE, F.FES_SAFE_STS_SAFE_N] }
def F.FES_CTL_RUN : Fld := { off := 0xA01000, lo := 20, w := 1, ty := .w1s, s1 := 0x200 }
def F.FES_CTL_RUN_SLOT : Fld := { off := 0xA01000, lo := 16, w := 4, ty := .rwl, s1 := 0x200 }
def F.FES_CTL_ALM_REARM : Fld := { off := 0xA01000, lo := 9, w := 1, ty := .w1s, s1 := 0x200 }
def F.FES_CTL_FAULT_CLR : Fld := { off := 0xA01000, lo := 8, w := 1, ty := .w1s, s1 := 0x200 }
def F.FES_CTL_SLICE : Fld := { off := 0xA01000, lo := 4, w := 4, ty := .rwl, s1 := 0x200 }
def F.FES_CTL_HB_RENEW : Fld := { off := 0xA01000, lo := 3, w := 1, ty := .rwl, s1 := 0x200, rst := fun _ _ _ => 1 }
def F.FES_CTL_TX_DIR : Fld := { off := 0xA01000, lo := 2, w := 1, ty := .rwl, s1 := 0x200 }
def F.FES_CTL_PAT : Fld := { off := 0xA01000, lo := 1, w := 1, ty := .rwl, s1 := 0x200 }
def F.FES_CTL_EN : Fld := { off := 0xA01000, lo := 0, w := 1, ty := .rwl, s1 := 0x200 }
/-- `FES_CTL_s` (R320, 04_donor_and_front_end_stations.md). -/
def RD.FES_CTL : RegD := { base := 0xA01000, dims := [(8, 0x200)], ao := false, lock := true, blk := some 4, flds := [F.FES_CTL_RUN, F.FES_CTL_RUN_SLOT, F.FES_CTL_ALM_REARM, F.FES_CTL_FAULT_CLR, F.FES_CTL_SLICE, F.FES_CTL_HB_RENEW, F.FES_CTL_TX_DIR, F.FES_CTL_PAT, F.FES_CTL_EN] }
def F.FES_STS_CHANNEL : Fld := { off := 0xA01004, lo := 16, w := 16, ty := .ro, s1 := 0x200 }
def F.FES_STS_STUCK : Fld := { off := 0xA01004, lo := 15, w := 1, ty := .ro, s1 := 0x200 }
def F.FES_STS_LAST_RESULT : Fld := { off := 0xA01004, lo := 12, w := 3, ty := .ro, s1 := 0x200 }
def F.FES_STS_LAST_SLOT : Fld := { off := 0xA01004, lo := 8, w := 4, ty := .ro, s1 := 0x200 }
def F.FES_STS_ALARM : Fld := { off := 0xA01004, lo := 7, w := 1, ty := .ro, s1 := 0x200 }
def F.FES_STS_LOCK : Fld := { off := 0xA01004, lo := 6, w := 1, ty := .ro, s1 := 0x200 }
def F.FES_STS_PAEN : Fld := { off := 0xA01004, lo := 5, w := 1, ty := .ro, s1 := 0x200 }
def F.FES_STS_TXEN : Fld := { off := 0xA01004, lo := 4, w := 1, ty := .ro, s1 := 0x200 }
def F.FES_STS_PENDING : Fld := { off := 0xA01004, lo := 3, w := 1, ty := .ro, s1 := 0x200 }
def F.FES_STS_STATE : Fld := { off := 0xA01004, lo := 0, w := 3, ty := .ro, s1 := 0x200 }
/-- `FES_STS_s` (R321, 04_donor_and_front_end_stations.md). -/
def RD.FES_STS : RegD := { base := 0xA01004, dims := [(8, 0x200)], ao := false, lock := false, blk := some 4, flds := [F.FES_STS_CHANNEL, F.FES_STS_STUCK, F.FES_STS_LAST_RESULT, F.FES_STS_LAST_SLOT, F.FES_STS_ALARM, F.FES_STS_LOCK, F.FES_STS_PAEN, F.FES_STS_TXEN, F.FES_STS_PENDING, F.FES_STS_STATE] }
def F.FES_SPI_CFG_CS_GAP : Fld := { off := 0xA01008, lo := 12, w := 4, ty := .rwl, s1 := 0x200, rst := fun _ _ _ => 4 }
def F.FES_SPI_CFG_LSB_FIRST : Fld := { off := 0xA01008, lo := 8, w := 1, ty := .rwl, s1 := 0x200 }
def F.FES_SPI_CFG_MODE : Fld := { off := 0xA01008, lo := 6, w := 2, ty := .rwl, s1 := 0x200 }
def F.FES_SPI_CFG_DIV : Fld := { off := 0xA01008, lo := 0, w := 6, ty := .rwl, s1 := 0x200, rst := fun _ _ _ => 0x13 }
/-- `FES_SPI_CFG_s` (R322, 04_donor_and_front_end_stations.md). -/
def RD.FES_SPI_CFG : RegD := { base := 0xA01008, dims := [(8, 0x200)], ao := false, lock := true, blk := some 4, flds := [F.FES_SPI_CFG_CS_GAP, F.FES_SPI_CFG_LSB_FIRST, F.FES_SPI_CFG_MODE, F.FES_SPI_CFG_DIV] }
def F.FES_PIN_CFG_SAFE : Fld := { off := 0xA0100C, lo := 8, w := 4, ty := .rwl, s1 := 0x200 }
def F.FES_PIN_CFG_POL : Fld := { off := 0xA0100C, lo := 0, w := 6, ty := .rwl, s1 := 0x200 }
/-- `FES_PIN_CFG_s` (R323, 04_donor_and_front_end_stations.md). -/
def RD.FES_PIN_CFG : RegD := { base := 0xA0100C, dims := [(8, 0x200)], ao := false, lock := true, blk := some 4, flds := [F.FES_PIN_CFG_SAFE, F.FES_PIN_CFG_POL] }
def F.FES_TIMING_PIN_STEP : Fld := { off := 0xA01010, lo := 16, w := 8, ty := .rwl, s1 := 0x200, rst := fun _ _ _ => 0x10 }
def F.FES_TIMING_PA_DELAY : Fld := { off := 0xA01010, lo := 0, w := 16, ty := .rwl, s1 := 0x200, rst := fun _ _ _ => 0xF6 }
/-- `FES_TIMING_s` (R324, 04_donor_and_front_end_stations.md). -/
def RD.FES_TIMING : RegD := { base := 0xA01010, dims := [(8, 0x200)], ao := false, lock := true, blk := some 4, flds := [F.FES_TIMING_PIN_STEP, F.FES_TIMING_PA_DELAY] }
def F.FES_LIMIT_MAX_ON : Fld := { off := 0xA01014, lo := 16, w := 16, ty := .rwl, s1 := 0x200, rst := fun _ _ _ => 0x28 }
def F.FES_LIMIT_TX_WAIT_LIMIT : Fld := { off := 0xA01014, lo := 0, w := 16, ty := .rwl, s1 := 0x200, rst := fun _ _ _ => 0x3E8 }
/-- `FES_LIMIT_s` (R325, 04_donor_and_front_end_stations.md). -/
def RD.FES_LIMIT : RegD := { base := 0xA01014, dims := [(8, 0x200)], ao := false, lock := true, blk := some 4, flds := [F.FES_LIMIT_MAX_ON, F.FES_LIMIT_TX_WAIT_LIMIT] }
def F.FES_PATH_PATH : Fld := { off := 0xA01018, lo := 0, w := 16, ty := .rwl, s1 := 0x200 }
/-- `FES_PATH_s` (R326, 04_donor_and_front_end_stations.md). -/
def RD.FES_PATH : RegD := { base := 0xA01018, dims := [(8, 0x200)], ao := false, lock := true, blk := some 4, flds := [F.FES_PATH_PATH] }
def F.FES_LOCK_CFG_MASK : Fld := { off := 0xA0101C, lo := 24, w := 8, ty := .rwl, s1 := 0x200 }
def F.FES_LOCK_CFG_READ_CMD : Fld := { off := 0xA0101C, lo := 8, w := 16, ty := .rwl, s1 := 0x200 }
def F.FES_LOCK_CFG_POLL_US : Fld := { off := 0xA0101C, lo := 2, w := 6, ty := .rwl, s1 := 0x200, rst := fun _ _ _ => 4 }
def F.FES_LOCK_CFG_POLL_EN : Fld := { off := 0xA0101C, lo := 0, w := 1, ty := .rwl, s1 := 0x200 }
/-- `FES_LOCK_CFG_s` (R327, 04_donor_and_front_end_stations.md). -/
def RD.FES_LOCK_CFG : RegD := { base := 0xA0101C, dims := [(8, 0x200)], ao := false, lock := true, blk := some 4, flds := [F.FES_LOCK_CFG_MASK, F.FES_LOCK_CFG_READ_CMD, F.FES_LOCK_CFG_POLL_US, F.FES_LOCK_CFG_POLL_EN] }
def F.FES_ALARM_CFG_STUCK_TIME : Fld := { off := 0xA01020, lo := 24, w := 8, ty := .rwl, s1 := 0x200, rst := fun _ _ _ => 0x32 }
def F.FES_ALARM_CFG_LOCKOUT : Fld := { off := 0xA01020, lo := 16, w := 8, ty := .rwl, s1 := 0x200, rst := fun _ _ _ => 0xA }
def F.FES_ALARM_CFG_FILTER : Fld := { off := 0xA01020, lo := 8, w := 8, ty := .rwl, s1 := 0x200, rst := fun _ _ _ => 5 }
def F.FES_ALARM_CFG_POL : Fld := { off := 0xA01020, lo := 3, w := 1, ty := .rwl, s1 := 0x200 }
def F.FES_ALARM_CFG_ACTION : Fld := { off := 0xA01020, lo := 0, w := 2, ty := .rwl, s1 := 0x200 }
/-- `FES_ALARM_CFG_s` (R328, 04_donor_and_front_end_stations.md). -/
def RD.FES_ALARM_CFG : RegD := { base := 0xA01020, dims := [(8, 0x200)], ao := false, lock := true, blk := some 4, flds := [F.FES_ALARM_CFG_STUCK_TIME, F.FES_ALARM_CFG_LOCKOUT, F.FES_ALARM_CFG_FILTER, F.FES_ALARM_CFG_POL, F.FES_ALARM_CFG_ACTION] }
def F.FES_TBL_ADDR64 : Fld := { off := 0xA01024, lo := 0, w := 32, ty := .rwl, s1 := 0x200 }
/-- `FES_TBL_s` (R329, 04_donor_and_front_end_stations.md). -/
def RD.FES_TBL : RegD := { base := 0xA01024, dims := [(8, 0x200)], ao := false, lock := true, blk := some 4, flds := [F.FES_TBL_ADDR64] }
def F.FES_CACHE_CTL_LOAD : Fld := { off := 0xA01028, lo := 31, w := 1, ty := .w1s, s1 := 0x200 }
def F.FES_CACHE_CTL_BUSY : Fld := { off := 0xA01028, lo := 30, w := 1, ty := .ro, s1 := 0x200 }
def F.FES_CACHE_CTL_RESULT : Fld := { off := 0xA01028, lo := 28, w := 2, ty := .ro, s1 := 0x200 }
def F.FES_CACHE_CTL_CACHE_IDX : Fld := { off := 0xA01028, lo := 16, w := 5, ty := .rwl, s1 := 0x200 }
def F.FES_CACHE_CTL_CHANNEL : Fld := { off := 0xA01028, lo := 0, w := 12, ty := .rwl, s1 := 0x200 }
/-- `FES_CACHE_CTL_s` (R330, 04_donor_and_front_end_stations.md). -/
def RD.FES_CACHE_CTL : RegD := { base := 0xA01028, dims := [(8, 0x200)], ao := false, lock := true, blk := some 4, flds := [F.FES_CACHE_CTL_LOAD, F.FES_CACHE_CTL_BUSY, F.FES_CACHE_CTL_RESULT, F.FES_CACHE_CTL_CACHE_IDX, F.FES_CACHE_CTL_CHANNEL] }
def F.FES_CNT_NO_LOCK : Fld := { off := 0xA0102C, lo := 24, w := 8, ty := .ro, s1 := 0x200 }
def F.FES_CNT_MAX_ON_DROP : Fld := { off := 0xA0102C, lo := 16, w := 8, ty := .ro, s1 := 0x200 }
def F.FES_CNT_CANCELLED : Fld := { off := 0xA0102C, lo := 8, w := 8, ty := .ro, s1 := 0x200 }
def F.FES_CNT_CHATTER : Fld := { off := 0xA0102C, lo := 0, w := 8, ty := .ro, s1 := 0x200 }
/-- `FES_CNT_s` (R331, 04_donor_and_front_end_stations.md). -/
def RD.FES_CNT : RegD := { base := 0xA0102C, dims := [(8, 0x200)], ao := false, lock := false, blk := some 4, flds := [F.FES_CNT_NO_LOCK, F.FES_CNT_MAX_ON_DROP, F.FES_CNT_CANCELLED, F.FES_CNT_CHATTER] }
def F.FES_CNT2_CACHE_MISS : Fld := { off := 0xA01030, lo := 16, w := 16, ty := .ro, s1 := 0x200 }
def F.FES_CNT2_ALARMS : Fld := { off := 0xA01030, lo := 0, w := 16, ty := .ro, s1 := 0x200 }
/-- `FES_CNT2_s` (R331, 04_donor_and_front_end_stations.md). -/
def RD.FES_CNT2 : RegD := { base := 0xA01030, dims := [(8, 0x200)], ao := false, lock := false, blk := some 4, flds := [F.FES_CNT2_CACHE_MISS, F.FES_CNT2_ALARMS] }
def F.FES_RDATA_DATA : Fld := { off := 0xA01034, lo := 0, w := 32, ty := .ro, s1 := 0x200 }
/-- `FES_RDATA_s` (R332, 04_donor_and_front_end_stations.md). -/
def RD.FES_RDATA : RegD := { base := 0xA01034, dims := [(8, 0x200)], ao := false, lock := false, blk := some 4, flds := [F.FES_RDATA_DATA] }
def F.FES_SLOT_BODY : Fld := { off := 0xA01100, lo := 0, w := 32, ty := .rwl, s1 := 0x200, s2 := 0x10, s3 := 0x4 }
/-- `FES_SLOT_s_k_w` (R333, 04_donor_and_front_end_stations.md). -/
def RD.FES_SLOT : RegD := { base := 0xA01100, dims := [(8, 0x200), (16, 0x10), (4, 0x4)], ao := false, lock := true, blk := some 4, flds := [F.FES_SLOT_BODY] }
def F.FES_REM_STS_ARMED : Fld := { off := 0xA10000, lo := 8, w := 1, ty := .ro, s1 := 0x4 }
def F.FES_REM_STS_LAST_RESULT : Fld := { off := 0xA10000, lo := 4, w := 3, ty := .ro, s1 := 0x4 }
def F.FES_REM_STS_LAST_SLOT : Fld := { off := 0xA10000, lo := 0, w := 4, ty := .ro, s1 := 0x4 }
/-- `FES_REM_STS_q` (R334, 04_donor_and_front_end_stations.md). -/
def RD.FES_REM_STS : RegD := { base := 0xA10000, dims := [(512, 0x4)], ao := false, lock := false, blk := some 4, flds := [F.FES_REM_STS_ARMED, F.FES_REM_STS_LAST_RESULT, F.FES_REM_STS_LAST_SLOT] }
def F.SLC_OWNER_CLAIM_CONFLICT : Fld := { off := 0xB00000, lo := 8, w := 1, ty := .w1c }
def F.SLC_OWNER_OWNER : Fld := { off := 0xB00000, lo := 0, w := 2, ty := .rw }
/-- `SLC_OWNER` (R373, 05_tile_datapath.md). -/
def RD.SLC_OWNER : RegD := { base := 0xB00000, dims := [], ao := false, lock := false, blk := some 5, flds := [F.SLC_OWNER_CLAIM_CONFLICT, F.SLC_OWNER_OWNER] }
def F.SLC_CTL_TEST_SP : Fld := { off := 0xB00004, lo := 16, w := 6, ty := .rwl }
def F.SLC_CTL_TEST_FAIL : Fld := { off := 0xB00004, lo := 8, w := 1, ty := .w1s }
def F.SLC_CTL_RES_LIMIT : Fld := { off := 0xB00004, lo := 4, w := 4, ty := .rwl, rst := fun _ _ _ => 3 }
def F.SLC_CTL_CLR_CNT : Fld := { off := 0xB00004, lo := 0, w := 1, ty := .w1s }
/-- `SLC_CTL` (R374, 05_tile_datapath.md). -/
def RD.SLC_CTL : RegD := { base := 0xB00004, dims := [], ao := false, lock := true, blk := some 5, flds := [F.SLC_CTL_TEST_SP, F.SLC_CTL_TEST_FAIL, F.SLC_CTL_RES_LIMIT, F.SLC_CTL_CLR_CNT] }
def F.SLC_STS_RING_LOAD : Fld := { off := 0xB00008, lo := 12, w := 10, ty := .ro }
def F.SLC_STS_TAKEOVER : Fld := { off := 0xB00008, lo := 6, w := 1, ty := .ro }
def F.SLC_STS_TARGETS : Fld := { off := 0xB00008, lo := 0, w := 6, ty := .ro }
/-- `SLC_STS` (R375, 05_tile_datapath.md). -/
def RD.SLC_STS : RegD := { base := 0xB00008, dims := [], ao := false, lock := false, blk := some 5, flds := [F.SLC_STS_RING_LOAD, F.SLC_STS_TAKEOVER, F.SLC_STS_TARGETS] }
def F.SLC_TAKEOVER_COUNT : Fld := { off := 0xB0000C, lo := 24, w := 8, ty := .ro }
def F.SLC_TAKEOVER_TARGET_SP : Fld := { off := 0xB0000C, lo := 16, w := 6, ty := .ro }
def F.SLC_TAKEOVER_FAILED_SP : Fld := { off := 0xB0000C, lo := 8, w := 6, ty := .ro }
def F.SLC_TAKEOVER_STEP : Fld := { off := 0xB0000C, lo := 0, w := 3, ty := .ro }
/-- `SLC_TAKEOVER` (R376, 05_tile_datapath.md). -/
def RD.SLC_TAKEOVER : RegD := { base := 0xB0000C, dims := [], ao := false, lock := false, blk := some 5, flds := [F.SLC_TAKEOVER_COUNT, F.SLC_TAKEOVER_TARGET_SP, F.SLC_TAKEOVER_FAILED_SP, F.SLC_TAKEOVER_STEP] }
def F.SLC_RES_LOG_NEW : Fld := { off := 0xB00010, lo := 31, w := 1, ty := .w1c }
def F.SLC_RES_LOG_STREAM : Fld := { off := 0xB00010, lo := 16, w := 12, ty := .ro }
def F.SLC_RES_LOG_UNIT : Fld := { off := 0xB00010, lo := 8, w := 4, ty := .ro }
def F.SLC_RES_LOG_SP : Fld := { off := 0xB00010, lo := 0, w := 6, ty := .ro }
/-- `SLC_RES_LOG` (R377, 05_tile_datapath.md). -/
def RD.SLC_RES_LOG : RegD := { base := 0xB00010, dims := [], ao := false, lock := false, blk := some 5, flds := [F.SLC_RES_LOG_NEW, F.SLC_RES_LOG_STREAM, F.SLC_RES_LOG_UNIT, F.SLC_RES_LOG_SP] }
def F.SLC_RES_CNT_COUNT : Fld := { off := 0xB00014, lo := 0, w := 32, ty := .ro }
/-- `SLC_RES_CNT` (R378, 05_tile_datapath.md). -/
def RD.SLC_RES_CNT : RegD := { base := 0xB00014, dims := [], ao := false, lock := false, blk := some 5, flds := [F.SLC_RES_CNT_COUNT] }
def F.SLC_CNT_SAT : Fld := { off := 0xB00018, lo := 0, w := 32, ty := .ro }
/-- `SLC_CNT` (R379, 05_tile_datapath.md). -/
def RD.SLC_CNT : RegD := { base := 0xB00018, dims := [], ao := false, lock := false, blk := some 5, flds := [F.SLC_CNT_SAT] }
def F.SLC_SP_STS_RES_ERR : Fld := { off := 0xB00100, lo := 24, w := 8, ty := .ro, s1 := 0x4 }
def F.SLC_SP_STS_UNITS : Fld := { off := 0xB00100, lo := 10, w := 10, ty := .ro, s1 := 0x4 }
def F.SLC_SP_STS_DONOR : Fld := { off := 0xB00100, lo := 9, w := 1, ty := .ro, s1 := 0x4 }
def F.SLC_SP_STS_GATED : Fld := { off := 0xB00100, lo := 8, w := 1, ty := .ro, s1 := 0x4, rst := fun _ _ _ => 1 }
def F.SLC_SP_STS_CAUSE : Fld := { off := 0xB00100, lo := 5, w := 3, ty := .ro, s1 := 0x4 }
def F.SLC_SP_STS_STATE : Fld := { off := 0xB00100, lo := 0, w := 3, ty := .ro, s1 := 0x4 }
/-- `SLC_SP_STS_n` (R380, 05_tile_datapath.md). -/
def RD.SLC_SP_STS : RegD := { base := 0xB00100, dims := [(36, 0x4)], ao := false, lock := false, blk := some 5, flds := [F.SLC_SP_STS_RES_ERR, F.SLC_SP_STS_UNITS, F.SLC_SP_STS_DONOR, F.SLC_SP_STS_GATED, F.SLC_SP_STS_CAUSE, F.SLC_SP_STS_STATE] }
def F.SLC_DSLICE_REALIGN : Fld := { off := 0xB00200, lo := 8, w := 1, ty := .w1s, s1 := 0x4 }
def F.SLC_DSLICE_ALIGN_MODE : Fld := { off := 0xB00200, lo := 4, w := 1, ty := .rwl, s1 := 0x4 }
def F.SLC_DSLICE_MODE : Fld := { off := 0xB00200, lo := 0, w := 1, ty := .ro, s1 := 0x4 }
/-- `SLC_DSLICE_d` (R381, 05_tile_datapath.md). -/
def RD.SLC_DSLICE : RegD := { base := 0xB00200, dims := [(16, 0x4)], ao := false, lock := true, blk := some 5, flds := [F.SLC_DSLICE_REALIGN, F.SLC_DSLICE_ALIGN_MODE, F.SLC_DSLICE_MODE] }
def F.SLC_ALIGN_TGT_TARGET : Fld := { off := 0xB00240, lo := 0, w := 24, ty := .rwl, s1 := 0x4 }
/-- `SLC_ALIGN_TGT_d` (R382, 05_tile_datapath.md). -/
def RD.SLC_ALIGN_TGT : RegD := { base := 0xB00240, dims := [(16, 0x4)], ao := false, lock := true, blk := some 5, flds := [F.SLC_ALIGN_TGT_TARGET] }
def F.SLC_ALIGN_CUR_CURRENT : Fld := { off := 0xB00280, lo := 0, w := 24, ty := .ro, s1 := 0x4 }
/-- `SLC_ALIGN_CUR_d` (R382, 05_tile_datapath.md). -/
def RD.SLC_ALIGN_CUR : RegD := { base := 0xB00280, dims := [(16, 0x4)], ao := false, lock := false, blk := some 5, flds := [F.SLC_ALIGN_CUR_CURRENT] }
def F.SLC_DCLIP_CLIP : Fld := { off := 0xB002C0, lo := 0, w := 32, ty := .ro, s1 := 0x4 }
/-- `SLC_DCLIP_d` (R383, 05_tile_datapath.md). -/
def RD.SLC_DCLIP : RegD := { base := 0xB002C0, dims := [(16, 0x4)], ao := false, lock := false, blk := some 5, flds := [F.SLC_DCLIP_CLIP] }
def F.SLC_UL_VALID : Fld := { off := 0xB01000, lo := 31, w := 1, ty := .ro, s1 := 0x4 }
def F.SLC_UL_RANGE : Fld := { off := 0xB01000, lo := 30, w := 1, ty := .ro, s1 := 0x4 }
def F.SLC_UL_ADD : Fld := { off := 0xB01000, lo := 0, w := 16, ty := .ro, s1 := 0x4 }
/-- `SLC_UL_m` (R384, 05_tile_datapath.md). -/
def RD.SLC_UL : RegD := { base := 0xB01000, dims := [(2048, 0x4)], ao := false, lock := false, blk := some 5, flds := [F.SLC_UL_VALID, F.SLC_UL_RANGE, F.SLC_UL_ADD] }
def F.SLC_PROT_MUTE : Fld := { off := 0xB03000, lo := 31, w := 1, ty := .ro, s1 := 0x4 }
def F.SLC_PROT_FT_CUT : Fld := { off := 0xB03000, lo := 30, w := 1, ty := .ro, s1 := 0x4 }
def F.SLC_PROT_FT_COUNT : Fld := { off := 0xB03000, lo := 16, w := 8, ty := .ro, s1 := 0x4 }
def F.SLC_PROT_CUT : Fld := { off := 0xB03000, lo := 0, w := 8, ty := .ro, s1 := 0x4 }
/-- `SLC_PROT_m` (R385, 05_tile_datapath.md). -/
def RD.SLC_PROT : RegD := { base := 0xB03000, dims := [(2048, 0x4)], ao := false, lock := false, blk := some 5, flds := [F.SLC_PROT_MUTE, F.SLC_PROT_FT_CUT, F.SLC_PROT_FT_COUNT, F.SLC_PROT_CUT] }
def F.SLC_CLIP_CLIP : Fld := { off := 0xB05000, lo := 0, w := 32, ty := .ro, s1 := 0x4 }
/-- `SLC_CLIP_m` (R386, 05_tile_datapath.md). -/
def RD.SLC_CLIP : RegD := { base := 0xB05000, dims := [(2048, 0x4)], ao := false, lock := false, blk := some 5, flds := [F.SLC_CLIP_CLIP] }
def F.TIL_PEND_G_HI : Fld := { off := 0x1000000, lo := 16, w := 16, ty := .rwl, s1 := 0x4, rst := fun _ _ _ => 0x8000 }
def F.TIL_PEND_G_LO : Fld := { off := 0x1000000, lo := 0, w := 16, ty := .rwl, s1 := 0x4, rst := fun _ _ _ => 0x8000 }
/-- `TIL_PEND_u` (R346, 05_tile_datapath.md). -/
def RD.TIL_PEND : RegD := { base := 0x1000000, dims := [(262144, 0x4)], ao := false, lock := true, blk := some 6, flds := [F.TIL_PEND_G_HI, F.TIL_PEND_G_LO] }
def F.TIL_ACT_G_HI : Fld := { off := 0x1100000, lo := 16, w := 16, ty := .ro, s1 := 0x4, rst := fun _ _ _ => 0x8000 }
def F.TIL_ACT_G_LO : Fld := { off := 0x1100000, lo := 0, w := 16, ty := .ro, s1 := 0x4, rst := fun _ _ _ => 0x8000 }
/-- `TIL_ACT_u` (R346, 05_tile_datapath.md). -/
def RD.TIL_ACT : RegD := { base := 0x1100000, dims := [(262144, 0x4)], ao := false, lock := false, blk := some 6, flds := [F.TIL_ACT_G_HI, F.TIL_ACT_G_LO] }
def F.TIL_OWNER_CLAIM_CONFLICT : Fld := { off := 0x1F00000, lo := 8, w := 1, ty := .w1c }
def F.TIL_OWNER_OWNER : Fld := { off := 0x1F00000, lo := 0, w := 2, ty := .rw }
/-- `TIL_OWNER` (R387, 05_tile_datapath.md). -/
def RD.TIL_OWNER : RegD := { base := 0x1F00000, dims := [], ao := false, lock := false, blk := some 6, flds := [F.TIL_OWNER_CLAIM_CONFLICT, F.TIL_OWNER_OWNER] }
def F.TIL_CTL_CLR_CNT : Fld := { off := 0x1F00004, lo := 0, w := 1, ty := .w1s }
/-- `TIL_CTL` (R388, 05_tile_datapath.md). -/
def RD.TIL_CTL : RegD := { base := 0x1F00004, dims := [], ao := false, lock := true, blk := some 6, flds := [F.TIL_CTL_CLR_CNT] }
def F.TIL_RANGE_CNT_COUNT : Fld := { off := 0x1F00008, lo := 0, w := 32, ty := .ro }
/-- `TIL_RANGE_CNT` (R389, 05_tile_datapath.md). -/
def RD.TIL_RANGE_CNT : RegD := { base := 0x1F00008, dims := [], ao := false, lock := false, blk := some 6, flds := [F.TIL_RANGE_CNT_COUNT] }
def F.TIL_COMMIT_CNT_DEFERRED : Fld := { off := 0x1F0000C, lo := 16, w := 16, ty := .ro }
def F.TIL_COMMIT_CNT_MERGED : Fld := { off := 0x1F0000C, lo := 0, w := 16, ty := .ro }
/-- `TIL_COMMIT_CNT` (R390, 05_tile_datapath.md). -/
def RD.TIL_COMMIT_CNT : RegD := { base := 0x1F0000C, dims := [], ao := false, lock := false, blk := some 6, flds := [F.TIL_COMMIT_CNT_DEFERRED, F.TIL_COMMIT_CNT_MERGED] }
def F.TIL_REJECT_CNT_COUNT : Fld := { off := 0x1F00010, lo := 0, w := 32, ty := .ro }
/-- `TIL_REJECT_CNT` (R391, 05_tile_datapath.md). -/
def RD.TIL_REJECT_CNT : RegD := { base := 0x1F00010, dims := [], ao := false, lock := false, blk := some 6, flds := [F.TIL_REJECT_CNT_COUNT] }
def F.TIL_STREAM_VALID : Fld := { off := 0x1F01000, lo := 31, w := 1, ty := .ro, s1 := 0x4 }
def F.TIL_STREAM_COMMIT : Fld := { off := 0x1F01000, lo := 8, w := 1, ty := .w1s, s1 := 0x4 }
def F.TIL_STREAM_WAITING : Fld := { off := 0x1F01000, lo := 4, w := 1, ty := .ro, s1 := 0x4 }
def F.TIL_STREAM_FADING : Fld := { off := 0x1F01000, lo := 3, w := 1, ty := .ro, s1 := 0x4 }
def F.TIL_STREAM_ACTIVE_BANK : Fld := { off := 0x1F01000, lo := 2, w := 1, ty := .ro, s1 := 0x4 }
def F.TIL_STREAM_MANUAL : Fld := { off := 0x1F01000, lo := 0, w := 1, ty := .rwl, s1 := 0x4 }
/-- `TIL_STREAM_m` (R392, 05_tile_datapath.md). -/
def RD.TIL_STREAM : RegD := { base := 0x1F01000, dims := [(2048, 0x4)], ao := false, lock := true, blk := some 6, flds := [F.TIL_STREAM_VALID, F.TIL_STREAM_COMMIT, F.TIL_STREAM_WAITING, F.TIL_STREAM_FADING, F.TIL_STREAM_ACTIVE_BANK, F.TIL_STREAM_MANUAL] }

end Sys2Proof.Machine
end

