-- ==== Sys2Proof/Machine/RegMapC.lean ====
section
/-! DEFINITION. The registers of chapters 06 to 11: one constant per field and one description per register, as the field tables of the spec give them. -/

namespace Sys2Proof.Machine

def F.HK_OWNER_CLAIM_CONFLICT : Fld := { off := 0x300000, lo := 8, w := 1, ty := .w1c }
def F.HK_OWNER_OWNER : Fld := { off := 0x300000, lo := 0, w := 2, ty := .rw }
/-- `HK_OWNER` (R653, 11_housekeeping_analogue.md). -/
def RD.HK_OWNER : RegD := { base := 0x300000, dims := [], ao := true, lock := false, blk := some 11, flds := [F.HK_OWNER_CLAIM_CONFLICT, F.HK_OWNER_OWNER] }
def F.HK_CTL_ROUND_ORB : Fld := { off := 0x300004, lo := 8, w := 2, ty := .rwl }
def F.HK_CTL_STAMP_ORB : Fld := { off := 0x300004, lo := 7, w := 1, ty := .rwl }
def F.HK_CTL_CLR_CNT : Fld := { off := 0x300004, lo := 0, w := 1, ty := .w1s }
/-- `HK_CTL` (R654, 11_housekeeping_analogue.md). -/
def RD.HK_CTL : RegD := { base := 0x300004, dims := [], ao := true, lock := true, blk := some 11, flds := [F.HK_CTL_ROUND_ORB, F.HK_CTL_STAMP_ORB, F.HK_CTL_CLR_CNT] }
def F.HK_STS_FORCED_LP : Fld := { off := 0x300008, lo := 2, w := 1, ty := .ro, rst := fun _ _ _ => 1 }
def F.HK_STS_ROUND_SRC : Fld := { off := 0x300008, lo := 0, w := 1, ty := .ro, rst := fun _ _ _ => 1 }
/-- `HK_STS` (R655, 11_housekeeping_analogue.md). -/
def RD.HK_STS : RegD := { base := 0x300008, dims := [], ao := true, lock := false, blk := some 11, flds := [F.HK_STS_FORCED_LP, F.HK_STS_ROUND_SRC] }
def F.HK_ROUND_CNT_COUNT : Fld := { off := 0x30000C, lo := 0, w := 32, ty := .ro }
/-- `HK_ROUND_CNT` (R656, 11_housekeeping_analogue.md). -/
def RD.HK_ROUND_CNT : RegD := { base := 0x30000C, dims := [], ao := true, lock := false, blk := some 11, flds := [F.HK_ROUND_CNT_COUNT] }
def F.HK_GO_INJ_GO : Fld := { off := 0x300010, lo := 4, w := 4, ty := .w1s }
def F.HK_GO_REG_GO : Fld := { off := 0x300010, lo := 0, w := 4, ty := .w1s }
/-- `HK_GO` (R657, 11_housekeeping_analogue.md). -/
def RD.HK_GO : RegD := { base := 0x300010, dims := [], ao := true, lock := true, blk := some 11, flds := [F.HK_GO_INJ_GO, F.HK_GO_REG_GO] }
def F.HK_PIN_CFG_POL : Fld := { off := 0x300014, lo := 0, w := 4, ty := .rwl }
/-- `HK_PIN_CFG` (R658, 11_housekeeping_analogue.md). -/
def RD.HK_PIN_CFG : RegD := { base := 0x300014, dims := [], ao := true, lock := true, blk := some 11, flds := [F.HK_PIN_CFG_POL] }
def F.HK_IRQ_CAL_DONE : Fld := { off := 0x300018, lo := 10, w := 1, ty := .w1c }
def F.HK_IRQ_WM_STUCK : Fld := { off := 0x300018, lo := 9, w := 1, ty := .w1c }
def F.HK_IRQ_WM_EVENT : Fld := { off := 0x300018, lo := 8, w := 1, ty := .w1c }
def F.HK_IRQ_INJ_DONE : Fld := { off := 0x300018, lo := 4, w := 4, ty := .w1c }
def F.HK_IRQ_REG_DONE : Fld := { off := 0x300018, lo := 0, w := 4, ty := .w1c }
/-- `HK_IRQ` (R659, 11_housekeeping_analogue.md). -/
def RD.HK_IRQ : RegD := { base := 0x300018, dims := [], ao := true, lock := false, blk := some 11, flds := [F.HK_IRQ_CAL_DONE, F.HK_IRQ_WM_STUCK, F.HK_IRQ_WM_EVENT, F.HK_IRQ_INJ_DONE, F.HK_IRQ_REG_DONE] }
def F.HK_IRQ_CFG_ALERT_MASK : Fld := { off := 0x30001C, lo := 21, w := 11, ty := .rwl }
def F.HK_IRQ_CFG_IRQ_MASK : Fld := { off := 0x30001C, lo := 10, w := 11, ty := .rwl }
def F.HK_IRQ_CFG_IRQ_VEC : Fld := { off := 0x30001C, lo := 0, w := 6, ty := .rwl }
/-- `HK_IRQ_CFG` (R660, 11_housekeeping_analogue.md). -/
def RD.HK_IRQ_CFG : RegD := { base := 0x30001C, dims := [], ao := true, lock := true, blk := some 11, flds := [F.HK_IRQ_CFG_ALERT_MASK, F.HK_IRQ_CFG_IRQ_MASK, F.HK_IRQ_CFG_IRQ_VEC] }
def F.HK_CAL_CTL_GO : Fld := { off := 0x300020, lo := 31, w := 1, ty := .w1s }
def F.HK_CAL_CTL_TARGET : Fld := { off := 0x300020, lo := 16, w := 12, ty := .rwl, rst := fun _ _ _ => 0xFA0 }
def F.HK_CAL_CTL_POINT : Fld := { off := 0x300020, lo := 12, w := 2, ty := .rwl }
def F.HK_CAL_CTL_HKA : Fld := { off := 0x300020, lo := 8, w := 2, ty := .rwl }
def F.HK_CAL_CTL_AIN : Fld := { off := 0x300020, lo := 0, w := 6, ty := .rwl }
/-- `HK_CAL_CTL` (R661, 11_housekeeping_analogue.md). -/
def RD.HK_CAL_CTL : RegD := { base := 0x300020, dims := [], ao := true, lock := true, blk := some 11, flds := [F.HK_CAL_CTL_GO, F.HK_CAL_CTL_TARGET, F.HK_CAL_CTL_POINT, F.HK_CAL_CTL_HKA, F.HK_CAL_CTL_AIN] }
def F.HK_CAL_STS_BUSY : Fld := { off := 0x300024, lo := 31, w := 1, ty := .ro }
def F.HK_CAL_STS_RESULT : Fld := { off := 0x300024, lo := 28, w := 3, ty := .ro }
def F.HK_CAL_STS_MEAN : Fld := { off := 0x300024, lo := 0, w := 16, ty := .ro }
/-- `HK_CAL_STS` (R662, 11_housekeeping_analogue.md). -/
def RD.HK_CAL_STS : RegD := { base := 0x300024, dims := [], ao := true, lock := false, blk := some 11, flds := [F.HK_CAL_STS_BUSY, F.HK_CAL_STS_RESULT, F.HK_CAL_STS_MEAN] }
def F.HK_CFG_LP : Fld := { off := 0x300100, lo := 31, w := 1, ty := .rwl, s1 := 0x40 }
def F.HK_CFG_INJ_LEN : Fld := { off := 0x300100, lo := 24, w := 4, ty := .rwl, s1 := 0x40 }
def F.HK_CFG_REG_LEN : Fld := { off := 0x300100, lo := 19, w := 5, ty := .rwl, s1 := 0x40 }
def F.HK_CFG_INJ_TRIG : Fld := { off := 0x300100, lo := 8, w := 6, ty := .rwl, s1 := 0x40, rst := fun _ _ _ => 1 }
def F.HK_CFG_REG_TRIG : Fld := { off := 0x300100, lo := 0, w := 6, ty := .rwl, s1 := 0x40, rst := fun _ _ _ => 1 }
/-- `HK_CFG_k` (R663, 11_housekeeping_analogue.md). -/
def RD.HK_CFG : RegD := { base := 0x300100, dims := [(4, 0x40)], ao := true, lock := true, blk := some 11, flds := [F.HK_CFG_LP, F.HK_CFG_INJ_LEN, F.HK_CFG_REG_LEN, F.HK_CFG_INJ_TRIG, F.HK_CFG_REG_TRIG] }
def F.HK_TIMER_EN : Fld := { off := 0x300104, lo := 31, w := 1, ty := .rwl, s1 := 0x40 }
def F.HK_TIMER_PERIOD : Fld := { off := 0x300104, lo := 0, w := 16, ty := .rwl, s1 := 0x40, rst := fun _ _ _ => 0x3E8 }
/-- `HK_TIMER_k` (R664, 11_housekeeping_analogue.md). -/
def RD.HK_TIMER : RegD := { base := 0x300104, dims := [(4, 0x40)], ao := true, lock := true, blk := some 11, flds := [F.HK_TIMER_EN, F.HK_TIMER_PERIOD] }
def F.HK_SEQ_STS_INJ_RUNS : Fld := { off := 0x300108, lo := 24, w := 8, ty := .ro, s1 := 0x40 }
def F.HK_SEQ_STS_REG_RUNS : Fld := { off := 0x300108, lo := 16, w := 8, ty := .ro, s1 := 0x40 }
def F.HK_SEQ_STS_ENTRY : Fld := { off := 0x300108, lo := 6, w := 5, ty := .ro, s1 := 0x40 }
def F.HK_SEQ_STS_PENDING : Fld := { off := 0x300108, lo := 5, w := 1, ty := .ro, s1 := 0x40 }
def F.HK_SEQ_STS_REG_WAIT : Fld := { off := 0x300108, lo := 4, w := 1, ty := .ro, s1 := 0x40 }
def F.HK_SEQ_STS_ACTIVITY : Fld := { off := 0x300108, lo := 0, w := 2, ty := .ro, s1 := 0x40 }
/-- `HK_SEQ_STS_k` (R665, 11_housekeeping_analogue.md). -/
def RD.HK_SEQ_STS : RegD := { base := 0x300108, dims := [(4, 0x40)], ao := true, lock := false, blk := some 11, flds := [F.HK_SEQ_STS_INJ_RUNS, F.HK_SEQ_STS_REG_RUNS, F.HK_SEQ_STS_ENTRY, F.HK_SEQ_STS_PENDING, F.HK_SEQ_STS_REG_WAIT, F.HK_SEQ_STS_ACTIVITY] }
def F.HK_CNT_ROUND_MISS : Fld := { off := 0x30010C, lo := 24, w := 8, ty := .ro, s1 := 0x40 }
def F.HK_CNT_INJ_OVR : Fld := { off := 0x30010C, lo := 12, w := 12, ty := .ro, s1 := 0x40 }
def F.HK_CNT_REG_OVR : Fld := { off := 0x30010C, lo := 0, w := 12, ty := .ro, s1 := 0x40 }
/-- `HK_CNT_k` (R666, 11_housekeeping_analogue.md). -/
def RD.HK_CNT : RegD := { base := 0x30010C, dims := [(4, 0x40)], ao := true, lock := false, blk := some 11, flds := [F.HK_CNT_ROUND_MISS, F.HK_CNT_INJ_OVR, F.HK_CNT_REG_OVR] }
def F.HK_INJ_STAMP_LO_STAMP_LO : Fld := { off := 0x300110, lo := 0, w := 32, ty := .ro, s1 := 0x40 }
/-- `HK_INJ_STAMP_LO_k` (R667, 11_housekeeping_analogue.md). -/
def RD.HK_INJ_STAMP_LO : RegD := { base := 0x300110, dims := [(4, 0x40)], ao := true, lock := false, blk := some 11, flds := [F.HK_INJ_STAMP_LO_STAMP_LO] }
def F.HK_INJ_STAMP_HI_VALID : Fld := { off := 0x300114, lo := 31, w := 1, ty := .ro, s1 := 0x40 }
def F.HK_INJ_STAMP_HI_STAMP_HI : Fld := { off := 0x300114, lo := 0, w := 6, ty := .ro, s1 := 0x40 }
/-- `HK_INJ_STAMP_HI_k` (R667, 11_housekeeping_analogue.md). -/
def RD.HK_INJ_STAMP_HI : RegD := { base := 0x300114, dims := [(4, 0x40)], ao := true, lock := false, blk := some 11, flds := [F.HK_INJ_STAMP_HI_VALID, F.HK_INJ_STAMP_HI_STAMP_HI] }
def F.HK_REG_FILT : Fld := { off := 0x301000, lo := 12, w := 4, ty := .rwl, s1 := 0x100, s2 := 0x4 }
def F.HK_REG_ACQ_EXT : Fld := { off := 0x301000, lo := 8, w := 4, ty := .rwl, s1 := 0x100, s2 := 0x4 }
def F.HK_REG_CH : Fld := { off := 0x301000, lo := 0, w := 7, ty := .rwl, s1 := 0x100, s2 := 0x4, rst := fun i j _ => hkSystemChannel i j }
/-- `HK_REG_k_e` (R668, 11_housekeeping_analogue.md). -/
def RD.HK_REG : RegD := { base := 0x301000, dims := [(4, 0x100), (32, 0x4)], ao := true, lock := true, blk := some 11, flds := [F.HK_REG_FILT, F.HK_REG_ACQ_EXT, F.HK_REG_CH] }
def F.HK_INJ_FILT : Fld := { off := 0x301400, lo := 12, w := 4, ty := .rwl, s1 := 0x20, s2 := 0x4 }
def F.HK_INJ_ACQ_EXT : Fld := { off := 0x301400, lo := 8, w := 4, ty := .rwl, s1 := 0x20, s2 := 0x4 }
def F.HK_INJ_CH : Fld := { off := 0x301400, lo := 0, w := 7, ty := .rwl, s1 := 0x20, s2 := 0x4 }
/-- `HK_INJ_k_e` (R668, 11_housekeeping_analogue.md). -/
def RD.HK_INJ : RegD := { base := 0x301400, dims := [(4, 0x20), (8, 0x4)], ao := true, lock := true, blk := some 11, flds := [F.HK_INJ_FILT, F.HK_INJ_ACQ_EXT, F.HK_INJ_CH] }
def F.HK_REG_RES_VALID : Fld := { off := 0x302000, lo := 31, w := 1, ty := .ro, s1 := 0x100, s2 := 0x4 }
def F.HK_REG_RES_FILTERED : Fld := { off := 0x302000, lo := 30, w := 1, ty := .ro, s1 := 0x100, s2 := 0x4 }
def F.HK_REG_RES_SUPPRESSED : Fld := { off := 0x302000, lo := 29, w := 1, ty := .ro, s1 := 0x100, s2 := 0x4 }
def F.HK_REG_RES_RUN : Fld := { off := 0x302000, lo := 16, w := 8, ty := .ro, s1 := 0x100, s2 := 0x4 }
def F.HK_REG_RES_CODE : Fld := { off := 0x302000, lo := 0, w := 16, ty := .ro, s1 := 0x100, s2 := 0x4 }
/-- `HK_REG_RES_k_e` (R669, 11_housekeeping_analogue.md). -/
def RD.HK_REG_RES : RegD := { base := 0x302000, dims := [(4, 0x100), (32, 0x4)], ao := true, lock := false, blk := some 11, flds := [F.HK_REG_RES_VALID, F.HK_REG_RES_FILTERED, F.HK_REG_RES_SUPPRESSED, F.HK_REG_RES_RUN, F.HK_REG_RES_CODE] }
def F.HK_INJ_RES_VALID : Fld := { off := 0x302400, lo := 31, w := 1, ty := .ro, s1 := 0x20, s2 := 0x4 }
def F.HK_INJ_RES_FILTERED : Fld := { off := 0x302400, lo := 30, w := 1, ty := .ro, s1 := 0x20, s2 := 0x4 }
def F.HK_INJ_RES_SUPPRESSED : Fld := { off := 0x302400, lo := 29, w := 1, ty := .ro, s1 := 0x20, s2 := 0x4 }
def F.HK_INJ_RES_RUN : Fld := { off := 0x302400, lo := 16, w := 8, ty := .ro, s1 := 0x20, s2 := 0x4 }
def F.HK_INJ_RES_CODE : Fld := { off := 0x302400, lo := 0, w := 16, ty := .ro, s1 := 0x20, s2 := 0x4 }
/-- `HK_INJ_RES_k_e` (R669, 11_housekeeping_analogue.md). -/
def RD.HK_INJ_RES : RegD := { base := 0x302400, dims := [(4, 0x20), (8, 0x4)], ao := true, lock := false, blk := some 11, flds := [F.HK_INJ_RES_VALID, F.HK_INJ_RES_FILTERED, F.HK_INJ_RES_SUPPRESSED, F.HK_INJ_RES_RUN, F.HK_INJ_RES_CODE] }
def F.HK_FILT_NOTCH_M : Fld := { off := 0x303000, lo := 16, w := 6, ty := .rwl, s1 := 0x20, s2 := 0x4 }
def F.HK_FILT_ORDER : Fld := { off := 0x303000, lo := 12, w := 2, ty := .rwl, s1 := 0x20, s2 := 0x4, rst := fun _ _ _ => 1 }
def F.HK_FILT_DECIM : Fld := { off := 0x303000, lo := 0, w := 6, ty := .rwl, s1 := 0x20, s2 := 0x4 }
/-- `HK_FILT_k_f` (R670, 11_housekeeping_analogue.md). -/
def RD.HK_FILT : RegD := { base := 0x303000, dims := [(4, 0x20), (8, 0x4)], ao := true, lock := true, blk := some 11, flds := [F.HK_FILT_NOTCH_M, F.HK_FILT_ORDER, F.HK_FILT_DECIM] }
def F.HK_CAL_OFS : Fld := { off := 0x303400, lo := 16, w := 16, ty := .rwl, s1 := 0x4 }
def F.HK_CAL_GAIN : Fld := { off := 0x303400, lo := 0, w := 16, ty := .rwl, s1 := 0x4, rst := fun _ _ _ => 0x4000 }
/-- `HK_CAL_n` (R671, 11_housekeeping_analogue.md). -/
def RD.HK_CAL : RegD := { base := 0x303400, dims := [(48, 0x4)], ao := true, lock := true, blk := some 11, flds := [F.HK_CAL_OFS, F.HK_CAL_GAIN] }
def F.WM_CFG_EN : Fld := { off := 0x304000, lo := 31, w := 1, ty := .rwl, s1 := 0x20 }
def F.WM_CFG_REARM : Fld := { off := 0x304000, lo := 30, w := 1, ty := .w1s, s1 := 0x20 }
def F.WM_CFG_HYST : Fld := { off := 0x304000, lo := 14, w := 2, ty := .rwl, s1 := 0x20, rst := fun _ _ _ => 1 }
def F.WM_CFG_TRIG_HKA : Fld := { off := 0x304000, lo := 12, w := 2, ty := .rwl, s1 := 0x20 }
def F.WM_CFG_TRIG_EN : Fld := { off := 0x304000, lo := 11, w := 1, ty := .rwl, s1 := 0x20 }
def F.WM_CFG_ACT : Fld := { off := 0x304000, lo := 8, w := 2, ty := .rwl, s1 := 0x20, rst := fun _ _ _ => 2 }
def F.WM_CFG_AIN : Fld := { off := 0x304000, lo := 0, w := 6, ty := .rwl, s1 := 0x20 }
/-- `WM_CFG_n` (R672, 11_housekeeping_analogue.md). -/
def RD.WM_CFG : RegD := { base := 0x304000, dims := [(16, 0x20)], ao := true, lock := true, blk := some 11, flds := [F.WM_CFG_EN, F.WM_CFG_REARM, F.WM_CFG_HYST, F.WM_CFG_TRIG_HKA, F.WM_CFG_TRIG_EN, F.WM_CFG_ACT, F.WM_CFG_AIN] }
def F.WM_THR_HIGH : Fld := { off := 0x304004, lo := 16, w := 10, ty := .rwl, s1 := 0x20, rst := fun _ _ _ => 0x3FF }
def F.WM_THR_LOW : Fld := { off := 0x304004, lo := 0, w := 10, ty := .rwl, s1 := 0x20 }
/-- `WM_THR_n` (R673, 11_housekeeping_analogue.md). -/
def RD.WM_THR : RegD := { base := 0x304004, dims := [(16, 0x20)], ao := true, lock := true, blk := some 11, flds := [F.WM_THR_HIGH, F.WM_THR_LOW] }
def F.WM_TIME_STUCK_TIME : Fld := { off := 0x304008, lo := 24, w := 8, ty := .rwl, s1 := 0x20, rst := fun _ _ _ => 0x32 }
def F.WM_TIME_LOCKOUT : Fld := { off := 0x304008, lo := 16, w := 8, ty := .rwl, s1 := 0x20, rst := fun _ _ _ => 0xA }
def F.WM_TIME_FILTER : Fld := { off := 0x304008, lo := 8, w := 8, ty := .rwl, s1 := 0x20, rst := fun _ _ _ => 2 }
/-- `WM_TIME_n` (R674, 11_housekeeping_analogue.md). -/
def RD.WM_TIME : RegD := { base := 0x304008, dims := [(16, 0x20)], ao := true, lock := true, blk := some 11, flds := [F.WM_TIME_STUCK_TIME, F.WM_TIME_LOCKOUT, F.WM_TIME_FILTER] }
def F.WM_STS_CHATTER : Fld := { off := 0x30400C, lo := 24, w := 8, ty := .ro, s1 := 0x20 }
def F.WM_STS_EVENTS : Fld := { off := 0x30400C, lo := 8, w := 16, ty := .ro, s1 := 0x20 }
def F.WM_STS_STUCK : Fld := { off := 0x30400C, lo := 4, w := 1, ty := .ro, s1 := 0x20 }
def F.WM_STS_ACTIVE : Fld := { off := 0x30400C, lo := 3, w := 1, ty := .ro, s1 := 0x20 }
def F.WM_STS_LOCKED_OUT : Fld := { off := 0x30400C, lo := 2, w := 1, ty := .ro, s1 := 0x20 }
def F.WM_STS_STATE : Fld := { off := 0x30400C, lo := 0, w := 2, ty := .ro, s1 := 0x20 }
/-- `WM_STS_n` (R675, 11_housekeeping_analogue.md). -/
def RD.WM_STS : RegD := { base := 0x30400C, dims := [(16, 0x20)], ao := true, lock := false, blk := some 11, flds := [F.WM_STS_CHATTER, F.WM_STS_EVENTS, F.WM_STS_STUCK, F.WM_STS_ACTIVE, F.WM_STS_LOCKED_OUT, F.WM_STS_STATE] }
def F.PRT_OWNER_CLAIM_CONFLICT : Fld := { off := 0xC00000, lo := 8, w := 1, ty := .w1c }
def F.PRT_OWNER_OWNER : Fld := { off := 0xC00000, lo := 0, w := 2, ty := .rw }
/-- `PRT_OWNER` (R595, 10_protection_and_faults.md). -/
def RD.PRT_OWNER : RegD := { base := 0xC00000, dims := [], ao := false, lock := false, blk := some 10, flds := [F.PRT_OWNER_CLAIM_CONFLICT, F.PRT_OWNER_OWNER] }
def F.PRT_CTL_CLR_CNT : Fld := { off := 0xC00004, lo := 7, w := 1, ty := .w1s }
def F.PRT_CTL_STALE_EN : Fld := { off := 0xC00004, lo := 5, w := 1, ty := .rwl, rst := fun _ _ _ => 1 }
def F.PRT_CTL_OL_EN : Fld := { off := 0xC00004, lo := 4, w := 1, ty := .rwl, rst := fun _ _ _ => 1 }
def F.PRT_CTL_NR_EN : Fld := { off := 0xC00004, lo := 3, w := 1, ty := .rwl, rst := fun _ _ _ => 1 }
def F.PRT_CTL_DLOSS_EN : Fld := { off := 0xC00004, lo := 2, w := 1, ty := .rwl, rst := fun _ _ _ => 1 }
def F.PRT_CTL_ST_EN : Fld := { off := 0xC00004, lo := 1, w := 1, ty := .rwl, rst := fun _ _ _ => 1 }
def F.PRT_CTL_FT_EN : Fld := { off := 0xC00004, lo := 0, w := 1, ty := .rwl, rst := fun _ _ _ => 1 }
/-- `PRT_CTL` (R596, 10_protection_and_faults.md). -/
def RD.PRT_CTL : RegD := { base := 0xC00004, dims := [], ao := false, lock := true, blk := some 10, flds := [F.PRT_CTL_CLR_CNT, F.PRT_CTL_STALE_EN, F.PRT_CTL_OL_EN, F.PRT_CTL_NR_EN, F.PRT_CTL_DLOSS_EN, F.PRT_CTL_ST_EN, F.PRT_CTL_FT_EN] }
def F.PRT_STS_MUTED : Fld := { off := 0xC00008, lo := 16, w := 12, ty := .ro }
def F.PRT_STS_CUT : Fld := { off := 0xC00008, lo := 0, w := 12, ty := .ro }
/-- `PRT_STS` (R597, 10_protection_and_faults.md). -/
def RD.PRT_STS : RegD := { base := 0xC00008, dims := [], ao := false, lock := false, blk := some 10, flds := [F.PRT_STS_MUTED, F.PRT_STS_CUT] }
def F.PRT_FT_CFG_FT_GROW : Fld := { off := 0xC00010, lo := 24, w := 8, ty := .rwl, rst := fun _ _ _ => 8 }
def F.PRT_FT_CFG_FT_CONFIRM : Fld := { off := 0xC00010, lo := 20, w := 4, ty := .rwl, rst := fun _ _ _ => 3 }
def F.PRT_FT_CFG_FT_WIN : Fld := { off := 0xC00010, lo := 18, w := 2, ty := .rwl, rst := fun _ _ _ => 1 }
def F.PRT_FT_CFG_FT_STEP : Fld := { off := 0xC00010, lo := 8, w := 8, ty := .rwl, rst := fun _ _ _ => 0xC }
def F.PRT_FT_CFG_FT_HOLDOFF : Fld := { off := 0xC00010, lo := 0, w := 8, ty := .rwl, rst := fun _ _ _ => 0x20 }
/-- `PRT_FT_CFG` (R598, 10_protection_and_faults.md). -/
def RD.PRT_FT_CFG : RegD := { base := 0xC00010, dims := [], ao := false, lock := true, blk := some 10, flds := [F.PRT_FT_CFG_FT_GROW, F.PRT_FT_CFG_FT_CONFIRM, F.PRT_FT_CFG_FT_WIN, F.PRT_FT_CFG_FT_STEP, F.PRT_FT_CFG_FT_HOLDOFF] }
def F.PRT_FT_LVL_FT_ABS : Fld := { off := 0xC00014, lo := 16, w := 16, ty := .rwl, rst := fun _ _ _ => 0xC00 }
def F.PRT_FT_LVL_FT_RISE : Fld := { off := 0xC00014, lo := 8, w := 8, ty := .rwl, rst := fun _ _ _ => 0x28 }
/-- `PRT_FT_LVL` (R599, 10_protection_and_faults.md). -/
def RD.PRT_FT_LVL : RegD := { base := 0xC00014, dims := [], ao := false, lock := true, blk := some 10, flds := [F.PRT_FT_LVL_FT_ABS, F.PRT_FT_LVL_FT_RISE] }
def F.PRT_REL_CFG_HOLD : Fld := { off := 0xC00018, lo := 24, w := 8, ty := .rwl, rst := fun _ _ _ => 0xA }
def F.PRT_REL_CFG_REL_STEP : Fld := { off := 0xC00018, lo := 16, w := 8, ty := .rwl, rst := fun _ _ _ => 0x32 }
def F.PRT_REL_CFG_REC_COUNT : Fld := { off := 0xC00018, lo := 12, w := 4, ty := .rwl, rst := fun _ _ _ => 3 }
def F.PRT_REL_CFG_REC_WINDOW : Fld := { off := 0xC00018, lo := 0, w := 8, ty := .rwl, rst := fun _ _ _ => 0x3C }
/-- `PRT_REL_CFG` (R600, 10_protection_and_faults.md). -/
def RD.PRT_REL_CFG : RegD := { base := 0xC00018, dims := [], ao := false, lock := true, blk := some 10, flds := [F.PRT_REL_CFG_HOLD, F.PRT_REL_CFG_REL_STEP, F.PRT_REL_CFG_REC_COUNT, F.PRT_REL_CFG_REC_WINDOW] }
def F.PRT_ST_CFG_ST_RIPPLE : Fld := { off := 0xC0001C, lo := 24, w := 8, ty := .rwl, rst := fun _ _ _ => 0x28 }
def F.PRT_ST_CFG_ST_FLOOR : Fld := { off := 0xC0001C, lo := 16, w := 8, ty := .rwl, rst := fun _ _ _ => 0x40 }
def F.PRT_ST_CFG_ST_GROW : Fld := { off := 0xC0001C, lo := 8, w := 8, ty := .rwl, rst := fun _ _ _ => 0x10 }
def F.PRT_ST_CFG_ST_GROW_TICKS : Fld := { off := 0xC0001C, lo := 4, w := 4, ty := .rwl, rst := fun _ _ _ => 4 }
def F.PRT_ST_CFG_ST_CONFIRM : Fld := { off := 0xC0001C, lo := 0, w := 4, ty := .rwl, rst := fun _ _ _ => 2 }
/-- `PRT_ST_CFG` (R601, 10_protection_and_faults.md). -/
def RD.PRT_ST_CFG : RegD := { base := 0xC0001C, dims := [], ao := false, lock := true, blk := some 10, flds := [F.PRT_ST_CFG_ST_RIPPLE, F.PRT_ST_CFG_ST_FLOOR, F.PRT_ST_CFG_ST_GROW, F.PRT_ST_CFG_ST_GROW_TICKS, F.PRT_ST_CFG_ST_CONFIRM] }
def F.PRT_ST_STEP_ST_STEP : Fld := { off := 0xC00020, lo := 0, w := 8, ty := .rwl, rst := fun _ _ _ => 0xC }
/-- `PRT_ST_STEP` (R602, 10_protection_and_faults.md). -/
def RD.PRT_ST_STEP : RegD := { base := 0xC00020, dims := [], ao := false, lock := true, blk := some 10, flds := [F.PRT_ST_STEP_ST_STEP] }
def F.PRT_DLOSS_CFG_DLOSS_THR : Fld := { off := 0xC00024, lo := 16, w := 16, ty := .rwl, rst := fun _ _ _ => 0xA600 }
def F.PRT_DLOSS_CFG_DLOSS_RESTORE : Fld := { off := 0xC00024, lo := 8, w := 8, ty := .rwl, rst := fun _ _ _ => 0xA }
def F.PRT_DLOSS_CFG_DLOSS_MS : Fld := { off := 0xC00024, lo := 4, w := 4, ty := .rwl, rst := fun _ _ _ => 8 }
def F.PRT_DLOSS_CFG_DLOSS_HYST : Fld := { off := 0xC00024, lo := 0, w := 4, ty := .rwl, rst := fun _ _ _ => 3 }
/-- `PRT_DLOSS_CFG` (R603, 10_protection_and_faults.md). -/
def RD.PRT_DLOSS_CFG : RegD := { base := 0xC00024, dims := [], ao := false, lock := true, blk := some 10, flds := [F.PRT_DLOSS_CFG_DLOSS_THR, F.PRT_DLOSS_CFG_DLOSS_RESTORE, F.PRT_DLOSS_CFG_DLOSS_MS, F.PRT_DLOSS_CFG_DLOSS_HYST] }
def F.PRT_NR_CFG_NR_LIMIT : Fld := { off := 0xC00028, lo := 24, w := 8, ty := .rwl, rst := fun _ _ _ => 0xC }
def F.PRT_NR_CFG_NR_TILES : Fld := { off := 0xC00028, lo := 16, w := 8, ty := .rwl, rst := fun _ _ _ => 8 }
def F.PRT_NR_CFG_NR_CURE : Fld := { off := 0xC00028, lo := 12, w := 4, ty := .rwl, rst := fun _ _ _ => 2 }
def F.PRT_NR_CFG_NR_IDLE : Fld := { off := 0xC00028, lo := 8, w := 4, ty := .rwl, rst := fun _ _ _ => 3 }
def F.PRT_NR_CFG_NR_SPREAD : Fld := { off := 0xC00028, lo := 4, w := 4, ty := .rwl, rst := fun _ _ _ => 5 }
def F.PRT_NR_CFG_NR_RETRY : Fld := { off := 0xC00028, lo := 0, w := 4, ty := .rwl, rst := fun _ _ _ => 6 }
/-- `PRT_NR_CFG` (R604, 10_protection_and_faults.md). -/
def RD.PRT_NR_CFG : RegD := { base := 0xC00028, dims := [], ao := false, lock := true, blk := some 10, flds := [F.PRT_NR_CFG_NR_LIMIT, F.PRT_NR_CFG_NR_TILES, F.PRT_NR_CFG_NR_CURE, F.PRT_NR_CFG_NR_IDLE, F.PRT_NR_CFG_NR_SPREAD, F.PRT_NR_CFG_NR_RETRY] }
def F.PRT_OL_CFG_OL_RETRY : Fld := { off := 0xC0002C, lo := 16, w := 8, ty := .rwl, rst := fun _ _ _ => 5 }
def F.PRT_OL_CFG_OL_TIME : Fld := { off := 0xC0002C, lo := 8, w := 8, ty := .rwl, rst := fun _ _ _ => 0xA }
def F.PRT_OL_CFG_OL_MARGIN : Fld := { off := 0xC0002C, lo := 0, w := 8, ty := .rwl, rst := fun _ _ _ => 0x10 }
/-- `PRT_OL_CFG` (R605, 10_protection_and_faults.md). -/
def RD.PRT_OL_CFG : RegD := { base := 0xC0002C, dims := [], ao := false, lock := true, blk := some 10, flds := [F.PRT_OL_CFG_OL_RETRY, F.PRT_OL_CFG_OL_TIME, F.PRT_OL_CFG_OL_MARGIN] }
def F.PRT_STALE_CFG_STALE_MUTE : Fld := { off := 0xC00030, lo := 0, w := 8, ty := .rwl, rst := fun _ _ _ => 0xA }
/-- `PRT_STALE_CFG` (R606, 10_protection_and_faults.md). -/
def RD.PRT_STALE_CFG : RegD := { base := 0xC00030, dims := [], ao := false, lock := true, blk := some 10, flds := [F.PRT_STALE_CFG_STALE_MUTE] }
def F.PRT_FAULT_STS_LINK : Fld := { off := 0xC00040, lo := 15, w := 1, ty := .ro }
def F.PRT_FAULT_STS_STALE : Fld := { off := 0xC00040, lo := 14, w := 1, ty := .ro }
def F.PRT_FAULT_STS_OVER : Fld := { off := 0xC00040, lo := 13, w := 1, ty := .ro }
def F.PRT_FAULT_STS_NOISE : Fld := { off := 0xC00040, lo := 12, w := 1, ty := .ro }
def F.PRT_FAULT_STS_ORBIT : Fld := { off := 0xC00040, lo := 11, w := 1, ty := .ro }
def F.PRT_FAULT_STS_DLOSS : Fld := { off := 0xC00040, lo := 10, w := 1, ty := .ro }
def F.PRT_FAULT_STS_RECUR : Fld := { off := 0xC00040, lo := 9, w := 1, ty := .ro }
def F.PRT_FAULT_STS_FENCED : Fld := { off := 0xC00040, lo := 8, w := 1, ty := .ro }
def F.PRT_FAULT_STS_SDRAM : Fld := { off := 0xC00040, lo := 7, w := 1, ty := .w1c }
def F.PRT_FAULT_STS_RESIDUE : Fld := { off := 0xC00040, lo := 6, w := 1, ty := .w1c }
def F.PRT_FAULT_STS_LP_FAIL : Fld := { off := 0xC00040, lo := 5, w := 1, ty := .w1c }
def F.PRT_FAULT_STS_SP_FAIL : Fld := { off := 0xC00040, lo := 4, w := 1, ty := .w1c }
def F.PRT_FAULT_STS_THERMAL : Fld := { off := 0xC00040, lo := 3, w := 1, ty := .ro }
def F.PRT_FAULT_STS_SAFE : Fld := { off := 0xC00040, lo := 2, w := 1, ty := .ro }
def F.PRT_FAULT_STS_CLOCK : Fld := { off := 0xC00040, lo := 1, w := 1, ty := .ro }
def F.PRT_FAULT_STS_NOT_SERVICE : Fld := { off := 0xC00040, lo := 0, w := 1, ty := .ro, rst := fun _ _ _ => 1 }
/-- `PRT_FAULT_STS` (R607, 10_protection_and_faults.md). -/
def RD.PRT_FAULT_STS : RegD := { base := 0xC00040, dims := [], ao := false, lock := false, blk := some 10, flds := [F.PRT_FAULT_STS_LINK, F.PRT_FAULT_STS_STALE, F.PRT_FAULT_STS_OVER, F.PRT_FAULT_STS_NOISE, F.PRT_FAULT_STS_ORBIT, F.PRT_FAULT_STS_DLOSS, F.PRT_FAULT_STS_RECUR, F.PRT_FAULT_STS_FENCED, F.PRT_FAULT_STS_SDRAM, F.PRT_FAULT_STS_RESIDUE, F.PRT_FAULT_STS_LP_FAIL, F.PRT_FAULT_STS_SP_FAIL, F.PRT_FAULT_STS_THERMAL, F.PRT_FAULT_STS_SAFE, F.PRT_FAULT_STS_CLOCK, F.PRT_FAULT_STS_NOT_SERVICE] }
def F.PRT_FAULT_MASK_MASK : Fld := { off := 0xC00044, lo := 0, w := 16, ty := .rwl, rst := fun _ _ _ => 0xFFFB }
/-- `PRT_FAULT_MASK` (R608, 10_protection_and_faults.md). -/
def RD.PRT_FAULT_MASK : RegD := { base := 0xC00044, dims := [], ao := false, lock := true, blk := some 10, flds := [F.PRT_FAULT_MASK_MASK] }
def F.PRT_REENABLE_GO : Fld := { off := 0xC00048, lo := 31, w := 1, ty := .w1s }
def F.PRT_REENABLE_RESULT : Fld := { off := 0xC00048, lo := 29, w := 2, ty := .ro }
def F.PRT_REENABLE_STREAM : Fld := { off := 0xC00048, lo := 0, w := 12, ty := .rwl }
/-- `PRT_REENABLE` (R609, 10_protection_and_faults.md). -/
def RD.PRT_REENABLE : RegD := { base := 0xC00048, dims := [], ao := false, lock := true, blk := some 10, flds := [F.PRT_REENABLE_GO, F.PRT_REENABLE_RESULT, F.PRT_REENABLE_STREAM] }
def F.PRT_CNT_A_FT_STEPS : Fld := { off := 0xC00050, lo := 16, w := 16, ty := .ro }
def F.PRT_CNT_A_ST_STEPS : Fld := { off := 0xC00050, lo := 0, w := 16, ty := .ro }
/-- `PRT_CNT_A` (R610, 10_protection_and_faults.md). -/
def RD.PRT_CNT_A : RegD := { base := 0xC00050, dims := [], ao := false, lock := false, blk := some 10, flds := [F.PRT_CNT_A_FT_STEPS, F.PRT_CNT_A_ST_STEPS] }
def F.PRT_CNT_B_RECUR : Fld := { off := 0xC00054, lo := 24, w := 8, ty := .ro }
def F.PRT_CNT_B_DLOSS : Fld := { off := 0xC00054, lo := 16, w := 8, ty := .ro }
def F.PRT_CNT_B_NOISE : Fld := { off := 0xC00054, lo := 8, w := 8, ty := .ro }
def F.PRT_CNT_B_OVER : Fld := { off := 0xC00054, lo := 0, w := 8, ty := .ro }
/-- `PRT_CNT_B` (R610, 10_protection_and_faults.md). -/
def RD.PRT_CNT_B : RegD := { base := 0xC00054, dims := [], ao := false, lock := false, blk := some 10, flds := [F.PRT_CNT_B_RECUR, F.PRT_CNT_B_DLOSS, F.PRT_CNT_B_NOISE, F.PRT_CNT_B_OVER] }
def F.PRT_CNT_C_SQUELCH : Fld := { off := 0xC00058, lo := 16, w := 16, ty := .ro }
def F.PRT_CNT_C_STALE : Fld := { off := 0xC00058, lo := 8, w := 8, ty := .ro }
def F.PRT_CNT_C_GATED : Fld := { off := 0xC00058, lo := 0, w := 8, ty := .ro }
/-- `PRT_CNT_C` (R610, 10_protection_and_faults.md). -/
def RD.PRT_CNT_C : RegD := { base := 0xC00058, dims := [], ao := false, lock := false, blk := some 10, flds := [F.PRT_CNT_C_SQUELCH, F.PRT_CNT_C_STALE, F.PRT_CNT_C_GATED] }
def F.PRT_LAST_KIND : Fld := { off := 0xC0005C, lo := 28, w := 4, ty := .ro }
def F.PRT_LAST_STREAM : Fld := { off := 0xC0005C, lo := 16, w := 12, ty := .ro }
def F.PRT_LAST_TILE : Fld := { off := 0xC0005C, lo := 0, w := 8, ty := .ro }
/-- `PRT_LAST` (R611, 10_protection_and_faults.md). -/
def RD.PRT_LAST : RegD := { base := 0xC0005C, dims := [], ao := false, lock := false, blk := some 10, flds := [F.PRT_LAST_KIND, F.PRT_LAST_STREAM, F.PRT_LAST_TILE] }
def F.PRT_DLOSS_STS_LOST : Fld := { off := 0xC00100, lo := 31, w := 1, ty := .ro, s1 := 0x4 }
def F.PRT_DLOSS_STS_BY_LINK : Fld := { off := 0xC00100, lo := 30, w := 1, ty := .ro, s1 := 0x4 }
def F.PRT_DLOSS_STS_LEVEL : Fld := { off := 0xC00100, lo := 0, w := 16, ty := .ro, s1 := 0x4, rst := fun _ _ _ => 0x8000 }
/-- `PRT_DLOSS_STS_d` (R612, 10_protection_and_faults.md). -/
def RD.PRT_DLOSS_STS : RegD := { base := 0xC00100, dims := [(16, 0x4)], ao := false, lock := false, blk := some 10, flds := [F.PRT_DLOSS_STS_LOST, F.PRT_DLOSS_STS_BY_LINK, F.PRT_DLOSS_STS_LEVEL] }
def F.PRT_NR_STS_STAGE : Fld := { off := 0xC00140, lo := 30, w := 2, ty := .ro, s1 := 0x4 }
def F.PRT_NR_STS_TILES : Fld := { off := 0xC00140, lo := 16, w := 9, ty := .ro, s1 := 0x4 }
def F.PRT_NR_STS_LAST_MUTED : Fld := { off := 0xC00140, lo := 0, w := 12, ty := .ro, s1 := 0x4 }
/-- `PRT_NR_STS_d` (R613, 10_protection_and_faults.md). -/
def RD.PRT_NR_STS : RegD := { base := 0xC00140, dims := [(16, 0x4)], ao := false, lock := false, blk := some 10, flds := [F.PRT_NR_STS_STAGE, F.PRT_NR_STS_TILES, F.PRT_NR_STS_LAST_MUTED] }
def F.PRT_CAUSE_RECENT : Fld := { off := 0xC01000, lo := 24, w := 8, ty := .ro, s1 := 0x4 }
def F.PRT_CAUSE_RELEASING : Fld := { off := 0xC01000, lo := 15, w := 1, ty := .ro, s1 := 0x4 }
def F.PRT_CAUSE_HOLDING : Fld := { off := 0xC01000, lo := 14, w := 1, ty := .ro, s1 := 0x4 }
def F.PRT_CAUSE_ST_CUT : Fld := { off := 0xC01000, lo := 13, w := 1, ty := .ro, s1 := 0x4 }
def F.PRT_CAUSE_FT_CUT : Fld := { off := 0xC01000, lo := 12, w := 1, ty := .ro, s1 := 0x4 }
def F.PRT_CAUSE_CAUSES : Fld := { off := 0xC01000, lo := 0, w := 9, ty := .ro, s1 := 0x4 }
/-- `PRT_CAUSE_m` (R614, 10_protection_and_faults.md). -/
def RD.PRT_CAUSE : RegD := { base := 0xC01000, dims := [(2048, 0x4)], ao := false, lock := false, blk := some 10, flds := [F.PRT_CAUSE_RECENT, F.PRT_CAUSE_RELEASING, F.PRT_CAUSE_HOLDING, F.PRT_CAUSE_ST_CUT, F.PRT_CAUSE_FT_CUT, F.PRT_CAUSE_CAUSES] }
def F.PRT_RIPPLE_RIPPLE : Fld := { off := 0xC03000, lo := 16, w := 16, ty := .ro, s1 := 0x4, rst := fun _ _ _ => 0x8000 }
def F.PRT_RIPPLE_DELAY : Fld := { off := 0xC03000, lo := 0, w := 16, ty := .ro, s1 := 0x4 }
/-- `PRT_RIPPLE_m` (R615, 10_protection_and_faults.md). -/
def RD.PRT_RIPPLE : RegD := { base := 0xC03000, dims := [(2048, 0x4)], ao := false, lock := false, blk := some 10, flds := [F.PRT_RIPPLE_RIPPLE, F.PRT_RIPPLE_DELAY] }
def F.PRT_DOM_VALID : Fld := { off := 0xC08000, lo := 23, w := 1, ty := .ro, s1 := 0x800, s2 := 0x400, s3 := 0x4 }
def F.PRT_DOM_PORT : Fld := { off := 0xC08000, lo := 16, w := 7, ty := .ro, s1 := 0x800, s2 := 0x400, s3 := 0x4 }
def F.PRT_DOM_L : Fld := { off := 0xC08000, lo := 0, w := 16, ty := .ro, s1 := 0x800, s2 := 0x400, s3 := 0x4, rst := fun _ _ _ => 0x8000 }
/-- `PRT_DOM_d_r_t` (R616, 10_protection_and_faults.md). -/
def RD.PRT_DOM : RegD := { base := 0xC08000, dims := [(16, 0x800), (2, 0x400), (256, 0x4)], ao := false, lock := false, blk := some 10, flds := [F.PRT_DOM_VALID, F.PRT_DOM_PORT, F.PRT_DOM_L] }
def F.PRT_SQUELCH_SQ : Fld := { off := 0xC10000, lo := 0, w := 32, ty := .ro, s1 := 0x4 }
/-- `PRT_SQUELCH_w` (R617, 10_protection_and_faults.md). -/
def RD.PRT_SQUELCH : RegD := { base := 0xC10000, dims := [(16384, 0x4)], ao := false, lock := false, blk := some 10, flds := [F.PRT_SQUELCH_SQ] }
def F.CE_OWNER_CLAIM_CONFLICT : Fld := { off := 0xD00000, lo := 8, w := 1, ty := .w1c }
def F.CE_OWNER_OWNER : Fld := { off := 0xD00000, lo := 0, w := 2, ty := .rw }
/-- `CE_OWNER` (R552, 09_loop_engine.md). -/
def RD.CE_OWNER : RegD := { base := 0xD00000, dims := [], ao := false, lock := false, blk := some 9, flds := [F.CE_OWNER_CLAIM_CONFLICT, F.CE_OWNER_OWNER] }
def F.CE_CTL_TEST_LP : Fld := { off := 0xD00004, lo := 8, w := 6, ty := .rwl }
def F.CE_CTL_TEST_FAIL : Fld := { off := 0xD00004, lo := 7, w := 1, ty := .w1s }
def F.CE_CTL_COEF_COMMIT : Fld := { off := 0xD00004, lo := 2, w := 1, ty := .w1s }
def F.CE_CTL_CLR_CNT : Fld := { off := 0xD00004, lo := 1, w := 1, ty := .w1s }
def F.CE_CTL_RUN : Fld := { off := 0xD00004, lo := 0, w := 1, ty := .rwl, rst := fun _ _ _ => 1 }
/-- `CE_CTL` (R553, 09_loop_engine.md). -/
def RD.CE_CTL : RegD := { base := 0xD00004, dims := [], ao := false, lock := true, blk := some 9, flds := [F.CE_CTL_TEST_LP, F.CE_CTL_TEST_FAIL, F.CE_CTL_COEF_COMMIT, F.CE_CTL_CLR_CNT, F.CE_CTL_RUN] }
def F.CE_STS_HEALTHY : Fld := { off := 0xD00008, lo := 26, w := 6, ty := .ro, rst := fun _ _ _ => 0x20 }
def F.CE_STS_COEF_PENDING : Fld := { off := 0xD00008, lo := 23, w := 1, ty := .ro }
def F.CE_STS_RUNNING : Fld := { off := 0xD00008, lo := 22, w := 1, ty := .ro }
/-- `CE_STS` (R554, 09_loop_engine.md). -/
def RD.CE_STS : RegD := { base := 0xD00008, dims := [], ao := false, lock := false, blk := some 9, flds := [F.CE_STS_HEALTHY, F.CE_STS_COEF_PENDING, F.CE_STS_RUNNING] }
def F.CE_TIMING_STALE_HOLD : Fld := { off := 0xD0000C, lo := 16, w := 8, ty := .rwl, rst := fun _ _ _ => 8 }
def F.CE_TIMING_STALE_RAMP : Fld := { off := 0xD0000C, lo := 8, w := 8, ty := .rwl, rst := fun _ _ _ => 0x10 }
def F.CE_TIMING_GUARD : Fld := { off := 0xD0000C, lo := 0, w := 8, ty := .rwl, rst := fun _ _ _ => 0x10 }
/-- `CE_TIMING` (R555, 09_loop_engine.md). -/
def RD.CE_TIMING : RegD := { base := 0xD0000C, dims := [], ao := false, lock := true, blk := some 9, flds := [F.CE_TIMING_STALE_HOLD, F.CE_TIMING_STALE_RAMP, F.CE_TIMING_GUARD] }
def F.CE_TICK_BASE_TICK : Fld := { off := 0xD00010, lo := 0, w := 20, ty := .rwl, s1 := 0x4, rst := fun _ _ _ => 0x1E000 }
/-- `CE_TICK_i` (R556, 09_loop_engine.md). -/
def RD.CE_TICK : RegD := { base := 0xD00010, dims := [(2, 0x4)], ao := false, lock := true, blk := some 9, flds := [F.CE_TICK_BASE_TICK] }
def F.CE_LOAD_PEAK : Fld := { off := 0xD00020, lo := 16, w := 16, ty := .ro, s1 := 0x4 }
def F.CE_LOAD_LOAD : Fld := { off := 0xD00020, lo := 0, w := 16, ty := .ro, s1 := 0x4 }
/-- `CE_LOAD_i` (R557, 09_loop_engine.md). -/
def RD.CE_LOAD : RegD := { base := 0xD00020, dims := [(2, 0x4)], ao := false, lock := false, blk := some 9, flds := [F.CE_LOAD_PEAK, F.CE_LOAD_LOAD] }
def F.CE_SLICE_TICK_TICK_CNT : Fld := { off := 0xD00040, lo := 16, w := 16, ty := .ro, s1 := 0x4 }
def F.CE_SLICE_TICK_MULT_EFF : Fld := { off := 0xD00040, lo := 4, w := 2, ty := .ro, s1 := 0x4 }
def F.CE_SLICE_TICK_MULT_SET : Fld := { off := 0xD00040, lo := 0, w := 2, ty := .rwl, s1 := 0x4 }
/-- `CE_SLICE_TICK_d` (R558, 09_loop_engine.md). -/
def RD.CE_SLICE_TICK : RegD := { base := 0xD00040, dims := [(16, 0x4)], ao := false, lock := true, blk := some 9, flds := [F.CE_SLICE_TICK_TICK_CNT, F.CE_SLICE_TICK_MULT_EFF, F.CE_SLICE_TICK_MULT_SET] }
def F.CE_MISS_TILE_DL_COUNT : Fld := { off := 0xD00080, lo := 0, w := 32, ty := .ro }
/-- `CE_MISS_TILE_DL` (R559, 09_loop_engine.md). -/
def RD.CE_MISS_TILE_DL : RegD := { base := 0xD00080, dims := [], ao := false, lock := false, blk := some 9, flds := [F.CE_MISS_TILE_DL_COUNT] }
def F.CE_MISS_TILE_UL_COUNT : Fld := { off := 0xD00084, lo := 0, w := 32, ty := .ro }
/-- `CE_MISS_TILE_UL` (R559, 09_loop_engine.md). -/
def RD.CE_MISS_TILE_UL : RegD := { base := 0xD00084, dims := [], ao := false, lock := false, blk := some 9, flds := [F.CE_MISS_TILE_UL_COUNT] }
def F.CE_MISS_CNT_SLICE : Fld := { off := 0xD00088, lo := 16, w := 16, ty := .ro }
def F.CE_MISS_CNT_BUILDING : Fld := { off := 0xD00088, lo := 0, w := 16, ty := .ro }
/-- `CE_MISS_CNT` (R560, 09_loop_engine.md). -/
def RD.CE_MISS_CNT : RegD := { base := 0xD00088, dims := [], ao := false, lock := false, blk := some 9, flds := [F.CE_MISS_CNT_SLICE, F.CE_MISS_CNT_BUILDING] }
def F.CE_STALE_CNT_ENTRIES : Fld := { off := 0xD0008C, lo := 16, w := 16, ty := .ro }
def F.CE_STALE_CNT_STREAMS : Fld := { off := 0xD0008C, lo := 0, w := 12, ty := .ro }
/-- `CE_STALE_CNT` (R561, 09_loop_engine.md). -/
def RD.CE_STALE_CNT : RegD := { base := 0xD0008C, dims := [], ao := false, lock := false, blk := some 9, flds := [F.CE_STALE_CNT_ENTRIES, F.CE_STALE_CNT_STREAMS] }
def F.CE_LP_CNT_FAULTS : Fld := { off := 0xD00090, lo := 24, w := 8, ty := .ro }
def F.CE_LP_CNT_FAULT_HELD : Fld := { off := 0xD00090, lo := 0, w := 24, ty := .ro }
/-- `CE_LP_CNT` (R562, 09_loop_engine.md). -/
def RD.CE_LP_CNT : RegD := { base := 0xD00090, dims := [], ao := false, lock := false, blk := some 9, flds := [F.CE_LP_CNT_FAULTS, F.CE_LP_CNT_FAULT_HELD] }
def F.CE_LP_STS_UTIL : Fld := { off := 0xD00100, lo := 24, w := 8, ty := .ro, s1 := 0x4 }
def F.CE_LP_STS_CAUSE : Fld := { off := 0xD00100, lo := 5, w := 3, ty := .ro, s1 := 0x4 }
def F.CE_LP_STS_FAILED : Fld := { off := 0xD00100, lo := 0, w := 1, ty := .ro, s1 := 0x4 }
/-- `CE_LP_STS_n` (R563, 09_loop_engine.md). -/
def RD.CE_LP_STS : RegD := { base := 0xD00100, dims := [(32, 0x4)], ao := false, lock := false, blk := some 9, flds := [F.CE_LP_STS_UTIL, F.CE_LP_STS_CAUSE, F.CE_LP_STS_FAILED] }
def F.CE_LAW_CFG_ISO_MARGIN : Fld := { off := 0xD10000, lo := 24, w := 8, ty := .rwl, rst := fun _ _ _ => 0x28 }
def F.CE_LAW_CFG_N_CREEP : Fld := { off := 0xD10000, lo := 16, w := 8, ty := .rwl, rst := fun _ _ _ => 2 }
def F.CE_LAW_CFG_SS_RATE : Fld := { off := 0xD10000, lo := 0, w := 16, ty := .rwl, rst := fun _ _ _ => 0x80 }
/-- `CE_LAW_CFG` (R511, 08_gain_loops.md). -/
def RD.CE_LAW_CFG : RegD := { base := 0xD10000, dims := [], ao := false, lock := true, blk := some 9, flds := [F.CE_LAW_CFG_ISO_MARGIN, F.CE_LAW_CFG_N_CREEP, F.CE_LAW_CFG_SS_RATE] }
def F.CE_PROFILE_TRIM_SHIFT : Fld := { off := 0xD10004, lo := 24, w := 4, ty := .rwl, rst := fun _ _ _ => 2 }
def F.CE_PROFILE_JMAX : Fld := { off := 0xD10004, lo := 16, w := 8, ty := .rwl, rst := fun _ _ _ => 0x60 }
def F.CE_PROFILE_AMAX : Fld := { off := 0xD10004, lo := 8, w := 8, ty := .rwl, rst := fun _ _ _ => 0x60 }
def F.CE_PROFILE_VMAX : Fld := { off := 0xD10004, lo := 0, w := 8, ty := .rwl, rst := fun _ _ _ => 0x60 }
/-- `CE_PROFILE` (R512, 08_gain_loops.md). -/
def RD.CE_PROFILE : RegD := { base := 0xD10004, dims := [], ao := false, lock := true, blk := some 9, flds := [F.CE_PROFILE_TRIM_SHIFT, F.CE_PROFILE_JMAX, F.CE_PROFILE_AMAX, F.CE_PROFILE_VMAX] }
def F.CE_BAND0_MTHR_1 : Fld := { off := 0xD10100, lo := 16, w := 16, ty := .rwl, s1 := 0x40, s2 := 0x10, rst := fun _ _ _ => 0x1400 }
def F.CE_BAND0_MTHR_0 : Fld := { off := 0xD10100, lo := 0, w := 16, ty := .rwl, s1 := 0x40, s2 := 0x10, rst := fun _ _ _ => 0xA00 }
/-- `CE_BAND0_c_g` (R513, 08_gain_loops.md). -/
def RD.CE_BAND0 : RegD := { base := 0xD10100, dims := [(2, 0x40), (4, 0x10)], ao := false, lock := true, blk := some 9, flds := [F.CE_BAND0_MTHR_1, F.CE_BAND0_MTHR_0] }
def F.CE_BAND1_LHYST : Fld := { off := 0xD10104, lo := 24, w := 8, ty := .rwl, s1 := 0x40, s2 := 0x10, rst := fun _ _ _ => 0x10 }
def F.CE_BAND1_MHYST : Fld := { off := 0xD10104, lo := 16, w := 8, ty := .rwl, s1 := 0x40, s2 := 0x10, rst := fun _ _ _ => 0x10 }
def F.CE_BAND1_MTHR_2 : Fld := { off := 0xD10104, lo := 0, w := 16, ty := .rwl, s1 := 0x40, s2 := 0x10, rst := fun _ _ _ => 0x1E00 }
/-- `CE_BAND1_c_g` (R513, 08_gain_loops.md). -/
def RD.CE_BAND1 : RegD := { base := 0xD10104, dims := [(2, 0x40), (4, 0x10)], ao := false, lock := true, blk := some 9, flds := [F.CE_BAND1_LHYST, F.CE_BAND1_MHYST, F.CE_BAND1_MTHR_2] }
def F.CE_BAND2_LTHR_1 : Fld := { off := 0xD10108, lo := 16, w := 16, ty := .rwl, s1 := 0x40, s2 := 0x10, rst := fun _ _ _ => 0xCE00 }
def F.CE_BAND2_LTHR_0 : Fld := { off := 0xD10108, lo := 0, w := 16, ty := .rwl, s1 := 0x40, s2 := 0x10, rst := fun _ _ _ => 0xBA00 }
/-- `CE_BAND2_c_g` (R513, 08_gain_loops.md). -/
def RD.CE_BAND2 : RegD := { base := 0xD10108, dims := [(2, 0x40), (4, 0x10)], ao := false, lock := true, blk := some 9, flds := [F.CE_BAND2_LTHR_1, F.CE_BAND2_LTHR_0] }
def F.CE_BAND3_LTHR_2 : Fld := { off := 0xD1010C, lo := 0, w := 16, ty := .rwl, s1 := 0x40, s2 := 0x10, rst := fun _ _ _ => 0xE200 }
/-- `CE_BAND3_c_g` (R513, 08_gain_loops.md). -/
def RD.CE_BAND3 : RegD := { base := 0xD1010C, dims := [(2, 0x40), (4, 0x10)], ao := false, lock := true, blk := some 9, flds := [F.CE_BAND3_LTHR_2] }
def F.CE_REGION_SAFE_GAIN : Fld := { off := 0xD10200, lo := 16, w := 16, ty := .rwl, s1 := 0x100, s2 := 0x4, rst := fun _ _ _ => 0xEC00 }
def F.CE_REGION_SET : Fld := { off := 0xD10200, lo := 0, w := 6, ty := .rwl, s1 := 0x100, s2 := 0x4, rst := fun _ j _ => j }
/-- `CE_REGION_c_i` (R514, 08_gain_loops.md). -/
def RD.CE_REGION : RegD := { base := 0xD10200, dims := [(2, 0x100), (64, 0x4)], ao := false, lock := true, blk := some 9, flds := [F.CE_REGION_SAFE_GAIN, F.CE_REGION_SET] }
def F.CE_BLD0_BUDGET : Fld := { off := 0xD10400, lo := 16, w := 16, ty := .rwl, s1 := 0x20, s2 := 0x10, rst := fun _ _ _ => 0xEC00 }
def F.CE_BLD0_GUARD : Fld := { off := 0xD10400, lo := 8, w := 8, ty := .rwl, s1 := 0x20, s2 := 0x10, rst := fun _ _ _ => 0x10 }
def F.CE_BLD0_BETA_SHIFT : Fld := { off := 0xD10400, lo := 4, w := 4, ty := .rwl, s1 := 0x20, s2 := 0x10, rst := fun _ _ _ => 2 }
/-- `CE_BLD0_d_r` (R515, 08_gain_loops.md). -/
def RD.CE_BLD0 : RegD := { base := 0xD10400, dims := [(16, 0x20), (2, 0x10)], ao := false, lock := true, blk := some 9, flds := [F.CE_BLD0_BUDGET, F.CE_BLD0_GUARD, F.CE_BLD0_BETA_SHIFT] }
def F.CE_BLD1_NOISE_MAX : Fld := { off := 0xD10404, lo := 16, w := 16, ty := .rwl, s1 := 0x20, s2 := 0x10, rst := fun _ _ _ => 0xB000 }
def F.CE_BLD1_BETA_STEP : Fld := { off := 0xD10404, lo := 8, w := 8, ty := .rwl, s1 := 0x20, s2 := 0x10, rst := fun _ _ _ => 4 }
def F.CE_BLD1_BETA_MAX : Fld := { off := 0xD10404, lo := 0, w := 8, ty := .rwl, s1 := 0x20, s2 := 0x10, rst := fun _ _ _ => 0x28 }
/-- `CE_BLD1_d_r` (R515, 08_gain_loops.md). -/
def RD.CE_BLD1 : RegD := { base := 0xD10404, dims := [(16, 0x20), (2, 0x10)], ao := false, lock := true, blk := some 9, flds := [F.CE_BLD1_NOISE_MAX, F.CE_BLD1_BETA_STEP, F.CE_BLD1_BETA_MAX] }
def F.CE_BLD2_BUDGET_NOW : Fld := { off := 0xD10408, lo := 16, w := 16, ty := .ro, s1 := 0x20, s2 := 0x10, rst := fun _ _ _ => 0xEC00 }
def F.CE_BLD2_NOISE_NOW : Fld := { off := 0xD10408, lo := 0, w := 16, ty := .ro, s1 := 0x20, s2 := 0x10, rst := fun _ _ _ => 0xB000 }
/-- `CE_BLD2_d_r` (R515, 08_gain_loops.md). -/
def RD.CE_BLD2 : RegD := { base := 0xD10408, dims := [(16, 0x20), (2, 0x10)], ao := false, lock := false, blk := some 9, flds := [F.CE_BLD2_BUDGET_NOW, F.CE_BLD2_NOISE_NOW] }
def F.CE_BLD3_SHARE_TILES : Fld := { off := 0xD1040C, lo := 23, w := 9, ty := .ro, s1 := 0x20, s2 := 0x10 }
def F.CE_BLD3_OVER : Fld := { off := 0xD1040C, lo := 22, w := 1, ty := .w1c, s1 := 0x20, s2 := 0x10 }
def F.CE_BLD3_RESELECTS : Fld := { off := 0xD1040C, lo := 0, w := 16, ty := .ro, s1 := 0x20, s2 := 0x10 }
/-- `CE_BLD3_d_r` (R515, 08_gain_loops.md). -/
def RD.CE_BLD3 : RegD := { base := 0xD1040C, dims := [(16, 0x20), (2, 0x10)], ao := false, lock := false, blk := some 9, flds := [F.CE_BLD3_SHARE_TILES, F.CE_BLD3_OVER, F.CE_BLD3_RESELECTS] }
def F.CE_PS0_LEVEL_MAX : Fld := { off := 0xD11000, lo := 16, w := 16, ty := .rwl, s1 := 0x8, rst := fun _ _ _ => 0xE200 }
def F.CE_PS0_SHARE_W : Fld := { off := 0xD11000, lo := 8, w := 8, ty := .rwl, s1 := 0x8, rst := fun _ _ _ => 0x10 }
def F.CE_PS0_GROUP : Fld := { off := 0xD11000, lo := 6, w := 2, ty := .rwl, s1 := 0x8 }
def F.CE_PS0_LEVEL_EN : Fld := { off := 0xD11000, lo := 5, w := 1, ty := .rwl, s1 := 0x8, rst := fun _ _ _ => 1 }
def F.CE_PS0_ROW3_EN : Fld := { off := 0xD11000, lo := 4, w := 1, ty := .rwl, s1 := 0x8, rst := fun _ _ _ => 1 }
/-- `CE_PS0_m` (R516, 08_gain_loops.md). -/
def RD.CE_PS0 : RegD := { base := 0xD11000, dims := [(2048, 0x8)], ao := false, lock := true, blk := some 9, flds := [F.CE_PS0_LEVEL_MAX, F.CE_PS0_SHARE_W, F.CE_PS0_GROUP, F.CE_PS0_LEVEL_EN, F.CE_PS0_ROW3_EN] }
def F.CE_PS1_SLICE_MAX : Fld := { off := 0xD11004, lo := 16, w := 16, ty := .rwl, s1 := 0x8, rst := fun _ _ _ => 0xF400 }
def F.CE_PS1_GMAX : Fld := { off := 0xD11004, lo := 0, w := 16, ty := .rwl, s1 := 0x8, rst := fun _ _ _ => 0x1800 }
/-- `CE_PS1_m` (R516, 08_gain_loops.md). -/
def RD.CE_PS1 : RegD := { base := 0xD11004, dims := [(2048, 0x8)], ao := false, lock := true, blk := some 9, flds := [F.CE_PS1_SLICE_MAX, F.CE_PS1_GMAX] }
def F.CE_PS_STS_TRIM : Fld := { off := 0xD15000, lo := 16, w := 16, ty := .ro, s1 := 0x4 }
def F.CE_PS_STS_COMPOSITE : Fld := { off := 0xD15000, lo := 0, w := 16, ty := .ro, s1 := 0x4, rst := fun _ _ _ => 0x8000 }
/-- `CE_PS_STS_m` (R517, 08_gain_loops.md). -/
def RD.CE_PS_STS : RegD := { base := 0xD15000, dims := [(2048, 0x4)], ao := false, lock := false, blk := some 9, flds := [F.CE_PS_STS_TRIM, F.CE_PS_STS_COMPOSITE] }
def F.CE_BTILE0_BETA : Fld := { off := 0xD20000, lo := 16, w := 16, ty := .ro, s1 := 0x1000, s2 := 0x800, s3 := 0x8 }
def F.CE_BTILE0_NU : Fld := { off := 0xD20000, lo := 0, w := 16, ty := .ro, s1 := 0x1000, s2 := 0x800, s3 := 0x8 }
/-- `CE_BTILE0_d_r_t` (R518, 08_gain_loops.md). -/
def RD.CE_BTILE0 : RegD := { base := 0xD20000, dims := [(16, 0x1000), (2, 0x800), (256, 0x8)], ao := false, lock := false, blk := some 9, flds := [F.CE_BTILE0_BETA, F.CE_BTILE0_NU] }
def F.CE_BTILE1_NOISE_MOD : Fld := { off := 0xD20004, lo := 16, w := 16, ty := .ro, s1 := 0x1000, s2 := 0x800, s3 := 0x8, rst := fun _ _ _ => 0x8000 }
def F.CE_BTILE1_LAMBDA : Fld := { off := 0xD20004, lo := 0, w := 16, ty := .ro, s1 := 0x1000, s2 := 0x800, s3 := 0x8, rst := fun _ _ _ => 0x8000 }
/-- `CE_BTILE1_d_r_t` (R518, 08_gain_loops.md). -/
def RD.CE_BTILE1 : RegD := { base := 0xD20004, dims := [(16, 0x1000), (2, 0x800), (256, 0x8)], ao := false, lock := false, blk := some 9, flds := [F.CE_BTILE1_NOISE_MOD, F.CE_BTILE1_LAMBDA] }
def F.CE_COEF0_KX : Fld := { off := 0xD40000, lo := 16, w := 16, ty := .rwl, s1 := 0x1000, s2 := 0x40 }
def F.CE_COEF0_KV : Fld := { off := 0xD40000, lo := 0, w := 16, ty := .rwl, s1 := 0x1000, s2 := 0x40 }
/-- `CE_COEF0_c_s` (R539, 09_loop_engine.md). -/
def RD.CE_COEF0 : RegD := { base := 0xD40000, dims := [(2, 0x1000), (64, 0x40)], ao := false, lock := true, blk := some 9, flds := [F.CE_COEF0_KX, F.CE_COEF0_KV] }
def F.CE_COEF1_KB : Fld := { off := 0xD40004, lo := 16, w := 16, ty := .rwl, s1 := 0x1000, s2 := 0x40 }
def F.CE_COEF1_KI : Fld := { off := 0xD40004, lo := 0, w := 16, ty := .rwl, s1 := 0x1000, s2 := 0x40 }
/-- `CE_COEF1_c_s` (R539, 09_loop_engine.md). -/
def RD.CE_COEF1 : RegD := { base := 0xD40004, dims := [(2, 0x1000), (64, 0x40)], ao := false, lock := true, blk := some 9, flds := [F.CE_COEF1_KB, F.CE_COEF1_KI] }
def F.CE_COEF2_OBS_EXP : Fld := { off := 0xD40008, lo := 26, w := 6, ty := .rwl, s1 := 0x1000, s2 := 0x40 }
def F.CE_COEF2_KI_EXP : Fld := { off := 0xD40008, lo := 20, w := 6, ty := .rwl, s1 := 0x1000, s2 := 0x40 }
def F.CE_COEF2_ROW_EXP : Fld := { off := 0xD40008, lo := 14, w := 6, ty := .rwl, s1 := 0x1000, s2 := 0x40 }
def F.CE_COEF2_NOTCH_LAG : Fld := { off := 0xD40008, lo := 10, w := 4, ty := .rwl, s1 := 0x1000, s2 := 0x40 }
/-- `CE_COEF2_c_s` (R539, 09_loop_engine.md). -/
def RD.CE_COEF2 : RegD := { base := 0xD40008, dims := [(2, 0x1000), (64, 0x40)], ao := false, lock := true, blk := some 9, flds := [F.CE_COEF2_OBS_EXP, F.CE_COEF2_KI_EXP, F.CE_COEF2_ROW_EXP, F.CE_COEF2_NOTCH_LAG] }
def F.CE_COEF3_NOTCH_R : Fld := { off := 0xD4000C, lo := 16, w := 16, ty := .rwl, s1 := 0x1000, s2 := 0x40 }
/-- `CE_COEF3_c_s` (R539, 09_loop_engine.md). -/
def RD.CE_COEF3 : RegD := { base := 0xD4000C, dims := [(2, 0x1000), (64, 0x40)], ao := false, lock := true, blk := some 9, flds := [F.CE_COEF3_NOTCH_R] }
def F.CE_COEF4_A_00 : Fld := { off := 0xD40010, lo := 16, w := 16, ty := .rwl, s1 := 0x1000, s2 := 0x40 }
def F.CE_COEF4_A_01 : Fld := { off := 0xD40010, lo := 0, w := 16, ty := .rwl, s1 := 0x1000, s2 := 0x40 }
/-- `CE_COEF4_c_s` (R539, 09_loop_engine.md). -/
def RD.CE_COEF4 : RegD := { base := 0xD40010, dims := [(2, 0x1000), (64, 0x40)], ao := false, lock := true, blk := some 9, flds := [F.CE_COEF4_A_00, F.CE_COEF4_A_01] }
def F.CE_COEF5_A_02 : Fld := { off := 0xD40014, lo := 16, w := 16, ty := .rwl, s1 := 0x1000, s2 := 0x40 }
def F.CE_COEF5_A_03 : Fld := { off := 0xD40014, lo := 0, w := 16, ty := .rwl, s1 := 0x1000, s2 := 0x40 }
/-- `CE_COEF5_c_s` (R539, 09_loop_engine.md). -/
def RD.CE_COEF5 : RegD := { base := 0xD40014, dims := [(2, 0x1000), (64, 0x40)], ao := false, lock := true, blk := some 9, flds := [F.CE_COEF5_A_02, F.CE_COEF5_A_03] }
def F.CE_COEF6_A_10 : Fld := { off := 0xD40018, lo := 16, w := 16, ty := .rwl, s1 := 0x1000, s2 := 0x40 }
def F.CE_COEF6_A_11 : Fld := { off := 0xD40018, lo := 0, w := 16, ty := .rwl, s1 := 0x1000, s2 := 0x40 }
/-- `CE_COEF6_c_s` (R539, 09_loop_engine.md). -/
def RD.CE_COEF6 : RegD := { base := 0xD40018, dims := [(2, 0x1000), (64, 0x40)], ao := false, lock := true, blk := some 9, flds := [F.CE_COEF6_A_10, F.CE_COEF6_A_11] }
def F.CE_COEF7_A_12 : Fld := { off := 0xD4001C, lo := 16, w := 16, ty := .rwl, s1 := 0x1000, s2 := 0x40 }
def F.CE_COEF7_A_13 : Fld := { off := 0xD4001C, lo := 0, w := 16, ty := .rwl, s1 := 0x1000, s2 := 0x40 }
/-- `CE_COEF7_c_s` (R539, 09_loop_engine.md). -/
def RD.CE_COEF7 : RegD := { base := 0xD4001C, dims := [(2, 0x1000), (64, 0x40)], ao := false, lock := true, blk := some 9, flds := [F.CE_COEF7_A_12, F.CE_COEF7_A_13] }
def F.CE_COEF8_A_20 : Fld := { off := 0xD40020, lo := 16, w := 16, ty := .rwl, s1 := 0x1000, s2 := 0x40 }
def F.CE_COEF8_A_21 : Fld := { off := 0xD40020, lo := 0, w := 16, ty := .rwl, s1 := 0x1000, s2 := 0x40 }
/-- `CE_COEF8_c_s` (R539, 09_loop_engine.md). -/
def RD.CE_COEF8 : RegD := { base := 0xD40020, dims := [(2, 0x1000), (64, 0x40)], ao := false, lock := true, blk := some 9, flds := [F.CE_COEF8_A_20, F.CE_COEF8_A_21] }
def F.CE_COEF9_A_22 : Fld := { off := 0xD40024, lo := 16, w := 16, ty := .rwl, s1 := 0x1000, s2 := 0x40 }
def F.CE_COEF9_A_23 : Fld := { off := 0xD40024, lo := 0, w := 16, ty := .rwl, s1 := 0x1000, s2 := 0x40 }
/-- `CE_COEF9_c_s` (R539, 09_loop_engine.md). -/
def RD.CE_COEF9 : RegD := { base := 0xD40024, dims := [(2, 0x1000), (64, 0x40)], ao := false, lock := true, blk := some 9, flds := [F.CE_COEF9_A_22, F.CE_COEF9_A_23] }
def F.CE_COEF10_A_30 : Fld := { off := 0xD40028, lo := 16, w := 16, ty := .rwl, s1 := 0x1000, s2 := 0x40 }
def F.CE_COEF10_A_31 : Fld := { off := 0xD40028, lo := 0, w := 16, ty := .rwl, s1 := 0x1000, s2 := 0x40 }
/-- `CE_COEF10_c_s` (R539, 09_loop_engine.md). -/
def RD.CE_COEF10 : RegD := { base := 0xD40028, dims := [(2, 0x1000), (64, 0x40)], ao := false, lock := true, blk := some 9, flds := [F.CE_COEF10_A_30, F.CE_COEF10_A_31] }
def F.CE_COEF11_A_32 : Fld := { off := 0xD4002C, lo := 16, w := 16, ty := .rwl, s1 := 0x1000, s2 := 0x40 }
def F.CE_COEF11_A_33 : Fld := { off := 0xD4002C, lo := 0, w := 16, ty := .rwl, s1 := 0x1000, s2 := 0x40 }
/-- `CE_COEF11_c_s` (R539, 09_loop_engine.md). -/
def RD.CE_COEF11 : RegD := { base := 0xD4002C, dims := [(2, 0x1000), (64, 0x40)], ao := false, lock := true, blk := some 9, flds := [F.CE_COEF11_A_32, F.CE_COEF11_A_33] }
def F.CE_COEFA0_KX : Fld := { off := 0xD50000, lo := 16, w := 16, ty := .ro, s1 := 0x1000, s2 := 0x40 }
def F.CE_COEFA0_KV : Fld := { off := 0xD50000, lo := 0, w := 16, ty := .ro, s1 := 0x1000, s2 := 0x40 }
/-- `CE_COEFA0_c_s` (R539, 09_loop_engine.md). -/
def RD.CE_COEFA0 : RegD := { base := 0xD50000, dims := [(2, 0x1000), (64, 0x40)], ao := false, lock := false, blk := some 9, flds := [F.CE_COEFA0_KX, F.CE_COEFA0_KV] }
def F.CE_COEFA1_KB : Fld := { off := 0xD50004, lo := 16, w := 16, ty := .ro, s1 := 0x1000, s2 := 0x40 }
def F.CE_COEFA1_KI : Fld := { off := 0xD50004, lo := 0, w := 16, ty := .ro, s1 := 0x1000, s2 := 0x40 }
/-- `CE_COEFA1_c_s` (R539, 09_loop_engine.md). -/
def RD.CE_COEFA1 : RegD := { base := 0xD50004, dims := [(2, 0x1000), (64, 0x40)], ao := false, lock := false, blk := some 9, flds := [F.CE_COEFA1_KB, F.CE_COEFA1_KI] }
def F.CE_COEFA2_OBS_EXP : Fld := { off := 0xD50008, lo := 26, w := 6, ty := .ro, s1 := 0x1000, s2 := 0x40 }
def F.CE_COEFA2_KI_EXP : Fld := { off := 0xD50008, lo := 20, w := 6, ty := .ro, s1 := 0x1000, s2 := 0x40 }
def F.CE_COEFA2_ROW_EXP : Fld := { off := 0xD50008, lo := 14, w := 6, ty := .ro, s1 := 0x1000, s2 := 0x40 }
def F.CE_COEFA2_NOTCH_LAG : Fld := { off := 0xD50008, lo := 10, w := 4, ty := .ro, s1 := 0x1000, s2 := 0x40 }
/-- `CE_COEFA2_c_s` (R539, 09_loop_engine.md). -/
def RD.CE_COEFA2 : RegD := { base := 0xD50008, dims := [(2, 0x1000), (64, 0x40)], ao := false, lock := false, blk := some 9, flds := [F.CE_COEFA2_OBS_EXP, F.CE_COEFA2_KI_EXP, F.CE_COEFA2_ROW_EXP, F.CE_COEFA2_NOTCH_LAG] }
def F.CE_COEFA3_NOTCH_R : Fld := { off := 0xD5000C, lo := 16, w := 16, ty := .ro, s1 := 0x1000, s2 := 0x40 }
/-- `CE_COEFA3_c_s` (R539, 09_loop_engine.md). -/
def RD.CE_COEFA3 : RegD := { base := 0xD5000C, dims := [(2, 0x1000), (64, 0x40)], ao := false, lock := false, blk := some 9, flds := [F.CE_COEFA3_NOTCH_R] }
def F.CE_COEFA4_A_00 : Fld := { off := 0xD50010, lo := 16, w := 16, ty := .ro, s1 := 0x1000, s2 := 0x40 }
def F.CE_COEFA4_A_01 : Fld := { off := 0xD50010, lo := 0, w := 16, ty := .ro, s1 := 0x1000, s2 := 0x40 }
/-- `CE_COEFA4_c_s` (R539, 09_loop_engine.md). -/
def RD.CE_COEFA4 : RegD := { base := 0xD50010, dims := [(2, 0x1000), (64, 0x40)], ao := false, lock := false, blk := some 9, flds := [F.CE_COEFA4_A_00, F.CE_COEFA4_A_01] }
def F.CE_COEFA5_A_02 : Fld := { off := 0xD50014, lo := 16, w := 16, ty := .ro, s1 := 0x1000, s2 := 0x40 }
def F.CE_COEFA5_A_03 : Fld := { off := 0xD50014, lo := 0, w := 16, ty := .ro, s1 := 0x1000, s2 := 0x40 }
/-- `CE_COEFA5_c_s` (R539, 09_loop_engine.md). -/
def RD.CE_COEFA5 : RegD := { base := 0xD50014, dims := [(2, 0x1000), (64, 0x40)], ao := false, lock := false, blk := some 9, flds := [F.CE_COEFA5_A_02, F.CE_COEFA5_A_03] }
def F.CE_COEFA6_A_10 : Fld := { off := 0xD50018, lo := 16, w := 16, ty := .ro, s1 := 0x1000, s2 := 0x40 }
def F.CE_COEFA6_A_11 : Fld := { off := 0xD50018, lo := 0, w := 16, ty := .ro, s1 := 0x1000, s2 := 0x40 }
/-- `CE_COEFA6_c_s` (R539, 09_loop_engine.md). -/
def RD.CE_COEFA6 : RegD := { base := 0xD50018, dims := [(2, 0x1000), (64, 0x40)], ao := false, lock := false, blk := some 9, flds := [F.CE_COEFA6_A_10, F.CE_COEFA6_A_11] }
def F.CE_COEFA7_A_12 : Fld := { off := 0xD5001C, lo := 16, w := 16, ty := .ro, s1 := 0x1000, s2 := 0x40 }
def F.CE_COEFA7_A_13 : Fld := { off := 0xD5001C, lo := 0, w := 16, ty := .ro, s1 := 0x1000, s2 := 0x40 }
/-- `CE_COEFA7_c_s` (R539, 09_loop_engine.md). -/
def RD.CE_COEFA7 : RegD := { base := 0xD5001C, dims := [(2, 0x1000), (64, 0x40)], ao := false, lock := false, blk := some 9, flds := [F.CE_COEFA7_A_12, F.CE_COEFA7_A_13] }
def F.CE_COEFA8_A_20 : Fld := { off := 0xD50020, lo := 16, w := 16, ty := .ro, s1 := 0x1000, s2 := 0x40 }
def F.CE_COEFA8_A_21 : Fld := { off := 0xD50020, lo := 0, w := 16, ty := .ro, s1 := 0x1000, s2 := 0x40 }
/-- `CE_COEFA8_c_s` (R539, 09_loop_engine.md). -/
def RD.CE_COEFA8 : RegD := { base := 0xD50020, dims := [(2, 0x1000), (64, 0x40)], ao := false, lock := false, blk := some 9, flds := [F.CE_COEFA8_A_20, F.CE_COEFA8_A_21] }
def F.CE_COEFA9_A_22 : Fld := { off := 0xD50024, lo := 16, w := 16, ty := .ro, s1 := 0x1000, s2 := 0x40 }
def F.CE_COEFA9_A_23 : Fld := { off := 0xD50024, lo := 0, w := 16, ty := .ro, s1 := 0x1000, s2 := 0x40 }
/-- `CE_COEFA9_c_s` (R539, 09_loop_engine.md). -/
def RD.CE_COEFA9 : RegD := { base := 0xD50024, dims := [(2, 0x1000), (64, 0x40)], ao := false, lock := false, blk := some 9, flds := [F.CE_COEFA9_A_22, F.CE_COEFA9_A_23] }
def F.CE_COEFA10_A_30 : Fld := { off := 0xD50028, lo := 16, w := 16, ty := .ro, s1 := 0x1000, s2 := 0x40 }
def F.CE_COEFA10_A_31 : Fld := { off := 0xD50028, lo := 0, w := 16, ty := .ro, s1 := 0x1000, s2 := 0x40 }
/-- `CE_COEFA10_c_s` (R539, 09_loop_engine.md). -/
def RD.CE_COEFA10 : RegD := { base := 0xD50028, dims := [(2, 0x1000), (64, 0x40)], ao := false, lock := false, blk := some 9, flds := [F.CE_COEFA10_A_30, F.CE_COEFA10_A_31] }
def F.CE_COEFA11_A_32 : Fld := { off := 0xD5002C, lo := 16, w := 16, ty := .ro, s1 := 0x1000, s2 := 0x40 }
def F.CE_COEFA11_A_33 : Fld := { off := 0xD5002C, lo := 0, w := 16, ty := .ro, s1 := 0x1000, s2 := 0x40 }
/-- `CE_COEFA11_c_s` (R539, 09_loop_engine.md). -/
def RD.CE_COEFA11 : RegD := { base := 0xD5002C, dims := [(2, 0x1000), (64, 0x40)], ao := false, lock := false, blk := some 9, flds := [F.CE_COEFA11_A_32, F.CE_COEFA11_A_33] }
def F.MEA_IN_SEQ_LO : Fld := { off := 0x1200000, lo := 24, w := 8, ty := .ro, s1 := 0x4 }
def F.MEA_IN_SAT : Fld := { off := 0x1200000, lo := 18, w := 1, ty := .ro, s1 := 0x4 }
def F.MEA_IN_MIXED : Fld := { off := 0x1200000, lo := 17, w := 1, ty := .ro, s1 := 0x4 }
def F.MEA_IN_VALID : Fld := { off := 0x1200000, lo := 16, w := 1, ty := .ro, s1 := 0x4 }
def F.MEA_IN_POWER : Fld := { off := 0x1200000, lo := 0, w := 16, ty := .ro, s1 := 0x4, rst := fun _ _ _ => 0x8000 }
/-- `MEA_IN_t` (R423, 06_measurement_chains.md). -/
def RD.MEA_IN : RegD := { base := 0x1200000, dims := [(524288, 0x4)], ao := false, lock := false, blk := some 7, flds := [F.MEA_IN_SEQ_LO, F.MEA_IN_SAT, F.MEA_IN_MIXED, F.MEA_IN_VALID, F.MEA_IN_POWER] }
def F.MEA_OUT_SEQ_LO : Fld := { off := 0x1400000, lo := 24, w := 8, ty := .ro, s1 := 0x4 }
def F.MEA_OUT_SAT : Fld := { off := 0x1400000, lo := 18, w := 1, ty := .ro, s1 := 0x4 }
def F.MEA_OUT_MIXED : Fld := { off := 0x1400000, lo := 17, w := 1, ty := .ro, s1 := 0x4 }
def F.MEA_OUT_VALID : Fld := { off := 0x1400000, lo := 16, w := 1, ty := .ro, s1 := 0x4 }
def F.MEA_OUT_POWER : Fld := { off := 0x1400000, lo := 0, w := 16, ty := .ro, s1 := 0x4, rst := fun _ _ _ => 0x8000 }
/-- `MEA_OUT_t` (R423, 06_measurement_chains.md). -/
def RD.MEA_OUT : RegD := { base := 0x1400000, dims := [(524288, 0x4)], ao := false, lock := false, blk := some 7, flds := [F.MEA_OUT_SEQ_LO, F.MEA_OUT_SAT, F.MEA_OUT_MIXED, F.MEA_OUT_VALID, F.MEA_OUT_POWER] }
def F.MEA_DON_SEQ_LO : Fld := { off := 0x1600000, lo := 24, w := 8, ty := .ro, s1 := 0x800, s2 := 0x400, s3 := 0x4 }
def F.MEA_DON_SAT : Fld := { off := 0x1600000, lo := 18, w := 1, ty := .ro, s1 := 0x800, s2 := 0x400, s3 := 0x4 }
def F.MEA_DON_MIXED : Fld := { off := 0x1600000, lo := 17, w := 1, ty := .ro, s1 := 0x800, s2 := 0x400, s3 := 0x4 }
def F.MEA_DON_VALID : Fld := { off := 0x1600000, lo := 16, w := 1, ty := .ro, s1 := 0x800, s2 := 0x400, s3 := 0x4 }
def F.MEA_DON_POWER : Fld := { off := 0x1600000, lo := 0, w := 16, ty := .ro, s1 := 0x800, s2 := 0x400, s3 := 0x4, rst := fun _ _ _ => 0x8000 }
/-- `MEA_DON_s_p_t` (R423, 06_measurement_chains.md). -/
def RD.MEA_DON : RegD := { base := 0x1600000, dims := [(32, 0x800), (2, 0x400), (256, 0x4)], ao := false, lock := false, blk := some 7, flds := [F.MEA_DON_SEQ_LO, F.MEA_DON_SAT, F.MEA_DON_MIXED, F.MEA_DON_VALID, F.MEA_DON_POWER] }
def F.MEA_HDR0_SUPPRESSED : Fld := { off := 0x1610000, lo := 31, w := 1, ty := .ro, s1 := 0x20, s2 := 0x10 }
def F.MEA_HDR0_EFF_H : Fld := { off := 0x1610000, lo := 28, w := 3, ty := .ro, s1 := 0x20, s2 := 0x10 }
def F.MEA_HDR0_PRESET : Fld := { off := 0x1610000, lo := 26, w := 2, ty := .ro, s1 := 0x20, s2 := 0x10 }
def F.MEA_HDR0_EPOCH : Fld := { off := 0x1610000, lo := 16, w := 8, ty := .ro, s1 := 0x20, s2 := 0x10 }
def F.MEA_HDR0_SEQ : Fld := { off := 0x1610000, lo := 0, w := 16, ty := .ro, s1 := 0x20, s2 := 0x10 }
/-- `MEA_HDR0_m_p` (R424, 06_measurement_chains.md). -/
def RD.MEA_HDR0 : RegD := { base := 0x1610000, dims := [(2080, 0x20), (2, 0x10)], ao := false, lock := false, blk := some 7, flds := [F.MEA_HDR0_SUPPRESSED, F.MEA_HDR0_EFF_H, F.MEA_HDR0_PRESET, F.MEA_HDR0_EPOCH, F.MEA_HDR0_SEQ] }
def F.MEA_HDR1_STAMP_LO : Fld := { off := 0x1610004, lo := 0, w := 32, ty := .ro, s1 := 0x20, s2 := 0x10 }
/-- `MEA_HDR1_m_p` (R424, 06_measurement_chains.md). -/
def RD.MEA_HDR1 : RegD := { base := 0x1610004, dims := [(2080, 0x20), (2, 0x10)], ao := false, lock := false, blk := some 7, flds := [F.MEA_HDR1_STAMP_LO] }
def F.MEA_HDR2_STAMP_HI : Fld := { off := 0x1610008, lo := 0, w := 6, ty := .ro, s1 := 0x20, s2 := 0x10 }
/-- `MEA_HDR2_m_p` (R424, 06_measurement_chains.md). -/
def RD.MEA_HDR2 : RegD := { base := 0x1610008, dims := [(2080, 0x20), (2, 0x10)], ao := false, lock := false, blk := some 7, flds := [F.MEA_HDR2_STAMP_HI] }
def F.MEA_HDR3_VALID_TILES : Fld := { off := 0x161000C, lo := 0, w := 9, ty := .ro, s1 := 0x20, s2 := 0x10 }
/-- `MEA_HDR3_m_p` (R424, 06_measurement_chains.md). -/
def RD.MEA_HDR3 : RegD := { base := 0x161000C, dims := [(2080, 0x20), (2, 0x10)], ao := false, lock := false, blk := some 7, flds := [F.MEA_HDR3_VALID_TILES] }
def F.ISO_MAP_DL_VALID : Fld := { off := 0x1800000, lo := 31, w := 1, ty := .ro, s1 := 0x4000, s2 := 0x400, s3 := 0x4 }
def F.ISO_MAP_DL_FAR : Fld := { off := 0x1800000, lo := 30, w := 1, ty := .ro, s1 := 0x4000, s2 := 0x400, s3 := 0x4 }
def F.ISO_MAP_DL_HELD : Fld := { off := 0x1800000, lo := 29, w := 1, ty := .ro, s1 := 0x4000, s2 := 0x400, s3 := 0x4 }
def F.ISO_MAP_DL_LIMIT : Fld := { off := 0x1800000, lo := 28, w := 1, ty := .ro, s1 := 0x4000, s2 := 0x400, s3 := 0x4 }
def F.ISO_MAP_DL_TRUSTED : Fld := { off := 0x1800000, lo := 27, w := 1, ty := .ro, s1 := 0x4000, s2 := 0x400, s3 := 0x4 }
def F.ISO_MAP_DL_CONF : Fld := { off := 0x1800000, lo := 22, w := 4, ty := .ro, s1 := 0x4000, s2 := 0x400, s3 := 0x4 }
def F.ISO_MAP_DL_CANC : Fld := { off := 0x1800000, lo := 16, w := 6, ty := .ro, s1 := 0x4000, s2 := 0x400, s3 := 0x4 }
def F.ISO_MAP_DL_ISO : Fld := { off := 0x1800000, lo := 0, w := 16, ty := .ro, s1 := 0x4000, s2 := 0x400, s3 := 0x4, rst := fun _ _ _ => 0x8000 }
/-- `ISO_MAP_DL_p_d_t` (R459, 07_isolation_and_blocking.md). -/
def RD.ISO_MAP_DL : RegD := { base := 0x1800000, dims := [(128, 0x4000), (16, 0x400), (256, 0x4)], ao := false, lock := false, blk := some 8, flds := [F.ISO_MAP_DL_VALID, F.ISO_MAP_DL_FAR, F.ISO_MAP_DL_HELD, F.ISO_MAP_DL_LIMIT, F.ISO_MAP_DL_TRUSTED, F.ISO_MAP_DL_CONF, F.ISO_MAP_DL_CANC, F.ISO_MAP_DL_ISO] }
def F.ISO_MAP_UL_VALID : Fld := { off := 0x1A00000, lo := 31, w := 1, ty := .ro, s1 := 0x4000, s2 := 0x400, s3 := 0x4 }
def F.ISO_MAP_UL_FAR : Fld := { off := 0x1A00000, lo := 30, w := 1, ty := .ro, s1 := 0x4000, s2 := 0x400, s3 := 0x4 }
def F.ISO_MAP_UL_HELD : Fld := { off := 0x1A00000, lo := 29, w := 1, ty := .ro, s1 := 0x4000, s2 := 0x400, s3 := 0x4 }
def F.ISO_MAP_UL_LIMIT : Fld := { off := 0x1A00000, lo := 28, w := 1, ty := .ro, s1 := 0x4000, s2 := 0x400, s3 := 0x4 }
def F.ISO_MAP_UL_TRUSTED : Fld := { off := 0x1A00000, lo := 27, w := 1, ty := .ro, s1 := 0x4000, s2 := 0x400, s3 := 0x4 }
def F.ISO_MAP_UL_CONF : Fld := { off := 0x1A00000, lo := 22, w := 4, ty := .ro, s1 := 0x4000, s2 := 0x400, s3 := 0x4 }
def F.ISO_MAP_UL_CANC : Fld := { off := 0x1A00000, lo := 16, w := 6, ty := .ro, s1 := 0x4000, s2 := 0x400, s3 := 0x4 }
def F.ISO_MAP_UL_ISO : Fld := { off := 0x1A00000, lo := 0, w := 16, ty := .ro, s1 := 0x4000, s2 := 0x400, s3 := 0x4, rst := fun _ _ _ => 0x8000 }
/-- `ISO_MAP_UL_p_d_t` (R459, 07_isolation_and_blocking.md). -/
def RD.ISO_MAP_UL : RegD := { base := 0x1A00000, dims := [(128, 0x4000), (16, 0x400), (256, 0x4)], ao := false, lock := false, blk := some 8, flds := [F.ISO_MAP_UL_VALID, F.ISO_MAP_UL_FAR, F.ISO_MAP_UL_HELD, F.ISO_MAP_UL_LIMIT, F.ISO_MAP_UL_TRUSTED, F.ISO_MAP_UL_CONF, F.ISO_MAP_UL_CANC, F.ISO_MAP_UL_ISO] }
def F.ISO_OWNER_CLAIM_CONFLICT : Fld := { off := 0x1C00000, lo := 8, w := 1, ty := .w1c }
def F.ISO_OWNER_OWNER : Fld := { off := 0x1C00000, lo := 0, w := 2, ty := .rw }
/-- `ISO_OWNER` (R469, 07_isolation_and_blocking.md). -/
def RD.ISO_OWNER : RegD := { base := 0x1C00000, dims := [], ao := false, lock := false, blk := some 8, flds := [F.ISO_OWNER_CLAIM_CONFLICT, F.ISO_OWNER_OWNER] }
def F.ISO_CTL_KIND : Fld := { off := 0x1C00004, lo := 19, w := 2, ty := .rwl }
def F.ISO_CTL_INDEX : Fld := { off := 0x1C00004, lo := 12, w := 7, ty := .rwl }
def F.ISO_CTL_DIR : Fld := { off := 0x1C00004, lo := 10, w := 2, ty := .rwl, rst := fun _ _ _ => 3 }
def F.ISO_CTL_FORGET : Fld := { off := 0x1C00004, lo := 3, w := 1, ty := .w1s }
def F.ISO_CTL_ABORT : Fld := { off := 0x1C00004, lo := 2, w := 1, ty := .w1s }
def F.ISO_CTL_SURVEY : Fld := { off := 0x1C00004, lo := 1, w := 1, ty := .w1s }
def F.ISO_CTL_CLR_CNT : Fld := { off := 0x1C00004, lo := 0, w := 1, ty := .w1s }
/-- `ISO_CTL` (R470, 07_isolation_and_blocking.md). -/
def RD.ISO_CTL : RegD := { base := 0x1C00004, dims := [], ao := false, lock := true, blk := some 8, flds := [F.ISO_CTL_KIND, F.ISO_CTL_INDEX, F.ISO_CTL_DIR, F.ISO_CTL_FORGET, F.ISO_CTL_ABORT, F.ISO_CTL_SURVEY, F.ISO_CTL_CLR_CNT] }
def F.ISO_SURVEY_STS_PENDING : Fld := { off := 0x1C00008, lo := 16, w := 16, ty := .ro }
def F.ISO_SURVEY_STS_ROUND : Fld := { off := 0x1C00008, lo := 8, w := 4, ty := .ro }
def F.ISO_SURVEY_STS_STATE : Fld := { off := 0x1C00008, lo := 0, w := 3, ty := .ro }
/-- `ISO_SURVEY_STS` (R471, 07_isolation_and_blocking.md). -/
def RD.ISO_SURVEY_STS : RegD := { base := 0x1C00008, dims := [], ao := false, lock := false, blk := some 8, flds := [F.ISO_SURVEY_STS_PENDING, F.ISO_SURVEY_STS_ROUND, F.ISO_SURVEY_STS_STATE] }
def F.ISO_CNT_JUMPS : Fld := { off := 0x1C0000C, lo := 24, w := 8, ty := .ro }
def F.ISO_CNT_REASSIGNS : Fld := { off := 0x1C0000C, lo := 16, w := 8, ty := .ro }
def F.ISO_CNT_FAR : Fld := { off := 0x1C0000C, lo := 8, w := 8, ty := .ro }
def F.ISO_CNT_SURVEYS : Fld := { off := 0x1C0000C, lo := 0, w := 8, ty := .ro }
/-- `ISO_CNT` (R472, 07_isolation_and_blocking.md). -/
def RD.ISO_CNT : RegD := { base := 0x1C0000C, dims := [], ao := false, lock := false, blk := some 8, flds := [F.ISO_CNT_JUMPS, F.ISO_CNT_REASSIGNS, F.ISO_CNT_FAR, F.ISO_CNT_SURVEYS] }
def F.ISO_EST_CFG_DET_THR : Fld := { off := 0x1C00010, lo := 24, w := 8, ty := .rwl, rst := fun _ _ _ => 0x28 }
def F.ISO_EST_CFG_AGREE : Fld := { off := 0x1C00010, lo := 16, w := 8, ty := .rwl, rst := fun _ _ _ => 0x18 }
def F.ISO_EST_CFG_JUMP : Fld := { off := 0x1C00010, lo := 8, w := 8, ty := .rwl, rst := fun _ _ _ => 0x18 }
def F.ISO_EST_CFG_TRUST_COUNT : Fld := { off := 0x1C00010, lo := 4, w := 4, ty := .rwl, rst := fun _ _ _ => 4 }
def F.ISO_EST_CFG_EST_SHIFT : Fld := { off := 0x1C00010, lo := 0, w := 4, ty := .rwl, rst := fun _ _ _ => 2 }
/-- `ISO_EST_CFG` (R473, 07_isolation_and_blocking.md). -/
def RD.ISO_EST_CFG : RegD := { base := 0x1C00010, dims := [], ao := false, lock := true, blk := some 8, flds := [F.ISO_EST_CFG_DET_THR, F.ISO_EST_CFG_AGREE, F.ISO_EST_CFG_JUMP, F.ISO_EST_CFG_TRUST_COUNT, F.ISO_EST_CFG_EST_SHIFT] }
def F.ISO_HOLD_CFG_BLOCK_MAX : Fld := { off := 0x1C00014, lo := 16, w := 16, ty := .rwl, rst := fun _ _ _ => 0x2000 }
def F.ISO_HOLD_CFG_HOLD_LIMIT : Fld := { off := 0x1C00014, lo := 8, w := 8, ty := .rwl, rst := fun _ _ _ => 0x3C }
def F.ISO_HOLD_CFG_UNTRUST_PEN : Fld := { off := 0x1C00014, lo := 0, w := 8, ty := .rwl, rst := fun _ _ _ => 0x18 }
/-- `ISO_HOLD_CFG` (R474, 07_isolation_and_blocking.md). -/
def RD.ISO_HOLD_CFG : RegD := { base := 0x1C00014, dims := [], ao := false, lock := true, blk := some 8, flds := [F.ISO_HOLD_CFG_BLOCK_MAX, F.ISO_HOLD_CFG_HOLD_LIMIT, F.ISO_HOLD_CFG_UNTRUST_PEN] }
def F.ISO_CANC_CFG_CANC_CAP : Fld := { off := 0x1C00018, lo := 24, w := 8, ty := .rwl, rst := fun _ _ _ => 0x28 }
def F.ISO_CANC_CFG_CANC_SHIFT : Fld := { off := 0x1C00018, lo := 20, w := 4, ty := .rwl, rst := fun _ _ _ => 1 }
def F.ISO_CANC_CFG_EN : Fld := { off := 0x1C00018, lo := 16, w := 1, ty := .rwl, rst := fun _ _ _ => 1 }
def F.ISO_CANC_CFG_RELEASE_TICKS : Fld := { off := 0x1C00018, lo := 8, w := 8, ty := .rwl, rst := fun _ _ _ => 8 }
def F.ISO_CANC_CFG_HYST : Fld := { off := 0x1C00018, lo := 4, w := 4, ty := .rwl, rst := fun _ _ _ => 3 }
def F.ISO_CANC_CFG_REASSIGN : Fld := { off := 0x1C00018, lo := 0, w := 4, ty := .rwl, rst := fun _ _ _ => 1 }
/-- `ISO_CANC_CFG` (R475, 07_isolation_and_blocking.md). -/
def RD.ISO_CANC_CFG : RegD := { base := 0x1C00018, dims := [], ao := false, lock := true, blk := some 8, flds := [F.ISO_CANC_CFG_CANC_CAP, F.ISO_CANC_CFG_CANC_SHIFT, F.ISO_CANC_CFG_EN, F.ISO_CANC_CFG_RELEASE_TICKS, F.ISO_CANC_CFG_HYST, F.ISO_CANC_CFG_REASSIGN] }
def F.ISO_SURVEY_CFG_BACKOFF : Fld := { off := 0x1C0001C, lo := 24, w := 8, ty := .rwl, rst := fun _ _ _ => 0x1E }
def F.ISO_SURVEY_CFG_STEP : Fld := { off := 0x1C0001C, lo := 20, w := 4, ty := .rwl, rst := fun _ _ _ => 6 }
def F.ISO_SURVEY_CFG_LIMIT : Fld := { off := 0x1C0001C, lo := 12, w := 8, ty := .rwl, rst := fun _ _ _ => 0x28 }
def F.ISO_SURVEY_CFG_ROUND_MAX : Fld := { off := 0x1C0001C, lo := 4, w := 8, ty := .rwl, rst := fun _ _ _ => 0x14 }
def F.ISO_SURVEY_CFG_PREP : Fld := { off := 0x1C0001C, lo := 0, w := 4, ty := .rwl, rst := fun _ _ _ => 2 }
/-- `ISO_SURVEY_CFG` (R476, 07_isolation_and_blocking.md). -/
def RD.ISO_SURVEY_CFG : RegD := { base := 0x1C0001C, dims := [], ao := false, lock := true, blk := some 8, flds := [F.ISO_SURVEY_CFG_BACKOFF, F.ISO_SURVEY_CFG_STEP, F.ISO_SURVEY_CFG_LIMIT, F.ISO_SURVEY_CFG_ROUND_MAX, F.ISO_SURVEY_CFG_PREP] }
def F.ISO_RESURVEY_CFG_REUSE_AGE : Fld := { off := 0x1C00020, lo := 20, w := 12, ty := .rwl, rst := fun _ _ _ => 0x90 }
def F.ISO_RESURVEY_CFG_PERIOD : Fld := { off := 0x1C00020, lo := 12, w := 8, ty := .rwl, rst := fun _ _ _ => 0xA8 }
def F.ISO_RESURVEY_CFG_RETRY : Fld := { off := 0x1C00020, lo := 6, w := 6, ty := .rwl, rst := fun _ _ _ => 0xF }
def F.ISO_RESURVEY_CFG_RESURVEY_DEPTH : Fld := { off := 0x1C00020, lo := 1, w := 5, ty := .rwl, rst := fun _ _ _ => 0x10 }
def F.ISO_RESURVEY_CFG_MODE : Fld := { off := 0x1C00020, lo := 0, w := 1, ty := .rwl }
/-- `ISO_RESURVEY_CFG` (R477, 07_isolation_and_blocking.md). -/
def RD.ISO_RESURVEY_CFG : RegD := { base := 0x1C00020, dims := [], ao := false, lock := true, blk := some 8, flds := [F.ISO_RESURVEY_CFG_REUSE_AGE, F.ISO_RESURVEY_CFG_PERIOD, F.ISO_RESURVEY_CFG_RETRY, F.ISO_RESURVEY_CFG_RESURVEY_DEPTH, F.ISO_RESURVEY_CFG_MODE] }
def F.ISO_WEAVE_EN : Fld := { off := 0x1C00100, lo := 31, w := 1, ty := .rwl, s1 := 0x4, rst := fun _ _ _ => 1 }
def F.ISO_WEAVE_DEPTH : Fld := { off := 0x1C00100, lo := 21, w := 5, ty := .rwl, s1 := 0x4, rst := fun _ _ _ => 6 }
def F.ISO_WEAVE_CHIP_LEN : Fld := { off := 0x1C00100, lo := 16, w := 2, ty := .rwl, s1 := 0x4, rst := fun _ _ _ => 1 }
def F.ISO_WEAVE_DUTY_SET : Fld := { off := 0x1C00100, lo := 12, w := 4, ty := .rwl, s1 := 0x4, rst := fun _ _ _ => 8 }
def F.ISO_WEAVE_DUTY_EFF : Fld := { off := 0x1C00100, lo := 8, w := 4, ty := .ro, s1 := 0x4 }
def F.ISO_WEAVE_WIDTH : Fld := { off := 0x1C00100, lo := 0, w := 8, ty := .ro, s1 := 0x4 }
/-- `ISO_WEAVE_d` (R478, 07_isolation_and_blocking.md). -/
def RD.ISO_WEAVE : RegD := { base := 0x1C00100, dims := [(16, 0x4)], ao := false, lock := true, blk := some 8, flds := [F.ISO_WEAVE_EN, F.ISO_WEAVE_DEPTH, F.ISO_WEAVE_CHIP_LEN, F.ISO_WEAVE_DUTY_SET, F.ISO_WEAVE_DUTY_EFF, F.ISO_WEAVE_WIDTH] }
def F.ISO_PS_VERDICT : Fld := { off := 0x1C01000, lo := 29, w := 3, ty := .ro, s1 := 0x4 }
def F.ISO_PS_CAPPED : Fld := { off := 0x1C01000, lo := 16, w := 9, ty := .ro, s1 := 0x4 }
def F.ISO_PS_TRUSTED : Fld := { off := 0x1C01000, lo := 0, w := 9, ty := .ro, s1 := 0x4 }
/-- `ISO_PS_m` (R479, 07_isolation_and_blocking.md). -/
def RD.ISO_PS : RegD := { base := 0x1C01000, dims := [(2048, 0x4)], ao := false, lock := false, blk := some 8, flds := [F.ISO_PS_VERDICT, F.ISO_PS_CAPPED, F.ISO_PS_TRUSTED] }
def F.ISO_BRANCH_STATE : Fld := { off := 0x1C10000, lo := 30, w := 2, ty := .ro, s1 := 0x1000, s2 := 0x10, s3 := 0x4 }
def F.ISO_BRANCH_PORT : Fld := { off := 0x1C10000, lo := 23, w := 7, ty := .ro, s1 := 0x1000, s2 := 0x10, s3 := 0x4 }
def F.ISO_BRANCH_CANC : Fld := { off := 0x1C10000, lo := 16, w := 6, ty := .ro, s1 := 0x1000, s2 := 0x10, s3 := 0x4 }
def F.ISO_BRANCH_DELAY : Fld := { off := 0x1C10000, lo := 0, w := 16, ty := .ro, s1 := 0x1000, s2 := 0x10, s3 := 0x4 }
/-- `ISO_BRANCH_d_t_b` (R480, 07_isolation_and_blocking.md). -/
def RD.ISO_BRANCH : RegD := { base := 0x1C10000, dims := [(16, 0x1000), (256, 0x10), (4, 0x4)], ao := false, lock := false, blk := some 8, flds := [F.ISO_BRANCH_STATE, F.ISO_BRANCH_PORT, F.ISO_BRANCH_CANC, F.ISO_BRANCH_DELAY] }
def F.CE_OPSET_O_HI : Fld := { off := 0x1D00000, lo := 16, w := 16, ty := .rwl, s1 := 0x4 }
def F.CE_OPSET_O_LO : Fld := { off := 0x1D00000, lo := 0, w := 16, ty := .rwl, s1 := 0x4 }
/-- `CE_OPSET_u` (R519, 08_gain_loops.md). -/
def RD.CE_OPSET : RegD := { base := 0x1D00000, dims := [(262144, 0x4)], ao := false, lock := true, blk := some 9, flds := [F.CE_OPSET_O_HI, F.CE_OPSET_O_LO] }
def F.MEA_OWNER_CLAIM_CONFLICT : Fld := { off := 0x1E00000, lo := 8, w := 1, ty := .w1c }
def F.MEA_OWNER_OWNER : Fld := { off := 0x1E00000, lo := 0, w := 2, ty := .rw }
/-- `MEA_OWNER` (R425, 06_measurement_chains.md). -/
def RD.MEA_OWNER : RegD := { base := 0x1E00000, dims := [], ao := false, lock := false, blk := some 7, flds := [F.MEA_OWNER_CLAIM_CONFLICT, F.MEA_OWNER_OWNER] }
def F.MEA_CTL_PIN_POL : Fld := { off := 0x1E00004, lo := 5, w := 1, ty := .rwl }
def F.MEA_CTL_PIN_EN : Fld := { off := 0x1E00004, lo := 4, w := 1, ty := .rwl }
def F.MEA_CTL_SYNC_MASK : Fld := { off := 0x1E00004, lo := 2, w := 2, ty := .rwl, rst := fun _ _ _ => 3 }
def F.MEA_CTL_SYNC : Fld := { off := 0x1E00004, lo := 1, w := 1, ty := .w1s }
def F.MEA_CTL_CLR_CNT : Fld := { off := 0x1E00004, lo := 0, w := 1, ty := .w1s }
/-- `MEA_CTL` (R426, 06_measurement_chains.md). -/
def RD.MEA_CTL : RegD := { base := 0x1E00004, dims := [], ao := false, lock := true, blk := some 7, flds := [F.MEA_CTL_PIN_POL, F.MEA_CTL_PIN_EN, F.MEA_CTL_SYNC_MASK, F.MEA_CTL_SYNC, F.MEA_CTL_CLR_CNT] }
def F.MEA_STS_SYNCS : Fld := { off := 0x1E00008, lo := 16, w := 16, ty := .ro }
def F.MEA_STS_SYNC_PENDING : Fld := { off := 0x1E00008, lo := 0, w := 2, ty := .ro }
/-- `MEA_STS` (R427, 06_measurement_chains.md). -/
def RD.MEA_STS : RegD := { base := 0x1E00008, dims := [], ao := false, lock := false, blk := some 7, flds := [F.MEA_STS_SYNCS, F.MEA_STS_SYNC_PENDING] }
def F.MEA_CNT_SYNC_MERGED : Fld := { off := 0x1E0000C, lo := 24, w := 8, ty := .ro }
def F.MEA_CNT_SWAP_MERGED : Fld := { off := 0x1E0000C, lo := 16, w := 8, ty := .ro }
def F.MEA_CNT_SWAP_DEFERRED : Fld := { off := 0x1E0000C, lo := 0, w := 16, ty := .ro }
/-- `MEA_CNT` (R428, 06_measurement_chains.md). -/
def RD.MEA_CNT : RegD := { base := 0x1E0000C, dims := [], ao := false, lock := false, blk := some 7, flds := [F.MEA_CNT_SYNC_MERGED, F.MEA_CNT_SWAP_MERGED, F.MEA_CNT_SWAP_DEFERRED] }
def F.MEA_WATCH_CFG_ALERT : Fld := { off := 0x1E00010, lo := 23, w := 1, ty := .rwl }
def F.MEA_WATCH_CFG_IRQ_EN : Fld := { off := 0x1E00010, lo := 22, w := 1, ty := .rwl }
def F.MEA_WATCH_CFG_IRQ_VEC : Fld := { off := 0x1E00010, lo := 16, w := 6, ty := .rwl }
def F.MEA_WATCH_CFG_HYST : Fld := { off := 0x1E00010, lo := 8, w := 8, ty := .rwl, rst := fun _ _ _ => 0x10 }
def F.MEA_WATCH_CFG_CONFIRM : Fld := { off := 0x1E00010, lo := 0, w := 4, ty := .rwl, rst := fun _ _ _ => 3 }
/-- `MEA_WATCH_CFG` (R429, 06_measurement_chains.md). -/
def RD.MEA_WATCH_CFG : RegD := { base := 0x1E00010, dims := [], ao := false, lock := true, blk := some 7, flds := [F.MEA_WATCH_CFG_ALERT, F.MEA_WATCH_CFG_IRQ_EN, F.MEA_WATCH_CFG_IRQ_VEC, F.MEA_WATCH_CFG_HYST, F.MEA_WATCH_CFG_CONFIRM] }
def F.MEA_PRESET_START_DELAY : Fld := { off := 0x1E01000, lo := 16, w := 16, ty := .rwl, s1 := 0x4 }
def F.MEA_PRESET_EFF_H : Fld := { off := 0x1E01000, lo := 8, w := 3, ty := .ro, s1 := 0x4, rst := fun _ _ _ => 2 }
def F.MEA_PRESET_PENDING : Fld := { off := 0x1E01000, lo := 7, w := 1, ty := .ro, s1 := 0x4 }
def F.MEA_PRESET_SWAP : Fld := { off := 0x1E01000, lo := 6, w := 1, ty := .w1s, s1 := 0x4 }
def F.MEA_PRESET_ACTIVE : Fld := { off := 0x1E01000, lo := 5, w := 1, ty := .ro, s1 := 0x4 }
def F.MEA_PRESET_BANK_B : Fld := { off := 0x1E01000, lo := 2, w := 2, ty := .rwl, s1 := 0x4, rst := fun _ _ _ => 1 }
def F.MEA_PRESET_BANK_A : Fld := { off := 0x1E01000, lo := 0, w := 2, ty := .rwl, s1 := 0x4, rst := fun _ _ _ => 1 }
/-- `MEA_PRESET_m` (R430, 06_measurement_chains.md). -/
def RD.MEA_PRESET : RegD := { base := 0x1E01000, dims := [(2080, 0x4)], ao := false, lock := true, blk := some 7, flds := [F.MEA_PRESET_START_DELAY, F.MEA_PRESET_EFF_H, F.MEA_PRESET_PENDING, F.MEA_PRESET_SWAP, F.MEA_PRESET_ACTIVE, F.MEA_PRESET_BANK_B, F.MEA_PRESET_BANK_A] }
def F.MEA_WATCH0_EN : Fld := { off := 0x1E04000, lo := 31, w := 1, ty := .rwl, s1 := 0x8 }
def F.MEA_WATCH0_TAP : Fld := { off := 0x1E04000, lo := 19, w := 1, ty := .rwl, s1 := 0x8 }
def F.MEA_WATCH0_TILE_ID : Fld := { off := 0x1E04000, lo := 0, w := 19, ty := .rwl, s1 := 0x8 }
/-- `MEA_WATCH0_n` (R431, 06_measurement_chains.md). -/
def RD.MEA_WATCH0 : RegD := { base := 0x1E04000, dims := [(256, 0x8)], ao := false, lock := true, blk := some 7, flds := [F.MEA_WATCH0_EN, F.MEA_WATCH0_TAP, F.MEA_WATCH0_TILE_ID] }
def F.MEA_WATCH1_HIGH : Fld := { off := 0x1E04004, lo := 16, w := 16, ty := .rwl, s1 := 0x8, rst := fun _ _ _ => 0x7FFF }
def F.MEA_WATCH1_LOW : Fld := { off := 0x1E04004, lo := 0, w := 16, ty := .rwl, s1 := 0x8, rst := fun _ _ _ => 0x8001 }
/-- `MEA_WATCH1_n` (R431, 06_measurement_chains.md). -/
def RD.MEA_WATCH1 : RegD := { base := 0x1E04004, dims := [(256, 0x8)], ao := false, lock := true, blk := some 7, flds := [F.MEA_WATCH1_HIGH, F.MEA_WATCH1_LOW] }
def F.MEA_WATCH_STS_LAST : Fld := { off := 0x1E04800, lo := 16, w := 16, ty := .ro, s1 := 0x4, rst := fun _ _ _ => 0x8000 }
def F.MEA_WATCH_STS_CROSSINGS : Fld := { off := 0x1E04800, lo := 8, w := 8, ty := .ro, s1 := 0x4 }
def F.MEA_WATCH_STS_LOW_ACT : Fld := { off := 0x1E04800, lo := 1, w := 1, ty := .ro, s1 := 0x4 }
def F.MEA_WATCH_STS_HIGH_ACT : Fld := { off := 0x1E04800, lo := 0, w := 1, ty := .ro, s1 := 0x4 }
/-- `MEA_WATCH_STS_n` (R432, 06_measurement_chains.md). -/
def RD.MEA_WATCH_STS : RegD := { base := 0x1E04800, dims := [(256, 0x4)], ao := false, lock := false, blk := some 7, flds := [F.MEA_WATCH_STS_LAST, F.MEA_WATCH_STS_CROSSINGS, F.MEA_WATCH_STS_LOW_ACT, F.MEA_WATCH_STS_HIGH_ACT] }
def F.MEA_CAP0_LAST_TILE : Fld := { off := 0x1E05000, lo := 24, w := 8, ty := .rwl, s1 := 0x10, rst := fun _ _ _ => 0xFF }
def F.MEA_CAP0_FIRST_TILE : Fld := { off := 0x1E05000, lo := 16, w := 8, ty := .rwl, s1 := 0x10 }
def F.MEA_CAP0_TAP : Fld := { off := 0x1E05000, lo := 12, w := 1, ty := .rwl, s1 := 0x10 }
def F.MEA_CAP0_STREAM : Fld := { off := 0x1E05000, lo := 0, w := 12, ty := .rwl, s1 := 0x10 }
/-- `MEA_CAP0_n` (R433, 06_measurement_chains.md). -/
def RD.MEA_CAP0 : RegD := { base := 0x1E05000, dims := [(16, 0x10)], ao := false, lock := true, blk := some 7, flds := [F.MEA_CAP0_LAST_TILE, F.MEA_CAP0_FIRST_TILE, F.MEA_CAP0_TAP, F.MEA_CAP0_STREAM] }
def F.MEA_CAP1_COUNT : Fld := { off := 0x1E05004, lo := 0, w := 16, ty := .rwl, s1 := 0x10, rst := fun _ _ _ => 1 }
/-- `MEA_CAP1_n` (R433, 06_measurement_chains.md). -/
def RD.MEA_CAP1 : RegD := { base := 0x1E05004, dims := [(16, 0x10)], ao := false, lock := true, blk := some 7, flds := [F.MEA_CAP1_COUNT] }
def F.MEA_CAP2_ADDR64 : Fld := { off := 0x1E05008, lo := 0, w := 32, ty := .rwl, s1 := 0x10 }
/-- `MEA_CAP2_n` (R433, 06_measurement_chains.md). -/
def RD.MEA_CAP2 : RegD := { base := 0x1E05008, dims := [(16, 0x10)], ao := false, lock := true, blk := some 7, flds := [F.MEA_CAP2_ADDR64] }
def F.MEA_CAP3_BUSY : Fld := { off := 0x1E0500C, lo := 31, w := 1, ty := .ro, s1 := 0x10 }
def F.MEA_CAP3_RESULT : Fld := { off := 0x1E0500C, lo := 28, w := 3, ty := .ro, s1 := 0x10 }
def F.MEA_CAP3_OVERRUN : Fld := { off := 0x1E0500C, lo := 8, w := 8, ty := .ro, s1 := 0x10 }
def F.MEA_CAP3_START : Fld := { off := 0x1E0500C, lo := 0, w := 1, ty := .w1s, s1 := 0x10 }
/-- `MEA_CAP3_n` (R433, 06_measurement_chains.md). -/
def RD.MEA_CAP3 : RegD := { base := 0x1E0500C, dims := [(16, 0x10)], ao := false, lock := false, blk := some 7, flds := [F.MEA_CAP3_BUSY, F.MEA_CAP3_RESULT, F.MEA_CAP3_OVERRUN, F.MEA_CAP3_START] }
def F.LCX0_EN : Fld := { off := 0x2000000, lo := 31, w := 1, ty := .rwl, s1 := 0x40 }
def F.LCX0_READY : Fld := { off := 0x2000000, lo := 30, w := 1, ty := .ro, s1 := 0x40 }
def F.LCX0_HOLD : Fld := { off := 0x2000000, lo := 27, w := 3, ty := .ro, s1 := 0x40 }
def F.LCX0_WINNER : Fld := { off := 0x2000000, lo := 25, w := 2, ty := .ro, s1 := 0x40 }
def F.LCX0_MB : Fld := { off := 0x2000000, lo := 23, w := 2, ty := .ro, s1 := 0x40 }
def F.LCX0_LB : Fld := { off := 0x2000000, lo := 21, w := 2, ty := .ro, s1 := 0x40 }
def F.LCX0_SET : Fld := { off := 0x2000000, lo := 15, w := 6, ty := .ro, s1 := 0x40 }
def F.LCX0_SS_RUN : Fld := { off := 0x2000000, lo := 14, w := 1, ty := .ro, s1 := 0x40 }
def F.LCX0_STALE : Fld := { off := 0x2000000, lo := 13, w := 1, ty := .ro, s1 := 0x40 }
def F.LCX0_RAMPING : Fld := { off := 0x2000000, lo := 12, w := 1, ty := .ro, s1 := 0x40 }
def F.LCX0_OSAT : Fld := { off := 0x2000000, lo := 6, w := 1, ty := .w1c, s1 := 0x40 }
def F.LCX0_QSAT : Fld := { off := 0x2000000, lo := 5, w := 1, ty := .w1c, s1 := 0x40 }
def F.LCX0_ESAT : Fld := { off := 0x2000000, lo := 4, w := 1, ty := .w1c, s1 := 0x40 }
def F.LCX0_DMISS : Fld := { off := 0x2000000, lo := 3, w := 1, ty := .w1c, s1 := 0x40 }
def F.LCX0_FHOLD : Fld := { off := 0x2000000, lo := 2, w := 1, ty := .w1c, s1 := 0x40 }
def F.LCX0_STALE_SEEN : Fld := { off := 0x2000000, lo := 1, w := 1, ty := .w1c, s1 := 0x40 }
def F.LCX0_SWAP_SAT : Fld := { off := 0x2000000, lo := 0, w := 1, ty := .w1c, s1 := 0x40 }
/-- `LCX0_t` (R537, 09_loop_engine.md). -/
def RD.LCX0 : RegD := { base := 0x2000000, dims := [(524288, 0x40)], ao := false, lock := true, blk := some 9, flds := [F.LCX0_EN, F.LCX0_READY, F.LCX0_HOLD, F.LCX0_WINNER, F.LCX0_MB, F.LCX0_LB, F.LCX0_SET, F.LCX0_SS_RUN, F.LCX0_STALE, F.LCX0_RAMPING, F.LCX0_OSAT, F.LCX0_QSAT, F.LCX0_ESAT, F.LCX0_DMISS, F.LCX0_FHOLD, F.LCX0_STALE_SEEN, F.LCX0_SWAP_SAT] }
def F.LCX1_G_PREV : Fld := { off := 0x2000004, lo := 16, w := 16, ty := .ro, s1 := 0x40, rst := fun _ _ _ => 0x8000 }
def F.LCX1_SS_CEIL : Fld := { off := 0x2000004, lo := 0, w := 16, ty := .ro, s1 := 0x40, rst := fun _ _ _ => 0x8000 }
/-- `LCX1_t` (R537, 09_loop_engine.md). -/
def RD.LCX1 : RegD := { base := 0x2000004, dims := [(524288, 0x40)], ao := false, lock := false, blk := none, flds := [F.LCX1_G_PREV, F.LCX1_SS_CEIL] }
def F.LCX2_X_M : Fld := { off := 0x2000008, lo := 16, w := 16, ty := .ro, s1 := 0x40 }
def F.LCX2_V_M : Fld := { off := 0x2000008, lo := 0, w := 16, ty := .ro, s1 := 0x40 }
/-- `LCX2_t` (R537, 09_loop_engine.md). -/
def RD.LCX2 : RegD := { base := 0x2000008, dims := [(524288, 0x40)], ao := false, lock := false, blk := none, flds := [F.LCX2_X_M, F.LCX2_V_M] }
def F.LCX3_N_M : Fld := { off := 0x200000C, lo := 16, w := 16, ty := .ro, s1 := 0x40 }
def F.LCX3_B_M : Fld := { off := 0x200000C, lo := 0, w := 16, ty := .ro, s1 := 0x40 }
/-- `LCX3_t` (R537, 09_loop_engine.md). -/
def RD.LCX3 : RegD := { base := 0x200000C, dims := [(524288, 0x40)], ao := false, lock := false, blk := none, flds := [F.LCX3_N_M, F.LCX3_B_M] }
def F.LCX4_S_EXP : Fld := { off := 0x2000010, lo := 26, w := 6, ty := .ro, s1 := 0x40, rst := fun _ _ _ => 0x20 }
def F.LCX4_UNCHANGED : Fld := { off := 0x2000010, lo := 24, w := 2, ty := .ro, s1 := 0x40 }
def F.LCX4_STALE_TICKS : Fld := { off := 0x2000010, lo := 16, w := 8, ty := .ro, s1 := 0x40 }
def F.LCX4_SEQ_IN : Fld := { off := 0x2000010, lo := 0, w := 16, ty := .ro, s1 := 0x40 }
/-- `LCX4_t` (R537, 09_loop_engine.md). -/
def RD.LCX4 : RegD := { base := 0x2000010, dims := [(524288, 0x40)], ao := false, lock := false, blk := none, flds := [F.LCX4_S_EXP, F.LCX4_UNCHANGED, F.LCX4_STALE_TICKS, F.LCX4_SEQ_IN] }
def F.LCX5_SEQ_OUT : Fld := { off := 0x2000014, lo := 16, w := 16, ty := .ro, s1 := 0x40 }
def F.LCX5_LAST_TICK : Fld := { off := 0x2000014, lo := 8, w := 8, ty := .ro, s1 := 0x40 }
/-- `LCX5_t` (R537, 09_loop_engine.md). -/
def RD.LCX5 : RegD := { base := 0x2000014, dims := [(524288, 0x40)], ao := false, lock := false, blk := none, flds := [F.LCX5_SEQ_OUT, F.LCX5_LAST_TICK] }
def F.LCX6_Q : Fld := { off := 0x2000018, lo := 0, w := 32, ty := .ro, s1 := 0x40 }
/-- `LCX6_t` (R537, 09_loop_engine.md). -/
def RD.LCX6 : RegD := { base := 0x2000018, dims := [(524288, 0x40)], ao := false, lock := false, blk := none, flds := [F.LCX6_Q] }
def F.LCX7_NS1 : Fld := { off := 0x200001C, lo := 8, w := 24, ty := .ro, s1 := 0x40 }
/-- `LCX7_t` (R537, 09_loop_engine.md). -/
def RD.LCX7 : RegD := { base := 0x200001C, dims := [(524288, 0x40)], ao := false, lock := false, blk := none, flds := [F.LCX7_NS1] }
def F.LCX8_NS2 : Fld := { off := 0x2000020, lo := 8, w := 24, ty := .ro, s1 := 0x40 }
/-- `LCX8_t` (R537, 09_loop_engine.md). -/
def RD.LCX8 : RegD := { base := 0x2000020, dims := [(524288, 0x40)], ao := false, lock := false, blk := none, flds := [F.LCX8_NS2] }
def F.LCX9_CAND_0 : Fld := { off := 0x2000024, lo := 16, w := 16, ty := .ro, s1 := 0x40, rst := fun _ _ _ => 0x7FFF }
def F.LCX9_CAND_1 : Fld := { off := 0x2000024, lo := 0, w := 16, ty := .ro, s1 := 0x40, rst := fun _ _ _ => 0x7FFF }
/-- `LCX9_t` (R537, 09_loop_engine.md). -/
def RD.LCX9 : RegD := { base := 0x2000024, dims := [(524288, 0x40)], ao := false, lock := false, blk := none, flds := [F.LCX9_CAND_0, F.LCX9_CAND_1] }
def F.LCX10_CAND_2 : Fld := { off := 0x2000028, lo := 16, w := 16, ty := .ro, s1 := 0x40, rst := fun _ _ _ => 0x7FFF }
def F.LCX10_CAND_3 : Fld := { off := 0x2000028, lo := 0, w := 16, ty := .ro, s1 := 0x40, rst := fun _ _ _ => 0x7FFF }
/-- `LCX10_t` (R537, 09_loop_engine.md). -/
def RD.LCX10 : RegD := { base := 0x2000028, dims := [(524288, 0x40)], ao := false, lock := false, blk := none, flds := [F.LCX10_CAND_2, F.LCX10_CAND_3] }
def F.LCX11_SEL_RAW : Fld := { off := 0x200002C, lo := 16, w := 16, ty := .ro, s1 := 0x40, rst := fun _ _ _ => 0x7FFF }
/-- `LCX11_t` (R537, 09_loop_engine.md). -/
def RD.LCX11 : RegD := { base := 0x200002C, dims := [(524288, 0x40)], ao := false, lock := false, blk := none, flds := [F.LCX11_SEL_RAW] }

end Sys2Proof.Machine
end

