-- ==== Sys2Proof/Machine/RegMap.lean ====
section
/-! DEFINITION. The registers by name, and the map from a BAR0 offset to a register and its indices (R10, R15). -/

namespace Sys2Proof.Machine

/-- Every register the spec describes, by its name without the index letters. -/
inductive Reg where
  | GLB_ID
  | GLB_REV
  | GLB_CAPS
  | GLB_SCRATCH
  | CLK_OWNER
  | CLK_CTL
  | CLK_STS
  | CLK_XTAL_CFG_A
  | CLK_XTAL_CFG_B
  | CLK_MON_CFG
  | CLK_MEAS_A
  | CLK_MEAS_B
  | CLK_MEAS_S
  | CLK_CNT
  | CLK_CNT2
  | CLK_RST_CTL
  | CLK_RST_CAUSE
  | CLK_BOOT_STS
  | PWR_OWNER
  | PWR_CTL
  | PWR_STS
  | PWR_LADDER
  | PWR_LADDER_CNT
  | PWR_RAIL
  | PWR_RAIL_I
  | PWR_DOM
  | THM_THR
  | THM_THROTTLE_CFG
  | THM_STS
  | THM_SUSPECT
  | THM_CNT
  | THM_TS
  | THM_AGE_CFG
  | THM_AGE
  | THM_LIFE
  | BGV_CTL
  | BGV_BUDGET
  | BGV_STS
  | BGV_EST
  | BGV_MEAS
  | BGV_CNT
  | BGV_WEIGHT
  | BGV_STATIC
  | BGV_DSLICE
  | BGV_MUTE
  | HK_OWNER
  | HK_CTL
  | HK_STS
  | HK_ROUND_CNT
  | HK_GO
  | HK_PIN_CFG
  | HK_IRQ
  | HK_IRQ_CFG
  | HK_CAL_CTL
  | HK_CAL_STS
  | HK_CFG
  | HK_TIMER
  | HK_SEQ_STS
  | HK_CNT
  | HK_INJ_STAMP_LO
  | HK_INJ_STAMP_HI
  | HK_REG
  | HK_INJ
  | HK_REG_RES
  | HK_INJ_RES
  | HK_FILT
  | HK_CAL
  | WM_CFG
  | WM_THR
  | WM_TIME
  | WM_STS
  | ORB_OWNER
  | ORB_SYNC_CFG
  | ORB_SLICE_CFG
  | ORB_CTL
  | ORB_LOCK_CFG
  | ORB_HOLD_CFG
  | ORB_REF_OFS
  | ORB_CELL
  | ORB_STS
  | ORB_POS_LO
  | ORB_POS_HI
  | ORB_FREQ
  | ORB_ERR
  | ORB_CNT
  | ORB_TDD_CTL
  | ORB_ECL_CFG
  | ORB_TDD_PER
  | ORB_TDD_SEG
  | ORB_QUIET
  | TRN_CTL
  | TRN_TICK_CFG
  | TRN_STS
  | TRN_CNT
  | TRN_ENT0
  | TRN_ENT1
  | TRN_ENT2
  | TRN_ENT3
  | EVT_OWNER
  | EVT_CTL
  | EVT_STS
  | EVT_HEAD_LO
  | EVT_HEAD_HI
  | EVT_TAIL_LO
  | EVT_TAIL_HI
  | EVT_TIME_LO
  | EVT_TIME_HI
  | EVT_PCYCLE
  | EVT_CNT
  | EVT_CNT2
  | EVT_CAL_LO
  | EVT_CAL_HI
  | EVT_ARCH_STS_LO
  | EVT_ARCH_STS_HI
  | EVT_ARCH_RD_LO
  | EVT_ARCH_RD_HI
  | EVT_ARCH_BUF
  | EVT_CLR_CTL
  | EVT_NONCE
  | EVT_AUTH
  | EVT_CLR_TO_LO
  | EVT_CLR_TO_HI
  | EVT_IRQ
  | EVT_IRQ_CFG
  | EVT_SNAP
  | EVT_CODE
  | EVT_CODE_STS
  | EVT_RING
  | MLD_OWNER
  | MLD_CTL
  | MLD_STS
  | MLD_ERR
  | MLD_IMG_VER
  | MLD_STAGE_ADDR
  | MLD_STAGE_LEN
  | MLD_REMOULD_STS
  | MLD_SEC
  | MLD_DISCARD_CNT
  | MLD_BOOT_CNT
  | MLD_PLACE
  | HIF_OWNER
  | HIF_CTL
  | HIF_LINK_STS
  | HIF_ACC_STS
  | HIF_ACC_ADDR
  | HIF_OWN_MAP
  | HIF_BAR2_BASE
  | HIF_MEM_STS
  | HIF_MEM_CFG
  | HIF_MEM_ECC
  | HIF_MEM_UE_ADDR
  | HIF_FLASH_CTL
  | HIF_FLASH_ADDR
  | HIF_FLASH_STS
  | HIF_OTP_CTL
  | HIF_OTP_DATA
  | HIF_FLASH_BUF
  | HIF_DMA_CTL
  | HIF_DMA_STS
  | HIF_DMA_DESC_LO
  | HIF_DMA_DESC_HI
  | HIF_MSIX_ADDR_LO
  | HIF_MSIX_ADDR_HI
  | HIF_MSIX_DATA
  | HIF_MSIX_CTRL
  | HIF_PBA
  | HIF_MB_CTL
  | HIF_MB_REQ
  | HIF_MB_RSP
  | SMP_CTL
  | SMP_ALERT_STS
  | SMP_ALERT_MASK
  | SMP_CNT
  | LNK_CTL
  | LNK_STS
  | LNK_TIMING
  | LNK_RTD
  | LNK_OWD
  | LNK_ASYM
  | LNK_REM_ID
  | LNK_REM_LAT
  | LNK_REM_CAP
  | LNK_REM_SER_LO
  | LNK_REM_SER_HI
  | LNK_CNT_CRC
  | LNK_CNT
  | LNK_ETH_CFG
  | LNK_ETH_DA_LO
  | LNK_ETH_DA_HI
  | LNK_CNT_ETH
  | LNK_PROT
  | LNK_PROT_STS
  | LNK_MGMT
  | LNK_MGMT_STS
  | LNK_MSG_CTL
  | LNK_MSG_RX
  | LNK_MSG_TXB
  | LNK_MSG_RXB
  | LNK_OWNER
  | LNK_GLB_CFG
  | LNK_MAC_LO
  | LNK_MAC_HI
  | LNK_MGB_CFG
  | LNK_MGB_XFER
  | LNK_MGB_DATA
  | DON_OWNER
  | DON_CTL
  | DON_SYSREF_STS
  | DON_LANE_MAP_RX_LO
  | DON_LANE_MAP_RX_HI
  | DON_LANE_MAP_TX_LO
  | DON_LANE_MAP_TX_HI
  | DON_POL
  | DON_LINK_CFG
  | DON_LINK_STS
  | DON_LINK_CNT
  | DON_LINK_RATE
  | DON_LINK_LAT
  | DON_PATH
  | DON_SMAP
  | DON_CLIP
  | FES_OWNER
  | FES_GLB_CTL
  | FES_SAFE_STS
  | FES_CTL
  | FES_STS
  | FES_SPI_CFG
  | FES_PIN_CFG
  | FES_TIMING
  | FES_LIMIT
  | FES_PATH
  | FES_LOCK_CFG
  | FES_ALARM_CFG
  | FES_TBL
  | FES_CACHE_CTL
  | FES_CNT
  | FES_CNT2
  | FES_RDATA
  | FES_SLOT
  | FES_REM_STS
  | SLC_OWNER
  | SLC_CTL
  | SLC_STS
  | SLC_TAKEOVER
  | SLC_RES_LOG
  | SLC_RES_CNT
  | SLC_CNT
  | SLC_SP_STS
  | SLC_DSLICE
  | SLC_ALIGN_TGT
  | SLC_ALIGN_CUR
  | SLC_DCLIP
  | SLC_UL
  | SLC_PROT
  | SLC_CLIP
  | PRT_OWNER
  | PRT_CTL
  | PRT_STS
  | PRT_FT_CFG
  | PRT_FT_LVL
  | PRT_REL_CFG
  | PRT_ST_CFG
  | PRT_ST_STEP
  | PRT_DLOSS_CFG
  | PRT_NR_CFG
  | PRT_OL_CFG
  | PRT_STALE_CFG
  | PRT_FAULT_STS
  | PRT_FAULT_MASK
  | PRT_REENABLE
  | PRT_CNT_A
  | PRT_CNT_B
  | PRT_CNT_C
  | PRT_LAST
  | PRT_DLOSS_STS
  | PRT_NR_STS
  | PRT_CAUSE
  | PRT_RIPPLE
  | PRT_DOM
  | PRT_SQUELCH
  | CE_OWNER
  | CE_CTL
  | CE_STS
  | CE_TIMING
  | CE_TICK
  | CE_LOAD
  | CE_SLICE_TICK
  | CE_MISS_TILE_DL
  | CE_MISS_TILE_UL
  | CE_MISS_CNT
  | CE_STALE_CNT
  | CE_LP_CNT
  | CE_LP_STS
  | CE_LAW_CFG
  | CE_PROFILE
  | CE_BAND0
  | CE_BAND1
  | CE_BAND2
  | CE_BAND3
  | CE_REGION
  | CE_BLD0
  | CE_BLD1
  | CE_BLD2
  | CE_BLD3
  | CE_PS0
  | CE_PS1
  | CE_PS_STS
  | CE_BTILE0
  | CE_BTILE1
  | CE_COEF0
  | CE_COEF1
  | CE_COEF2
  | CE_COEF3
  | CE_COEF4
  | CE_COEF5
  | CE_COEF6
  | CE_COEF7
  | CE_COEF8
  | CE_COEF9
  | CE_COEF10
  | CE_COEF11
  | CE_COEFA0
  | CE_COEFA1
  | CE_COEFA2
  | CE_COEFA3
  | CE_COEFA4
  | CE_COEFA5
  | CE_COEFA6
  | CE_COEFA7
  | CE_COEFA8
  | CE_COEFA9
  | CE_COEFA10
  | CE_COEFA11
  | TIL_PEND
  | TIL_ACT
  | MEA_IN
  | MEA_OUT
  | MEA_DON
  | MEA_HDR0
  | MEA_HDR1
  | MEA_HDR2
  | MEA_HDR3
  | ISO_MAP_DL
  | ISO_MAP_UL
  | ISO_OWNER
  | ISO_CTL
  | ISO_SURVEY_STS
  | ISO_CNT
  | ISO_EST_CFG
  | ISO_HOLD_CFG
  | ISO_CANC_CFG
  | ISO_SURVEY_CFG
  | ISO_RESURVEY_CFG
  | ISO_WEAVE
  | ISO_PS
  | ISO_BRANCH
  | CE_OPSET
  | MEA_OWNER
  | MEA_CTL
  | MEA_STS
  | MEA_CNT
  | MEA_WATCH_CFG
  | MEA_PRESET
  | MEA_WATCH0
  | MEA_WATCH1
  | MEA_WATCH_STS
  | MEA_CAP0
  | MEA_CAP1
  | MEA_CAP2
  | MEA_CAP3
  | TIL_OWNER
  | TIL_CTL
  | TIL_RANGE_CNT
  | TIL_COMMIT_CNT
  | TIL_REJECT_CNT
  | TIL_STREAM
  | LCX0
  | LCX1
  | LCX2
  | LCX3
  | LCX4
  | LCX5
  | LCX6
  | LCX7
  | LCX8
  | LCX9
  | LCX10
  | LCX11
  deriving DecidableEq, Repr

/-- The registers of the 1 MiB region 0x0. -/
def regsOf0 : List (Reg × RegD) :=
  [(.GLB_ID, RD.GLB_ID),
   (.GLB_REV, RD.GLB_REV),
   (.GLB_CAPS, RD.GLB_CAPS),
   (.GLB_SCRATCH, RD.GLB_SCRATCH)]

/-- The registers of the 1 MiB region 0x100000. -/
def regsOf1 : List (Reg × RegD) :=
  [(.CLK_OWNER, RD.CLK_OWNER),
   (.CLK_CTL, RD.CLK_CTL),
   (.CLK_STS, RD.CLK_STS),
   (.CLK_XTAL_CFG_A, RD.CLK_XTAL_CFG_A),
   (.CLK_XTAL_CFG_B, RD.CLK_XTAL_CFG_B),
   (.CLK_MON_CFG, RD.CLK_MON_CFG),
   (.CLK_MEAS_A, RD.CLK_MEAS_A),
   (.CLK_MEAS_B, RD.CLK_MEAS_B),
   (.CLK_MEAS_S, RD.CLK_MEAS_S),
   (.CLK_CNT, RD.CLK_CNT),
   (.CLK_CNT2, RD.CLK_CNT2),
   (.CLK_RST_CTL, RD.CLK_RST_CTL),
   (.CLK_RST_CAUSE, RD.CLK_RST_CAUSE),
   (.CLK_BOOT_STS, RD.CLK_BOOT_STS)]

/-- The registers of the 1 MiB region 0x200000. -/
def regsOf2 : List (Reg × RegD) :=
  [(.PWR_OWNER, RD.PWR_OWNER),
   (.PWR_CTL, RD.PWR_CTL),
   (.PWR_STS, RD.PWR_STS),
   (.PWR_LADDER, RD.PWR_LADDER),
   (.PWR_LADDER_CNT, RD.PWR_LADDER_CNT),
   (.PWR_RAIL, RD.PWR_RAIL),
   (.PWR_RAIL_I, RD.PWR_RAIL_I),
   (.PWR_DOM, RD.PWR_DOM),
   (.THM_THR, RD.THM_THR),
   (.THM_THROTTLE_CFG, RD.THM_THROTTLE_CFG),
   (.THM_STS, RD.THM_STS),
   (.THM_SUSPECT, RD.THM_SUSPECT),
   (.THM_CNT, RD.THM_CNT),
   (.THM_TS, RD.THM_TS),
   (.THM_AGE_CFG, RD.THM_AGE_CFG),
   (.THM_AGE, RD.THM_AGE),
   (.THM_LIFE, RD.THM_LIFE),
   (.BGV_CTL, RD.BGV_CTL),
   (.BGV_BUDGET, RD.BGV_BUDGET),
   (.BGV_STS, RD.BGV_STS),
   (.BGV_EST, RD.BGV_EST),
   (.BGV_MEAS, RD.BGV_MEAS),
   (.BGV_CNT, RD.BGV_CNT),
   (.BGV_WEIGHT, RD.BGV_WEIGHT),
   (.BGV_STATIC, RD.BGV_STATIC),
   (.BGV_DSLICE, RD.BGV_DSLICE),
   (.BGV_MUTE, RD.BGV_MUTE)]

/-- The registers of the 1 MiB region 0x300000. -/
def regsOf3 : List (Reg × RegD) :=
  [(.HK_OWNER, RD.HK_OWNER),
   (.HK_CTL, RD.HK_CTL),
   (.HK_STS, RD.HK_STS),
   (.HK_ROUND_CNT, RD.HK_ROUND_CNT),
   (.HK_GO, RD.HK_GO),
   (.HK_PIN_CFG, RD.HK_PIN_CFG),
   (.HK_IRQ, RD.HK_IRQ),
   (.HK_IRQ_CFG, RD.HK_IRQ_CFG),
   (.HK_CAL_CTL, RD.HK_CAL_CTL),
   (.HK_CAL_STS, RD.HK_CAL_STS),
   (.HK_CFG, RD.HK_CFG),
   (.HK_TIMER, RD.HK_TIMER),
   (.HK_SEQ_STS, RD.HK_SEQ_STS),
   (.HK_CNT, RD.HK_CNT),
   (.HK_INJ_STAMP_LO, RD.HK_INJ_STAMP_LO),
   (.HK_INJ_STAMP_HI, RD.HK_INJ_STAMP_HI),
   (.HK_REG, RD.HK_REG),
   (.HK_INJ, RD.HK_INJ),
   (.HK_REG_RES, RD.HK_REG_RES),
   (.HK_INJ_RES, RD.HK_INJ_RES),
   (.HK_FILT, RD.HK_FILT),
   (.HK_CAL, RD.HK_CAL),
   (.WM_CFG, RD.WM_CFG),
   (.WM_THR, RD.WM_THR),
   (.WM_TIME, RD.WM_TIME),
   (.WM_STS, RD.WM_STS)]

/-- The registers of the 1 MiB region 0x400000. -/
def regsOf4 : List (Reg × RegD) :=
  [(.ORB_OWNER, RD.ORB_OWNER),
   (.ORB_SYNC_CFG, RD.ORB_SYNC_CFG),
   (.ORB_SLICE_CFG, RD.ORB_SLICE_CFG),
   (.ORB_CTL, RD.ORB_CTL),
   (.ORB_LOCK_CFG, RD.ORB_LOCK_CFG),
   (.ORB_HOLD_CFG, RD.ORB_HOLD_CFG),
   (.ORB_REF_OFS, RD.ORB_REF_OFS),
   (.ORB_CELL, RD.ORB_CELL),
   (.ORB_STS, RD.ORB_STS),
   (.ORB_POS_LO, RD.ORB_POS_LO),
   (.ORB_POS_HI, RD.ORB_POS_HI),
   (.ORB_FREQ, RD.ORB_FREQ),
   (.ORB_ERR, RD.ORB_ERR),
   (.ORB_CNT, RD.ORB_CNT),
   (.ORB_TDD_CTL, RD.ORB_TDD_CTL),
   (.ORB_ECL_CFG, RD.ORB_ECL_CFG),
   (.ORB_TDD_PER, RD.ORB_TDD_PER),
   (.ORB_TDD_SEG, RD.ORB_TDD_SEG),
   (.ORB_QUIET, RD.ORB_QUIET),
   (.TRN_CTL, RD.TRN_CTL),
   (.TRN_TICK_CFG, RD.TRN_TICK_CFG),
   (.TRN_STS, RD.TRN_STS),
   (.TRN_CNT, RD.TRN_CNT),
   (.TRN_ENT0, RD.TRN_ENT0),
   (.TRN_ENT1, RD.TRN_ENT1),
   (.TRN_ENT2, RD.TRN_ENT2),
   (.TRN_ENT3, RD.TRN_ENT3)]

/-- The registers of the 1 MiB region 0x500000. -/
def regsOf5 : List (Reg × RegD) :=
  [(.EVT_OWNER, RD.EVT_OWNER),
   (.EVT_CTL, RD.EVT_CTL),
   (.EVT_STS, RD.EVT_STS),
   (.EVT_HEAD_LO, RD.EVT_HEAD_LO),
   (.EVT_HEAD_HI, RD.EVT_HEAD_HI),
   (.EVT_TAIL_LO, RD.EVT_TAIL_LO),
   (.EVT_TAIL_HI, RD.EVT_TAIL_HI),
   (.EVT_TIME_LO, RD.EVT_TIME_LO),
   (.EVT_TIME_HI, RD.EVT_TIME_HI),
   (.EVT_PCYCLE, RD.EVT_PCYCLE),
   (.EVT_CNT, RD.EVT_CNT),
   (.EVT_CNT2, RD.EVT_CNT2),
   (.EVT_CAL_LO, RD.EVT_CAL_LO),
   (.EVT_CAL_HI, RD.EVT_CAL_HI),
   (.EVT_ARCH_STS_LO, RD.EVT_ARCH_STS_LO),
   (.EVT_ARCH_STS_HI, RD.EVT_ARCH_STS_HI),
   (.EVT_ARCH_RD_LO, RD.EVT_ARCH_RD_LO),
   (.EVT_ARCH_RD_HI, RD.EVT_ARCH_RD_HI),
   (.EVT_ARCH_BUF, RD.EVT_ARCH_BUF),
   (.EVT_CLR_CTL, RD.EVT_CLR_CTL),
   (.EVT_NONCE, RD.EVT_NONCE),
   (.EVT_AUTH, RD.EVT_AUTH),
   (.EVT_CLR_TO_LO, RD.EVT_CLR_TO_LO),
   (.EVT_CLR_TO_HI, RD.EVT_CLR_TO_HI),
   (.EVT_IRQ, RD.EVT_IRQ),
   (.EVT_IRQ_CFG, RD.EVT_IRQ_CFG),
   (.EVT_SNAP, RD.EVT_SNAP),
   (.EVT_CODE, RD.EVT_CODE),
   (.EVT_CODE_STS, RD.EVT_CODE_STS),
   (.EVT_RING, RD.EVT_RING)]

/-- The registers of the 1 MiB region 0x600000. -/
def regsOf6 : List (Reg × RegD) :=
  [(.MLD_OWNER, RD.MLD_OWNER),
   (.MLD_CTL, RD.MLD_CTL),
   (.MLD_STS, RD.MLD_STS),
   (.MLD_ERR, RD.MLD_ERR),
   (.MLD_IMG_VER, RD.MLD_IMG_VER),
   (.MLD_STAGE_ADDR, RD.MLD_STAGE_ADDR),
   (.MLD_STAGE_LEN, RD.MLD_STAGE_LEN),
   (.MLD_REMOULD_STS, RD.MLD_REMOULD_STS),
   (.MLD_SEC, RD.MLD_SEC),
   (.MLD_DISCARD_CNT, RD.MLD_DISCARD_CNT),
   (.MLD_BOOT_CNT, RD.MLD_BOOT_CNT),
   (.MLD_PLACE, RD.MLD_PLACE)]

/-- The registers of the 1 MiB region 0x700000. -/
def regsOf7 : List (Reg × RegD) :=
  [(.HIF_OWNER, RD.HIF_OWNER),
   (.HIF_CTL, RD.HIF_CTL),
   (.HIF_LINK_STS, RD.HIF_LINK_STS),
   (.HIF_ACC_STS, RD.HIF_ACC_STS),
   (.HIF_ACC_ADDR, RD.HIF_ACC_ADDR),
   (.HIF_OWN_MAP, RD.HIF_OWN_MAP),
   (.HIF_BAR2_BASE, RD.HIF_BAR2_BASE),
   (.HIF_MEM_STS, RD.HIF_MEM_STS),
   (.HIF_MEM_CFG, RD.HIF_MEM_CFG),
   (.HIF_MEM_ECC, RD.HIF_MEM_ECC),
   (.HIF_MEM_UE_ADDR, RD.HIF_MEM_UE_ADDR),
   (.HIF_FLASH_CTL, RD.HIF_FLASH_CTL),
   (.HIF_FLASH_ADDR, RD.HIF_FLASH_ADDR),
   (.HIF_FLASH_STS, RD.HIF_FLASH_STS),
   (.HIF_OTP_CTL, RD.HIF_OTP_CTL),
   (.HIF_OTP_DATA, RD.HIF_OTP_DATA),
   (.HIF_FLASH_BUF, RD.HIF_FLASH_BUF),
   (.HIF_DMA_CTL, RD.HIF_DMA_CTL),
   (.HIF_DMA_STS, RD.HIF_DMA_STS),
   (.HIF_DMA_DESC_LO, RD.HIF_DMA_DESC_LO),
   (.HIF_DMA_DESC_HI, RD.HIF_DMA_DESC_HI),
   (.HIF_MSIX_ADDR_LO, RD.HIF_MSIX_ADDR_LO),
   (.HIF_MSIX_ADDR_HI, RD.HIF_MSIX_ADDR_HI),
   (.HIF_MSIX_DATA, RD.HIF_MSIX_DATA),
   (.HIF_MSIX_CTRL, RD.HIF_MSIX_CTRL),
   (.HIF_PBA, RD.HIF_PBA),
   (.HIF_MB_CTL, RD.HIF_MB_CTL),
   (.HIF_MB_REQ, RD.HIF_MB_REQ),
   (.HIF_MB_RSP, RD.HIF_MB_RSP),
   (.SMP_CTL, RD.SMP_CTL),
   (.SMP_ALERT_STS, RD.SMP_ALERT_STS),
   (.SMP_ALERT_MASK, RD.SMP_ALERT_MASK),
   (.SMP_CNT, RD.SMP_CNT)]

/-- The registers of the 1 MiB region 0x800000. -/
def regsOf8 : List (Reg × RegD) :=
  [(.LNK_CTL, RD.LNK_CTL),
   (.LNK_STS, RD.LNK_STS),
   (.LNK_TIMING, RD.LNK_TIMING),
   (.LNK_RTD, RD.LNK_RTD),
   (.LNK_OWD, RD.LNK_OWD),
   (.LNK_ASYM, RD.LNK_ASYM),
   (.LNK_REM_ID, RD.LNK_REM_ID),
   (.LNK_REM_LAT, RD.LNK_REM_LAT),
   (.LNK_REM_CAP, RD.LNK_REM_CAP),
   (.LNK_REM_SER_LO, RD.LNK_REM_SER_LO),
   (.LNK_REM_SER_HI, RD.LNK_REM_SER_HI),
   (.LNK_CNT_CRC, RD.LNK_CNT_CRC),
   (.LNK_CNT, RD.LNK_CNT),
   (.LNK_ETH_CFG, RD.LNK_ETH_CFG),
   (.LNK_ETH_DA_LO, RD.LNK_ETH_DA_LO),
   (.LNK_ETH_DA_HI, RD.LNK_ETH_DA_HI),
   (.LNK_CNT_ETH, RD.LNK_CNT_ETH),
   (.LNK_PROT, RD.LNK_PROT),
   (.LNK_PROT_STS, RD.LNK_PROT_STS),
   (.LNK_MGMT, RD.LNK_MGMT),
   (.LNK_MGMT_STS, RD.LNK_MGMT_STS),
   (.LNK_MSG_CTL, RD.LNK_MSG_CTL),
   (.LNK_MSG_RX, RD.LNK_MSG_RX),
   (.LNK_MSG_TXB, RD.LNK_MSG_TXB),
   (.LNK_MSG_RXB, RD.LNK_MSG_RXB),
   (.LNK_OWNER, RD.LNK_OWNER),
   (.LNK_GLB_CFG, RD.LNK_GLB_CFG),
   (.LNK_MAC_LO, RD.LNK_MAC_LO),
   (.LNK_MAC_HI, RD.LNK_MAC_HI),
   (.LNK_MGB_CFG, RD.LNK_MGB_CFG),
   (.LNK_MGB_XFER, RD.LNK_MGB_XFER),
   (.LNK_MGB_DATA, RD.LNK_MGB_DATA)]

/-- The registers of the 1 MiB region 0x900000. -/
def regsOf9 : List (Reg × RegD) :=
  [(.DON_OWNER, RD.DON_OWNER),
   (.DON_CTL, RD.DON_CTL),
   (.DON_SYSREF_STS, RD.DON_SYSREF_STS),
   (.DON_LANE_MAP_RX_LO, RD.DON_LANE_MAP_RX_LO),
   (.DON_LANE_MAP_RX_HI, RD.DON_LANE_MAP_RX_HI),
   (.DON_LANE_MAP_TX_LO, RD.DON_LANE_MAP_TX_LO),
   (.DON_LANE_MAP_TX_HI, RD.DON_LANE_MAP_TX_HI),
   (.DON_POL, RD.DON_POL),
   (.DON_LINK_CFG, RD.DON_LINK_CFG),
   (.DON_LINK_STS, RD.DON_LINK_STS),
   (.DON_LINK_CNT, RD.DON_LINK_CNT),
   (.DON_LINK_RATE, RD.DON_LINK_RATE),
   (.DON_LINK_LAT, RD.DON_LINK_LAT),
   (.DON_PATH, RD.DON_PATH),
   (.DON_SMAP, RD.DON_SMAP),
   (.DON_CLIP, RD.DON_CLIP)]

/-- The registers of the 1 MiB region 0xA00000. -/
def regsOfA : List (Reg × RegD) :=
  [(.FES_OWNER, RD.FES_OWNER),
   (.FES_GLB_CTL, RD.FES_GLB_CTL),
   (.FES_SAFE_STS, RD.FES_SAFE_STS),
   (.FES_CTL, RD.FES_CTL),
   (.FES_STS, RD.FES_STS),
   (.FES_SPI_CFG, RD.FES_SPI_CFG),
   (.FES_PIN_CFG, RD.FES_PIN_CFG),
   (.FES_TIMING, RD.FES_TIMING),
   (.FES_LIMIT, RD.FES_LIMIT),
   (.FES_PATH, RD.FES_PATH),
   (.FES_LOCK_CFG, RD.FES_LOCK_CFG),
   (.FES_ALARM_CFG, RD.FES_ALARM_CFG),
   (.FES_TBL, RD.FES_TBL),
   (.FES_CACHE_CTL, RD.FES_CACHE_CTL),
   (.FES_CNT, RD.FES_CNT),
   (.FES_CNT2, RD.FES_CNT2),
   (.FES_RDATA, RD.FES_RDATA),
   (.FES_SLOT, RD.FES_SLOT),
   (.FES_REM_STS, RD.FES_REM_STS)]

/-- The registers of the 1 MiB region 0xB00000. -/
def regsOfB : List (Reg × RegD) :=
  [(.SLC_OWNER, RD.SLC_OWNER),
   (.SLC_CTL, RD.SLC_CTL),
   (.SLC_STS, RD.SLC_STS),
   (.SLC_TAKEOVER, RD.SLC_TAKEOVER),
   (.SLC_RES_LOG, RD.SLC_RES_LOG),
   (.SLC_RES_CNT, RD.SLC_RES_CNT),
   (.SLC_CNT, RD.SLC_CNT),
   (.SLC_SP_STS, RD.SLC_SP_STS),
   (.SLC_DSLICE, RD.SLC_DSLICE),
   (.SLC_ALIGN_TGT, RD.SLC_ALIGN_TGT),
   (.SLC_ALIGN_CUR, RD.SLC_ALIGN_CUR),
   (.SLC_DCLIP, RD.SLC_DCLIP),
   (.SLC_UL, RD.SLC_UL),
   (.SLC_PROT, RD.SLC_PROT),
   (.SLC_CLIP, RD.SLC_CLIP)]

/-- The registers of the 1 MiB region 0xC00000. -/
def regsOfC : List (Reg × RegD) :=
  [(.PRT_OWNER, RD.PRT_OWNER),
   (.PRT_CTL, RD.PRT_CTL),
   (.PRT_STS, RD.PRT_STS),
   (.PRT_FT_CFG, RD.PRT_FT_CFG),
   (.PRT_FT_LVL, RD.PRT_FT_LVL),
   (.PRT_REL_CFG, RD.PRT_REL_CFG),
   (.PRT_ST_CFG, RD.PRT_ST_CFG),
   (.PRT_ST_STEP, RD.PRT_ST_STEP),
   (.PRT_DLOSS_CFG, RD.PRT_DLOSS_CFG),
   (.PRT_NR_CFG, RD.PRT_NR_CFG),
   (.PRT_OL_CFG, RD.PRT_OL_CFG),
   (.PRT_STALE_CFG, RD.PRT_STALE_CFG),
   (.PRT_FAULT_STS, RD.PRT_FAULT_STS),
   (.PRT_FAULT_MASK, RD.PRT_FAULT_MASK),
   (.PRT_REENABLE, RD.PRT_REENABLE),
   (.PRT_CNT_A, RD.PRT_CNT_A),
   (.PRT_CNT_B, RD.PRT_CNT_B),
   (.PRT_CNT_C, RD.PRT_CNT_C),
   (.PRT_LAST, RD.PRT_LAST),
   (.PRT_DLOSS_STS, RD.PRT_DLOSS_STS),
   (.PRT_NR_STS, RD.PRT_NR_STS),
   (.PRT_CAUSE, RD.PRT_CAUSE),
   (.PRT_RIPPLE, RD.PRT_RIPPLE),
   (.PRT_DOM, RD.PRT_DOM),
   (.PRT_SQUELCH, RD.PRT_SQUELCH)]

/-- The registers of the 1 MiB region 0xD00000. -/
def regsOfD : List (Reg × RegD) :=
  [(.CE_OWNER, RD.CE_OWNER),
   (.CE_CTL, RD.CE_CTL),
   (.CE_STS, RD.CE_STS),
   (.CE_TIMING, RD.CE_TIMING),
   (.CE_TICK, RD.CE_TICK),
   (.CE_LOAD, RD.CE_LOAD),
   (.CE_SLICE_TICK, RD.CE_SLICE_TICK),
   (.CE_MISS_TILE_DL, RD.CE_MISS_TILE_DL),
   (.CE_MISS_TILE_UL, RD.CE_MISS_TILE_UL),
   (.CE_MISS_CNT, RD.CE_MISS_CNT),
   (.CE_STALE_CNT, RD.CE_STALE_CNT),
   (.CE_LP_CNT, RD.CE_LP_CNT),
   (.CE_LP_STS, RD.CE_LP_STS),
   (.CE_LAW_CFG, RD.CE_LAW_CFG),
   (.CE_PROFILE, RD.CE_PROFILE),
   (.CE_BAND0, RD.CE_BAND0),
   (.CE_BAND1, RD.CE_BAND1),
   (.CE_BAND2, RD.CE_BAND2),
   (.CE_BAND3, RD.CE_BAND3),
   (.CE_REGION, RD.CE_REGION),
   (.CE_BLD0, RD.CE_BLD0),
   (.CE_BLD1, RD.CE_BLD1),
   (.CE_BLD2, RD.CE_BLD2),
   (.CE_BLD3, RD.CE_BLD3),
   (.CE_PS0, RD.CE_PS0),
   (.CE_PS1, RD.CE_PS1),
   (.CE_PS_STS, RD.CE_PS_STS),
   (.CE_BTILE0, RD.CE_BTILE0),
   (.CE_BTILE1, RD.CE_BTILE1),
   (.CE_COEF0, RD.CE_COEF0),
   (.CE_COEF1, RD.CE_COEF1),
   (.CE_COEF2, RD.CE_COEF2),
   (.CE_COEF3, RD.CE_COEF3),
   (.CE_COEF4, RD.CE_COEF4),
   (.CE_COEF5, RD.CE_COEF5),
   (.CE_COEF6, RD.CE_COEF6),
   (.CE_COEF7, RD.CE_COEF7),
   (.CE_COEF8, RD.CE_COEF8),
   (.CE_COEF9, RD.CE_COEF9),
   (.CE_COEF10, RD.CE_COEF10),
   (.CE_COEF11, RD.CE_COEF11),
   (.CE_COEFA0, RD.CE_COEFA0),
   (.CE_COEFA1, RD.CE_COEFA1),
   (.CE_COEFA2, RD.CE_COEFA2),
   (.CE_COEFA3, RD.CE_COEFA3),
   (.CE_COEFA4, RD.CE_COEFA4),
   (.CE_COEFA5, RD.CE_COEFA5),
   (.CE_COEFA6, RD.CE_COEFA6),
   (.CE_COEFA7, RD.CE_COEFA7),
   (.CE_COEFA8, RD.CE_COEFA8),
   (.CE_COEFA9, RD.CE_COEFA9),
   (.CE_COEFA10, RD.CE_COEFA10),
   (.CE_COEFA11, RD.CE_COEFA11)]

/-- The registers of the 1 MiB region 0x1000000. -/
def regsOf10 : List (Reg × RegD) :=
  [(.TIL_PEND, RD.TIL_PEND)]

/-- The registers of the 1 MiB region 0x1100000. -/
def regsOf11 : List (Reg × RegD) :=
  [(.TIL_ACT, RD.TIL_ACT)]

/-- The registers of the 1 MiB region 0x1200000. -/
def regsOf12 : List (Reg × RegD) :=
  [(.MEA_IN, RD.MEA_IN)]

/-- The registers of the 1 MiB region 0x1400000. -/
def regsOf14 : List (Reg × RegD) :=
  [(.MEA_OUT, RD.MEA_OUT)]

/-- The registers of the 1 MiB region 0x1600000. -/
def regsOf16 : List (Reg × RegD) :=
  [(.MEA_DON, RD.MEA_DON),
   (.MEA_HDR0, RD.MEA_HDR0),
   (.MEA_HDR1, RD.MEA_HDR1),
   (.MEA_HDR2, RD.MEA_HDR2),
   (.MEA_HDR3, RD.MEA_HDR3)]

/-- The registers of the 1 MiB region 0x1800000. -/
def regsOf18 : List (Reg × RegD) :=
  [(.ISO_MAP_DL, RD.ISO_MAP_DL)]

/-- The registers of the 1 MiB region 0x1A00000. -/
def regsOf1A : List (Reg × RegD) :=
  [(.ISO_MAP_UL, RD.ISO_MAP_UL)]

/-- The registers of the 1 MiB region 0x1C00000. -/
def regsOf1C : List (Reg × RegD) :=
  [(.ISO_OWNER, RD.ISO_OWNER),
   (.ISO_CTL, RD.ISO_CTL),
   (.ISO_SURVEY_STS, RD.ISO_SURVEY_STS),
   (.ISO_CNT, RD.ISO_CNT),
   (.ISO_EST_CFG, RD.ISO_EST_CFG),
   (.ISO_HOLD_CFG, RD.ISO_HOLD_CFG),
   (.ISO_CANC_CFG, RD.ISO_CANC_CFG),
   (.ISO_SURVEY_CFG, RD.ISO_SURVEY_CFG),
   (.ISO_RESURVEY_CFG, RD.ISO_RESURVEY_CFG),
   (.ISO_WEAVE, RD.ISO_WEAVE),
   (.ISO_PS, RD.ISO_PS),
   (.ISO_BRANCH, RD.ISO_BRANCH)]

/-- The registers of the 1 MiB region 0x1D00000. -/
def regsOf1D : List (Reg × RegD) :=
  [(.CE_OPSET, RD.CE_OPSET)]

/-- The registers of the 1 MiB region 0x1E00000. -/
def regsOf1E : List (Reg × RegD) :=
  [(.MEA_OWNER, RD.MEA_OWNER),
   (.MEA_CTL, RD.MEA_CTL),
   (.MEA_STS, RD.MEA_STS),
   (.MEA_CNT, RD.MEA_CNT),
   (.MEA_WATCH_CFG, RD.MEA_WATCH_CFG),
   (.MEA_PRESET, RD.MEA_PRESET),
   (.MEA_WATCH0, RD.MEA_WATCH0),
   (.MEA_WATCH1, RD.MEA_WATCH1),
   (.MEA_WATCH_STS, RD.MEA_WATCH_STS),
   (.MEA_CAP0, RD.MEA_CAP0),
   (.MEA_CAP1, RD.MEA_CAP1),
   (.MEA_CAP2, RD.MEA_CAP2),
   (.MEA_CAP3, RD.MEA_CAP3)]

/-- The registers of the 1 MiB region 0x1F00000. -/
def regsOf1F : List (Reg × RegD) :=
  [(.TIL_OWNER, RD.TIL_OWNER),
   (.TIL_CTL, RD.TIL_CTL),
   (.TIL_RANGE_CNT, RD.TIL_RANGE_CNT),
   (.TIL_COMMIT_CNT, RD.TIL_COMMIT_CNT),
   (.TIL_REJECT_CNT, RD.TIL_REJECT_CNT),
   (.TIL_STREAM, RD.TIL_STREAM)]

/-- The registers of the 1 MiB region 0x2000000. -/
def regsOf20 : List (Reg × RegD) :=
  [(.LCX0, RD.LCX0),
   (.LCX1, RD.LCX1),
   (.LCX2, RD.LCX2),
   (.LCX3, RD.LCX3),
   (.LCX4, RD.LCX4),
   (.LCX5, RD.LCX5),
   (.LCX6, RD.LCX6),
   (.LCX7, RD.LCX7),
   (.LCX8, RD.LCX8),
   (.LCX9, RD.LCX9),
   (.LCX10, RD.LCX10),
   (.LCX11, RD.LCX11)]

/-- The registers whose first word lies in the 1 MiB region `n`; a window that runs on into later regions is listed in each. -/
def regsOfRegion (n : Nat) : List (Reg × RegD) :=
  match n with
  | 0x0 => regsOf0
  | 0x1 => regsOf1
  | 0x2 => regsOf2
  | 0x3 => regsOf3
  | 0x4 => regsOf4
  | 0x5 => regsOf5
  | 0x6 => regsOf6
  | 0x7 => regsOf7
  | 0x8 => regsOf8
  | 0x9 => regsOf9
  | 0xA => regsOfA
  | 0xB => regsOfB
  | 0xC => regsOfC
  | 0xD => regsOfD
  | 0x10 => regsOf10
  | 0x11 => regsOf11
  | 0x12 => regsOf12
  | 0x13 => regsOf12
  | 0x14 => regsOf14
  | 0x15 => regsOf14
  | 0x16 => regsOf16
  | 0x18 => regsOf18
  | 0x19 => regsOf18
  | 0x1A => regsOf1A
  | 0x1B => regsOf1A
  | 0x1C => regsOf1C
  | 0x1D => regsOf1D
  | 0x1E => regsOf1E
  | 0x1F => regsOf1F
  | 0x20 => regsOf20
  | 0x21 => regsOf20
  | 0x22 => regsOf20
  | 0x23 => regsOf20
  | 0x24 => regsOf20
  | 0x25 => regsOf20
  | 0x26 => regsOf20
  | 0x27 => regsOf20
  | 0x28 => regsOf20
  | 0x29 => regsOf20
  | 0x2A => regsOf20
  | 0x2B => regsOf20
  | 0x2C => regsOf20
  | 0x2D => regsOf20
  | 0x2E => regsOf20
  | 0x2F => regsOf20
  | 0x30 => regsOf20
  | 0x31 => regsOf20
  | 0x32 => regsOf20
  | 0x33 => regsOf20
  | 0x34 => regsOf20
  | 0x35 => regsOf20
  | 0x36 => regsOf20
  | 0x37 => regsOf20
  | 0x38 => regsOf20
  | 0x39 => regsOf20
  | 0x3A => regsOf20
  | 0x3B => regsOf20
  | 0x3C => regsOf20
  | 0x3D => regsOf20
  | 0x3E => regsOf20
  | 0x3F => regsOf20
  | _ => []


end Sys2Proof.Machine
end

