-- ==== Sys2Proof/Machine/Regs.lean ====
section
/-! DEFINITION. Reading and writing register fields by name, and finding a register by its BAR0 offset. -/

namespace Sys2Proof.Machine

/-- The value of a register field (R15): the last value written, or its reset value; never wider than the field. -/
def Dev.rd (d : Dev) (f : Fld) (i : Nat := 0) (j : Nat := 0) (k : Nat := 0) : Nat :=
  tabGet (f.rst i j k) d.regs (f.key i j k) % 2 ^ f.w

/-- A register field read as a signed number. -/
def Dev.rdS (d : Dev) (f : Fld) (i : Nat := 0) (j : Nat := 0) (k : Nat := 0) : Int :=
  toSigned f.w (d.rd f i j k)

/-- A one-bit field read as a truth value. -/
def Dev.flag (d : Dev) (f : Fld) (i : Nat := 0) (j : Nat := 0) (k : Nat := 0) : Bool :=
  d.rd f i j k != 0

/-- Puts a value into a register field, cut to the field's width. -/
def Dev.wr (d : Dev) (f : Fld) (v : Nat) (i : Nat := 0) (j : Nat := 0) (k : Nat := 0) : Dev :=
  { d with regs := tabSet (f.rst i j k) d.regs (f.key i j k) (v % 2 ^ f.w) }

/-- Puts a signed value into a register field. -/
def Dev.wrS (d : Dev) (f : Fld) (v : Int) (i : Nat := 0) (j : Nat := 0) (k : Nat := 0) : Dev :=
  d.wr f (ofSigned f.w v) i j k

/-- Counts one in a field whose count saturates. -/
def Dev.bump (d : Dev) (f : Fld) (i : Nat := 0) (j : Nat := 0) (k : Nat := 0) : Dev :=
  d.wr f (satNat f.w (d.rd f i j k + 1)) i j k

/-- Counts `n` in a field whose count saturates. -/
def Dev.bumpBy (d : Dev) (n : Nat) (f : Fld) (i : Nat := 0) (j : Nat := 0) (k : Nat := 0) : Dev :=
  d.wr f (satNat f.w (d.rd f i j k + n)) i j k

/-- Counts one in a field whose count wraps. -/
def Dev.bumpWrap (d : Dev) (f : Fld) (i : Nat := 0) (j : Nat := 0) (k : Nat := 0) : Dev :=
  d.wr f (d.rd f i j k + 1) i j k

/-- Sets each field of a list to zero, at one index. -/
def Dev.zero (d : Dev) (l : List Fld) (i : Nat := 0) (j : Nat := 0) (k : Nat := 0) : Dev :=
  l.foldl (fun d f => d.wr f 0 i j k) d

/-- Returns a field to its reset value. -/
def Dev.unset (d : Dev) (f : Fld) (i : Nat := 0) (j : Nat := 0) (k : Nat := 0) : Dev :=
  d.wr f (f.rst i j k) i j k

/-- Applies a change for every number of a list, in order. -/
def Dev.each (d : Dev) (l : List Nat) (g : Dev → Nat → Dev) : Dev := l.foldl g d

/-- The indices of an offset within an array of registers, or none where it is no register of the array. -/
def splitIndex : List (Nat × Nat) → Nat → Option (List Nat)
  | [], r => if r = 0 then some [] else none
  | (c, s) :: t, r =>
    if r / s < c then
      match splitIndex t (r % s) with
      | some l => some (r / s :: l)
      | none => none
    else none

/-- A register found at an offset: its name, its description and its indices. -/
structure Hit where
  reg : Reg
  desc : RegD
  i : Nat
  j : Nat
  k : Nat

/-- Looks an offset up in a list of registers. -/
def findReg (a : Nat) : List (Reg × RegD) → Option Hit
  | [] => none
  | (n, r) :: t =>
    if a < r.base then findReg a t
    else
      match splitIndex r.dims (a - r.base) with
      | some l => some ⟨n, r, listAt l 0, listAt l 1, listAt l 2⟩
      | none => findReg a t

/-- The register at a BAR0 offset, if any (R10, R11). -/
def lookup (a : Nat) : Option Hit := findReg a (regsOfRegion (a / 0x100000))

/-- The section of R55 that carries a register's initial contents, by the chapter that owns it; 0x1_0000 where none does. PRESUMED
(log 78) where no rule names the section. -/
def sectionOf (a : Nat) : Nat :=
  let r := a / 0x100000
  if r = 8 then 4 else if r = 9 then 5 else if r = 0xA then 6 else if r = 4 then 7 else if r = 0x1E then 8
  else if r = 0xD then 9 else if r = 0x1D then 0xA else if r = 0xC ∨ r = 0x1C then 0xB
  else if r = 3 ∨ (r = 2 ∧ a / 0x1000 = 0x201) then 0xD else if r = 2 ∧ a / 0x1000 = 0x202 then 0xE
  else if r = 5 then 0xF else if r = 7 then 0x10 else if r = 0xB ∨ r = 0x1F then 2 else 0x10000

/-- The word a register holds: its fields in their places, reserved bits zero (R15). -/
def Dev.word (d : Dev) (r : RegD) (i : Nat := 0) (j : Nat := 0) (k : Nat := 0) : Nat :=
  r.flds.foldl (fun a f => a + d.rd f i j k * 2 ^ f.lo) 0

/-- The field of a written word. -/
def Fld.of (f : Fld) (w : Nat) : Nat := bits w f.lo f.w

/-- The written word has a 1 in this field (W1S, W1C). -/
def Fld.hit (f : Fld) (w : Nat) : Bool := f.of w != 0

/-- What a write of word `w` does to one field by its type alone (R15 to R17); `own` says that the writer may change
owner-lockable fields. -/
def Dev.putField (d : Dev) (f : Fld) (w : Nat) (own : Bool) (i j k : Nat) : Dev :=
  match f.ty with
  | .rw => d.wr f (f.of w) i j k
  | .rwl => if own then d.wr f (f.of w) i j k else d
  | .w1c => d.wr f (d.rd f i j k - (d.rd f i j k &&& f.of w)) i j k
  | .ro | .wo | .w1s => d

/-- What a write of word `w` does to a register by its field types alone. -/
def Dev.putWord (d : Dev) (r : RegD) (w : Nat) (own : Bool) (i : Nat := 0) (j : Nat := 0) (k : Nat := 0) : Dev :=
  r.flds.foldl (fun d f => d.putField f w own i j k) d

/-- The write would change a field that needs ownership, or start an action that needs it (R902). -/
def Dev.needsOwner (d : Dev) (r : RegD) (w : Nat) (i : Nat := 0) (j : Nat := 0) (k : Nat := 0) : Bool :=
  r.flds.any (fun f =>
    match f.ty with
    | .rwl => f.of w != d.rd f i j k
    | .w1s => f.hit w
    | .rw | .ro | .wo | .w1c => false)

/-- The compute die is on (R727), as the always-on die keeps it (R722). -/
def Dev.coreOn (d : Dev) : Bool := d.flag F.CLK_BOOT_STS_CORE_ON

/-- The bring-up state of R66, as the always-on die keeps it (R722). -/
def Dev.boot (d : Dev) : Nat := d.rd F.CLK_BOOT_STS_BOOT_STATE

/-- A power domain's supply is good and its isolation released (R727, R728). -/
def Dev.domOn (d : Dev) (n : Nat) : Bool := d.pwr.good.contains n

/-- The memory domain is *ON* (R726). -/
def Dev.memOn (d : Dev) : Bool := d.domOn 5

/-- Operating time in ms (R778). -/
def Dev.timeMs (d : Dev) : Nat := d.er.tBase + (d.now - d.er.tRef) / 122880

/-- Draws a value that the spec leaves open. -/
def Dev.draw (d : Dev) : Nat × Dev := (Config.free d.draws, { d with draws := d.draws + 1 })

end Sys2Proof.Machine
end

