-- ==== Sys2Proof/Machine/Topology.lean ====
section
/-! DEFINITION. Streams, ports and donor slices as the placements and the plan in force name them (R31 to R40). -/

namespace Sys2Proof.Machine

/-- The index of a port stream (R37): port, direction (0 downlink, 1 uplink), port slice. -/
def streamOf (port dir ps : Nat) : Nat := 16 * port + 8 * dir + ps

/-- The other direction's stream of the same port slice. -/
def mateOf (m : Nat) : Nat := if m / 8 % 2 = 0 then m + 8 else m - 8

/-- The direction of a stream: 0 downlink, 1 uplink (R37). -/
def dirOf (m : Nat) : Nat := if m < 2048 then m / 8 % 2 else m % 2

/-- The port of a port stream. -/
def portOf (m : Nat) : Nat := m / 16

/-- The stream exists (R34). -/
def Dev.has (d : Dev) (m : Nat) : Bool := d.flag F.MLD_PLACE_VALID m

/-- The donor slice of a stream. -/
def Dev.donorOf (d : Dev) (m : Nat) : Nat := d.rd F.MLD_PLACE_DONOR_SLICE m

/-- The slice processor that holds a stream. -/
def Dev.spOf (d : Dev) (m : Nat) : Nat := d.rd F.MLD_PLACE_SP m

/-- A donor slice of the plan in force. -/
def Dev.donor (d : Dev) (n : Nat) : DonorSlice := tabGet {} d.mld.plan.donors n

/-- The plan in force declares the donor slice. -/
def Dev.declared (d : Dev) (n : Nat) : Bool := (tabFind d.mld.plan.donors n).isSome

/-- The existing port streams, rising. -/
def Dev.portStreams (d : Dev) : List Nat := (upTo 2048).filter d.has

/-- The existing streams, donor streams among them, rising. -/
def Dev.allStreams (d : Dev) : List Nat := (upTo 2080).filter d.has

/-- The donor slices that an orbit times. -/
def Dev.slicesOn (d : Dev) (i : Nat) : List Nat := (upTo 16).filter (fun n => d.declared n && (d.donor n).orbit == i)

/-- The TDD donor slices that an orbit times. -/
def Dev.tddOn (d : Dev) (i : Nat) : List Nat := (d.slicesOn i).filter (fun n => (d.donor n).tdd)

/-- The port streams of a donor slice. -/
def Dev.streamsOf (d : Dev) (n : Nat) : List Nat := d.portStreams.filter (fun m => d.donorOf m == n)

/-- The port slice of a stream as the plan declares it. -/
def Dev.portSlice (d : Dev) (m : Nat) : PortSlice :=
  match d.mld.plan.ports.find? (fun p => p.port == portOf m) with
  | none => {}
  | some p =>
    match p.slices.find? (fun q => q.num == m % 8) with
    | none => {}
    | some q => q

/-- Orbit instance `i`. -/
def Dev.orb (d : Dev) (i : Nat) : Orbit := tabGet {} d.orbs i

/-- The position of an orbit in samples, over its 65,536 frames (R27). -/
def Dev.orbPos (d : Dev) (i : Nat) : Nat := (d.orb i).pos

/-- The orbit that times a stream. -/
def Dev.orbitOf (d : Dev) (m : Nat) : Nat :=
  (d.donor (if m < 2048 then d.donorOf m else (m - 2048) / 2)).orbit

/-- The donor slice of a port stream or of a donor stream. -/
def Dev.dsliceOf (d : Dev) (m : Nat) : Nat := if m < 2048 then d.donorOf m else (m - 2048) / 2

/-- The port is in *ACTIVE* (R216). -/
def Dev.portActive (d : Dev) (p : Nat) : Bool := d.rd F.LNK_STS_PORT_STATE p == 5

/-- The budget governor mutes the port stream (R745, R774). -/
def Dev.budgetMuted (d : Dev) (m : Nat) : Bool := bitAt (d.rd F.BGV_MUTE_MUTE (m / 32)) (m % 32)

/-- The receive link of a donor slice is in *DATA* (R275, R315); true of a slice without a downlink. -/
def Dev.donorLinkUp (d : Dev) (n : Nat) : Bool :=
  !(d.flag F.DON_SMAP_RX_VALID n) || d.rd F.DON_LINK_STS_STATE (d.rd F.DON_SMAP_RX_LINK n) == 4

/-- The name of a stream's port slice: its downlink stream. -/
def sliceKey (m : Nat) : Nat := if m / 8 % 2 = 0 then m else m - 8

/-- The port stream that carries donor slice `n` to or from port `p`. -/
def Dev.streamAt (d : Dev) (dir p n : Nat) : Option Nat :=
  ((upTo 8).map (fun q => streamOf p dir q)).find? (fun m => d.has m && d.donorOf m == n)

/-- Stream units of a rate code (R38). -/
def unitsOf (rate : Nat) : Nat := 8 / 2 ^ rate

/-- The streams that a processor holds. -/
def Dev.streamsAt (d : Dev) (sp : Nat) : List Nat := d.allStreams.filter (fun m => d.spOf m == sp)

/-- Port-stream units that a processor holds (R38). -/
def Dev.unitsAt (d : Dev) (sp : Nat) : Nat :=
  ((d.streamsAt sp).filter (fun m => decide (m < 2048))).foldl (fun a m => a + unitsOf (d.rd F.MLD_PLACE_RATE m)) 0

/-- A processor has been declared failed since the last AO reset (R370). -/
def Dev.spFailed (d : Dev) (sp : Nat) : Bool := (tabFind d.slc.failed sp).isSome

/-- A migration's other placement lies on the processor: its target until the switch, its old one until the release
(R45, R47). -/
def Dev.migHolds (d : Dev) (sp : Nat) : Bool :=
  d.mld.migs.any (fun q => if q.2.phase = 5 then q.2.oldSp == sp else d.rd F.MLD_PLACE_SHADOW_SP q.1 == sp)

/-- The processors that may take a failed one's streams: healthy and holding no stream (R368). -/
def Dev.spTargets (d : Dev) : List Nat :=
  (upTo 36).filter (fun n => !(d.spFailed n) && (d.streamsAt n).isEmpty && !(d.migHolds n))

/-- The ring load of R39 in eighths. -/
def Dev.ringLoad (d : Dev) : Nat :=
  let ds := (upTo 16).filter (fun n => d.declared n)
  (ds.filter (fun n => (d.donor n).dlEn)).foldl (fun a n => a + unitsOf (d.donor n).rate) 0 +
  ds.foldl (fun a n =>
    let home := d.spOf (2048 + 2 * n + 1)
    let sps := (((d.streamsOf n).filter (fun m => dirOf m == 1)).map d.spOf).eraseDups
    a + (sps.filter (fun p => !(d.has (2048 + 2 * n + 1)) || p != home)).length * unitsOf (d.donor n).rate) 0

/-- Counts the registers of an array, by their stored field, whose value meets a test: `n` registers of `step` octets
from the first, the field's least bit `f.lo`. Only fields off their reset value are looked at. -/
def Dev.countField (d : Dev) (f : Fld) (n : Nat) (p : Nat → Bool) : Nat :=
  (d.regs.filter (fun q => decide (f.key 0 0 0 ≤ q.1) && decide (q.1 < f.key 0 0 0 + n * f.s1 * 8) &&
    q.1 % (8 * f.s1) == f.key 0 0 0 % (8 * f.s1) && p q.2)).length

/-- Length of the first symbol of each 0.5 ms, and of the others, prefix included (R120). -/
def symFirst (scs : Nat) : Nat := if scs = 0 then 8832 else if scs = 1 then 4448 else 2256
def symNext (scs : Nat) : Nat := if scs = 0 then 8768 else if scs = 1 then 4384 else 2192

/-- Symbols in 0.5 ms (R120). -/
def symCount (scs : Nat) : Nat := if scs = 0 then 7 else if scs = 1 then 14 else 28

/-- A position is a symbol boundary (R120). -/
def isSymbol (scs x : Nat) : Bool :=
  let o := x % 61440
  o == 0 || (decide (symFirst scs ≤ o) && (o - symFirst scs) % symNext scs == 0)

/-- The segments of a pattern bank up to the first `END`: type and start (R114). -/
def Dev.segments (d : Dev) (i b : Nat) : List (Nat × Nat) :=
  ((upTo 32).map (fun s => (d.rd F.ORB_TDD_SEG_TYPE i b s, d.rd F.ORB_TDD_SEG_START i b s))).takeWhile
    (fun s => s.1 != 3)

/-- The periods of R115. -/
def patternPeriods : List Nat := [61440, 122880, 153600, 245760, 307200, 614400, 1228800, 2457600]

/-- Starts rise strictly. -/
def startsRise : List (Nat × Nat) → Bool
  | a :: b :: t => decide (a.2 < b.2) && startsRise (b :: t)
  | _ => true

/-- A bank is valid (R115). -/
def Dev.bankValid (d : Dev) (i b : Nat) : Bool :=
  let per := d.rd F.ORB_TDD_PER_PERIOD i b
  let segs := d.segments i b
  patternPeriods.contains per && (segs.head?.map (fun s => s.2)) == some 0 && startsRise segs &&
    segs.all (fun s => decide (s.2 < per) && (upTo (2457600 / per)).all (fun k =>
      (d.tddOn i).all (fun n => isSymbol (d.rd F.ORB_SLICE_CFG_SCS n) (s.2 + k * per))))

/-- The active bank of an orbit (R113). -/
def Dev.activeBank (d : Dev) (i : Nat) : Nat := d.rd F.ORB_TDD_CTL_ACTIVE_BANK i

/-- The active bank is valid (R115, R160). -/
def Dev.patternValid (d : Dev) (i : Nat) : Bool := d.bankValid i (d.activeBank i)

/-- Holdover uncertainty u(t) in whole samples (R109); 0 outside *HOLDOVER*. -/
def Dev.uncertainty (d : Dev) (i : Nat) : Nat :=
  if d.rd F.ORB_STS_STATE i = 3 then
    ((d.orb i).holdU0 * 10 ^ 9 + 16 * d.rd F.ORB_HOLD_CFG_DRIFT_PPB i * (d.now - (d.orb i).holdAt)) / (16 * 10 ^ 9)
  else 0

/-- A pattern swap of an orbit is scheduled (R123, R160). -/
def Dev.swapPending (d : Dev) (i : Nat) : Bool :=
  (d.orb i).adopt.isSome || (d.orb i).due.any (fun q => d.rd F.TRN_ENT0_ACTION i q.1 == 5)

/-- The declaration of a port in the plan in force. -/
def Dev.portDecl (d : Dev) (p : Nat) : Option PortDecl := d.mld.plan.ports.find? (fun q => q.port == p)

/-- Port `k` owns lanes `k` and `k + 64` (R4). -/
def Dev.paired (d : Dev) (k : Nat) : Bool :=
  match d.portDecl k with
  | some q => q.pair && decide (k < 64)
  | none => false

/-- The port that a lane serves. -/
def Dev.portOfLane (d : Dev) (n : Nat) : Nat := if 64 ≤ n && d.paired (n - 64) then n - 64 else n

/-- A lane that the small configuration lacks (R5). -/
def Dev.laneAbsent (d : Dev) (n : Nat) : Bool := d.mld.config == 2 && decide (64 ≤ n)

/-- The controller receives on an enabled lane (R244): of a pair on the selected lane, else always. -/
def Dev.laneSelected (d : Dev) (n : Nat) : Bool :=
  let pair := d.mld.plan.ports.any (fun q => q.pair && (q.port == n || q.port + 64 == n))
  d.flag F.LNK_CTL_EN n && (!pair || d.rd F.LNK_PROT_STS_SELECTED (n % 64) == n / 64)

end Sys2Proof.Machine
end

