-- ==== Sys2Proof/Machine/Views.lean ====
section
/-! DEFINITION. Registers whose value is computed from state that has another home: what a read of them gives. -/

namespace Sys2Proof.Machine

/-- The `OWNER` field of a block, by the block numbers of R864. -/
def ownerFld (b : Nat) : Fld :=
  match b with
  | 0 => F.MLD_OWNER_OWNER
  | 1 => F.ORB_OWNER_OWNER
  | 2 => F.LNK_OWNER_OWNER
  | 3 => F.DON_OWNER_OWNER
  | 4 => F.FES_OWNER_OWNER
  | 5 => F.SLC_OWNER_OWNER
  | 6 => F.TIL_OWNER_OWNER
  | 7 => F.MEA_OWNER_OWNER
  | 8 => F.ISO_OWNER_OWNER
  | 9 => F.CE_OWNER_OWNER
  | 10 => F.PRT_OWNER_OWNER
  | 11 => F.HK_OWNER_OWNER
  | 12 => F.CLK_OWNER_OWNER
  | 13 => F.PWR_OWNER_OWNER
  | 14 => F.EVT_OWNER_OWNER
  | _ => F.HIF_OWNER_OWNER

/-- The `CLAIM_CONFLICT` field of a block. -/
def conflictFld (b : Nat) : Fld := { ownerFld b with lo := 8, w := 1, ty := .w1c }

/-- The owner of a block (R813). -/
def Dev.ownerOf (d : Dev) (b : Nat) : Nat := d.rd (ownerFld b)

/-- `HIF_OWN_MAP` (R864). -/
def Dev.ownMap (d : Dev) : Nat := (sumBelow 16 (fun b => (d.ownerOf b * 4 ^ b : Nat))).toNat

/-- The octets of a record before its CRC (R775). -/
def recBody (r : Rec) : List Nat :=
  toOctets 6 r.seq ++
  toOctets 2 (r.code % 512 + 512 * b2n r.unbound + 1024 * b2n r.unsure + 2048 * b2n r.snapOff) ++
  toOctets 6 r.time ++ toOctets 3 r.pcycle ++ [r.snaps.length % 16] ++ toOctets 2 r.index ++ toOctets 8 r.arg ++
  (takeFill 8 r.snaps).flatMap (toOctets 4)

/-- The 64 octets of a record (R775). -/
def recOctets (r : Rec) : List Nat := recBody r ++ toOctets 4 (crc32c (recBody r))

/-- Word `w` of ring slot `k` (R812). -/
def Dev.ringWord (d : Dev) (k w : Nat) : Nat :=
  match d.er.ring.find? (fun p => p.1 % 2048 == k && decide (d.er.tail ≤ p.1)) with
  | some p => fromOctets (((recOctets p.2).drop (4 * w)).take 4)
  | none => 0

/-- The ring holds a record that readers may take (R799). -/
def Dev.ringValid (d : Dev) : Bool := d.er.ring.any (fun p => decide (d.er.tail ≤ p.1))

/-- The running calendar time in ms (R782, R802). -/
def Dev.calendar (d : Dev) : Nat :=
  if d.flag F.EVT_CAL_HI_VALID then (d.er.calBase + (d.timeMs - d.er.calRef)) % 2 ^ 48 else 0

/-- The `_HI` word that a read of a `_LO` register latches (R155, R799, R800, R803). -/
def Dev.hiOf (d : Dev) (r : Reg) (i : Nat) : Nat :=
  match r with
  | .EVT_HEAD_LO => (d.er.nextSeq - 1) / 2 ^ 32 % 2 ^ 16 * b2n d.ringValid + 2 ^ 31 * b2n d.ringValid
  | .EVT_TAIL_LO => d.er.tail / 2 ^ 32 % 2 ^ 16 * b2n d.ringValid + 2 ^ 31 * b2n d.ringValid
  | .EVT_TIME_LO => d.timeMs / 2 ^ 32 % 2 ^ 16
  | .EVT_ARCH_STS_LO =>
    match d.er.archNewest with
    | some n => n / 2 ^ 32 % 2 ^ 16 + 2 ^ 31
    | none => 0
  | .ORB_POS_LO => d.orbPos i / 1228800 % 65536
  | _ => 0

/-- The orbit that gives the round starts: while the compute die is on and the orbit is not *FREE* (R624). -/
def Dev.roundOrbit (d : Dev) : Option Nat :=
  let o := d.rd F.HK_CTL_ROUND_ORB
  if d.coreOn && decide (o < 2) && d.rd F.ORB_STS_STATE o != 0 then some o else none

/-- Some port stream holds cause `bit` of R564. -/
def Dev.anyCause (d : Dev) (bit : Nat) : Bool := d.countField F.PRT_CAUSE_CAUSES 2048 (fun v => bitAt v bit) != 0

/-- A declared port is not in *ACTIVE*, or a protected port works on one lane (R607). -/
def Dev.linkFault (d : Dev) : Bool :=
  d.mld.plan.ports.any (fun p => !(d.portActive p.port) ||
    (p.pair && (d.rd F.LNK_STS_LANE_STATE p.port != 3 || d.rd F.LNK_STS_LANE_STATE (p.port + 64) != 3)))

/-- `PRT_FAULT_STS`: level causes follow their conditions, latched causes are stored (R592, R607). -/
def Dev.faultSts (d : Dev) : Nat :=
  b2n (d.boot != 8) + 2 * d.rd F.CLK_STS_SAFE + 4 * d.rd F.FES_SAFE_STS_SAFE_N +
  8 * b2n (d.flag F.THM_STS_THROTTLE || d.flag F.THM_STS_SHUTDOWN || d.flag F.THM_STS_TRIP) +
  16 * d.rd F.PRT_FAULT_STS_SP_FAIL + 32 * d.rd F.PRT_FAULT_STS_LP_FAIL + 64 * d.rd F.PRT_FAULT_STS_RESIDUE +
  128 * d.rd F.PRT_FAULT_STS_SDRAM + 2 ^ 8 * b2n (d.anyCause 6) + 2 ^ 9 * b2n (d.anyCause 0) +
  2 ^ 10 * b2n (d.anyCause 1) + 2 ^ 11 * b2n (d.anyCause 2) + 2 ^ 12 * b2n (d.anyCause 3) +
  2 ^ 13 * b2n (d.anyCause 4) + 2 ^ 14 * b2n (d.anyCause 5) + 2 ^ 15 * b2n d.linkFault

/-- Tail steps of a port slice within `REC_WINDOW` seconds (R578, R614). -/
def Dev.recent (d : Dev) (m : Nat) : Nat :=
  ((tabGet [] d.prt.hist (sliceKey m)).filter
    (fun t => decide (d.now - t ≤ 122880000 * max 1 (d.rd F.PRT_REL_CFG_REC_WINDOW)))).length

/-- The clock of the hold, fall, retry and cure timers, in samples: it stands while they are paused (R590). -/
def Dev.prtTime (d : Dev) : Nat := (if d.prt.paused then d.prt.pausedAt else d.now) - d.prt.lost

/-- The weave of a donor slice. -/
def Dev.weave (d : Dev) (n : Nat) : Weave := tabGet {} d.iso.weaves n

/-- A survey runs on the donor slice. -/
def Dev.survey (d : Dev) (n : Nat) : Option Survey := tabFind d.iso.surveys n

/-- The stream is under a running survey. -/
def Dev.underSurvey (d : Dev) (m : Nat) : Bool :=
  d.iso.surveys.any (fun s => decide (0 < s.2.step) && s.2.streams.contains m)

/-- The survey that carries a stream in a round of its direction (R461, R462). -/
def Dev.inRound (d : Dev) (m : Nat) : Option Survey :=
  match d.survey (d.donorOf m) with
  | some sv => if sv.streams.contains m && sv.step == (if dirOf m = 0 then 3 else 5) then some sv else none
  | none => none

/-- The weave is off on a donor slice: disabled, no downlink, or a survey runs (R440). -/
def Dev.weaveOff (d : Dev) (n : Nat) : Bool :=
  !(d.flag F.ISO_WEAVE_EN n) || !(d.donor n).dlEn || (d.survey n).isSome

/-- A cell of stream `m` is held: no block can accumulate (R448). -/
def Dev.cellHeld (d : Dev) (m : Nat) (far : Bool) : Bool :=
  far || (dirOf m == 0 && d.weaveOff (d.donorOf m)) || d.flag F.SLC_PROT_MUTE m || d.budgetMuted m ||
    !(d.portActive (portOf m)) || (d.underSurvey m && (d.inRound m).isNone)

/-- One word of the isolation map (R459): `VALID` and `HELD` follow the placements and the hold conditions. -/
def Dev.mapWord (d : Dev) (h : Hit) (dir : Nat) : Nat :=
  let w := d.word h.desc h.i h.j h.k
  match d.streamAt dir h.i h.j with
  | none => 0x8000
  | some m => w + 2 ^ 31 + 2 ^ 29 * b2n (d.cellHeld m (bitAt w 30))

/-- Trusted cells of a port stream (R479). -/
def Dev.trustedCells (d : Dev) (m : Nat) : Nat :=
  countBelow 256 (fun t =>
    if dirOf m = 0 then d.flag F.ISO_MAP_DL_TRUSTED (portOf m) (d.donorOf m) t
    else d.flag F.ISO_MAP_UL_TRUSTED (portOf m) (d.donorOf m) t)

/-- `ISO_SURVEY_STS` (R471); where surveys of several donor slices run, the state is that of the lowest. -/
def Dev.surveySts (d : Dev) : Nat :=
  let code := match d.iso.surveys with
    | [] => if d.iso.weaves.any (fun w => w.2.resurvey.isSome) then 6 else 0
    | (_, s) :: _ => if s.step ≤ 1 then 1 else if s.step = 2 then 2 else if s.step = 3 then 3 else 4
  code + 256 * (d.iso.surveys.foldl (fun a s => max a s.2.round) 0 % 16) +
    2 ^ 16 * (d.iso.surveys.foldl (fun a s => a + 2 ^ s.1) 0)

/-- The loop engine runs ticks: *SURVEY* or *SERVICE*, `RUN` set, no clock failure since (R551, R553). -/
def Dev.engineOn (d : Dev) : Bool :=
  (d.boot == 7 || d.boot == 8) && d.flag F.CE_CTL_RUN && !d.prt.paused

/-- Word 0 of a loop context: `HOLD` reads `RUN_OFF` while the engine is stopped and no other cause is recorded. -/
def Dev.contextWord (d : Dev) (h : Hit) : Nat :=
  d.word h.desc h.i + (if d.rd F.LCX0_HOLD h.i = 0 ∧ d.flag F.LCX0_EN h.i ∧ !d.engineOn then 7 * 2 ^ 27 else 0)

/-- Streams with a tile in MEAS_STALE (R561). -/
def Dev.staleStreams (d : Dev) : Nat :=
  (((d.regs.filter (fun q => decide (F.LCX0_STALE.key 0 0 0 ≤ q.1) && decide (q.1 < F.LCX0_STALE.key 524288 0 0) &&
    q.1 % 512 == F.LCX0_STALE.key 0 0 0 % 512 && q.2 != 0)).map
    (fun q => (q.1 - F.LCX0_STALE.key 0 0 0) / 512 / 256)).eraseDups).length

/-- What a processor holds, as `SLC_SP_STS_n` shows it (R380). -/
def Dev.spSts (d : Dev) (n : Nat) : Nat :=
  let l := d.streamsAt n
  let st := if d.spFailed n then 3 else if (d.slc.takeover.bind (fun t => t.target)) = some n then 2
    else if l.isEmpty then 0 else 1
  st + 256 * b2n (!(d.domOn (6 + n))) + 512 * b2n (l.any (fun m => decide (2048 ≤ m))) + 1024 * min 1023 (d.unitsAt n)

/-- What an entry of a stream that does not exist reads (R35, R395, R519, R538, R614). -/
def Dev.absent (d : Dev) (h : Hit) : Option Nat :=
  match h.reg with
  | .LCX0 | .LCX1 | .LCX2 | .LCX3 | .LCX4 | .LCX5 | .LCX6 | .LCX7 | .LCX8 | .LCX9 | .LCX10 | .LCX11 =>
    if d.has (h.i / 256) then none else some 0
  | .CE_PS0 | .CE_PS1 | .CE_PS_STS | .PRT_CAUSE => if d.has h.i then none else some 0
  | .CE_OPSET | .TIL_PEND => if d.has (h.i / 128) then none else some 0x80008000
  | .MEA_IN | .MEA_OUT => if d.has (h.i / 256) then none else some 0x8000
  | .MEA_DON => if d.has (2048 + h.i) && !(h.i % 2 == 1 && h.j == 1) then none else some 0x8000
  | .MEA_HDR0 | .MEA_HDR1 | .MEA_HDR2 | .MEA_HDR3 => if d.has h.i then none else some 0
  | _ => none

/-- REF uses a *QUALIFIED* crystal (R686). -/
def Dev.refQualified (d : Dev) : Bool :=
  (d.rd F.CLK_STS_REF_SEL == 0 && d.rd F.CLK_STS_A_STATE == 3) ||
    (d.rd F.CLK_STS_REF_SEL == 1 && d.rd F.CLK_STS_B_STATE == 3)

/-- REF uses a *QUALIFIED* crystal, no switch runs and SYSPLL is locked (R697). -/
def Dev.refOk (d : Dev) : Bool :=
  d.refQualified && d.clk.switchTo.isNone && !d.clk.pllLocking && !d.clk.domainReset

/-- SAMPCLK is `QUALIFIED` while the compute die is on (R697). -/
def Dev.sampOk (d : Dev) : Bool := !d.coreOn || d.rd F.CLK_STS_SAMP_STATE == 2

/-- The host is absent (R820): no PCIe function in D0 with its link up, and no configured recovery function. -/
def Dev.hostAbsent (d : Dev) : Bool :=
  !(d.flag F.HIF_LINK_STS_PCIE_UP && !(d.flag F.HIF_LINK_STS_D3HOT)) && d.hif.usb != 2

/-- A permit of R698 stands: one granted, or a standing permit that applies. -/
def Dev.permitted (d : Dev) : Bool := d.clk.permit || (d.clk.standing && d.flag F.CLK_CTL_STANDING)

/-- `PERMIT_WAIT` (R714): the safe state waits only for a permit. -/
def Dev.permitWait (d : Dev) : Bool := d.flag F.CLK_STS_SAFE && d.refOk && d.sampOk && !d.permitted

/-- `SMP_ALERT_STS` (R870): its live bits follow their conditions, the others are stored. -/
def Dev.alertSts (d : Dev) : Nat :=
  d.rd F.SMP_ALERT_STS_CLAIM * 128 + d.rd F.SMP_ALERT_STS_TRANSIT * 8 + d.rd F.SMP_ALERT_STS_WATCH * 4 +
  64 * b2n ((upTo 16).any (fun k => d.rd F.HIF_MB_CTL_SLOT_OWNER k == 2 && d.rd F.HIF_MB_CTL_STATE k == 4)) +
  32 * b2n (!(d.flag F.HIF_LINK_STS_PCIE_UP)) + 16 * b2n d.faultLow +
  2 * b2n ((d.word RD.EVT_IRQ &&& d.rd F.EVT_IRQ_CFG_ALERT_MASK) != 0) +
  b2n ((d.word RD.HK_IRQ &&& d.rd F.HK_IRQ_CFG_ALERT_MASK) != 0)

/-- SMP_ALERT_N is low (R845). -/
def Dev.smpAlertLow (d : Dev) : Bool := (d.alertSts &&& d.word RD.SMP_ALERT_MASK) != 0

/-- Port slices that the governor mutes now (R770): both streams of each carry the mark, and one that lacks a direction
counts once too. -/
def Dev.mutedSlices (d : Dev) : Nat :=
  (((upTo 2048).filter (fun m => d.budgetMuted m)).map sliceKey).eraseDups.length

/-- W_i of R527: the cycles of the busiest base tick of an orbit, at which every donor slice on it is due (R520, R521). -/
def Dev.tickCycles (d : Dev) (i : Nat) : Nat :=
  (d.slicesOn i).foldl (fun a n =>
    let ms := d.streamsOf n
    a + ms.length * (256 * 12 + 16) + (ms.map dirOf).eraseDups.length * 256 * 8) 0

/-- window_i of R527 in 1/10 sample: the base tick less 30 µs and less the deadline guard. -/
def Dev.loadWindow (d : Dev) (i : Nat) : Nat :=
  (10 * (d.orb i).base - 36864 - 2560 * max 4 (d.rd F.CE_TIMING_GUARD) : Int).toNat

/-- The share of the window of an orbit that `c` cycles take on the healthy processors, in 1/16 % (R527, R557). -/
def Dev.loadShare (d : Dev) (i c : Nat) : Nat :=
  let cap := (32 - d.eng.failed.length) * 8 * d.loadWindow i
  if cap = 0 then Config.loadOpen i % 2 ^ 16 else satNat 16 (divNear (c * 16000) cap).toNat

/-- `LOAD` of `CE_LOAD_i` (R527, R557): U_i in 1/16 %. -/
def Dev.ceLoad (d : Dev) (i : Nat) : Nat := d.loadShare i (d.tickCycles i)

/-- Some quarter of link die `k` is *ON* (R755). -/
def Dev.linkDieOn (d : Dev) (k : Nat) : Bool := (upTo 4).any (fun q => d.domOn (74 + 4 * k + q))

/-- A command of `MLD_CTL` is in progress: a check, a slot write, a delta, a restart that waits, or a load that a command
asked for, until *APPLY* is done. -/
def Dev.cmdBusy (d : Dev) : Bool :=
  d.mld.checking != 0 || d.mld.writing.isSome || d.mld.delta.isSome || d.mld.restart.isSome ||
    (d.mld.commanded && (d.boot == 3 || d.boot == 4))

/-- `MLD_STS.BUSY` (R82): a command or a migration is in progress. -/
def Dev.mldBusy (d : Dev) : Bool := d.cmdBusy || !d.mld.migs.isEmpty

/-- What a read of a register gives (R15): its fields, or the value computed from the state that is its home. -/
def Dev.view (d : Dev) (h : Hit) : Nat :=
  match d.absent h with
  | some v => v
  | none =>
  match h.reg with
  | .HIF_OWN_MAP => d.ownMap
  | .EVT_RING => d.ringWord h.i h.j
  | .EVT_HEAD_LO => (d.er.nextSeq - 1) % 2 ^ 32 * b2n d.ringValid
  | .EVT_TAIL_LO => d.er.tail % 2 ^ 32 * b2n d.ringValid
  | .EVT_TIME_LO => d.timeMs % 2 ^ 32
  | .EVT_ARCH_STS_LO =>
    match d.er.archNewest with
    | some n => n % 2 ^ 32
    | none => 0
  | .EVT_PCYCLE => d.er.pcycle % 2 ^ 24
  | .EVT_CAL_LO => d.calendar % 2 ^ 32
  | .EVT_CAL_HI => d.calendar / 2 ^ 32 % 2 ^ 16 + 2 ^ 30 * d.rd F.EVT_CAL_HI_VALID
  | .EVT_STS => d.word h.desc + 2 ^ 16 * d.er.queue.length
  | .ORB_POS_LO => d.orbPos h.i % 1228800
  | .MLD_STS => d.word h.desc - d.rd F.MLD_STS_BOOT_STATE + d.boot + 128 * b2n d.mldBusy
  | .PWR_STS => d.word h.desc + b2n d.coreOn + 2 * b2n (d.linkDieOn 0) + 4 * b2n (d.linkDieOn 1) +
      2 ^ 10 * d.pwr.queue.length
  | .CLK_STS => d.word h.desc + 2 ^ 12 * b2n d.permitWait
  | .BGV_CNT => d.word h.desc + 2 ^ 21 * d.mutedSlices +
      2 ^ 15 * (upTo 16).foldl (fun a n => a + d.rd F.BGV_DSLICE_MULT_GRANT n) 0
  | .SMP_ALERT_STS => d.alertSts
  | .HIF_LINK_STS => d.word h.desc + 2 ^ 10 * d.hif.usb
  | .PRT_FAULT_STS => d.faultSts
  | .PRT_STS => d.countField F.SLC_PROT_CUT 2048 (fun _ => true) +
      2 ^ 16 * d.countField F.SLC_PROT_MUTE 2048 (fun _ => true)
  | .PRT_CAUSE => d.word h.desc h.i + 2 ^ 24 * min 255 (d.recent h.i)
  | .ISO_MAP_DL => d.mapWord h 0
  | .ISO_MAP_UL => d.mapWord h 1
  | .ISO_PS => d.word h.desc h.i + d.trustedCells h.i
  | .ISO_SURVEY_STS => d.surveySts
  | .LCX0 => d.contextWord h
  | .SLC_STS => d.spTargets.length + 64 * b2n d.slc.takeover.isSome + 4096 * min 1023 d.ringLoad
  | .SLC_SP_STS => d.rd F.SLC_SP_STS_CAUSE h.i * 32 + d.rd F.SLC_SP_STS_RES_ERR h.i * 2 ^ 24 + d.spSts h.i
  | .TIL_STREAM => d.word h.desc h.i + 2 ^ 31 * b2n (d.has h.i)
  | .LNK_STS => d.word h.desc h.i + 2 ^ 11 * b2n (d.laneSelected h.i)
  | .ORB_TDD_CTL => d.word h.desc h.i + 32 * b2n (d.patternValid h.i) + 2 * b2n (d.swapPending h.i)
  | .ORB_ERR => d.word h.desc h.i + 2 ^ 16 * min 65535 (d.uncertainty h.i)
  | .TRN_STS => d.word h.desc h.i + 2 ^ 16 * (d.orb h.i).due.length
  | .CE_STALE_CNT => d.word h.desc + d.staleStreams
  | .CE_LOAD => d.word h.desc h.i + d.ceLoad h.i
  | .HK_STS => b2n d.roundOrbit.isNone + 4 * b2n (!d.coreOn)
  | .CE_STS => d.word h.desc + 2 ^ 22 * b2n d.engineOn
  | _ => d.word h.desc h.i h.j h.k

end Sys2Proof.Machine
end

