-- ==== Sys2Proof/Machine/Ops.lean ====
section
/-! DEFINITION. The named operations every block shares: interrupt messages, event records, bring-up states. -/

namespace Sys2Proof.Machine

/-- `k` cycles of FIO have passed since a sample count, FIO running as fast as R676 accepts: 80 MHz + 4 %. -/
def Dev.fioPast (d : Dev) (since k : Nat) : Bool := decide (k * 153600 < (d.now - since + 1) * 104000)

/-- `k` cycles of SIO have passed since a sample count, SIO running as fast as R676 accepts: 32.768 kHz + 10 %. -/
def Dev.sioPast (d : Dev) (since k : Nat) : Bool := decide (k * 37500 < (d.now - since + 1) * 11)

/-- `k` cycles of REF on a crystal have passed since a sample count: 40 MHz + 100 ppm (R676, R677). -/
def Dev.refPast (d : Dev) (since k : Nat) : Bool := decide (k * 30720 < (d.now - since + 1) * 10001)

/-- `n` counts of activity class `k` (R743). -/
def Dev.tally (d : Dev) (k n : Nat) : Dev :=
  { d with pwr := { d.pwr with act := { d.pwr.act with counts := tabSet 0 d.pwr.act.counts k (tabGet 0 d.pwr.act.counts k + n) } } }

/-- Counts of a class that are a port slice's, named by its downlink stream (R744, R745). -/
def Dev.tallySlice (d : Dev) (key k n : Nat) : Dev :=
  let d1 := d.tally k n
  let q := 8 * key + k
  { d1 with pwr := { d1.pwr with act := { d1.pwr.act with slices := tabSet 0 d1.pwr.act.slices q (tabGet 0 d1.pwr.act.slices q + n) } } }

/-- Bytes moved to or from SDRAM by a service that can be deferred (R744). -/
def Dev.tallyDefer (d : Dev) (n : Nat) : Dev :=
  let d1 := d.tally 7 n
  { d1 with pwr := { d1.pwr with act := { d1.pwr.act with defer := tabSet 0 d1.pwr.act.defer 7 (tabGet 0 d1.pwr.act.defer 7 + n) } } }

/-- Sends MSI-X vector `v` (R824): dropped while the PCIe link is down, held pending while the vector is masked. -/
def Dev.msi (d : Dev) (v : Nat) : Dev :=
  if !(d.flag F.HIF_LINK_STS_PCIE_UP) then d
  else if d.flag F.HIF_MSIX_CTRL_MASK v then
    d.wr F.HIF_PBA_PEND (d.rd F.HIF_PBA_PEND (v / 32) ||| 2 ^ (v % 32)) (v / 32)
  else { d with hif := { d.hif with msiSent := tabSet 0 d.hif.msiSent v (tabGet 0 d.hif.msiSent v + 1) } }

/-- Sets bits of `EVT_IRQ`; a bit gained among those set and enabled raises `IRQ_VEC` while the compute die is on
(R808). -/
def Dev.evtIrq (d : Dev) (bitsSet : Nat) : Dev :=
  let old := d.word RD.EVT_IRQ
  let new := old ||| bitsSet
  let d1 := (((d.wr F.EVT_IRQ_NOTIFY (bits new 0 1)).wr F.EVT_IRQ_LOST (bits new 1 1)).wr
    F.EVT_IRQ_ARCH_ERR (bits new 2 1)).wr F.EVT_IRQ_UNBOUND (bits new 3 1)
  let m := d.rd F.EVT_IRQ_CFG_IRQ_MASK
  if (new &&& m) != (old &&& m) && d.coreOn then d1.msi (d.rd F.EVT_IRQ_CFG_IRQ_VEC) else d1

/-- Sets bits of `HK_IRQ`; a bit gained among those set and enabled raises `IRQ_VEC` while the compute die is on
(R660). -/
def Dev.hkIrq (d : Dev) (bitsSet : Nat) : Dev :=
  let old := d.word RD.HK_IRQ
  let new := old ||| bitsSet
  let d1 := ((((d.wr F.HK_IRQ_REG_DONE (bits new 0 4)).wr F.HK_IRQ_INJ_DONE (bits new 4 4)).wr
    F.HK_IRQ_WM_EVENT (bits new 8 1)).wr F.HK_IRQ_WM_STUCK (bits new 9 1)).wr F.HK_IRQ_CAL_DONE (bits new 10 1)
  let m := d.rd F.HK_IRQ_CFG_IRQ_MASK
  if (new &&& m) != (old &&& m) && d.coreOn then d1.msi (d.rd F.HK_IRQ_CFG_IRQ_VEC) else d1

/-- The event codes that the tables of R777 and R856 list, and those of the service sequencers. -/
def validCode (c : Nat) : Bool :=
  (decide (1 ≤ c) && decide (c ≤ 9)) || (decide (0x20 ≤ c) && decide (c ≤ 0x24)) ||
  (decide (0x40 ≤ c) && decide (c ≤ 0x42)) || (decide (0x60 ≤ c) && decide (c ≤ 0x66)) ||
  (decide (0x80 ≤ c) && decide (c ≤ 0x83)) || (decide (0xA0 ≤ c) && decide (c ≤ 0xA6)) ||
  (decide (0xC0 ≤ c) && decide (c ≤ 0xC3)) || (decide (0xE0 ≤ c) && decide (c ≤ 0xE5)) ||
  (decide (0x100 ≤ c) && decide (c ≤ 0x107)) || (decide (0x120 ≤ c) && decide (c ≤ 0x128)) ||
  (decide (0x140 ≤ c) && decide (c ≤ 0x148)) || (decide (0x160 ≤ c) && decide (c ≤ 0x16D)) ||
  (decide (0x1E0 ≤ c) && decide (c ≤ 0x1FF))

/-- One snapshot word and whether the register's domain was off (R786). -/
def Dev.snapOne (d : Dev) (a : Nat) : Nat × Bool :=
  if decide (0x500000 ≤ a) && decide (a < 0x600000) then (0, false)
  else
    match lookup a with
    | none => (0, false)
    | some h => if !h.desc.ao && !d.coreOn then (0, true) else (d.view h, false)

/-- The snapshots of a code's list, in list order (R786). -/
def Dev.snapshots (d : Dev) (code : Nat) : List (Nat × Bool) :=
  if d.flag F.EVT_CODE_SNAP_EN code then
    let l := d.rd F.EVT_CODE_SNAP_LIST code
    ((upTo 8).filter (fun e => d.flag F.EVT_SNAP_EN l e)).map (fun e => d.snapOne (4 * d.rd F.EVT_SNAP_OFFSET l e))
  else []

/-- The queue's high-water mark follows its occupancy (R798). -/
def Dev.markDepth (d : Dev) : Dev :=
  if d.rd F.EVT_STS_QMAX < d.er.queue.length then d.wr F.EVT_STS_QMAX d.er.queue.length else d

/-- The FIO cycle under way at 80 MHz (R784). DESIGN CHOICE (log 104): cycles are counted from AO power-good. -/
def Dev.fioCycle (d : Dev) : Nat := d.now * 125 / 192

/-- An entry goes before one that arrived in the same FIO cycle: by code, then by index (R784). -/
def QEnt.before (e x : QEnt) : Bool :=
  e.cycle.isSome && e.cycle == x.cycle && (decide (e.code < x.code) || (e.code == x.code && decide (e.index < x.index)))

/-- The place of a new entry in the input queue (R784): the end, but before the entries there that arrived in its FIO cycle and come
after it. -/
def queuePut (q : List QEnt) (e : QEnt) : List QEnt :=
  let n := (q.reverse.takeWhile e.before).length
  q.take (q.length - n) ++ e :: q.drop (q.length - n)

/-- Puts an entry into the input queue (R784); into an empty one, its writing begins. -/
def Dev.pushEnt (d : Dev) (e : QEnt) : Dev :=
  ({ d with er := { d.er with queue := queuePut d.er.queue e
                              headAt := if d.er.queue.isEmpty then d.now else d.er.headAt } }).markDepth

/-- The entry an event makes: its time is the operating time on arrival, or the time since power-good before
resumption (R784). -/
def Dev.mkEnt (d : Dev) (code index arg : Nat) : QEnt :=
  let sn := d.snapshots code
  { cycle := some d.fioCycle, code := code, index := index % 65536, arg := arg % 2 ^ 64, time := d.timeMs,
    early := !(d.flag F.EVT_STS_RESUMED), snapOff := sn.any (fun p => p.2), snaps := sn.map (fun p => p.1) }

/-- While the queue has room: a due `LOST` enters, then due `SUPPRESSED` summaries in code order (R785). -/
def Dev.admitDue (d : Dev) : Nat → Dev
  | 0 => d
  | n + 1 =>
    if 64 ≤ d.er.queue.length then d
    else if d.er.lostCount ≠ 0 then
      let e := d.mkEnt 2 d.er.lostCode (d.er.lostCount % 2 ^ 32 + d.er.lostTime % 2 ^ 32 * 2 ^ 32)
      (({ d with er := { d.er with lostCount := 0 } }).pushEnt { e with cycle := none }).admitDue n
    else
      match d.er.supDue with
      | [] => d
      | (c, cnt, t) :: rest =>
        let e := d.mkEnt 3 c (cnt % 2 ^ 32 + t % 2 ^ 32 * 2 ^ 32)
        (({ d with er := { d.er with supDue := rest } }).pushEnt { e with cycle := none }).admitDue n

/-- An event that has its token enters the queue, or is lost and counted where the queue is full or a `LOST` or summary
still waits for room (R785). -/
def Dev.enqueue (d : Dev) (code index arg : Nat) : Dev :=
  let d := d.admitDue 520
  if d.er.queue.length < 64 then d.pushEnt (d.mkEnt code index arg)
  else
    let d1 := d.bump F.EVT_CNT_LOST
    if d.er.lostCount = 0 then
      { d1 with er := { d1.er with lostCount := 1, lostTime := d.timeMs, lostCode := code } }
    else { d1 with er := { d1.er with lostCount := d1.er.lostCount + 1 } }

/-- The event finds its bucket empty: it is suppressed and counted (R783). -/
def Dev.suppress (d : Dev) (code : Nat) : Dev :=
  let d1 := (d.bump F.EVT_CODE_STS_PENDING code).bump F.EVT_CNT2_SUPPRESSED
  if d.rd F.EVT_CODE_STS_PENDING code = 0 then
    { d1 with er := { d1.er with supFirst := tabPut d1.er.supFirst code d.timeMs } }
  else d1

/-- A code's token period begins when its bucket first falls below full (R783). -/
def Dev.tokenClock (d : Dev) (code : Nat) : Dev :=
  if (tabFind d.er.tokenAt code).isSome then d else { d with er := { d.er with tokenAt := tabPut d.er.tokenAt code d.now } }

/-- A block raises an event (R783 to R786); none while the always-on die is held in reset (R708). -/
def Dev.raise (d : Dev) (code : Nat) (index : Nat := 0) (arg : Nat := 0) : Dev :=
  if !(validCode code) || d.clk.resetLow then d
  else if code < 0x20 || d.rd F.EVT_CODE_BURST code == 0 then d.enqueue code index arg
  else if d.rd F.EVT_CODE_STS_TOKENS code = 0 then d.suppress code
  else ((d.wr F.EVT_CODE_STS_TOKENS (d.rd F.EVT_CODE_STS_TOKENS code - 1) code).tokenClock code).enqueue code index arg

/-- The summary of a code's suppressions falls due and its pending count returns to zero (R783). -/
def Dev.summaryDue (d : Dev) (code : Nat) : Dev :=
  let n := d.rd F.EVT_CODE_STS_PENDING code
  if n = 0 then d
  else
    let t := tabGet 0 d.er.supFirst code
    let d1 := d.wr F.EVT_CODE_STS_PENDING 0 code
    ({ d1 with er := { d1.er with supFirst := tabDel d1.er.supFirst code,
                                  supDue := tabPut d1.er.supDue code (n, t) } }).admitDue 520

/-- FAULT_N follows its masked causes, low too while the compute die is off; each change writes a `FAULT_PIN` record
carrying the causes (R591, R593). -/
def Dev.faultPin (d : Dev) : Dev :=
  let c := d.faultSts
  let low := !d.coreOn || (c &&& d.rd F.PRT_FAULT_MASK_MASK) != 0
  if low = d.faultLow then d else ({ d with faultLow := low }).raise 0xE5 0 c

/-- The controller enters a bring-up state (R66) and records it. -/
def Dev.setBoot (d : Dev) (st : Nat) : Dev :=
  ((({ d with mld := { d.mld with stateAt := d.now } } : Dev).wr F.CLK_BOOT_STS_BOOT_STATE st).raise 0x20 0 st).faultPin

/-- External SDRAM is usable (R831). -/
def Dev.memReady (d : Dev) : Bool := d.memOn && d.flag F.HIF_MEM_STS_READY

/-- An SDRAM range lies in usable capacity (R829). -/
def Dev.memFits (d : Dev) (a n : Nat) : Bool := decide (a + n ≤ d.rd F.HIF_MEM_STS_SIZE_MB * 2 ^ 20)

/-- A read of SDRAM met an uncorrectable error at an address (R834). -/
def Dev.memUe (d : Dev) (a : Nat) : Dev :=
  ((((d.bump F.HIF_MEM_ECC_UE).wr F.HIF_MEM_UE_ADDR_ADDR64 (a / 64)).wr F.PRT_FAULT_STS_SDRAM 1).raise 0x166 0 a).faultPin

end Sys2Proof.Machine
end

