-- ==== Sys2Proof/Machine/Operands.lean ====
section
/-! DEFINITION. The forms of a master access (R13, R14), how a write is judged (R12, R818, R902, R845), and how its outcome is reported (R814, R815). -/

namespace Sys2Proof.Machine

/-- The master a path acts for (R813): 1 HOST, 2 SMP. -/
def masterOf (p : Path) : Nat :=
  match p with
  | .bar0 | .bar2 | .dma | .usb => 1
  | .smp => 2

/-- The `PATH` code of `HIF_ACC_STS` (R861); none for the side-band port, which is not logged. -/
def pathCode (p : Path) : Option Nat :=
  match p with
  | .bar0 => some 0
  | .bar2 => some 1
  | .dma => some 2
  | .usb => some 3
  | .smp => none

/-- Puts indices onto strides. -/
def strideSum : List (Nat × Nat) → List Nat → Nat
  | (_, s) :: t, i :: l => i * s + strideSum t l
  | _, _ => 0

/-- The BAR0 offset of a register found. -/
def Hit.addr (h : Hit) : Nat := h.desc.base + strideSum h.desc.dims [h.i, h.j, h.k]

/-- Offset `a` of a region without a register belongs to an always-on region (R12). -/
def aoOffset (a : Nat) : Bool :=
  let r := a / 0x100000
  r == 1 || r == 2 || r == 3 || r == 5 || (r == 7 && decide (0x780000 ≤ a))

/-- The clock of a region is stopped, gated for relock, or its logic is held in reset (R693, R694, R706): the CORE
registers while SYSPLL relocks or a domain reset holds. -/
def Dev.gated (d : Dev) : Bool := d.clk.pllLocking || d.clk.domainReset

/-- An access to this offset meets a domain that is off (R12, R706); while RESET_N is low every domain is (R708). -/
def Dev.domainOff (d : Dev) (a : Nat) : Bool :=
  if d.clk.resetLow then true
  else if 0x4000000 ≤ a then false
  else
    match lookup a with
    | some h => !h.desc.ao && (!d.coreOn || d.gated)
    | none => !(aoOffset a) && (!d.coreOn || d.gated)

/-- The owner that governs a register: the mailbox slot's for slot registers, else the block's (R818, R868). -/
def Dev.governor (d : Dev) (h : Hit) : Nat :=
  match h.reg with
  | .HIF_MB_CTL | .HIF_MB_REQ => d.rd F.HIF_MB_CTL_SLOT_OWNER h.i
  | _ => match h.desc.blk with
    | some b => d.ownerOf b
    | none => 0

/-- The registers whose fields need ownership only in part (R902, R537, R433, R759). -/
def mixedReg (r : Reg) : Bool :=
  match r with
  | .LCX0 | .MEA_CAP3 | .PWR_DOM | .HIF_MB_CTL => true
  | _ => false

/-- A transit entry of the service sequencers, read-only to masters and not owner-lockable (R131, R168). -/
def sequencerEntry (h : Hit) : Bool :=
  match h.reg with
  | .TRN_ENT0 | .TRN_ENT1 | .TRN_ENT2 | .TRN_ENT3 => decide (192 ≤ h.j)
  | _ => false

/-- The status with which the write of word `w` is judged before the register's own rules (R12, R818, R845, R902). -/
def Dev.judge (d : Dev) (h : Hit) (p : Path) (w : Nat) : Nat :=
  if d.clk.resetLow || (!h.desc.ao && (!d.coreOn || d.gated)) then 1
  else if 0x780000 ≤ h.desc.base ∧ h.desc.base < 0x800000 ∧ masterOf p ≠ 2 then 3
  else if mixedReg h.reg then
    (if d.governor h ≠ masterOf p ∧ d.needsOwner h.desc w h.i h.j h.k then 3 else 0)
  else if h.desc.lock ∧ !(sequencerEntry h) ∧ d.governor h ≠ masterOf p then 3
  else 0

/-- The completion of an access (R814). -/
def Dev.complete (d : Dev) (status : Nat) (data : Nat := 0) : Dev :=
  { d with hif := { d.hif with cpl := { status := status, data := data } } }

/-- A HOST access that failed is logged, may raise `ERR_VEC`, and writes an `ACCESS_FAULT` record (R815, R861). -/
def Dev.logFault (d : Dev) (p : Path) (a st : Nat) : Dev :=
  match pathCode p with
  | none => d
  | some pc =>
    let d1 :=
      if d.coreOn then
        let d2 := (((d.wr F.HIF_ACC_STS_NEW 1).wr F.HIF_ACC_STS_PATH pc).wr F.HIF_ACC_STS_STATUS st).bump
          F.HIF_ACC_STS_COUNT
        let d3 := d2.wr F.HIF_ACC_ADDR_ADDR a
        if d3.flag F.HIF_CTL_ERR_IRQ_EN then d3.msi (d3.rd F.HIF_CTL_ERR_VEC) else d3
      else d
    d1.raise 0x163 0 (a % 2 ^ 32 + st * 2 ^ 32 + pc * 2 ^ 36)

/-- An access ends with a status other than `OK`. -/
def Dev.fail (d : Dev) (p : Path) (a st : Nat) : Dev := (d.logFault p a st).complete st

/-- A write that reaches one register: judged, then acted on. An action that answers `none` is refused by a rule of
the register itself (`REJECTED`); then nothing changes but what `rej` counts. -/
def Dev.write (d : Dev) (p : Path) (h : Hit) (w : Nat) (act : Dev → Option Dev) (rej : Dev → Dev := id) : Dev :=
  let st := d.judge h p w
  if st ≠ 0 then d.fail p h.addr st
  else
    match act d with
    | some d1 => d1.complete 0
    | none => (rej d).fail p h.addr 4

/-- A register found by name. -/
def hit (r : Reg) (rd : RegD) (i : Nat := 0) (j : Nat := 0) (k : Nat := 0) : Hit := ⟨r, rd, i, j, k⟩

/-- The part of a write that the field types decide, for a writer that the judgement let through (R15, R902). -/
def Dev.putHit (d : Dev) (p : Path) (h : Hit) (w : Nat) : Dev :=
  d.putWord h.desc w (!(mixedReg h.reg) || d.governor h == masterOf p) h.i h.j h.k

end Sys2Proof.Machine
end

