-- ==== Sys2Proof/Machine/Journal.lean ====
section
/-! DEFINITION. What the flash holds for the recorder and the write journal: anchors, archived records, journal entries (R779, R788, R851, R852). -/

namespace Sys2Proof.Machine

/-- The command's effect stays inside the block and leaves every memory alone. -/
def State.onDev (s : State) (g : Dev → Dev) : State := { s with dev := g s.dev }

/-- Flash addresses of R50. -/
def flDirectory : Nat := 0
def flSlotA : Nat := 0x10000
def flSlotB : Nat := 0x810000
def flArchive : Nat := 0x1010000
def flJournal : Nat := 0x1410000
def flUser : Nat := 0x1510000

/-- An octet list whose last four octets are the CRC-32C of the rest. -/
def crcGood (l : List Nat) : Bool := leAt l (l.length - 4) 4 == crc32c (l.take (l.length - 4))

/-- Appends the CRC-32C of an octet list. -/
def withCrc (l : List Nat) : List Nat := l ++ toOctets 4 (crc32c l)

/-- The record that 64 octets spell (R775), where their CRC is good. -/
def recOf (l : List Nat) : Option Rec :=
  if crcGood l then
    let cf := leAt l 6 2
    some { seq := leAt l 0 6, code := cf % 512, unbound := bitAt cf 9, unsure := bitAt cf 10, snapOff := bitAt cf 11,
           time := leAt l 8 6, pcycle := leAt l 14 3, index := leAt l 18 2, arg := leAt l 20 8,
           snaps := (upTo (leAt l 17 1 % 16)).map (fun n => leAt l (28 + 4 * n) 4) }
  else none

/-- The valid records of the archive, with their slots (R788). -/
def Mem.archive (m : Mem) : List (Nat × Rec) :=
  (m.flSlots flArchive 0x400000 64).filterMap (fun n => (recOf (m.flRead (flArchive + 64 * n) 64)).map (fun r => (n, r)))

/-- The archived record of largest `SEQ`, with its slot. -/
def Mem.archTop (m : Mem) : Option (Nat × Rec) :=
  m.archive.foldl (fun b p =>
    match b with
    | none => some p
    | some q => if q.2.seq < p.2.seq then some p else some q) none

/-- An anchor's time bound, sequence bound and power-cycle count (R851). -/
structure Anchor where
  tBound : Nat
  sBound : Nat
  pcycle : Nat

/-- The valid anchors of journal sector 0, with their slots (R851). -/
def Mem.anchors (m : Mem) : List (Nat × Anchor) :=
  (m.flSlots flJournal 0x10000 32).filterMap (fun n =>
    let l := m.flRead (flJournal + 32 * n) 32
    if listAt l 0 = 0xA1 ∧ crcGood l then some (n, ⟨leAt l 1 6, leAt l 7 6, leAt l 13 3⟩) else none)

/-- The 32 octets of an anchor (R851). -/
def anchorOctets (a : Anchor) : List Nat :=
  withCrc ([0xA1] ++ toOctets 6 a.tBound ++ toOctets 6 a.sBound ++ toOctets 3 a.pcycle ++ List.replicate 12 0)

/-- Writes an operation entry into the ring of journal sectors 1 to 15, erasing each sector before its first entry
(R851). -/
def State.journal (s : State) (ty addr len : Nat) : State :=
  let n := s.dev.hif.jrnSlot % 30720
  let a := flJournal + 0x10000 + 32 * n
  let m := if n % 2048 = 0 then s.mem.flErase a 0x10000 else s.mem
  let e := withCrc ([ty, 0, 0, 0] ++ toOctets 4 addr ++ toOctets 4 len ++ toOctets 6 s.dev.hif.jrnSeq ++
    List.replicate 10 0)
  { s with
    mem := m.flProgram a e
    dev := { s.dev with hif := { s.dev.hif with jrnSlot := (n + 1) % 30720, jrnSeq := s.dev.hif.jrnSeq + 1 } } }

/-- A program of flash with its journal entries: intent, the program, done (R852). -/
def State.progJ (s : State) (a : Nat) (l : List Nat) : State :=
  let s1 := s.journal 0x11 a l.length
  let s2 : State := { s1 with mem := s1.mem.flProgram a l }
  s2.journal 0x21 a l.length

/-- An erase of 64 KiB of flash with its journal entries: intent, the erase, done (R852). -/
def State.eraseJ (s : State) (a : Nat) : State :=
  let s1 := s.journal 0x12 a 0x10000
  let s2 : State := { s1 with mem := s1.mem.flErase a 0x10000 }
  s2.journal 0x21 a 0x10000

/-- The flash address of the slot a job writes, or its own. -/
def flSlot (k : Nat) : Nat := if k = 0 then flSlotA else flSlotB

/-- The job's flash range: a slot write erases whole sectors. -/
def State.jobRange (s : State) (j : FlashJob) : Nat × Nat :=
  if j.slot then
    match s.dev.mld.writing with
    | some w => (flSlot w.1, (w.2.length + 65535) / 65536 * 65536)
    | none => (flSlotA, 0)
  else if j.op = 2 then (j.addr, 0x10000) else (j.addr, j.len)

/-- The flash controller takes the job at the head of its queue, once the always-on reader is done and no archive program runs (R849): the intent of a
program or erase is journalled first (R852). A slot write is journalled as one erase and one program. -/
def State.flashKick (s : State) : State :=
  match s.dev.hif.flashJobs with
  | [] => s
  | j :: rest =>
    if j.begun || !s.dev.memOn || !(s.dev.flag F.EVT_STS_RESUMED) || !s.dev.er.archBusy.isEmpty then s
    else
      let r := s.jobRange j
      let s1 := if j.slot ∨ j.op = 2 then s.journal 0x12 r.1 r.2 else if j.op = 1 then s.journal 0x11 r.1 r.2 else s
      s1.onDev (fun d => { d with hif := { d.hif with flashJobs := { j with begun := true } :: rest } })

/-- One entry of the operation journal (R851). -/
structure JrnEnt where
  slot : Nat
  ty : Nat
  addr : Nat
  len : Nat
  seq : Nat

/-- The valid entries of journal sectors 1 to 15 (R851). -/
def Mem.journalEntries (m : Mem) : List JrnEnt :=
  (m.flSlots (flJournal + 0x10000) 0xF0000 32).filterMap (fun n =>
    let l := m.flRead (flJournal + 0x10000 + 32 * n) 32
    if [0x11, 0x12, 0x21, 0x22].contains (listAt l 0) && crcGood l then
      some ⟨n, listAt l 0, leAt l 4 4, leAt l 8 4, leAt l 12 6⟩
    else none)

/-- The intents that no done entry follows (R852). -/
def openIntents (l : List JrnEnt) : List JrnEnt :=
  l.filter (fun e => (e.ty == 0x11 || e.ty == 0x12) &&
    !(l.any (fun q => q.ty == 0x21 && q.addr == e.addr && q.len == e.len && decide (e.seq < q.seq))))

/-- Journal recovery, when the memory domain first comes up after a core reset (R852). -/
def State.journalRecover (s : State) : State :=
  if s.dev.hif.jrnRecovered then s
  else
    let l := s.mem.journalEntries
    let top := l.foldl (fun (b : Nat × Nat) e => if b.1 < e.seq + 1 then (e.seq + 1, (e.slot + 1) % 30720) else b) (0, 0)
    let s0 := s.onDev (fun d => { d with hif := { d.hif with jrnRecovered := true, jrnSeq := top.1, jrnSlot := top.2 } })
    (openIntents l).foldl (fun s e =>
      let s1 := if e.ty = 0x12 then (upTo ((e.len + 65535) / 65536)).foldl (fun s k => s.eraseJ (e.addr + 65536 * k)) s else s
      s1.onDev (fun d =>
        let d1 := d.raise 0x169 0 (e.addr + 2 ^ 32 * e.ty)
        if flUser ≤ e.addr then (d1.wr F.HIF_FLASH_STS_INTERRUPTED 1).wr F.HIF_FLASH_STS_INT_ADDR e.addr else d1)) s0

end Sys2Proof.Machine
end

