-- ==== Sys2Proof/Machine/Recorder.lean ====
section
/-! DEFINITION. The event recorder's commands (chapter 14): events, the ring, time, the archive, reading and clearing. -/

namespace Sys2Proof.Machine

/-- The answer of a command: a next state, a fault or a refusal. -/
abbrev Out := Host.Outcome State Fault Refusal

/-- A command that names unit `n` of `lim` units; a unit the part lacks is a fault. -/
def unit (n lim : Nat) (o : Out) : Out := if n < lim then o else .fault .noSuchUnit

/-- EVENT_RAISE (R783): a block raises an event. -/
def execEventRaise (code index arg : Nat) (s : State) : Out := .next (s.onDev (fun d => d.raise code index arg))

/-- The record an entry makes at the moment of writing (R775, R779, R784). -/
def Dev.mkRec (d : Dev) (e : QEnt) : Rec :=
  let t := if e.early then d.er.tBase + e.time else e.time
  let past :=
    match d.er.anchor with
    | some (tb, sb) => decide (tb ≤ t) || decide (sb ≤ d.er.nextSeq)
    | none => false
  { seq := d.er.nextSeq, code := e.code, unbound := past || d.flag F.EVT_STS_UNBOUND,
    unsure := d.flag F.EVT_STS_UNSURE, snapOff := e.snapOff, time := t, pcycle := d.er.pcycle,
    index := e.index, arg := e.arg, snaps := e.snaps }

/-- Puts a record into the ring: the slot's old record leaves it first, counted where it was never archived (R787,
R790). -/
def Dev.ringPut (d : Dev) (r : Rec) : Dev :=
  let old := r.seq - 2048
  let gone := decide (2048 ≤ r.seq) && (tabFind d.er.ring old).isSome
  let d1 := if gone && decide (d.er.archNext ≤ old) then d.bump F.EVT_CNT_UNARCHIVED else d
  { d1 with er := { d1.er with
      ring := tabPut (if gone then tabDel d1.er.ring old else d1.er.ring) r.seq r
      tail := if 2048 ≤ r.seq ∧ d1.er.tail < r.seq - 2047 then r.seq - 2047 else d1.er.tail
      nextSeq := r.seq + 1 } }

/-- The flags and interrupts that the writing of a record raises (R798, R807). -/
def Dev.recFlags (d : Dev) (r : Rec) : Dev :=
  let first := r.unbound && !(d.flag F.EVT_STS_UNBOUND)
  let d1 := (if first then d.wr F.EVT_STS_UNBOUND 1 else d).wr F.EVT_STS_ARCH_WAIT 1
  d1.evtIrq (b2n (d.flag F.EVT_CODE_NOTIFY r.code) + 2 * b2n (r.code == 2) + 4 * b2n (r.code == 8) + 8 * b2n first)

/-- Writes an entry into the ring as the next record (R776, R784). -/
def Dev.writeRec (d : Dev) (e : QEnt) : Dev :=
  let r := d.mkRec e
  (d.ringPut r).recFlags r

/-- RING_WRITE (R784): once its writing has taken 0.5 µs, the head of the queue enters the ring, the writing of the next begins, and the
freed entry goes to what is due (R785). -/
def Dev.ringWrite (d : Dev) : Dev :=
  if !(d.flag F.EVT_STS_RESUMED) || !(d.fioPast d.er.headAt 40) then d
  else
    match d.er.queue with
    | [] => d
    | e :: rest => (({ d with er := { d.er with queue := rest, headAt := d.now } }).writeRec e).admitDue 520

/-- RING_WRITE (R784). -/
def execRingWrite (s : State) : Out := .next (s.onDev Dev.ringWrite)

/-- A bucket gains a token every `REFILL` × 10 ms while it is below full, and a summary of its suppressions falls due (R783). -/
def Dev.tokenRefill (code : Nat) (d : Dev) : Dev :=
  let b := d.rd F.EVT_CODE_BURST code
  let t := d.rd F.EVT_CODE_STS_TOKENS code
  let due := (tabFind d.er.tokenAt code).all (fun a => d.fioPast a (800000 * max 1 (d.rd F.EVT_CODE_REFILL code)))
  if code < 0x20 ∨ b = 0 ∨ b ≤ t ∨ !due then d
  else
    let at1 := if b ≤ t + 1 then tabDel d.er.tokenAt code else tabPut d.er.tokenAt code d.now
    (({ d with er := { d.er with tokenAt := at1 } }).wr F.EVT_CODE_STS_TOKENS (t + 1) code).summaryDue code

/-- TOKEN_REFILL (R783). -/
def execTokenRefill (code : Nat) (s : State) : Out := unit code 512 (.next (s.onDev (Dev.tokenRefill code)))

/-- What a write of `EVT_CODE_c` does: its fields, a full bucket, and a pending summary at once (R783, R795, R810). -/
def Dev.actEvtCode (p : Path) (c w : Nat) (d : Dev) : Option Dev :=
  let h := hit .EVT_CODE RD.EVT_CODE c
  let w1 := if c < 0x20 then w % 2 ^ 12 else w
  let d1 := d.putHit p h w1
  let d2 := if c < 0x20 then d1 else
    ({ d1 with er := { d1.er with tokenAt := tabDel d1.er.tokenAt c } }).wr F.EVT_CODE_STS_TOKENS (d1.rd F.EVT_CODE_BURST c) c
  some (d2.summaryDue c)

/-- EVT_CODE_WRITE (R783). -/
def execEvtCodeWrite (p : Path) (c w : Nat) (s : State) : Out :=
  unit c 512 (.next (s.onDev (fun d => d.write p (hit .EVT_CODE RD.EVT_CODE c) w (Dev.actEvtCode p c w))))

/-- The largest of a list of numbers. -/
def maxOf (l : List Nat) : Nat := l.foldl max 0

/-- The retained ring's newest record (R780, R787). -/
def Dev.ringNewest (d : Dev) : Option Rec :=
  (d.er.ring.foldl (fun b p =>
    match b with
    | none => some p.2
    | some r => if r.seq < p.2.seq then some p.2 else some r) none)

/-- The operating time, next `SEQ` and power-cycle count that the sources give (R780). -/
def resumeFrom (ring : Option Rec) (anchors : List (Nat × Anchor)) (top : Option (Nat × Rec)) : Nat × Nat × Nat :=
  let recs := (match ring with | some r => [r] | none => []) ++ (match top with | some p => [p.2] | none => [])
  (maxOf (anchors.map (fun a => a.2.tBound) ++ recs.map (fun r => r.time)) + 1,
   maxOf (anchors.map (fun a => a.2.sBound) ++ recs.map (fun r => r.seq + 1)),
   maxOf (anchors.map (fun a => a.2.pcycle) ++ recs.map (fun r => r.pcycle)) + 1)

/-- What the recorder learns of its places in flash from a read of the archive and the journal. -/
def Dev.setPlaces (d : Dev) (m : Mem) : Dev :=
  let slots := m.anchors.map (fun a => a.1 + 1)
  { d with er := { d.er with
      anchorSlot := maxOf slots
      archSlot := (match m.archTop with | some p => (p.1 + 1) % 65536 | none => 0)
      archNext := (match m.archTop with | some p => p.2.seq + 1 | none => 0)
      archNewest := m.archTop.map (fun p => p.2.seq) } }

/-- A clearing that an AO reset or an orderly stop cut off is reported when the recorder next runs (R794). -/
def Dev.owedAbort (d : Dev) : Dev :=
  if d.er.clearAborted then ({ d with er := { d.er with clearAborted := false } }).raise 9 else d

/-- TIME_RESUME (R780, R781): from *CLK_WAIT* on, time, `SEQ` and power-cycle count resume and `POWER_UP` is written. -/
def Dev.timeResume (readable : Bool) (m : Mem) (d : Dev) : Dev :=
  if d.flag F.EVT_STS_RESUMED ∨ d.boot = 0 then d
  else
    let r := if readable then resumeFrom d.ringNewest m.anchors m.archTop else resumeFrom d.ringNewest [] none
    let d1 := if readable then d.setPlaces m else d.wr F.EVT_STS_UNSURE 1
    let d2 := { d1 with er := { d1.er with tBase := r.1, nextSeq := r.2.1, pcycle := r.2.2, anchor := none,
                                           tail := if d1.er.ring.isEmpty then r.2.1 else d1.er.tail
                                           headAt := d1.now } }
    let d3 := d2.wr F.EVT_STS_RESUMED 1
    let e : QEnt := { d3.mkEnt 1 0 (d3.word RD.CLK_RST_CAUSE) with time := 0, early := true }
    (d3.writeRec e).owedAbort

/-- TIME_RESUME (R780). -/
def execTimeResume (readable : Bool) (s : State) : Out := .next (s.onDev (Dev.timeResume readable s.mem))

/-- ARCHIVE_REREAD (R780): the memory domain reads the archive; time, `SEQ` and count step forward where it yields more. -/
def Dev.archiveReread (m : Mem) (d : Dev) : Dev :=
  if !(d.flag F.EVT_STS_UNSURE) || !d.memOn then d
  else
    let r := resumeFrom none m.anchors m.archTop
    let old := d.timeMs
    let d1 := (d.setPlaces m).wr F.EVT_STS_UNSURE 0
    if old < r.1 ∨ d.er.nextSeq < r.2.1 ∨ d.er.pcycle < r.2.2 then
      let d2 := { d1 with er := { d1.er with
        tBase := if old < r.1 then r.1 else d1.er.tBase
        tRef := if old < r.1 then d1.now else d1.er.tRef
        nextSeq := max d.er.nextSeq r.2.1
        pcycle := max d.er.pcycle r.2.2 } }
      d2.raise 7 0 old
    else d1

/-- ARCHIVE_REREAD (R780). -/
def execArchiveReread (s : State) : Out := .next (s.onDev (Dev.archiveReread s.mem))

/-- `ANCHOR_S` in seconds; 0 acts as 1 (R797). -/
def Dev.anchorS (d : Dev) : Nat := max 1 (d.rd F.EVT_CTL_ANCHOR_S)

/-- A new anchor is due (R779): none has been written since time resumption, or time comes within `ANCHOR_S` of the time bound, or `SEQ`
within 16,384 of the sequence bound. -/
def Dev.anchorDue (d : Dev) : Bool :=
  d.er.anchor.all (fun a => decide (a.1 ≤ d.timeMs + 1000 * d.anchorS) || decide (a.2 ≤ d.er.nextSeq + 16384))

/-- ANCHOR_WRITE (R779): a new anchor goes to the next slot of journal sector 0, which is erased when full, and the
bounds move. -/
def State.anchorWrite (s : State) : State :=
  if !(s.dev.flag F.EVT_STS_RESUMED) || !s.dev.memOn || !s.dev.anchorDue then s
  else
    let d := s.dev
    let a : Anchor := ⟨(d.timeMs + 2000 * d.anchorS) % 2 ^ 48, (d.er.nextSeq + 65536) % 2 ^ 48, d.er.pcycle⟩
    let full := decide (2048 ≤ d.er.anchorSlot)
    let n := if full then 0 else d.er.anchorSlot
    let m := if full then s.mem.flErase flJournal 0x10000 else s.mem
    { s with
      mem := m.flProgram (flJournal + 32 * n) (anchorOctets a)
      dev := ({ d with er := { d.er with anchor := some (a.tBound, a.sBound), anchorSlot := n + 1 } }).wr
        F.EVT_STS_UNBOUND 0 }

/-- ANCHOR_WRITE (R779). -/
def execAnchorWrite (s : State) : Out := .next s.anchorWrite

/-- The slot after an archive slot, sectors left unused after a failed erase skipped (R788, R789). -/
def nextSlot (skip : List Nat) (n : Nat) : Nat :=
  let k := (n + 1) % 65536
  if k % 1024 = 0 ∧ skip.contains (k / 1024) then (k + 1024) % 65536 else k

/-- Up to four records of the ring that are still to be archived, from `SEQ` `q` upward, with their slots: they share
one 256-byte page (R789). -/
def Dev.toArchive (d : Dev) : List (Nat × Rec × Bool) :=
  let rs := ((d.er.ring.filter (fun p => decide (d.er.archNext ≤ p.1))).map (fun p => p.2)).take
    (4 - d.er.archSlot % 4)
  (upTo rs.length).filterMap (fun n => (rs[n]?).map (fun r => (d.er.archSlot + n, r, false)))

/-- ARCHIVE_PROGRAM (R789): a page program of the oldest records not yet archived starts, its intent journalled. -/
def State.archiveProgram (s : State) : State :=
  let d := s.dev
  if !d.memOn || !(d.flag F.EVT_STS_RESUMED) || !(d.flag F.EVT_CTL_ARCH_EN) || !d.er.archBusy.isEmpty || d.er.clearTo.isSome ||
      d.hif.flashJobs.any (fun j => j.begun) || d.pwr.stopping.isSome then s
  else
    match d.toArchive with
    | [] => s
    | (n, r, b) :: rest =>
      let s1 := if n % 1024 = 0 then s.journal 0x12 (flArchive + 64 * n) 0x10000 else s
      let s2 := s1.journal 0x11 (flArchive + 64 * n) (64 * (rest.length + 1))
      s2.onDev (fun d => { d with er := { d.er with archBusy := (n, r, b) :: rest } })

/-- ARCHIVE_PROGRAM (R789). -/
def execArchiveProgram (s : State) : Out := .next s.archiveProgram

/-- The archive moves on past a list of records that it now holds. -/
def Dev.archived (d : Dev) (l : List (Nat × Rec × Bool)) : Dev :=
  let d1 := d.each [0] (fun d _ => l.foldl (fun d p =>
    { d with er := { d.er with archNext := max d.er.archNext (p.2.1.seq + 1), archSlot := nextSlot d.er.archSkip p.1,
                               archNewest := some (max p.2.1.seq (d.er.archNewest.getD 0)) } }) d)
  if d1.er.ring.all (fun p => decide (p.1 < d1.er.archNext)) then d1.wr F.EVT_STS_ARCH_WAIT 0 else d1

/-- ARCHIVE_PROGRAM_DONE (R789): the program completes, or fails and is tried once more in the next slot; a failed erase
leaves its sector unused until the next wrap. Either failure writes `ARCHIVE_ERR`. -/
def State.archiveProgramDone (eraseOk progOk : Bool) (s : State) : State :=
  match s.dev.er.archBusy with
  | [] => s
  | (n, r, again) :: rest =>
    let l := (n, r, again) :: rest
    let a := flArchive + 64 * n
    if n % 1024 = 0 ∧ !eraseOk then
      let s1 := s.journal 0x22 a 0x10000
      s1.onDev (fun d => ({ d with er := { d.er with archBusy := [], archSkip := n / 1024 :: d.er.archSkip,
                                                     archSlot := (n + 1024) % 65536 } }).raise 8 0 a)
    else
      let m1 := if n % 1024 = 0 then s.mem.flErase a 0x10000 else s.mem
      let s0 : State := { s with mem := m1 }
      if progOk then
        let s1 : State := { s with mem := m1.flProgram a (l.flatMap (fun p => recOctets p.2.1)) }
        (s1.journal 0x21 a (64 * l.length)).onDev (fun d => ({ d with er := { d.er with
          archBusy := []
          archSkip := if n % 1024 = 0 then d.er.archSkip.filter (fun x => x != n / 1024) else d.er.archSkip } }).archived l)
      else if again then
        s0.onDev (fun d => ({ d with er := { d.er with
          archBusy := []
          archSlot := nextSlot d.er.archSkip n
          archNext := maxOf (l.map (fun (p : Nat × Rec × Bool) => p.2.1.seq + 1)) } }).raise 8 0 a)
      else
        let nx := nextSlot s.dev.er.archSkip (n + rest.length)
        let s3 := s0.journal 0x11 (flArchive + 64 * nx) (64 * l.length)
        s3.onDev (fun d => ({ d with er := { d.er with
          archBusy := (upTo l.length).filterMap (fun k => (l[k]?).map (fun (p : Nat × Rec × Bool) => ((nx + k) % 65536, p.2.1, true))) } }).raise
            8 0 a)

/-- ARCHIVE_PROGRAM_DONE (R789). -/
def execArchiveProgramDone (eraseOk progOk : Bool) (s : State) : Out :=
  .next (s.archiveProgramDone eraseOk progOk).flashKick

/-- What a write of `EVT_ARCH_RD_HI` does (R792, R804): ignored while `BUSY`; `GO` starts a read of the `SEQ` named. -/
def Dev.actArchRd (p : Path) (w : Nat) (d : Dev) : Option Dev :=
  if d.flag F.EVT_ARCH_RD_HI_BUSY then some d
  else
    let d1 := d.putHit p (hit .EVT_ARCH_RD_HI RD.EVT_ARCH_RD_HI) w
    if F.EVT_ARCH_RD_HI_GO.hit w then
      let q := d1.rd F.EVT_ARCH_RD_LO_SEQ_LO + 2 ^ 32 * d1.rd F.EVT_ARCH_RD_HI_SEQ_HI
      some { (d1.wr F.EVT_ARCH_RD_HI_BUSY 1) with er := { d1.er with archRead := some q } }
    else some d1

/-- ARCH_READ (R792): `GO` reads a record from the archive. -/
def execArchRead (p : Path) (w : Nat) (s : State) : Out :=
  let w1 := withBits w 31 1 1
  .next (s.onDev (fun d => d.write p (hit .EVT_ARCH_RD_HI RD.EVT_ARCH_RD_HI) w1 (Dev.actArchRd p w1)))

/-- ARCH_READ_DONE (R792): the read ends with its result; `bad` says that flash answered with an uncorrectable error. -/
def Dev.archReadDone (bad : Bool) (m : Mem) (d : Dev) : Dev :=
  match d.er.archRead with
  | none => d
  | some q =>
    let d1 := ({ d with er := { d.er with archRead := none } }).wr F.EVT_ARCH_RD_HI_BUSY 0
    if !d.memOn then d1.wr F.EVT_ARCH_RD_HI_RESULT 3
    else if bad then d1.wr F.EVT_ARCH_RD_HI_RESULT 2
    else
      match m.archive.find? (fun p => p.2.seq == q) with
      | none => d1.wr F.EVT_ARCH_RD_HI_RESULT 1
      | some p =>
        (d1.each (upTo 16) (fun d w => d.wr F.EVT_ARCH_BUF_DATA (leAt (recOctets p.2) (4 * w) 4) w)).wr
          F.EVT_ARCH_RD_HI_RESULT 0

/-- ARCH_READ_DONE (R792). -/
def execArchReadDone (bad : Bool) (s : State) : Out := .next (s.onDev (Dev.archReadDone bad s.mem))

/-- What a write of `EVT_CAL_HI` does (R782, R802): the value is staged, and `SET` loads it and writes a record. -/
def Dev.actCalHi (w : Nat) (d : Dev) : Option Dev :=
  if F.EVT_CAL_HI_SET.hit w then
    let c := d.er.calStageLo + 2 ^ 32 * F.EVT_CAL_HI_CAL_HI.of w
    some (({ (d.wr F.EVT_CAL_HI_VALID 1) with er := { d.er with calBase := c, calRef := d.timeMs } }).raise 4 0 c)
  else some d

/-- CALENDAR_SET (R782): `SET` loads calendar time and writes a record. -/
def execCalendarSet (p : Path) (w : Nat) (s : State) : Out :=
  let w1 := withBits w 31 1 1
  .next (s.onDev (fun d => d.write p (hit .EVT_CAL_HI RD.EVT_CAL_HI) w1 (Dev.actCalHi w1)))

/-- A new nonce of four open words from the always-on die's random source, valid for one `GO` (R793). -/
def Dev.newNonce (d : Dev) : Dev :=
  let d1 := d.each (upTo 4) (fun d i => let p := d.draw; p.2.wr F.EVT_NONCE_NONCE p.1 i)
  { d1 with er := { d1.er with nonceLive := true, nonceAt := d1.now } }

/-- The message that the response authenticates: "EVCL", the nonce octets and `CLR_TO` (R793). -/
def Dev.clearMsg (d : Dev) : List Nat :=
  [0x45, 0x56, 0x43, 0x4C] ++ (upTo 4).flatMap (fun i => toOctets 4 (d.rd F.EVT_NONCE_NONCE i)) ++
    toOctets 4 (d.rd F.EVT_CLR_TO_LO_CLR_TO_LO) ++ toOctets 2 (d.rd F.EVT_CLR_TO_HI_CLR_TO_HI)

/-- `CLR_TO` (R806). -/
def Dev.clrTo (d : Dev) : Nat := d.rd F.EVT_CLR_TO_LO_CLR_TO_LO + 2 ^ 32 * d.rd F.EVT_CLR_TO_HI_CLR_TO_HI

/-- The sixteen response octets (R806). -/
def Dev.clearAuth (d : Dev) : List Nat := (upTo 4).flatMap (fun i => toOctets 4 (d.rd F.EVT_AUTH_AUTH i))

/-- The result with which a `GO` is judged (R794); 0 where it is accepted. -/
def Dev.judgeClear (d : Dev) (otp : Otp) : Nat :=
  if d.flag F.EVT_CLR_CTL_BUSY then 6
  else if 8 ≤ d.rd F.EVT_CLR_CTL_FAILS then 4
  else if !(bitAt otp.done 2) then 3
  else if !d.er.nonceLive then 2
  else if d.er.nextSeq ≤ d.clrTo ∨ !d.ringValid ∨ !d.memOn then 5
  else if (hmacSha256 otp.clearKey d.clearMsg).take 16 = d.clearAuth then 0
  else 1

/-- A `GO` of clearing (R793, R794): the response is judged, and the ring cleared or the refusal recorded. -/
def Dev.clearGo (otp : Otp) (d : Dev) : Dev :=
  let r := d.judgeClear otp
  let d1 := { d with er := { d.er with nonceLive := false } }
  if r = 0 then
    { (d1.wr F.EVT_CLR_CTL_BUSY 1) with er := { d1.er with
        clearTo := some d.clrTo
        tail := max d1.er.tail (d.clrTo + 1)
        ring := d1.er.ring.filter (fun p => decide (d.clrTo < p.1)) } }
  else
    let d2 := d1.wr F.EVT_CLR_CTL_RESULT r
    let d3 := if r = 1 then d2.bump F.EVT_CLR_CTL_FAILS else d2
    let d4 := if 8 ≤ d3.rd F.EVT_CLR_CTL_FAILS then d3.wr F.EVT_STS_CLEAR_LOCK 1 else d3
    d4.raise 6 0 r

/-- What a write of `EVT_CLR_CTL` does (R793, R805). -/
def Dev.actClrCtl (otp : Otp) (w : Nat) (d : Dev) : Option Dev :=
  let d1 := if F.EVT_CLR_CTL_NONCE_REQ.hit w then d.newNonce else d
  some (if F.EVT_CLR_CTL_GO.hit w then d1.clearGo otp else d1)

/-- NONCE_REQ (R793): draws a new clearing nonce. -/
def execNonceReq (p : Path) (w : Nat) (s : State) : Out :=
  let w1 := withBits w 30 1 1
  .next (s.onDev (fun d => d.write p (hit .EVT_CLR_CTL RD.EVT_CLR_CTL) w1 (Dev.actClrCtl s.mem.otp w1)))

/-- NONCE_EXPIRY (R793): a nonce is valid for at most 60 s. -/
def execNonceExpiry (s : State) : Out :=
  .next (s.onDev (fun d => if d.fioPast d.er.nonceAt 4800000000 then { d with er := { d.er with nonceLive := false } } else d))

/-- CLEAR_GO (R793): checks the response and starts or refuses clearing. -/
def execClearGo (p : Path) (w : Nat) (s : State) : Out :=
  let w1 := withBits w 31 1 1
  .next (s.onDev (fun d => d.write p (hit .EVT_CLR_CTL RD.EVT_CLR_CTL) w1 (Dev.actClrCtl s.mem.otp w1)))

/-- Clears the archive of every record up to `q`: a sector whose valid records all go is erased, every other such slot
programmed to zero (R793). -/
def State.archClear (q : Nat) (s : State) : State :=
  let all := s.mem.archive
  let bad := all.filter (fun p => decide (p.2.seq ≤ q))
  let secs := (bad.map (fun p => p.1 / 1024)).eraseDups
  secs.foldl (fun s k =>
    if all.all (fun p => p.1 / 1024 != k || decide (p.2.seq ≤ q)) then s.eraseJ (flArchive + 0x10000 * k)
    else (bad.filter (fun p => p.1 / 1024 == k)).foldl (fun s p => s.progJ (flArchive + 64 * p.1) (List.replicate 64 0)) s) s

/-- CLEAR_DONE (R793): the archive is cleared, `CLEARED` is written and `BUSY` clears; it waits for a program or an erase of the archive
that runs (R795). -/
def State.clearDone (s : State) : State :=
  match s.dev.er.clearTo with
  | none => s
  | some q =>
    if !s.dev.er.archBusy.isEmpty then s else
    let s1 := s.archClear q
    let top := s1.mem.archTop.map (fun p => p.2.seq)
    s1.onDev (fun d =>
      ((({ d with er := { d.er with clearTo := none, archNewest := top, archNext := max d.er.archNext (q + 1) } }).raise
        5 0 q).wr F.EVT_CLR_CTL_BUSY 0).wr F.EVT_CLR_CTL_RESULT 0)

/-- CLEAR_DONE (R793). -/
def execClearDone (s : State) : Out := .next s.clearDone

/-- What a write of `EVT_CTL` does (R797). -/
def Dev.actEvtCtl (p : Path) (w : Nat) (d : Dev) : Option Dev :=
  let d1 := d.putHit p (hit .EVT_CTL RD.EVT_CTL) w
  some (if F.EVT_CTL_CLR_CNT.hit w then
    d1.zero [F.EVT_CNT_LOST, F.EVT_CNT_UNARCHIVED, F.EVT_CNT2_SUPPRESSED, F.EVT_STS_QMAX] else d1)

/-- EVT_CLR_CNT (R797): clears `EVT_CNT`, `EVT_CNT2` and `QMAX`. -/
def execEvtClrCnt (p : Path) (w : Nat) (s : State) : Out :=
  let w1 := withBits w 0 1 1
  .next (s.onDev (fun d => d.write p (hit .EVT_CTL RD.EVT_CTL) w1 (Dev.actEvtCtl p w1)))

end Sys2Proof.Machine
end

