-- ==== Sys2Proof/Machine/Streams.lean ====
section
/-! DEFINITION. Shared operations over streams, gain banks, protection causes, slice processors and the wake ladder's queue. -/

namespace Sys2Proof.Machine

/-- One port stream's datapath state. -/
def Dev.stream (d : Dev) (m : Nat) : Stream := tabGet {} d.streams m

/-- A stream's output is invalid (R48, R49, R368). -/
def Dev.streamBad (d : Dev) (m : Nat) : Bool := (d.stream m).invalid || (d.stream m).fill != 0

/-- Replaces one port stream's datapath state. -/
def Dev.setStream (d : Dev) (m : Nat) (x : Stream) : Dev := { d with streams := tabSet {} d.streams m x }

/-- A tile loop's state beside its context. -/
def Dev.tile (d : Dev) (id : Nat) : TileX := tabGet {} d.eng.tiles id

/-- Samples of the frame grid so far (R177). -/
def Dev.gridNow (d : Dev) : Nat := d.now - d.lnk.grid

/-- Samples since the last TDL frame boundary (R177). -/
def Dev.sinceFrame (d : Dev) : Nat := d.gridNow % 256

/-- The number of the next tile sample that the gain stages of a donor slice take (R340, R438): each takes its tile sample 4 slice
samples after the analysis. -/
def Dev.gainNo (d : Dev) (n : Nat) : Nat :=
  let u := 2 ^ (d.donor n).rate
  (d.gridNow + 124 * u) / (128 * u)

/-- What the datapath holds of a stream. -/
def Dev.ps (d : Dev) (m : Nat) : PlaneStream := tabGet {} d.plane.streams m

/-- Replaces what the datapath holds of a stream. -/
def Dev.setPs (d : Dev) (m : Nat) (x : PlaneStream) : Dev :=
  { d with plane := { d.plane with streams := tabSet {} d.plane.streams m x } }

/-- TDL frames for which a flagged tile sample keeps a stream invalid after its own frame (R194, R372). -/
def Dev.bankFrames (d : Dev) (n : Nat) : Nat := if (d.donor n).sharp then 4 else 2

/-- The filter banks of a takeover's streams have filled (step 4 of R368): 2 TDL frames since its placement, or 4 where one of them is in
sharp mode. -/
def Dev.banksFilled (d : Dev) (t : Takeover) : Bool :=
  decide (256 * t.streams.foldl (fun a m => max a (d.bankFrames (d.dsliceOf m))) 2 ≤ d.now - t.placedAt)

/-- A stream is invalid for at least `k` more TDL frames. -/
def Dev.fillTo (d : Dev) (m k : Nat) : Dev := d.setStream m { d.stream m with fill := max k (d.stream m).fill }

/-- Replaces a tile loop's state beside its context. -/
def Dev.setTile (d : Dev) (id : Nat) (x : TileX) : Dev :=
  { d with eng := { d.eng with tiles := tabSet {} d.eng.tiles id x } }

/-- Reads one gain of the pending bank (R346). -/
def Dev.pend (d : Dev) (m t : Nat) : Nat :=
  if t % 2 = 0 then d.rd F.TIL_PEND_G_LO (128 * m + t / 2) else d.rd F.TIL_PEND_G_HI (128 * m + t / 2)

/-- Reads one gain of the active bank (R346). -/
def Dev.act (d : Dev) (m t : Nat) : Nat :=
  if t % 2 = 0 then d.rd F.TIL_ACT_G_LO (128 * m + t / 2) else d.rd F.TIL_ACT_G_HI (128 * m + t / 2)

/-- Writes one gain of the pending bank. -/
def Dev.setPend (d : Dev) (m t g : Nat) : Dev :=
  if t % 2 = 0 then d.wr F.TIL_PEND_G_LO g (128 * m + t / 2) else d.wr F.TIL_PEND_G_HI g (128 * m + t / 2)

/-- Writes one gain of the active bank. -/
def Dev.setAct (d : Dev) (m t g : Nat) : Dev :=
  if t % 2 = 0 then d.wr F.TIL_ACT_G_LO g (128 * m + t / 2) else d.wr F.TIL_ACT_G_HI g (128 * m + t / 2)

/-- A written gain lies outside the range of R22 and is no mute. -/
def gainOut (g : Nat) : Bool :=
  g % 65536 != 0x8000 && (decide (toSigned 16 g < -24576) || decide (6144 < toSigned 16 g))

/-- A written gain is replaced by the nearer limit where it lies outside the range (R23). -/
def gainFit (g : Nat) : Nat :=
  if g % 65536 = 0x8000 then 0x8000 else ofSigned 16 (clampInt (-24576) 6144 (toSigned 16 g))

/-- A gain as a number of 1/256 dB, a mute as −96 dB (R350). -/
def gainDb (g : Nat) : Int := if g = 0x8000 then -24576 else toSigned 16 g

/-- The applied gain at fade step `k` of 16 between two gains (R350), rounded to nearest. -/
def fadeGain (old new k : Nat) : Nat :=
  if 16 ≤ k then new
  else ofSigned 16 (gainDb old + divNear ((gainDb new - gainDb old) * k) 16)

/-- Makes a stream's pending bank active (R348, R350); a stream that emits invalid blocks takes it without a fade
(R352). -/
def Dev.swapBank (d : Dev) (m : Nat) : Dev :=
  let ch := (upTo 256).filter (fun t => d.act m t != d.pend m t)
  let d1 := d.each ch (fun x t => x.setAct m t (d.pend m t))
  let d2 := d1.wr F.TIL_STREAM_ACTIVE_BANK (d.rd F.TIL_STREAM_ACTIVE_BANK m + 1) m
  if ch.isEmpty || d.streamBad m then d2
  else
    (d2.setStream m { d2.stream m with fadeFrom := ch.foldl (fun f t => tabPut f t (d.act m t)) []
                                       fadeAt := d.gainNo (d.donorOf m) }).wr
      F.TIL_STREAM_FADING 1 m

/-- A commit is requested (R348, R351): at once, or deferred behind a running fade, or merged with one that waits. -/
def Dev.commit (d : Dev) (m : Nat) : Dev :=
  if !(d.has m) then d
  else if d.flag F.TIL_STREAM_FADING m then
    if d.flag F.TIL_STREAM_WAITING m then d.bump F.TIL_COMMIT_CNT_MERGED
    else (d.bump F.TIL_COMMIT_CNT_DEFERRED).wr F.TIL_STREAM_WAITING 1 m
  else d.swapBank m

/-- The cause bit is set for a stream (R564, R565): its mute is in force at once. -/
def Dev.setCause (d : Dev) (bit : Nat) (m : Nat) : Dev :=
  if !(d.has m) then d
  else (d.wr F.PRT_CAUSE_CAUSES (d.rd F.PRT_CAUSE_CAUSES m ||| 2 ^ bit) m).wr F.SLC_PROT_MUTE 1 m

/-- The cause bit clears for a stream; the mute itself ends at a tick commit (R565). -/
def Dev.clearCause (d : Dev) (bit : Nat) (m : Nat) : Dev :=
  d.wr F.PRT_CAUSE_CAUSES (d.rd F.PRT_CAUSE_CAUSES m - (d.rd F.PRT_CAUSE_CAUSES m &&& 2 ^ bit)) m

/-- A cause bit of a stream. -/
def Dev.cause (d : Dev) (bit m : Nat) : Bool := bitAt (d.rd F.PRT_CAUSE_CAUSES m) bit

/-- Every tile loop of a stream begins a soft-start at its next update (R506). -/
def Dev.softStart (d : Dev) (m : Nat) : Dev :=
  d.each (upTo 256) (fun x t => x.setTile (256 * m + t) { x.tile (256 * m + t) with start := true })

/-- At a tick commit, a stream whose causes have all cleared unmutes and its tiles soft-start (R565). -/
def Dev.muteRelease (d : Dev) (m : Nat) : Dev :=
  if d.flag F.SLC_PROT_MUTE m && d.rd F.PRT_CAUSE_CAUSES m == 0 then
    ((d.wr F.SLC_PROT_MUTE 0 m).softStart m).wr F.PRT_LAST_KIND 9 |>.wr F.PRT_LAST_STREAM m
  else d

/-- Asks the wake ladder for a wake or a gate; a request for a domain already queued merges, and the last kind asked
stands (R732, R733). The small configuration leaves link die 1 off (R5). -/
def Dev.ladderAsk (d : Dev) (wake : Bool) (n : Nat) : Dev :=
  if wake && d.mld.config == 2 && decide (78 ≤ n) then d
  else if d.pwr.queue.any (fun q => q.1 == n) then
    ({ d with pwr := { d.pwr with queue := d.pwr.queue.map (fun (q : Nat × Bool) => if q.1 = n then (n, wake) else q) } }).bump
      F.PWR_LADDER_CNT_MERGED
  else if wake && d.domOn n then d
  else if wake && d.rd F.PWR_DOM_STATE n == 2 then
    { d with pwr := { d.pwr with gateAfter := d.pwr.gateAfter.filter (fun k => k != n) } }
  else if !wake && d.rd F.PWR_DOM_STATE n == 2 then
    { d with pwr := { d.pwr with gateAfter := d.pwr.gateAfter ++ [n] } }
  else if !wake && !(d.domOn n) then d
  else if wake && d.rd F.PWR_DOM_STATE n == 5 then d
  else ({ d with pwr := { d.pwr with queue := d.pwr.queue ++ [(n, wake)] } }).wr F.PWR_DOM_STATE 1 n

/-- An urgent wake goes to the head of the ladder (R734). -/
def Dev.urgentWake (d : Dev) (n : Nat) : Dev :=
  if d.domOn n then d
  else
    (({ d with pwr := { d.pwr with queue := (n, true) :: d.pwr.queue.filter (fun q => q.1 != n) } }).wr
      F.PWR_DOM_STATE 1 n).bump F.PWR_LADDER_CNT_URGENT

end Sys2Proof.Machine
end

