-- ==== Sys2Proof/Machine/Paths.lean ====
section
/-! DEFINITION. Delays, uplink alignment and effective isolation (R340, R356 to R359, R456, R457). Delays are in 1/16 sample. -/

namespace Sys2Proof.Machine

/-- The lane that carries a port: lane k, or lane k + 64 while a pair selects it. -/
def Dev.laneOf (d : Dev) (p : Nat) : Nat := if p < 64 ∧ d.flag F.LNK_PROT_STS_SELECTED p then p + 64 else p

/-- The rate code's scale of the delays of a donor slice (R341). -/
def Dev.scale (d : Dev) (n : Nat) : Nat := 2 ^ (d.donor n).rate

/-- Transit latency of a donor slice at zero added alignment (R340). -/
def Dev.transit (d : Dev) (n : Nat) : Nat := 16 * (if (d.donor n).sharp then 787 else 356) * d.scale n

/-- The adopted round trip of a port (R220). -/
def Dev.rtd (d : Dev) (p : Nat) : Int := d.rd F.LNK_RTD_VALUE (d.laneOf p)

/-- The downlink one-way delay of a port (R220). -/
def Dev.owd (d : Dev) (p : Nat) : Int := d.rdS F.LNK_OWD_VALUE (d.laneOf p)

/-- The tick in force of a donor slice, in samples (R521). -/
def Dev.tickLen (d : Dev) (n : Nat) : Nat := (d.orb (d.donor n).orbit).base * 2 ^ d.rd F.CE_SLICE_TICK_MULT_EFF n

/-- The uplink one-way delay of lane `n` of port `p` (R220). -/
def Dev.laneUl (d : Dev) (p n : Nat) : Int :=
  d.rd F.LNK_RTD_VALUE n - d.rd F.LNK_REM_LAT_DL_LAT p - d.rd F.LNK_REM_LAT_UL_LAT p - d.rdS F.LNK_OWD_VALUE n

/-- The uplink one-way delay of a port (R220); a pair's uplink is aligned to the later lane, but a skewed pair uses one lane only
(R228). -/
def Dev.owdUl (d : Dev) (p : Nat) : Int :=
  if d.paired p && d.flag F.LNK_RTD_VALID p && d.flag F.LNK_RTD_VALID (p + 64) && !(d.flag F.LNK_PROT_STS_PAIR_SKEW p) then
    max (d.laneUl p p) (d.laneUl p (p + 64))
  else d.laneUl p (d.laneOf p)

/-- The lead of a gain commit of a donor slice's uplink or downlink in 1/16 sample (R342): an uplink one executes early, a downlink one
late. -/
def Dev.tileLead (d : Dev) (n : Nat) (up : Bool) : Int :=
  let sharp := (d.donor n).sharp
  if up then (d.rd F.DON_PATH_TX_PATH n + (if sharp then 6264 else 2816) * d.scale n : Nat)
  else -((d.rd F.DON_PATH_RX_PATH n + (if sharp then 6200 else 2752) * d.scale n : Nat) : Int)

/-- The lead of a gain commit of a port stream. -/
def Dev.commitLead (d : Dev) (m : Nat) : Int := d.tileLead (d.donorOf m) (dirOf m == 1)

/-- The station path p of R296 and R298, in whole samples. -/
def Dev.stnPath (d : Dev) (t : Nat) : Nat := (divNear (d.rd F.FES_PATH_PATH t) 16).toNat

/-- The nominal delay of a cell of port stream `m` (R456). -/
def Dev.nominal (d : Dev) (m : Nat) : Int :=
  let n := d.donorOf m
  let p := portOf m
  if dirOf m = 0 then
    d.transit n - 64 * d.scale n + d.owd p + d.rd F.LNK_REM_LAT_DL_LAT p + d.rd F.DON_PATH_RX_PATH n
  else d.transit n - 192 * d.scale n + d.rd F.DON_PATH_TX_PATH n + d.rd F.LNK_REM_LAT_UL_LAT p + d.owdUl p

/-- A cell lies beyond the 24 µs that correlators and branches cover (R456). -/
def Dev.isFar (d : Dev) (m : Nat) : Bool := d.nominal m < 0 || 47185 < d.nominal m

/-- The loop delay of a port stream that the slow tail watch uses (R574). -/
def Dev.loopDelay (d : Dev) (m : Nat) : Int :=
  let n := d.donorOf m
  d.nominal m + (if dirOf m = 0 then 64 * d.scale n else 192 * d.scale n + d.rd F.SLC_UL_ADD m : Nat)

/-- `UL_LAT` + OWD_ul of an uplink port slice (R356). -/
def Dev.ulSum (d : Dev) (m : Nat) : Int := d.rd F.LNK_REM_LAT_UL_LAT (portOf m) + d.owdUl (portOf m)

/-- Uplink port streams of a donor slice whose port is in *ACTIVE*. -/
def Dev.ulActive (d : Dev) (n : Nat) : List Nat :=
  (d.streamsOf n).filter (fun m => dirOf m == 1 && d.portActive (portOf m))

/-- The largest `UL_LAT` + OWD_ul of a donor slice's port slices in *ACTIVE* (R356). -/
def Dev.ulLargest (d : Dev) (n : Nat) : Int := (d.ulActive n).foldl (fun a m => max a (d.ulSum m)) 0

/-- An added alignment comes into force (R356, R357): outside 0 to 24 µs the port slice leaves the sum and a record is
written. -/
def Dev.setAdd (d : Dev) (m : Nat) (a : Int) : Dev :=
  let out := decide (a < 0) || decide (47185 < a)
  let was := d.flag F.SLC_UL_RANGE m
  let d1 := ((d.wr F.SLC_UL_ADD (clampInt 0 65535 a).toNat m).wr F.SLC_UL_VALID 1 m).wr F.SLC_UL_RANGE (b2n out) m
  if out && !was then d1.raise 0xA4 m (ofSigned 32 a) else d1

/-- The alignment of a donor slice's uplink follows its target (R356, R359): a first value acts at once, a changed one
waits for the next tick commit. -/
def Dev.realignTo (d : Dev) (n : Nat) (t : Int) : Dev :=
  let d1 := d.wr F.SLC_ALIGN_CUR_CURRENT t.toNat n
  d1.each (d1.ulActive n) (fun x m =>
    let a := t - x.ulSum m
    if !(x.flag F.SLC_UL_VALID m) then x.setAdd m a
    else if (x.rd F.SLC_UL_ADD m : Int) = a then x.setStream m { x.stream m with newAdd := none }
    else x.setStream m { x.stream m with newAdd := some a })

/-- The target in force rises with the largest delay in `AUTO`, and is the written one in `FIXED` (R356). -/
def Dev.alignRefresh (d : Dev) (n : Nat) : Dev :=
  if d.flag F.SLC_DSLICE_ALIGN_MODE n then d.realignTo n (d.rd F.SLC_ALIGN_TGT_TARGET n)
  else d.realignTo n (max (d.rd F.SLC_ALIGN_CUR_CURRENT n : Int) (d.ulLargest n))

/-- `REALIGN` (R356): the `AUTO` target becomes the current largest; nothing while no port slice is in *ACTIVE*. -/
def Dev.realign (d : Dev) (n : Nat) : Dev :=
  if d.flag F.SLC_DSLICE_ALIGN_MODE n || (d.ulActive n).isEmpty then d else d.realignTo n (d.ulLargest n)

/-- A changed alignment takes effect at a tick commit (R359). -/
def Dev.alignCommit (d : Dev) (m : Nat) : Dev :=
  match (d.stream m).newAdd with
  | none => d
  | some a => (d.setAdd m a).setStream m { d.stream m with newAdd := none, oldAdd := d.rd F.SLC_UL_ADD m, addAt := d.gainNo (d.donorOf m) }

/-- The isolation that the map publishes for a cell (R449, R459). -/
def Dev.isoCode (d : Dev) (m t : Nat) : Nat :=
  if dirOf m = 0 then d.rd F.ISO_MAP_DL_ISO (portOf m) (d.donorOf m) t
  else d.rd F.ISO_MAP_UL_ISO (portOf m) (d.donorOf m) t

/-- The cell is trusted (R447). -/
def Dev.trusted (d : Dev) (m t : Nat) : Bool :=
  if dirOf m = 0 then d.flag F.ISO_MAP_DL_TRUSTED (portOf m) (d.donorOf m) t
  else d.flag F.ISO_MAP_UL_TRUSTED (portOf m) (d.donorOf m) t

/-- The depth of the `LOCKED` branch that names the cell's port, in 0.5 dB (R457). -/
def Dev.lockedDepth (d : Dev) (m t : Nat) : Nat :=
  let n := d.donorOf m
  match firstBelow 4 (fun b => d.rd F.ISO_BRANCH_STATE n t b == 2 && d.rd F.ISO_BRANCH_PORT n t b == portOf m) with
  | some b => d.rd F.ISO_BRANCH_CANC n t b
  | none => 0

/-- Effective isolation of a cell in 1/256 dB (R457); a cell without an estimate reads as −128 dB (R449). -/
def Dev.effIso (d : Dev) (m t : Nat) : Int :=
  let tr := d.trusted m t
  dbOf (d.isoCode m t) + (if tr && dirOf m == 0 then 128 * d.lockedDepth m t else 0 : Nat) -
    (if tr then 0 else 64 * d.rd F.ISO_HOLD_CFG_UNTRUST_PEN : Nat)

/-- A stream passes no signal of its own: under a protection mute, a survey or a survey verdict (R436, R465). -/
def Dev.silent (d : Dev) (m : Nat) : Bool :=
  d.flag F.SLC_PROT_MUTE m || d.underSurvey m ||
    !(d.rd F.ISO_PS_VERDICT m == 1 || d.rd F.ISO_PS_VERDICT m == 2 || d.rd F.ISO_PS_VERDICT m == 6)

end Sys2Proof.Machine
end

