-- ==== Sys2Proof/Machine/Isolation.lean ====
section
/-! DEFINITION. Leakage estimation, signature weave, echo cancellers and the blocking survey (chapter 07). -/

namespace Sys2Proof.Machine

/-- The index of a stream's cell in the isolation map. -/
def Dev.cellAt (d : Dev) (m : Nat) : Nat × Nat := (portOf m, d.donorOf m)

/-- The estimator of a cell, by tile identifier. -/
def Dev.cell (d : Dev) (m t : Nat) : Cell := tabGet {} d.iso.cells (256 * m + t)

/-- The confidence count of a cell. -/
def Dev.conf (d : Dev) (m t : Nat) : Nat :=
  let c := d.cellAt m
  if dirOf m = 0 then d.rd F.ISO_MAP_DL_CONF c.1 c.2 t else d.rd F.ISO_MAP_UL_CONF c.1 c.2 t

/-- The isolation that a cell publishes (R449). -/
def published (c : Cell) (trusted : Bool) : Nat :=
  match c.run, c.seed with
  | none, none => 0x8000
  | none, some s => dbCode (some s)
  | some r, none => dbCode (some r)
  | some r, some s => if trusted then dbCode (some r) else dbCode (some (min r s))

/-- Writes one field of a cell's map word in the direction of its stream. -/
def Dev.wrCell (d : Dev) (dl ul : Fld) (v m t : Nat) : Dev :=
  let c := d.cellAt m
  if dirOf m = 0 then d.wr dl v c.1 c.2 t else d.wr ul v c.1 c.2 t

/-- The counted depth that the map shows follows the cell's branch and trust (R457, R459). -/
def Dev.showDepth (d : Dev) (m t : Nat) : Dev :=
  if dirOf m = 0 then
    d.wr F.ISO_MAP_DL_CANC (if d.trusted m t then d.lockedDepth m t else 0) (portOf m) (d.donorOf m) t
  else d

/-- `TRUST_COUNT`; 0 acts as 1 (R473). -/
def Dev.trustCount (d : Dev) : Nat := max 1 (d.rd F.ISO_EST_CFG_TRUST_COUNT)

/-- A cell takes an estimate, a confidence and its `LIMIT` flag, and the map follows (R447, R449). -/
def Dev.setCell (d : Dev) (m t : Nat) (c : Cell) (conf : Nat) (limit : Bool) : Dev :=
  let tr := decide (d.trustCount ≤ conf)
  let d1 := { d with iso := { d.iso with cells := tabSet {} d.iso.cells (256 * m + t) c } }
  ((((d1.wrCell F.ISO_MAP_DL_CONF F.ISO_MAP_UL_CONF conf m t).wrCell F.ISO_MAP_DL_TRUSTED F.ISO_MAP_UL_TRUSTED
    (b2n tr) m t).wrCell F.ISO_MAP_DL_LIMIT F.ISO_MAP_UL_LIMIT (b2n limit) m t).wrCell F.ISO_MAP_DL_ISO F.ISO_MAP_UL_ISO
    (published c tr) m t).showDepth m t

/-- The `LIMIT` flag of a cell. -/
def Dev.limited (d : Dev) (m t : Nat) : Bool :=
  let c := d.cellAt m
  if dirOf m = 0 then d.flag F.ISO_MAP_DL_LIMIT c.1 c.2 t else d.flag F.ISO_MAP_UL_LIMIT c.1 c.2 t

/-- A cell's confidence falls to zero (R470, R573). -/
def Dev.forgetCell (d : Dev) (m t : Nat) : Dev :=
  if d.conf m t = 0 then d else d.setCell m t (d.cell m t) 0 (d.limited m t)

/-- Every cell of a stream loses its confidence (R573). -/
def Dev.forgetCells (d : Dev) (m : Nat) : Dev := d.each (upTo 256) (fun x t => x.forgetCell m t)

/-- Marks every cell of a stream as outside the delay coverage, or back within it (R443, R456). -/
def Dev.setFar (d : Dev) (m : Nat) (far : Bool) : Dev :=
  let c := d.cellAt m
  let was := if dirOf m = 0 then d.flag F.ISO_MAP_DL_FAR c.1 c.2 0 else d.flag F.ISO_MAP_UL_FAR c.1 c.2 0
  if was = far then d
  else
    let d1 := d.each (upTo 256) (fun x t => x.wrCell F.ISO_MAP_DL_FAR F.ISO_MAP_UL_FAR (b2n far) m t)
    if far then d1.bumpBy 256 F.ISO_CNT_FAR else d1

/-- The cells of a stream are marked `FAR`. -/
def Dev.far (d : Dev) (m : Nat) : Bool :=
  let c := d.cellAt m
  if dirOf m = 0 then d.flag F.ISO_MAP_DL_FAR c.1 c.2 0 else d.flag F.ISO_MAP_UL_FAR c.1 c.2 0

/-- The canceller branch of a donor tile that names a port, if any. -/
def Dev.branchOf (d : Dev) (n t p : Nat) : Option Nat :=
  firstBelow 4 (fun b => d.rd F.ISO_BRANCH_STATE n t b != 0 && d.rd F.ISO_BRANCH_PORT n t b == p)

/-- A branch whose cell resets returns to `SEEDING` (R454). -/
def Dev.reseed (d : Dev) (m t : Nat) : Dev :=
  if dirOf m ≠ 0 then d
  else
    let n := d.donorOf m
    match d.branchOf n t (portOf m) with
    | some b => if d.rd F.ISO_BRANCH_STATE n t b = 2 then (d.wr F.ISO_BRANCH_STATE 1 n t b).showDepth m t else d
    | none => d

/-- A branch enters `RELEASING` (R455, R475). -/
def Dev.release (d : Dev) (n t b : Nat) : Dev :=
  let st := d.rd F.ISO_BRANCH_STATE n t b
  if st = 1 ∨ st = 2 then
    let k := (n * 256 + t) * 4 + b
    let d1 := ({ d with iso := { d.iso with releasedAt := tabPut d.iso.releasedAt k d.now, residuals := tabDel d.iso.residuals k } }).wr
      F.ISO_BRANCH_STATE 3 n t b
    match d1.streamAt 0 (d.rd F.ISO_BRANCH_PORT n t b) n with
    | some m => d1.showDepth m t
    | none => d1
  else d

/-- The key of a branch: (donor slice × 256 + tile) × 4 + branch. -/
def branchKey (n t b : Nat) : Nat := (n * 256 + t) * 4 + b

/-- Applies a change to every branch that is not `FREE`. -/
def Dev.eachBranch (d : Dev) (g : Dev → Nat → Nat → Nat → Dev) : Dev :=
  d.each (d.iso.branches.map (fun p => p.1)) (fun x k => g x (k / 1024) (k / 4 % 256) (k % 4))

/-- At a tick commit of a donor slice: new coefficients and delays act, and a branch whose cell is held releases
(R453, R455). -/
def Dev.branchCommit (d : Dev) (n : Nat) : Dev :=
  d.eachBranch (fun x i t b =>
    if i ≠ n then x
    else
      let k := branchKey i t b
      let br := tabGet {} x.iso.branches k
      let x1 := match br.next with
        | some (re, im, dl) => ({ x with iso := { x.iso with
            branches := tabPut x.iso.branches k { br with wRe := re, wIm := im, next := none } } }).wr
            F.ISO_BRANCH_DELAY dl i t b
        | none => x
      match x1.streamAt 0 (x1.rd F.ISO_BRANCH_PORT i t b) i with
      | some m => if x1.cellHeld m (x1.far m) then x1.release i t b else x1
      | none => x1.release i t b)

/-- The running estimate after a block (R447): the new estimate, confidence and `LIMIT`, and whether the path has
changed. `agree` and `jump` are in 1/256 dB. -/
def estimate (agree jump : Int) (shift conf : Nat) (limit : Bool) (run m : Int) (floor : Bool) :
    Int × Nat × Bool × Bool :=
  if !floor then
    if jump < absI (m - run) then (m, 0, false, true)
    else
      (run + shrNear (m - run) shift, (if absI (m - run) ≤ agree then min (conf + 1) 15 else conf), false, false)
  else if run < m - jump then (m, 0, true, false)
  else if m - agree ≤ run then
    let r := if limit then m else run
    (r, min (conf + 1) 15, decide (r ≤ m), false)
  else (run, conf, decide (run ≤ m), false)

/-- `AGREE` in 1/256 dB. -/
def Dev.agree (d : Dev) : Int := 16 * d.rd F.ISO_EST_CFG_AGREE

/-- `JUMP` in 1/256 dB. -/
def Dev.jump (d : Dev) : Int := 64 * d.rd F.ISO_EST_CFG_JUMP

/-- A block of a cell closes outside a survey (R447). -/
def Dev.blockUpdate (d : Dev) (m t : Nat) (c : Cell) (v : Int) (floor : Bool) : Dev :=
  match c.run with
  | none => d.setCell m t { c with run := some v } 0 floor
  | some run =>
    let r := estimate d.agree d.jump (d.rd F.ISO_EST_CFG_EST_SHIFT) (d.conf m t) (d.limited m t) run v floor
    let d1 := if r.2.2.2 && d.trusted m t then (d.bump F.ISO_CNT_JUMPS).raise 0xC0 m t else d
    let d2 := d1.setCell m t { c with run := some r.1 } r.2.1 r.2.2.1
    if r.2.1 = 0 then d2.reseed m t else d2

/-- Replaces the survey of a donor slice. -/
def Dev.setSurvey (d : Dev) (n : Nat) (v : Survey) : Dev :=
  { d with iso := { d.iso with surveys := tabPut d.iso.surveys n v } }

/-- A block of a surveyed cell closes in a round of its direction, the cell's first in the round (R462). -/
def Dev.surveyBlock (d : Dev) (n m t : Nat) (sv : Survey) (v : Int) (floor : Bool) : Dev :=
  if (tabFind sv.blocks (256 * m + t)).isSome then d
  else d.setSurvey n { sv with blocks := tabPut sv.blocks (256 * m + t) (v, floor),
                               last := tabPut sv.last (256 * m + t) (v, floor) }

/-- The lag of a block whose estimate is the largest (R442), the first of equals: its place and sums. -/
def Corr.best (c : Corr) : Nat × Int × Int × Nat :=
  let size := fun (q : Nat × Int × Int × Nat) => q.2.1.natAbs ^ 2 + q.2.2.1.natAbs ^ 2
  ((upTo c.lags.length).zip c.lags).foldl (fun b q =>
    if size b * q.2.2.2 ^ 2 < size q * b.2.2.2 ^ 2 then q else b) (0, c.lags.headD (0, 0, 0))

/-- The result of a block (R445). `sin` is sin θ in units of 2^-40, 1 for an uplink cell and in a survey round (R444, R461), and
`centre` the nominal delay; the lags lie half a tile sample of scale `u` apart. Detected when s, the ratio of a N / (2 P_y) to
1 / |z|², reaches `thr`; else a floor where the block has `ended`. -/
def Corr.result (c : Corr) (sin : Nat) (thr centre : Int) (u : Nat) (ended : Bool) : Option BlockOut :=
  let b := c.best
  let z := dbRatio (sin ^ 2 * b.2.2.2 ^ 2) (2 ^ 80 * (b.2.1.natAbs ^ 2 + b.2.2.1.natAbs ^ 2))
  let w := dbRatio (sin ^ 2 * b.2.2.2 * c.used) (2 ^ 81 * c.y2)
  let unit := max 1 (sin * b.2.2.2)
  let o : BlockOut := { re := divNear (b.2.2.1 * (2 ^ 64 : Nat)) unit, im := divNear (-b.2.1 * (2 ^ 64 : Nat)) unit
                        lag := (centre + 1024 * u * ((b.1 : Int) - 1)).toNat }
  if thr ≤ w - z then some { o with level := z } else if ended then some { o with level := w - thr, floor := true } else none

/-- `DET_THR` in 1/256 dB. -/
def Dev.detThr (d : Dev) : Int := 64 * d.rd F.ISO_EST_CFG_DET_THR

/-- sin θ of the correlator of a cell, in units of 2^-40 (R439, R442, R444, R461). -/
def Dev.corrSin (d : Dev) (m : Nat) : Nat :=
  if dirOf m = 1 ∨ (d.inRound m).isSome then 2 ^ 40 else dbAmp (256 * ((d.weave (d.donorOf m)).depth : Int) - 12800)

/-- The correlator of a cell. -/
def Dev.corr (d : Dev) (m t : Nat) : Corr := tabGet {} d.iso.corrs (256 * m + t)

/-- Replaces the correlator of a cell. -/
def Dev.setCorr (d : Dev) (m t : Nat) (c : Corr) : Dev :=
  { d with iso := { d.iso with corrs := tabSet {} d.iso.corrs (256 * m + t) c } }

/-- The blocks of a stream's cells that are under way are discarded (R448). -/
def Dev.dropBlocks (d : Dev) (m : Nat) : Dev :=
  { d with iso := { d.iso with corrs := d.iso.corrs.filter (fun q => q.1 / 256 != m) } }

/-- ISO_BLOCK_CLOSE (R442 to R447): the block of tile `t` of port stream `m` that has closed at a code period boundary is taken: by the
survey in a round, else by the estimator. -/
def Dev.isoBlock (m t : Nat) (d : Dev) : Dev :=
  let c := d.corr m t
  match c.done with
  | none => d
  | some o =>
    let d1 := d.setCorr m t { c with done := none }
    if !(d.has m) || d.far m then d1
    else
      match d.inRound m with
      | some sv => d1.surveyBlock (d.donorOf m) m t sv o.level o.floor
      | none =>
        if d.cellHeld m false then d1
        else d1.blockUpdate m t { d.cell m t with zRe := o.re, zIm := o.im, lag := o.lag } o.level o.floor

/-- ISO_BLOCK_CLOSE (R445). -/
def execIsoBlockClose (m t : Nat) (s : State) : Out :=
  unit m 2048 (unit t 256 (.next (s.onDev (Dev.isoBlock m t))))

/-- A move by one unit toward a value. -/
def toward (a b : Nat) : Nat := if a < b then a + 1 else if b < a then a - 1 else a

/-- CANC_BLOCK_CLOSE (R453, R454): the residual block of branch `b` of donor tile (`n`, `t`) that has closed is taken. -/
def Dev.cancBlock (n t b : Nat) (d : Dev) : Dev :=
  let st := d.rd F.ISO_BRANCH_STATE n t b
  let k := branchKey n t b
  let q := tabGet {} d.iso.residuals k
  match q.done, d.streamAt 0 (d.rd F.ISO_BRANCH_PORT n t b) n with
  | some o, some m =>
    let d0 : Dev := { d with iso := { d.iso with residuals := tabSet {} d.iso.residuals k { q with done := none } } }
    if st ≠ 1 ∧ st ≠ 2 then d0
    else
      let br := tabGet {} d.iso.branches k
      let sh := d.rd F.ISO_CANC_CFG_CANC_SHIFT
      let dl := d.rd F.ISO_BRANCH_DELAY n t b
      let br1 : Branch := { br with next := some (br.wRe + shrNear o.re sh, br.wIm + shrNear o.im sh, min 47185 (toward dl o.lag)) }
      let d1 : Dev := if o.floor then d0 else { d0 with iso := { d0.iso with branches := tabPut d0.iso.branches k br1 } }
      let c : Int := min (o.level - (d.cell m t).run.getD 0) (128 * min 63 (d.rd F.ISO_CANC_CFG_CANC_CAP) : Nat)
      let d2 := d1.wr F.ISO_BRANCH_CANC (if c < 0 then 0 else (c / 128).toNat) n t b
      (d2.wr F.ISO_BRANCH_STATE (if 768 ≤ c then 2 else 1) n t b).showDepth m t
  | _, _ => d

/-- CANC_BLOCK_CLOSE (R454). -/
def execCancBlockClose (n t b : Nat) (s : State) : Out :=
  unit n 16 (unit t 256 (unit b 4 (.next (s.onDev (Dev.cancBlock n t b)))))

/-- The per-path loop gain of a cell (R436): active gain less isolation; none for a muted tile. -/
def Dev.pathGain (d : Dev) (m t : Nat) : Option Int :=
  if d.act m t = 0x8000 ∨ d.silent m then none else some (toSigned 16 (d.act m t) - dbOf (d.isoCode m t))

/-- Downlink streams of a donor slice whose cell of tile `t` is trusted and detected and may hold a branch, with the
cell's loop gain (R451). -/
def Dev.branchWanted (d : Dev) (n t : Nat) : List (Nat × Int) :=
  ((d.streamsOf n).filter (fun m => dirOf m == 0 && d.trusted m t && !(d.limited m t) &&
    !(d.cellHeld m (d.far m)) && (d.branchOf n t (portOf m)).isNone)).filterMap
    (fun m => (d.pathGain m t).map (fun g => (m, g)))

/-- The entry with the largest number, the first of equals. -/
def topOf (l : List (Nat × Int)) : Option (Nat × Int) :=
  l.foldl (fun b p => match b with | none => some p | some q => if q.2 < p.2 then some p else some q) none

/-- The entry with the smallest number, the first of equals. -/
def lowOf (l : List (Nat × Int)) : Option (Nat × Int) :=
  l.foldl (fun b p => match b with | none => some p | some q => if p.2 < q.2 then some p else some q) none

/-- BRANCH_REASSIGN (R451, R453, R455): one branch of a donor tile is assigned, or loses its port to a stronger one. -/
def Dev.branchReassign (n t : Nat) (d : Dev) : Dev :=
  let k := n * 256 + t
  let early := match tabFind d.iso.changed k with
    | some c => decide (d.now - c < 122880000 * max 1 (d.rd F.ISO_CANC_CFG_REASSIGN))
    | none => false
  if !(d.flag F.ISO_CANC_CFG_EN) || early then d
  else
    match topOf (d.branchWanted n t) with
    | none => d
    | some (m, g) =>
      let mark := fun (x : Dev) => { x with iso := { x.iso with changed := tabPut x.iso.changed k x.now } }
      match firstBelow 4 (fun b => d.rd F.ISO_BRANCH_STATE n t b == 0) with
      | some b =>
        let c := d.cell m t
        mark ((((({ d with iso := { d.iso with
          branches := tabPut d.iso.branches (branchKey n t b) { wRe := 0, wIm := 0, next := some (c.zRe, c.zIm, min 47185 c.lag) } } }).wr F.ISO_BRANCH_STATE 1 n t b).wr
          F.ISO_BRANCH_PORT (portOf m) n t b).wr F.ISO_BRANCH_CANC 0 n t b).wr F.ISO_BRANCH_DELAY (min 47185 c.lag) n t b)
      | none =>
        let held := ((upTo 4).filter (fun b => d.rd F.ISO_BRANCH_STATE n t b != 3)).filterMap (fun b =>
          match d.streamAt 0 (d.rd F.ISO_BRANCH_PORT n t b) n with
          | some q => some (b, (d.pathGain q t).getD (-32768))
          | none => some (b, -32768))
        match lowOf held with
        | some (b, low) =>
          if held.length = 4 ∧ low + 256 * d.rd F.ISO_CANC_CFG_HYST < g then
            mark ((d.release n t b).bump F.ISO_CNT_REASSIGNS)
          else d
        | none => d

/-- BRANCH_REASSIGN (R451). -/
def execBranchReassign (n t : Nat) (s : State) : Out :=
  unit n 16 (unit t 256 (.next (s.onDev (Dev.branchReassign n t))))

/-- BRANCH_RELEASE_EXPIRY (R455): a branch has been `RELEASING` for `RELEASE_TICKS` ticks and becomes `FREE`. -/
def Dev.branchFree (n t b : Nat) (d : Dev) : Dev :=
  if d.rd F.ISO_BRANCH_STATE n t b ≠ 3 ∨
      d.now - tabGet 0 d.iso.releasedAt (branchKey n t b) < max 1 (d.rd F.ISO_CANC_CFG_RELEASE_TICKS) * d.tickLen n then d
  else
    let d1 := (((d.wr F.ISO_BRANCH_STATE 0 n t b).wr F.ISO_BRANCH_PORT 0 n t b).wr F.ISO_BRANCH_CANC 0 n t b).wr
      F.ISO_BRANCH_DELAY 0 n t b
    { d1 with iso := { d1.iso with branches := tabDel d1.iso.branches (branchKey n t b) } }

/-- BRANCH_RELEASE_EXPIRY (R455). -/
def execBranchReleaseExpiry (n t b : Nat) (s : State) : Out :=
  unit n 16 (unit t 256 (unit b 4 (.next (s.onDev (Dev.branchFree n t b)))))

/-- ISO_HOLD_LIMIT_EXPIRY (R448): a cell held for `HOLD_LIMIT` seconds loses its confidence. -/
def Dev.holdExpiry (m t : Nat) (d : Dev) : Dev :=
  match tabFind d.iso.heldAt m with
  | some c =>
    if d.has m && d.cellHeld m (d.far m) && decide (122880000 * max 1 (d.rd F.ISO_HOLD_CFG_HOLD_LIMIT) ≤ d.now - c) then
      d.forgetCell m t
    else d
  | none => d

/-- ISO_HOLD_LIMIT_EXPIRY (R448). -/
def execIsoHoldLimitExpiry (m t : Nat) (s : State) : Out :=
  unit m 2048 (unit t 256 (.next (s.onDev (Dev.holdExpiry m t))))

/-- The middle one of a list of numbers, the upper of two. -/
def medianOf (l : List Int) : Int := ((l.mergeSort (fun a b => decide (a ≤ b)))[l.length / 2]?).getD 0

/-- The usable window of a donor slice and the streams that weave in it (R443): streams furthest from the median delay
leave until the window is at least half a chip. -/
def weaveWindow (chip scale : Nat) : Nat → List (Nat × Int) → Nat × List Nat
  | 0, l => (chip / 2, l.map (fun p => p.1))
  | n + 1, l =>
    let ds := l.map (fun p => p.2)
    let hi := ds.foldl max (ds.headD 0)
    let lo := ds.foldl min (ds.headD 0)
    let spread := ((hi - lo).toNat + (2048 * scale - 1)) / (2048 * scale)
    if 2 * spread ≤ chip then (chip - spread, l.map (fun p => p.1))
    else
      let med := medianOf ds
      match topOf (l.map (fun p => (p.1, absI (p.2 - med)))) with
      | some (m, _) => weaveWindow chip scale n (l.filter (fun p => p.1 != m))
      | none => (chip, [])

/-- A survey of a donor slice has just ended (R468). -/
def Dev.surveyed (d : Dev) (n : Nat) : Dev := { d with iso := { d.iso with surveyedAt := tabPut d.iso.surveyedAt n d.now } }

/-- The re-survey of a donor slice ends: every trusted cell's seed takes its estimate (R468). -/
def Dev.resurveyEnd (d : Dev) (n : Nat) : Dev :=
  (d.surveyed n).each (d.streamsOf n) (fun x m => x.each (upTo 256) (fun x t =>
    let c := x.cell m t
    if x.trusted m t then x.setCell m t { c with seed := c.run } (x.conf m t) (x.limited m t) else x))

/-- Every cell of a donor slice is trusted. -/
def Dev.allCellsTrusted (d : Dev) (n : Nat) : Bool :=
  (d.streamsOf n).all (fun m => (upTo 256).all (fun t => d.trusted m t))

/-- Duty in force: the smaller of the set and the granted duty (R440, R478). -/
def Dev.duty (d : Dev) (n : Nat) : Nat := min (min 8 (d.rd F.ISO_WEAVE_DUTY_SET n)) (d.rd F.BGV_STS_DUTY_GRANT)

/-- The number of the code period of a donor slice that runs, by the tile samples of a chip (R438). -/
def Dev.codePeriod (d : Dev) (n chip : Nat) : Nat := d.gainNo n / (256 * chip)

/-- The weave of a donor slice at the boundary of a code period, once in each: the re-survey's count and end, depth, chip length, duty,
window and the ports that weave (R439, R440, R443, R468). -/
def Dev.weavePeriod (n : Nat) (d : Dev) : Dev :=
  let wv := d.weave n
  if wv.seen = some (d.codePeriod n (16 * 2 ^ wv.chip)) then d
  else
    let done := match wv.resurvey with
      | some k => decide (4 * max 1 (d.rd F.ISO_HOLD_CFG_BLOCK_MAX) ≤ k + 1) || d.allCellsTrusted n ||
          d.flag F.BGV_STS_DEFER
      | none => false
    let d0 := if done && !(d.flag F.BGV_STS_DEFER) then d.resurveyEnd n else d
    let rs := if done then none else wv.resurvey.map (fun k => k + 1)
    let chip := 16 * 2 ^ d.rd F.ISO_WEAVE_CHIP_LEN n
    let cand := (d.streamsOf n).filter (fun m => dirOf m == 0 && d.portActive (portOf m))
    let near := cand.filter (fun m => !(d.isFar m))
    let win := weaveWindow chip (d.scale n) 128 (near.map (fun m => (m, d.nominal m)))
    let d1 := d0.each (d.streamsOf n) (fun x m =>
      if dirOf m = 0 then (if cand.contains m then x.setFar m (!(win.2.contains m)) else x) else x.setFar m (x.isFar m))
    let per := (wv.period + 1) % 8
    let depth := if rs.isSome then d.rd F.ISO_RESURVEY_CFG_RESURVEY_DEPTH else d.rd F.ISO_WEAVE_DEPTH n
    let w1 : Weave := { on := !(d.weaveOff n) && decide (per < d.duty n), depth := min 16 depth,
                        chip := d.rd F.ISO_WEAVE_CHIP_LEN n, period := per, resurvey := rs,
                          seen := some (d.codePeriod n chip),
                          late := ((near.filter (fun m => win.2.contains m)).foldl (fun a m =>
                            max a (((d.nominal m).toNat + (2048 * d.scale n - 1)) / (2048 * d.scale n))) 0) }
    ({ d1 with iso := { d1.iso with weaves := tabSet {} d1.iso.weaves n w1 } }).wr F.ISO_WEAVE_DUTY_EFF (d.duty n) n |>.wr
      F.ISO_WEAVE_WIDTH win.1 n

/-- WEAVE_PERIOD_BOUNDARY (R439). -/
def execWeavePeriodBoundary (n : Nat) (s : State) : Out := unit n 16 (.next (s.onDev (Dev.weavePeriod n)))

/-- The operator set-point of a tile (R519), 0x8000 where the governor mutes its port slice (R745). -/
def Dev.opSet (d : Dev) (m t : Nat) : Nat :=
  if d.budgetMuted m then 0x8000
  else if t % 2 = 0 then d.rd F.CE_OPSET_O_LO (128 * m + t / 2) else d.rd F.CE_OPSET_O_HI (128 * m + t / 2)

/-- Starts surveys of the donor slices of a list of port streams; a stream whose donor slice is being surveyed waits
(R460). -/
def Dev.surveyStart (d : Dev) (l : List Nat) : Dev :=
  let l := l.filter (fun m => d.has m && decide (m < 2048))
  let ns := (l.map d.donorOf).eraseDups
  d.each ns (fun x n =>
    let ms := l.filter (fun m => x.donorOf m == n)
    match x.survey n with
    | some _ => { x with iso := { x.iso with waiting := x.iso.waiting ++ ms.filter (fun m => !(x.iso.waiting.contains m)) } }
    | none => x.setSurvey n { streams := ms })

/-- The port slices of a port, both directions. -/
def Dev.portStreamsOf (d : Dev) (p : Nat) : List Nat := d.portStreams.filter (fun m => portOf m == p)

/-- What identifies the full image and the deltas that a port slice lives under (R466). -/
def Dev.imageTag (d : Dev) (m : Nat) : Nat := d.iso.image + 2 ^ 256 * tabGet 0 d.iso.touched (sliceKey m)

/-- Streams whose own result still fits are reused (R466). -/
def Dev.reusable (d : Dev) (m : Nat) : Bool :=
  match tabFind d.iso.results (sliceKey m) with
  | none => false
  | some r =>
    let p := portOf m
    bitAt d.mld.flags 2 && decide (d.now - r.made < 600 * 122880000 * d.rd F.ISO_RESURVEY_CFG_REUSE_AGE) &&
      r.image == d.imageTag m && r.serialLo == d.rd F.LNK_REM_SER_LO_SERIAL_LO p &&
      r.serialHi == d.rd F.LNK_REM_SER_HI_SERIAL_HI p &&
      decide (absI (d.rtd p - r.rtd) ≤ 4 * max 1 (d.rd F.LNK_TIMING_RTD_WIN p : Int))

/-- A stream leaves the survey of its donor slice with a verdict (R463, R464, R467). -/
def Dev.surveyDrop (d : Dev) (n m v : Nat) : Dev :=
  match d.survey n with
  | some sv => (d.setSurvey n { sv with streams := sv.streams.filter (fun q => q != m) }).wr F.ISO_PS_VERDICT v m
  | none => d

/-- The surveyed streams of one direction. -/
def surveyDir (sv : Survey) (dir : Nat) : List Nat := sv.streams.filter (fun m => dirOf m == dir)

/-- The round gain of a tile (R462, R463); 0x8000 for a muted one. -/
def surveyGain (sv : Survey) (m t : Nat) : Nat := tabGet 0x8000 sv.gains (256 * m + t)

/-- Gains of a survey round go to the pending banks of the streams of one direction. -/
def Dev.surveyPend (d : Dev) (sv : Survey) (dir : Nat) : Dev :=
  d.each (surveyDir sv dir) (fun x m => x.each (upTo 256) (fun x t => x.setPend m t (surveyGain sv m t)))

/-- Round 0 of a direction: each surveyed tile at its set-point minus `BACKOFF` (R462). -/
def Dev.surveyRound0 (d : Dev) (n dir : Nat) (sv : Survey) : Dev :=
  let back : Int := 256 * d.rd F.ISO_SURVEY_CFG_BACKOFF
  let g := (surveyDir sv dir).foldl (fun g m => (upTo 256).foldl (fun g t =>
    let o := d.opSet m t
    if o = 0x8000 then g
    else tabSet 0x8000 g (256 * m + t) (ofSigned 16 (max (-24576) (toSigned 16 o - back)))) g) sv.gains
  let sv1 := { sv with step := if dir = 0 then 3 else 5, round := 0, since := d.now, capped := sv.capped, gains := g, blocks := [] }
  ((d.setSurvey n sv1).each (surveyDir sv dir) Dev.dropBlocks).surveyPend sv1 dir

/-- Stores the result of a surveyed port slice for later reuse (R466). -/
def Dev.surveyStore (d : Dev) (m : Nat) : Dev :=
  let p := portOf m
  let r : SurveyResult := { made := d.now, image := d.imageTag m, serialLo := d.rd F.LNK_REM_SER_LO_SERIAL_LO p,
                            serialHi := d.rd F.LNK_REM_SER_HI_SERIAL_HI p, rtd := (d.rtd p).toNat }
  { d with iso := { d.iso with results := tabPut d.iso.results (sliceKey m) r } }

/-- A stream that stayed in the survey to its end takes its verdict, seeds and release (R464, R465). -/
def Dev.surveyRelease (d : Dev) (sv : Survey) (m : Nat) : Dev :=
  let rounds := if dirOf m = 0 then sv.roundsDl else sv.roundsUl
  let caps := (sv.capped.filter (fun k => k / 256 == m)).length
  if 2 * tabGet 0 sv.good m < rounds then d.wr F.ISO_PS_VERDICT 4 m
  else
    let d1 := d.each (upTo 256) (fun x t =>
      match tabFind sv.last (256 * m + t) with
      | some (v, fl) => x.setCell m t { x.cell m t with run := some v, seed := some v } 0 fl
      | none => x)
    let d2 := d1.each (upTo 256) (fun x t =>
      x.setTile (256 * m + t) { x.tile (256 * m + t) with start := true, startFrom := some (surveyGain sv m t) })
    ((d2.wr F.ISO_PS_VERDICT (if caps = 0 then 1 else 2) m).wr F.ISO_PS_CAPPED caps m).surveyStore m

/-- The survey of a donor slice waits for its orbit to lock (R69). -/
def Dev.waitsOrbit (d : Dev) (q : Nat × Survey) : Bool :=
  q.2.step == 0 && d.rd F.ORB_STS_STATE (d.donor q.1).orbit != 2

/-- A delta whose streams are rebuilt and whose surveys have ended is done (R77, R87). -/
def Dev.deltaSettle (d : Dev) : Dev :=
  match d.mld.delta with
  | none => d
  | some x =>
    if x.built && d.mld.migs.isEmpty && d.iso.surveys.all (fun q => q.2.streams.all (fun m => !(x.build.contains m))) &&
        x.build.all (fun m => !(d.iso.waiting.contains m)) then
      (({ d with mld := { d.mld with delta := none } }).wr F.MLD_REMOULD_STS_PHASE 0).wr F.MLD_REMOULD_STS_STREAMS_PENDING 0
    else d

/-- In *SURVEY* the controller enters *SERVICE* once no survey runs that could (R66, R69); a delta may be done. -/
def Dev.surveysOver (d : Dev) : Dev :=
  (if d.boot == 7 && d.iso.surveys.all d.waitsOrbit then d.setBoot 8 else d).deltaSettle

/-- The surveys of a donor slice that wait start: every waiting stream, or else the next port slice of a probe
re-survey (R468). -/
def Dev.surveyNext (d : Dev) (n : Nat) : Dev :=
  let w := d.iso.waiting.filter (fun m => d.donorOf m == n)
  let one := if w.isEmpty then (d.iso.oneByOne.filter (fun m => d.donorOf m == n)).take 1 else []
  let i : Isolation := { d.iso with
    waiting := d.iso.waiting.filter (fun m => d.donorOf m != n)
    oneByOne := d.iso.oneByOne.filter (fun m => !(one.contains m)) }
  ({ d with iso := i }).surveyStart (w ++ one.flatMap (fun m => [m, m + 8]))

/-- No survey runs on the donor slice any more. -/
def Dev.surveyDiscard (d : Dev) (n : Nat) : Dev := { d with iso := { d.iso with surveys := tabDel d.iso.surveys n } }

/-- The survey of a donor slice ends (step 8 of R462): verdicts, seeds and the record; a waiting survey starts. -/
def Dev.surveyFinish (d : Dev) (n : Nat) : Dev :=
  match d.survey n with
  | none => d
  | some sv =>
    (((((((d.each sv.streams (fun x m => x.surveyRelease sv m)).surveyDiscard n).surveyed n).bump F.ISO_CNT_SURVEYS).raise
      0xC1 n).surveyNext n).surveysOver)

/-- The survey may start or start again: link in *DATA*, orbit *LOCKED* for a TDD slice, SAFE_N high, no clock failure
(R467). -/
def Dev.surveyAllowed (d : Dev) (n : Nat) : Bool :=
  d.donorLinkUp n && (!(d.donor n).tdd || d.rd F.ORB_STS_STATE (d.donor n).orbit == 2) &&
    !(d.flag F.FES_SAFE_STS_SAFE_N) && !(d.flag F.CLK_STS_SAFE)

/-- Step 1 of R462 at a tick commit: streams mute, reusable port slices are reused, `FAR` ones are `BLOCKED`; between the
directions, uplink round 0 begins (step 6). -/
def Dev.surveyCommit (d : Dev) (n : Nat) : Dev :=
  match d.survey n with
  | none => d
  | some sv =>
    if sv.step ≤ 1 then
      if sv.step = 0 ∧ !(d.surveyAllowed n) then d
      else
        let d1 := d.setSurvey n { sv with step := 2, since := d.now, acc := [] }
        let d2 := d1.each sv.streams (fun x m =>
          if x.reusable m then
            ((x.surveyDrop n m 6).forgetCells m).softStart m
          else if x.isFar m then (x.setFar m true).surveyDrop n m 3
          else if !(x.portActive (portOf m)) then x.surveyDrop n m 4
          else x.setFar m false)
        if ((d2.survey n).map (fun v => v.streams.isEmpty)).getD true then d2.surveyFinish n else d2
    else if sv.step = 4 then
      if (surveyDir sv 1).isEmpty then d.surveyFinish n else d.surveyRound0 n 1 sv
    else d

/-- SURVEY_PREP_END (R461, R462): the probe's level of each tile, and downlink round 0. -/
def Dev.surveyPrepEnd (n : Nat) (d : Dev) : Dev :=
  match d.survey n with
  | none => d
  | some sv =>
    if sv.step ≠ 2 ∨ d.now - sv.since < 122880000 * max 1 (d.rd F.ISO_SURVEY_CFG_PREP) then d
    else
      let probe := (upTo 256).map (fun t =>
        let a := tabGet (0, 0) sv.acc t
        (t, clampInt (-15360) (-2560) (if a.2 = 0 then -15360 else (dbLog (a.1 / a.2)).getD (-15360))))
      let sv1 := { sv with probe := probe }
      if (surveyDir sv 0).isEmpty then d.setSurvey n { sv1 with step := 4 } else d.surveyRound0 n 0 sv1

/-- SURVEY_PREP_END (R462). -/
def execSurveyPrepEnd (n : Nat) (s : State) : Out := unit n 16 (.next (s.onDev (Dev.surveyPrepEnd n)))

/-- The loop gain of a surveyed cell in a round (R463). -/
def surveyL (sv : Survey) (m t : Nat) : Option Int :=
  match tabFind sv.blocks (256 * m + t) with
  | some (v, _) => if surveyGain sv m t = 0x8000 then none else some (toSigned 16 (surveyGain sv m t) - v)
  | none => none

/-- Λ of donor tile (n, t) in a round: surveyed streams by their blocks, streams in service by effective isolation
(R463). -/
def Dev.surveyLambda (d : Dev) (n dir t : Nat) (sv : Survey) : Int :=
  let own := (surveyDir sv dir).filterMap (fun m => surveyL sv m t)
  let rest := ((d.streamsOf n).filter (fun m => dirOf m == dir && !(sv.streams.contains m) && !(d.silent m) &&
    d.act m t != 0x8000)).map (fun m => toSigned 16 (d.act m t) - d.effIso m t)
  (dbSum (own ++ rest)).getD (-32768)

/-- One tile's raise, for every surveyed port of the direction (R463): the gains and the capped tiles. -/
def Dev.surveyRaise (d : Dev) (n dir t : Nat) (sv : Survey) : Survey :=
  let step : Int := 256 * max 1 (d.rd F.ISO_SURVEY_CFG_STEP)
  let lim : Int := -(128 * d.rd F.ISO_SURVEY_CFG_LIMIT : Nat)
  let ok := d.surveyLambda n dir t sv + step ≤ lim
  (surveyDir sv dir).foldl (fun sv m =>
    let k := 256 * m + t
    let g := surveyGain sv m t
    let o := d.opSet m t
    if g = 0x8000 ∨ o = 0x8000 ∨ toSigned 16 o ≤ toSigned 16 g ∨ sv.capped.contains k then sv
    else if ok then { sv with gains := tabSet 0x8000 sv.gains k (ofSigned 16 (min (toSigned 16 o) (toSigned 16 g + step))) }
    else { sv with capped := sv.capped ++ [k] }) sv

/-- Rounds of a stage: ⌈`BACKOFF` / `STEP`⌉ + 1 (R463). -/
def Dev.surveyRounds (d : Dev) : Nat :=
  let st := max 1 (d.rd F.ISO_SURVEY_CFG_STEP)
  (d.rd F.ISO_SURVEY_CFG_BACKOFF + st - 1) / st + 1

/-- Every cell of the surveyed streams of a direction has closed a block in the round (R462). -/
def allClosed (sv : Survey) (dir : Nat) : Bool :=
  (surveyDir sv dir).all (fun m => (upTo 256).all (fun t => (tabFind sv.blocks (256 * m + t)).isSome))

/-- At the end of a round, cells without a block take what their correlators hold, as a floor where nothing is detected (R445, R462). A
cell whose every tile sample was left out closes no block. -/
def Dev.roundFloors (d : Dev) (n dir : Nat) (sv : Survey) : Survey :=
  (surveyDir sv dir).foldl (fun v m => (upTo 256).foldl (fun v t =>
    let c := d.corr m t
    if (tabFind v.blocks (256 * m + t)).isSome || c.used == 0 then v
    else match c.result (2 ^ 40) d.detThr (d.nominal m) (d.scale n) true with
      | some o => { v with blocks := tabPut v.blocks (256 * m + t) (o.level, o.floor),
                           last := tabPut v.last (256 * m + t) (o.level, o.floor) }
      | none => v) v) sv

/-- A new round begins with nothing accumulated. -/
def Dev.surveyRoundNext (d : Dev) (n dir : Nat) (sv : Survey) : Dev :=
  let v : Survey := { sv with round := sv.round + 1, since := d.now, blocks := [] }
  ((d.setSurvey n v).each (surveyDir v dir) Dev.dropBlocks).surveyPend v dir

/-- The end of a round that has lasted its time (R463): streams over the limit in round 0 are `BLOCKED`, the other tiles rise or are
capped, and the stage may end. -/
def Dev.roundJudge (d : Dev) (n dir : Nat) (sv : Survey) : Dev :=
  let lim : Int := -(128 * d.rd F.ISO_SURVEY_CFG_LIMIT : Nat)
  let good := (surveyDir sv dir).foldl (fun g m =>
    if sv.blocks.any (fun p => p.1 / 256 == m) then tabPut g m (tabGet 0 g m + 1) else g) sv.good
  let sv1 := { sv with good := good, roundsDl := sv.roundsDl + (1 - dir), roundsUl := sv.roundsUl + dir }
  let bad := if sv.round = 0 then (surveyDir sv dir).filter (fun m =>
    (upTo 256).any (fun t => match surveyL sv m t with | some l => decide (lim < l) | none => false)) else []
  let d1 := (d.setSurvey n sv1).each bad (fun x m => x.surveyDrop n m 3)
  match d1.survey n with
  | none => d1
  | some sv2 =>
    let sv3 := (upTo 256).foldl (fun v t => d1.surveyRaise n dir t v) sv2
    if sv3.gains != sv2.gains && decide (sv.round + 1 < d.surveyRounds) then d1.surveyRoundNext n dir sv3
    else
      let sv4 := { sv2 with capped := sv3.capped, blocks := [] }
      let d2 := d1.setSurvey n (if dir = 0 then { sv4 with step := 4 } else sv4)
      if dir = 1 ∨ sv4.streams.isEmpty then d2.surveyFinish n else d2

/-- SURVEY_ROUND_END (R462, R463): a round ends when every cell has closed a block, or after `ROUND_MAX`. -/
def Dev.surveyRoundEnd (n : Nat) (d : Dev) : Dev :=
  match d.survey n with
  | none => d
  | some sv =>
    let dir := if sv.step = 3 then 0 else 1
    if (sv.step ≠ 3 ∧ sv.step ≠ 5) ∨
        (!(allClosed sv dir) ∧ d.now - sv.since < 12288000 * max 1 (d.rd F.ISO_SURVEY_CFG_ROUND_MAX)) then d
    else d.roundJudge n dir (d.roundFloors n dir sv)

/-- SURVEY_ROUND_END (R463). -/
def execSurveyRoundEnd (n : Nat) (s : State) : Out := unit n 16 (.next (s.onDev (Dev.surveyRoundEnd n)))

/-- A survey is abandoned and starts again from step 1 when it may (R467). -/
def Dev.surveyAbandon (d : Dev) (n : Nat) : Dev :=
  match d.survey n with
  | some sv => d.setSurvey n { step := 0, streams := sv.streams }
  | none => d

/-- A surveyed stream gets a fast tail cut (R463, R467). -/
def Dev.surveyCut (d : Dev) (m : Nat) : Dev := if d.underSurvey m then d.surveyDrop (d.donorOf m) m 3 else d

/-- A port leaves *ACTIVE*: its surveyed port slices end `NO_DATA` (R467). -/
def Dev.surveyPortLeft (d : Dev) (p : Nat) : Dev :=
  d.each (d.portStreamsOf p) (fun x m => if x.underSurvey m then x.surveyDrop (x.donorOf m) m 4 else x)

/-- The port streams that `ISO_CTL` names (R470). -/
def Dev.isoTarget (d : Dev) (w : Nat) : List Nat :=
  let k := F.ISO_CTL_KIND.of w
  let i := F.ISO_CTL_INDEX.of w
  d.portStreams.filter (fun m => if k = 1 then portOf m == i else if k = 2 then d.donorOf m == i else true)

/-- Every running survey ends; unfinished port slices are `ABORTED`; in *SURVEY* the controller goes on (R467). -/
def Dev.surveyAbort (d : Dev) : Dev :=
  let d1 := d.each (d.iso.surveys.map (fun p => p.1)) (fun x n =>
    match x.survey n with
    | some sv => (x.each sv.streams (fun x m => x.wr F.ISO_PS_VERDICT 5 m)).surveyDiscard n
    | none => x)
  let d2 := { d1 with iso := { d1.iso with waiting := [] } }
  (if d2.boot = 7 then d2.setBoot 8 else d2).deltaSettle

/-- What a write of `ISO_CTL` does (R470): a survey asked for while one runs is refused and changes nothing (R467). -/
def Dev.actIsoCtl (p : Path) (w : Nat) (d : Dev) : Option Dev :=
  if F.ISO_CTL_SURVEY.hit w && !(F.ISO_CTL_ABORT.hit w) && !d.iso.surveys.isEmpty then none
  else
    let d1 := d.putHit p (hit .ISO_CTL RD.ISO_CTL) w
    let d2 := if F.ISO_CTL_CLR_CNT.hit w then
      d1.zero [F.ISO_CNT_JUMPS, F.ISO_CNT_REASSIGNS, F.ISO_CNT_FAR, F.ISO_CNT_SURVEYS] else d1
    let dirs := F.ISO_CTL_DIR.of w
    let d3 := if F.ISO_CTL_FORGET.hit w then
      d2.each ((d2.isoTarget w).filter (fun m => bitAt dirs (dirOf m))) Dev.forgetCells else d2
    let d4 := if F.ISO_CTL_ABORT.hit w then d3.surveyAbort else d3
    some (if F.ISO_CTL_SURVEY.hit w then d4.surveyStart (d4.isoTarget w) else d4)

/-- A write of `ISO_CTL` with some bits set. -/
def isoCtl (p : Path) (w : Nat) (s : State) : Out :=
  .next (s.onDev (fun d => d.write p (hit .ISO_CTL RD.ISO_CTL) w (Dev.actIsoCtl p w)))

/-- ISO_SURVEY (R470). -/
def execIsoSurvey (p : Path) (w : Nat) (s : State) : Out := isoCtl p (withBits w 1 1 1) s

/-- ISO_ABORT (R467). -/
def execIsoAbort (p : Path) (w : Nat) (s : State) : Out := isoCtl p (withBits w 2 1 1) s

/-- ISO_FORGET (R470). -/
def execIsoForget (p : Path) (w : Nat) (s : State) : Out := isoCtl p (withBits w 3 1 1) s

/-- ISO_CLR_CNT (R470). -/
def execIsoClrCnt (p : Path) (w : Nat) (s : State) : Out := isoCtl p (withBits w 0 1 1) s

/-- What a write of `ISO_CANC_CFG` does (R475): clearing `EN` sends every branch to `RELEASING`. -/
def Dev.actIsoCancCfg (p : Path) (w : Nat) (d : Dev) : Option Dev :=
  let d1 := d.putHit p (hit .ISO_CANC_CFG RD.ISO_CANC_CFG) w
  some (if d1.flag F.ISO_CANC_CFG_EN then d1 else d1.eachBranch (fun x n t b => x.release n t b))

/-- CANC_DISABLE (R455, R475): the cancellers' `EN` is cleared. -/
def execCancDisable (p : Path) (w : Nat) (s : State) : Out :=
  let w1 := withBits w 16 1 0
  .next (s.onDev (fun d => d.write p (hit .ISO_CANC_CFG RD.ISO_CANC_CFG) w1 (Dev.actIsoCancCfg p w1)))

/-- RESURVEY_TIMER (R468): `PERIOD` hours have passed since the last survey of a donor slice; not while the governor
defers it (R744). -/
def Dev.resurvey (n : Nat) (d : Dev) : Dev :=
  let due := match tabFind d.iso.surveyedAt n with
    | some c => decide (3600 * 122880000 * d.rd F.ISO_RESURVEY_CFG_PERIOD ≤ d.now - c)
    | none => false
  if d.rd F.ISO_RESURVEY_CFG_PERIOD = 0 ∨ !due ∨ d.flag F.BGV_STS_DEFER ∨ d.boot ≠ 8 ∨ !(d.declared n) then d
  else if d.flag F.ISO_RESURVEY_CFG_MODE then
    match ((d.streamsOf n).map sliceKey).eraseDups with
    | m :: rest =>
      let d1 := d.surveyStart [m, m + 8]
      { d1 with iso := { d1.iso with oneByOne := d1.iso.oneByOne ++ rest } }
    | [] => d
  else if d.iso.weaves.any (fun w => w.2.resurvey.isSome) then d
  else { d with iso := { d.iso with weaves := tabSet {} d.iso.weaves n { d.weave n with resurvey := some 0 } } }

/-- RESURVEY_TIMER (R468). -/
def execResurveyTimer (n : Nat) (s : State) : Out := unit n 16 (.next (s.onDev (Dev.resurvey n)))

/-- SURVEY_RETRY_TIMER (R465): `RETRY` minutes after the last time, muted verdicts are surveyed again. -/
def Dev.surveyRetry (d : Dev) : Dev :=
  if d.boot ≠ 8 ∨ d.now - d.iso.retriedAt < 60 * 122880000 * max 1 (d.rd F.ISO_RESURVEY_CFG_RETRY) then d
  else ({ d with iso := { d.iso with retriedAt := d.now } }).surveyStart (d.portStreams.filter (fun m =>
    let v := d.rd F.ISO_PS_VERDICT m
    (v == 3 || v == 4 || v == 5) && d.portActive (portOf m) && !(d.underSurvey m)))

/-- SURVEY_RETRY_TIMER (R465). -/
def execSurveyRetryTimer (s : State) : Out := .next (s.onDev Dev.surveyRetry)

end Sys2Proof.Machine
end

