-- ==== Sys2Proof/Machine/Chains.lean ====
section
/-! DEFINITION. Measurement chains, presets, sync resets, watched tiles and captures (chapter 06). -/

namespace Sys2Proof.Machine

/-- Samples in the 65,536 frames of an orbit's position (R27). -/
def orbitSpan : Nat := 65536 * 1228800

/-- A position's distance past another, round the span. -/
def posFrom (a b : Nat) : Nat := (b + orbitSpan - a % orbitSpan) % orbitSpan

/-- An orbit stamp (R28). -/
def stampOf (orbit pos : Nat) : Nat :=
  (orbit % 2) * 2 ^ 37 + pos / 1228800 % 65536 * 2 ^ 21 + pos % 1228800

/-- Samples since the last tick boundary of a donor slice (R128, R521). -/
def Dev.sinceTick (d : Dev) (n : Nat) : Nat :=
  let o := d.orb (d.donor n).orbit
  posFrom o.tickFrom o.pos % max 1 (d.tickLen n)

/-- The position of that boundary. -/
def Dev.tickPos (d : Dev) (n : Nat) : Nat :=
  posFrom (d.sinceTick n) (d.orbPos (d.donor n).orbit)

/-- The sample count of that boundary. -/
def Dev.tickNow (d : Dev) (n : Nat) : Nat := d.now - d.sinceTick n

/-- H and K of a preset (R400). -/
def presetH (p : Nat) : Nat := if p = 0 then 0 else if p = 1 then 2 else if p = 2 then 3 else 4
def presetK (p : Nat) : Nat := if p = 2 then 4 else if p = 3 then 16 else 1

/-- The preset in use of a stream. -/
def Dev.preset (d : Dev) (m : Nat) : Nat :=
  if d.flag F.MEA_PRESET_ACTIVE m then d.rd F.MEA_PRESET_BANK_B m else d.rd F.MEA_PRESET_BANK_A m

/-- The largest H at or below `h` whose sub-intervals hold at least 4 tile samples (R399). -/
def effectiveH (tick scale : Nat) : Nat → Nat
  | 0 => 0
  | h + 1 => if 4 * (128 * scale) * 2 ^ (h + 1) ≤ tick then h + 1 else effectiveH tick scale h

/-- The effective H of a stream's preset at its tick (R399). -/
def Dev.effH (d : Dev) (m : Nat) : Nat :=
  effectiveH (d.tickLen (d.dsliceOf m)) (d.scale (d.dsliceOf m)) (presetH (d.preset m))

/-- The span S of a chain times 2^H, in ticks (R400). -/
def spanNum (h k : Nat) : Nat := 1 + 6 * (2 ^ h - 1) + (k - 1) * 2 ^ h

/-- `EFF_H` follows the preset and the tick. -/
def Dev.showH (d : Dev) (m : Nat) : Dev := d.wr F.MEA_PRESET_EFF_H (d.effH m) m

/-- The chains of a stream clear at the first tile sample at or after a reference position, or at the very next one, and take `skip`
tile samples as invalid from there; restarts that meet are one (R409, R413, R415). -/
def Dev.chainStart (d : Dev) (m : Nat) (pos : Option Nat) (skip : Nat) : Dev :=
  let x := d.stream m
  let old := match x.restart with | some r => r.2 | none => 0
  d.setStream m { x with restart := some (pos, max skip old) }

/-- A swap executes: the standby bank becomes active and the chains restart (R413, R414). -/
def Dev.doSwap (d : Dev) (m : Nat) (pos : Option Nat) : Dev :=
  let d1 := (d.wr F.MEA_PRESET_ACTIVE (1 - d.rd F.MEA_PRESET_ACTIVE m) m).wr F.MEA_PRESET_PENDING 0 m
  ((d1.setStream m { d1.stream m with swapLate := false }).chainStart m pos 0).showH m

/-- One chain, by stream and tap. -/
def Dev.chain (d : Dev) (m tap : Nat) : ChainRun := tabGet {} d.chn.chains (2 * m + tap)

/-- An orbit step falls in the sub-intervals under way of these streams (R105, R416). -/
def Dev.chainsSpoil (d : Dev) (ms : List Nat) : Dev :=
  { d with chn := { d.chn with chains := d.chn.chains.map (fun q =>
      if ms.contains (q.1 / 2) ∧ q.2.sub.isSome then (q.1, { q.2 with spoilt := true }) else q) } }

/-- Replaces one chain. -/
def Dev.setChain (d : Dev) (m tap : Nat) (x : ChainRun) : Dev :=
  { d with chn := { d.chn with chains := tabSet {} d.chn.chains (2 * m + tap) x } }

/-- No output of the stream is valid: an uplink of a port outside *ACTIVE*, a budget mute (R416, R745). -/
def Dev.noOutput (d : Dev) (m : Nat) : Bool :=
  decide (m < 2048) && ((dirOf m == 1 && !(d.portActive (portOf m))) || d.budgetMuted m)

/-- A tick boundary less the group delay of effective H `h` and preset `p` at tick `tick` (R403): D × tick, the position rounded down to
a whole sample. -/
def lessDelay (h p tick pos : Nat) : Nat :=
  posFrom ((spanNum h (presetK p) * tick + (2 * 2 ^ h - 1)) / (2 * 2 ^ h)) pos

/-! ## One chain's arithmetic (R396 to R399, R405, R406) -/

/-- The intermediates decimated by one half-band filter (R396), newest first: 7 symmetric taps at half the rate. The spec gives the taps
no values; scaled so that a constant passes unchanged. -/
def halve : List Int → List Int
  | a :: b :: t =>
    match t with
    | c :: e :: f :: g :: h :: _ =>
      let w := Config.halfBand
      divNear (w 0 * e + w 1 * (c + f) + w 2 * (b + g) + w 3 * (a + h)) (w 0 + 2 * (w 1 + w 2 + w 3)).natAbs :: halve t
    | _ => []
  | _ => []

/-- `h` half-band filters in cascade. -/
def decimate : Nat → List Int → List Int
  | 0, l => l
  | h + 1, l => decimate h (halve l)

/-- The mean of the newest `k` of a list. -/
def meanOf (k : Nat) (l : List Int) : Int := divNear ((l.take k).foldl (· + ·) 0) (max 1 k)

/-- The code of a reading whose mean is `x` in units of 2^-32 (R24, R394): 2^36 is 0 dB, the logarithm lies within ±0.02 dB, no power
reads 0x8000, and a mean below −127.996 dB reads 0x8001. DEDUCED (log 100): so does one that the filters bring below zero. -/
def readingCode (x : Int) : Nat :=
  if x = 0 then 0x8000
  else if x < 0 then 0x8001
  else dbCode (some (dbRatio x.toNat (2 ^ 68) + clampInt (-5) 5 (Config.logError x.toNat)))

/-- Sub-intervals in the span of a chain (R400). -/
def ChainRun.span (c : ChainRun) : Nat := spanNum c.effH (presetK c.preset)

/-- A chain's output over the newest intermediates of its span (R396, R405, R406, R410). -/
def ChainRun.output (c : ChainRun) (stamp : Nat) : ChainOut :=
  let l := c.past.take c.span
  let whole := l.length == c.span
  { stamp := stamp, preset := c.preset, effH := c.effH
    clean := whole && l.all SubMean.clean
    ok := whole && l.all SubMean.ok
    tiles := (upTo 256).map (fun t =>
      { power := readingCode (meanOf (presetK c.preset) (decimate c.effH (l.map (fun q => ((q.mean[t]?).getD 0 : Nat)))))
        mixed := l.any (fun q => q.mixed.contains t), sat := l.any (fun q => q.sat.contains t) }) }

/-- The sub-interval under way ends (R398): fewer than half of its tile samples valid give an invalid intermediate. -/
def ChainRun.close (c : ChainRun) : ChainRun :=
  match c.sub with
  | none => c
  | some _ =>
    let q : SubMean := { mean := c.acc.map (fun a => a * 2 ^ 32 / max 1 c.good)
                         ok := !c.spoilt && decide (0 < c.good) && decide (c.seen ≤ 2 * c.good)
                         clean := c.clean && c.skip == 0, mixed := c.mixed, sat := c.sat }
    { c with sub := none, seen := 0, good := 0, spoilt := false, clean := c.skip == 0, acc := [], mixed := [], sat := []
             past := (q :: c.past).take c.span }

/-- The chain clears and starts afresh with a preset and its effective H (R409, R413): what the sub-interval under way holds counts as
invalid, and so do the next `skip` tile samples. -/
def ChainRun.clear (c : ChainRun) (preset effH skip : Nat) : ChainRun :=
  { preset := preset, effH := effH, sub := if c.effH = effH then c.sub else none, seen := c.seen, clean := c.seen == 0 && skip == 0, skip := skip, ready := c.ready, gaveAt := c.gaveAt }

/-- Adds lists of sums by tile. -/
def addSums (a b : List Nat) : List Nat := if a.isEmpty then b else List.zipWith (· + ·) a b

/-- One tile sample joins sub-interval `k` (R397, R398): `power` by tile, the tiles that cross-fade and that saturate, and `spoil` where
a change makes the sub-interval invalid (R416). `first` says that no tile sample of the sub-interval came before it. -/
def ChainRun.take (c : ChainRun) (k : Nat) (first bad spoil : Bool) (power : List Nat) (mixed sat : List Nat) : ChainRun :=
  let c1 := if c.sub = some k then c else c.close
  let c2 : ChainRun := if c.sub.isNone then { c1 with spoilt := !first, clean := c1.clean && first } else c1
  let out := bad || decide (0 < c2.skip)
  { c2 with sub := some k, seen := c2.seen + 1, good := c2.good + b2n (!out), spoilt := c2.spoilt || spoil
            clean := c2.clean && c2.skip == 0, skip := c2.skip - 1
            acc := if out then c2.acc else addSums c2.acc power
            mixed := c2.mixed ++ mixed.filter (fun t => !(c2.mixed.contains t))
            sat := c2.sat ++ sat.filter (fun t => !(c2.sat.contains t)) }

/-! ## Delivering outputs -/

/-- Writes one tile entry of a mirror table (R405, R408, R423). -/
def Dev.putEntry (d : Dev) (m tap t seq : Nat) (ok : Bool) (r : Reading) : Dev :=
  let id := 256 * m + t
  if m < 2048 then
    if tap = 0 then
      if ok then
        ((((d.wr F.MEA_IN_POWER r.power id).wr F.MEA_IN_VALID 1 id).wr F.MEA_IN_MIXED (b2n r.mixed) id).wr
          F.MEA_IN_SAT (b2n r.sat) id).wr F.MEA_IN_SEQ_LO seq id
      else d.wr F.MEA_IN_VALID 0 id
    else
      if ok then
        ((((d.wr F.MEA_OUT_POWER r.power id).wr F.MEA_OUT_VALID 1 id).wr F.MEA_OUT_MIXED (b2n r.mixed) id).wr
          F.MEA_OUT_SAT (b2n r.sat) id).wr F.MEA_OUT_SEQ_LO seq id
      else d.wr F.MEA_OUT_VALID 0 id
  else
    let k := m - 2048
    if ok then
      ((((d.wr F.MEA_DON_POWER r.power k tap t).wr F.MEA_DON_VALID 1 k tap t).wr F.MEA_DON_MIXED (b2n r.mixed) k tap
        t).wr F.MEA_DON_SAT (b2n r.sat) k tap t).wr F.MEA_DON_SEQ_LO seq k tap t
    else d.wr F.MEA_DON_VALID 0 k tap t

/-- A watched condition's run after one compared reading: whether the condition changes, and the run (R417). -/
def watchRun (need run : Nat) (hit : Bool) : Bool × Nat :=
  if !hit then (false, 0) else if need ≤ run + 1 then (true, 0) else (false, run + 1)

/-- A watched condition rises or falls: its record, its count and its signals (R418). -/
def Dev.watchCross (d : Dev) (e code stamp : Nat) : Dev :=
  let d1 := (d.bump F.MEA_WATCH_STS_CROSSINGS e).raise code e stamp
  let d2 := if d1.flag F.MEA_WATCH_CFG_ALERT then d1.wr F.SMP_ALERT_STS_WATCH 1 else d1
  if d2.flag F.MEA_WATCH_CFG_IRQ_EN then d2.msi (d2.rd F.MEA_WATCH_CFG_IRQ_VEC) else d2

/-- A watch entry compares one valid reading (R417). -/
def Dev.watchOne (d : Dev) (e power stamp : Nat) : Dev :=
  let v := dbOf power
  let hy : Int := 16 * d.rd F.MEA_WATCH_CFG_HYST
  let need := max 1 (d.rd F.MEA_WATCH_CFG_CONFIRM)
  let hi := d.flag F.MEA_WATCH_STS_HIGH_ACT e
  let lo := d.flag F.MEA_WATCH_STS_LOW_ACT e
  let run := tabGet (0, 0) d.chn.runs e
  let a := watchRun need run.1
    (if hi then decide (v < d.rdS F.MEA_WATCH1_HIGH e - hy) else decide (d.rdS F.MEA_WATCH1_HIGH e < v))
  let b := watchRun need run.2
    (if lo then decide (d.rdS F.MEA_WATCH1_LOW e + hy < v) else decide (v < d.rdS F.MEA_WATCH1_LOW e))
  let d1 := { d with chn := { d.chn with runs := tabSet (0, 0) d.chn.runs e (a.2, b.2) } }
  let d2 := d1.wr F.MEA_WATCH_STS_LAST power e
  let d3 := if a.1 then (d2.wr F.MEA_WATCH_STS_HIGH_ACT (b2n (!hi)) e).watchCross e 0xA5 stamp else d2
  if b.1 then (d3.wr F.MEA_WATCH_STS_LOW_ACT (b2n (!lo)) e).watchCross e 0xA6 stamp else d3

/-- The watch entries of a tap of a port stream compare a valid output's readings (R417). -/
def Dev.watchAll (d : Dev) (m tap stamp : Nat) (pw : Nat → Nat) : Dev :=
  d.each ((upTo 256).filter (fun e => d.flag F.MEA_WATCH0_EN e && d.rd F.MEA_WATCH0_TAP e == tap &&
    d.rd F.MEA_WATCH0_TILE_ID e / 256 == m))
    (fun x e => x.watchOne e (pw (d.rd F.MEA_WATCH0_TILE_ID e % 256)) stamp)

/-- A survey's preparation averages the valid IN readings of the donor downlink (R461). -/
def Dev.surveyAverage (d : Dev) (m tap : Nat) (pw : Nat → Nat) : Dev :=
  if m < 2048 ∨ m % 2 = 1 ∨ tap ≠ 0 then d
  else
    match d.survey ((m - 2048) / 2) with
    | some sv =>
      if sv.step ≠ 2 then d
      else
        let acc := (upTo 256).foldl (fun a t =>
          let q := tabGet (0, 0) a t
          tabPut a t (q.1 + dbPow (dbOf (pw t)), q.2 + 1)) sv.acc
        d.setSurvey ((m - 2048) / 2) { sv with acc := acc }
    | none => d

/-- A chain exists: the stream exists and the tap is produced (R393, R395). -/
def Dev.hasTap (d : Dev) (m tap : Nat) : Bool :=
  decide (m < 2080) && d.has m && decide (tap < 2) && !(decide (2048 ≤ m) && m % 2 == 1 && tap == 1)

/-- The header of an output (R404, R407, R424). -/
def Dev.putHeader (d : Dev) (m tap seq count : Nat) (o : ChainOut) : Dev :=
  (((((((d.wr F.MEA_HDR0_SUPPRESSED (b2n (!o.clean)) m tap).wr F.MEA_HDR0_EFF_H o.effH m tap).wr
    F.MEA_HDR0_PRESET o.preset m tap).wr F.MEA_HDR0_EPOCH (d.rd F.MLD_PLACE_EPOCH m) m tap).wr
    F.MEA_HDR0_SEQ seq m tap).wr F.MEA_HDR1_STAMP_LO (o.stamp % 2 ^ 32) m tap).wr F.MEA_HDR2_STAMP_HI (o.stamp / 2 ^ 32) m tap).wr
    F.MEA_HDR3_VALID_TILES count m tap

/-- The output that a chain has ready is valid (R405, R410, R416). -/
def Dev.outValid (d : Dev) (m : Nat) (o : ChainOut) : Bool := o.ok && o.clean && !(d.noOutput m)

/-- A chain delivers its output (R403 to R408, R417). -/
def Dev.chainDeliver (d : Dev) (m tap : Nat) (o : ChainOut) : Dev :=
  let ok := d.outValid m o
  let rd := fun (t : Nat) => (o.tiles[t]?).getD {}
  let seq := (d.rd F.MEA_HDR0_SEQ m tap + 1) % 65536
  let d1 := d.each (upTo 256) (fun x t => x.putEntry m tap t seq ok (rd t))
  let d2 := d1.putHeader m tap seq (if ok then 256 else 0) o
  let d3 := if m < 2048 && ok then d2.watchAll m tap o.stamp (fun t => (rd t).power) else d2
  if ok then d3.surveyAverage m tap (fun t => (rd t).power) else d3

/-- CHAIN_OUTPUT (R403 to R408): the chain of a tap delivers the output that it formed at the last tick boundary. -/
def Dev.chainOutput (m tap : Nat) (d : Dev) : Dev :=
  if !(d.hasTap m tap) then d
  else
    match (d.chain m tap).ready with
    | none => d
    | some o => (d.setChain m tap { d.chain m tap with ready := none, gaveAt := some o.made }).chainDeliver m tap o

/-- CHAIN_OUTPUT (R403). -/
def execChainOutput (m tap : Nat) (s : State) : Out :=
  unit m 2080 (unit tap 2 (.next (s.onDev (Dev.chainOutput m tap))))

/-- A sync reset is requested for the orbits of a mask: pending on each, or joined to the one that is (R409, R411). -/
def Dev.syncAsk (d : Dev) (mask : Nat) : Dev :=
  d.each ((upTo 2).filter (fun i => bitAt mask i)) (fun x i =>
    if (tabGet [] x.chn.sync i).isEmpty then
      let ms := x.allStreams.filter (fun m => x.orbitOf m == i)
      if ms.isEmpty then x
      else ({ x with chn := { x.chn with sync := tabPut x.chn.sync i ms, syncAt := tabPut x.chn.syncAt i x.now } }).wr F.MEA_STS_SYNC_PENDING
        (x.rd F.MEA_STS_SYNC_PENDING ||| 2 ^ i)
    else x.bump F.MEA_CNT_SYNC_MERGED)

/-- DEC_SYNC_EDGE (R409): an edge that the pin held for 1 µs, on the selected edge, while `PIN_EN` is set. -/
def Dev.decSync (falling held : Bool) (d : Dev) : Dev :=
  if d.flag F.MEA_CTL_PIN_EN && held && d.flag F.MEA_CTL_PIN_POL == falling then d.syncAsk (d.rd F.MEA_CTL_SYNC_MASK)
  else d

/-- DEC_SYNC_EDGE (R409). -/
def execDecSyncEdge (falling held : Bool) (s : State) : Out := .next (s.onDev (Dev.decSync falling held))

/-- What a write of `MEA_CTL` does (R426). -/
def Dev.actMeaCtl (p : Path) (w : Nat) (d : Dev) : Option Dev :=
  let d1 := d.putHit p (hit .MEA_CTL RD.MEA_CTL) w
  let d2 := if F.MEA_CTL_CLR_CNT.hit w then
    (d1.zero [F.MEA_STS_SYNCS, F.MEA_CNT_SYNC_MERGED, F.MEA_CNT_SWAP_MERGED, F.MEA_CNT_SWAP_DEFERRED]).each (upTo 256)
      (fun x e => x.wr F.MEA_WATCH_STS_CROSSINGS 0 e) |>.each (upTo 16) (fun x e => x.wr F.MEA_CAP3_OVERRUN 0 e)
    else d1
  some (if F.MEA_CTL_SYNC.hit w then d2.syncAsk (d2.rd F.MEA_CTL_SYNC_MASK) else d2)

/-- A write of `MEA_CTL` with some bits set. -/
def meaCtl (p : Path) (w : Nat) (s : State) : Out :=
  .next (s.onDev (fun d => d.write p (hit .MEA_CTL RD.MEA_CTL) w (Dev.actMeaCtl p w)))

/-- MEA_SYNC (R409): requests a sync reset. -/
def execMeaSync (p : Path) (w : Nat) (s : State) : Out := meaCtl p (withBits w 1 1 1) s

/-- MEA_CLR_CNT (R426): clears every `MEA_` counter. -/
def execMeaClrCnt (p : Path) (w : Nat) (s : State) : Out := meaCtl p (withBits w 0 1 1) s

/-- The tick boundary of a donor slice that a reset or swap may act at: the last one, or the next where its first uplink tile samples
pass the gain stages before the counter reaches it (R342, R397); with its sample count. -/
def Dev.boundaryNear (d : Dev) (n : Nat) : Nat × Nat :=
  let left := d.tickLen n - d.sinceTick n
  if (16 * left : Int) ≤ d.tileLead n true then ((d.orbPos (d.donor n).orbit + left) % orbitSpan, d.now + left) else (d.tickPos n, d.tickNow n)

/-- SYNC_RESET_EXEC (R409, R411): at the first tick boundary of donor slice `n` that lies at least one tile sample after the request
its streams' pending resets act. -/
def Dev.syncExec (n : Nat) (d : Dev) : Dev :=
  let i := (d.donor n).orbit
  let all := tabGet [] d.chn.sync i
  let ms := all.filter (fun m => d.dsliceOf m == n)
  let at' := d.boundaryNear n
  if ms.isEmpty ∨ at'.2 < tabGet 0 d.chn.syncAt i + 128 * d.scale n then d
  else
    let d1 := d.each ms (fun x m => x.chainStart m (some at'.1) (d.rd F.MEA_PRESET_START_DELAY m))
    let rest := all.filter (fun m => d.dsliceOf m != n)
    let d2 := { d1 with chn := { d1.chn with sync := tabSet [] d1.chn.sync i rest } }
    if rest.isEmpty then
      (d2.wr F.MEA_STS_SYNC_PENDING (d2.rd F.MEA_STS_SYNC_PENDING - (d2.rd F.MEA_STS_SYNC_PENDING &&& 2 ^ i))).bump
        F.MEA_STS_SYNCS
    else d2

/-- SYNC_RESET_EXEC (R409). -/
def execSyncResetExec (n : Nat) (s : State) : Out := unit n 16 (.next (s.onDev (Dev.syncExec n)))

/-- What a write of `MEA_PRESET_m` does (R412 to R415, R430): a change of the active bank's field is rejected. -/
def Dev.actMeaPreset (p : Path) (m w : Nat) (d : Dev) : Option Dev :=
  let f := if d.flag F.MEA_PRESET_ACTIVE m then F.MEA_PRESET_BANK_B else F.MEA_PRESET_BANK_A
  if f.of w ≠ d.rd f m then none
  else
    let d1 := d.putHit p (hit .MEA_PRESET RD.MEA_PRESET m) w
    some (if !(F.MEA_PRESET_SWAP.hit w) || !(d1.has m) then d1
      else if d1.flag F.MEA_PRESET_PENDING m then d1.bump F.MEA_CNT_SWAP_MERGED
      else (d1.setStream m { d1.stream m with swapAt := d1.now }).wr F.MEA_PRESET_PENDING 1 m)

/-- MEA_SWAP (R413): requests the standby preset bank. -/
def execMeaSwap (p : Path) (m w : Nat) (s : State) : Out :=
  let w1 := withBits w 6 1 1
  unit m 2080 (.next (s.onDev (fun d => d.write p (hit .MEA_PRESET RD.MEA_PRESET m) w1 (Dev.actMeaPreset p m w1))))

/-- SWAP_EXEC (R413, R414): at the first tick boundary after its request the waiting swap executes, or is deferred behind a
cross-fade. -/
def Dev.swapExec (m : Nat) (d : Dev) : Dev :=
  let at' := d.boundaryNear (d.dsliceOf m)
  if !(d.flag F.MEA_PRESET_PENDING m) || decide (at'.2 ≤ (d.stream m).swapAt) then d
  else if decide (m < 2048) && d.flag F.TIL_STREAM_FADING m then
    if (d.stream m).swapLate then d
    else (d.bump F.MEA_CNT_SWAP_DEFERRED).setStream m { d.stream m with swapLate := true }
  else d.doSwap m (some at'.1)

/-- SWAP_EXEC (R413). -/
def execSwapExec (m : Nat) (s : State) : Out := unit m 2080 (.next (s.onDev (Dev.swapExec m)))

/-- A cross-fade ends; a swap deferred behind it executes (R414). -/
def Dev.swapAfterFade (d : Dev) (m : Nat) : Dev := if (d.stream m).swapLate then d.doSwap m none else d

/-- What a write of a watch entry's word does (R418): both conditions and runs clear without a record. -/
def Dev.actMeaWatch (p : Path) (h : Hit) (w : Nat) (d : Dev) : Option Dev :=
  let d1 := d.putHit p h w
  some ({ (d1.zero [F.MEA_WATCH_STS_HIGH_ACT, F.MEA_WATCH_STS_LOW_ACT] h.i) with
    chn := { d1.chn with runs := tabDel d1.chn.runs h.i } })

/-- MEA_WATCH_WRITE (R418): a master rewrites word 0 or word 1 of a watch entry. -/
def execMeaWatchWrite (p : Path) (e word w : Nat) (s : State) : Out :=
  let h := if word = 0 then hit .MEA_WATCH0 RD.MEA_WATCH0 e else hit .MEA_WATCH1 RD.MEA_WATCH1 e
  unit e 256 (unit word 2 (.next (s.onDev (fun d => d.write p h w (Dev.actMeaWatch p h w)))))

/-- A capture starts (R419 to R421): not while its descriptor runs. -/
def Dev.captureStart (d : Dev) (c : Nat) : Dev :=
  if d.flag F.MEA_CAP3_BUSY c then d.bump F.MEA_CAP3_OVERRUN c
  else
    let m := d.rd F.MEA_CAP0_STREAM c
    if !(d.hasTap m (d.rd F.MEA_CAP0_TAP c)) then d.wr F.MEA_CAP3_RESULT 2 c
    else if d.rd F.MEA_CAP0_LAST_TILE c < d.rd F.MEA_CAP0_FIRST_TILE c then d.wr F.MEA_CAP3_RESULT 4 c
    else
      let r : CapRun := { start := d.orbPos (d.orbitOf m), epoch := d.rd F.MLD_PLACE_EPOCH m }
      ({ d with chn := { d.chn with caps := tabPut d.chn.caps c r } }).wr F.MEA_CAP3_BUSY 1 c

/-- What a write of word 3 of a capture descriptor does (R433): `START` begins the capture, unless the governor defers
captures (R744). -/
def Dev.actMeaCap3 (c w : Nat) (d : Dev) : Option Dev :=
  some (if !(F.MEA_CAP3_START.hit w) then d
    else if d.flag F.BGV_STS_DEFER && !(d.flag F.MEA_CAP3_BUSY c) then d.bump F.BGV_CNT_DEFERRED
    else d.captureStart c)

/-- CAPTURE_START (R419). -/
def execCaptureStart (p : Path) (c w : Nat) (s : State) : Out :=
  let w1 := withBits w 0 1 1
  unit c 16 (.next (s.onDev (fun d => d.write p (hit .MEA_CAP3 RD.MEA_CAP3 c) w1 (Dev.actMeaCap3 c w1))))

/-- What a write of words 0 to 2 of a capture descriptor does: ignored while it runs (R433). -/
def Dev.actMeaCap (p : Path) (h : Hit) (w : Nat) (d : Dev) : Option Dev :=
  some (if d.flag F.MEA_CAP3_BUSY h.i then d else d.putHit p h w)

/-- A capture has all its tile samples, or ends because its stream switched epoch (R419, R420). -/
def Dev.captureFull (d : Dev) (c : Nat) (r : CapRun) : Bool := decide (max 1 (d.rd F.MEA_CAP1_COUNT c) ≤ r.rows.length)
def Dev.captureCut (d : Dev) (c : Nat) (r : CapRun) : Bool := d.rd F.MLD_PLACE_EPOCH (d.rd F.MEA_CAP0_STREAM c) != r.epoch

/-- The octets of a capture (R421): its header, then the tile samples as they came, each I, Q and flags. -/
def Dev.captureOctets (d : Dev) (c : Nat) (r : CapRun) : List Nat :=
  toOctets 8 (r.stamp.getD 0) ++ toOctets 2 (d.rd F.MEA_CAP0_STREAM c) ++
  [d.rd F.MEA_CAP0_TAP c, r.epoch, d.rd F.MEA_CAP0_FIRST_TILE c, d.rd F.MEA_CAP0_LAST_TILE c, 0, 0] ++
  toOctets 4 (max 1 (d.rd F.MEA_CAP1_COUNT c)) ++ List.replicate 44 0 ++
  (r.rows.reverse.flatMap id).flatMap (fun p => toOctets 3 p.1 ++ [p.2.2 % 4] ++ toOctets 3 p.2.1 ++ [0])

/-- CAPTURE_DONE (R420, R421): a capture ends complete, because its stream switched epoch, or with an SDRAM error `ue`; one that runs
on does not end. What it wrote stays; one that no tile sample reached has written nothing. -/
def State.captureDone (c : Nat) (ue : Bool) (s : State) : State :=
  match tabFind s.dev.chn.caps c with
  | none => s
  | some r =>
    let d := s.dev
    if !(ue || d.captureFull c r || d.captureCut c r) then s
    else
      let body := if r.rows.isEmpty then [] else d.captureOctets c r
      let a := 64 * d.rd F.MEA_CAP2_ADDR64 c
      let ok := d.memReady && d.memFits a body.length
      let res := if ue || !ok then 1 else if d.captureFull c r then 0 else 3
      let mem := if ok then s.mem.sdWrite a body else s.mem
      { s with
        mem := mem
        dev := ((({ d with chn := { d.chn with caps := tabDel d.chn.caps c } } : Dev).tally 7 (if ok then body.length else 0)).wr
          F.MEA_CAP3_BUSY 0 c).wr F.MEA_CAP3_RESULT res c }

/-- CAPTURE_DONE (R421). -/
def execCaptureDone (c : Nat) (ue : Bool) (s : State) : Out := unit c 16 (.next (s.captureDone c ue))

end Sys2Proof.Machine
end

