-- ==== Sys2Proof/Machine/LoopMath.lean ====
section
/-! DEFINITION. The loop engine's arithmetic on plain numbers: stages, rows, selection, notch, profiles, bands (chapters 08 and 09). -/

namespace Sys2Proof.Machine

/-- A four-element state with its shared exponent: each element is its mantissa × 2^(E − 40) dB (R533). -/
structure Stage where
  x : Int := 0
  v : Int := 0
  n : Int := 0
  b : Int := 0
  e : Nat := 32
  deriving DecidableEq, Repr

/-- A mantissa of 16 bits holds a value of 2^-80 dB units at exponent `e`. -/
def fits (e : Nat) (v : Int) : Bool :=
  let m := divNear v (2 ^ (40 + e))
  decide (-32768 ≤ m) && decide (m ≤ 32767)

/-- The state renormalised from 2^-80 dB units (R534), and whether some element saturated. -/
def renorm (x v n b : Int) : Stage × Bool :=
  match firstBelow 64 (fun e => fits e x && fits e v && fits e n && fits e b) with
  | some e =>
    ({ x := divNear x (2 ^ (40 + e)), v := divNear v (2 ^ (40 + e)), n := divNear n (2 ^ (40 + e)),
       b := divNear b (2 ^ (40 + e)), e := e }, false)
  | none =>
    let g := fun (y : Int) => clampInt (-32768) 32767 (divNear y (2 ^ 103))
    ({ x := g x, v := g v, n := g n, b := g b, e := 63 }, true)

/-- An element in 2^-80 dB units. -/
def Stage.fine (s : Stage) (m : Int) : Int := m * (2 ^ (40 + s.e) : Nat)

/-- An element in 1/256 dB, rounded to nearest. -/
def Stage.db (s : Stage) (m : Int) : Int := shrNear (m * (2 ^ s.e : Nat)) 32

/-- One tile's coefficient set (R487, R539). -/
structure Coef where
  kx : Int
  kv : Int
  kb : Int
  ki : Int
  obsExp : Nat
  kiExp : Nat
  rowExp : Nat
  lag : Nat
  r : Nat
  rows : List (List Int)

/-- The coefficient set that 25 register fields spell, in the order of R539. -/
def coefOf (l : List Nat) : Coef :=
  let sg := fun n => toSigned 16 (listAt l n)
  { kx := sg 0, kv := sg 1, kb := sg 2, ki := sg 3, obsExp := listAt l 4, kiExp := listAt l 5, rowExp := listAt l 6,
    lag := listAt l 7, r := min 0xFF00 (listAt l 8),
    rows := (upTo 4).map (fun i => (upTo 4).map (fun j => sg (9 + 4 * i + j))) }

/-- An observer gain times a value: a mantissa at `OBS_EXP` by 2^-40 dB units gives 2^-80 dB units (R533). -/
def Coef.gain (c : Coef) (k y : Int) : Int := k * (2 ^ c.obsExp : Nat) * y

/-- One observer update (R485, R532) in 2^-80 dB units: `ticks` elapsed, the creep per tick in 1/256 dB, the IN reading
where it is valid, and OUT − IN − G_PREV in 1/256 dB where the bias may update. -/
def observe (c : Coef) (s : Stage) (ticks creep : Nat) (inp bias : Option Int) : Stage × Bool :=
  let u : Int := 2 ^ 72
  let xp := s.fine s.x + ticks * s.fine s.v
  let np := s.fine s.n + (ticks * creep : Nat) * u
  let b1 := match bias with
    | some y => s.fine s.b + c.gain c.kb (shrNear (y * u - s.fine s.b) 40)
    | none => s.fine s.b
  match inp with
  | some p =>
    let e := shrNear (p * u - xp) 40
    renorm (xp + c.gain c.kx e) (s.fine s.v + c.gain c.kv e) (min np (p * u)) b1
  | none => renorm xp (s.fine s.v) np b1

/-- Adds into a 40-bit accumulator; the flag says that it saturated (R535). -/
def acc40 (a : Int × Bool) (y : Int) : Int × Bool :=
  let z := a.1 + y
  let w := satSigned 40 z
  (w, a.2 || decide (w ≠ z))

/-- The row products Σ a_ij × ŝ_j in the accumulator (R535). -/
def rowDot (row : List Int) (s : Stage) : Int × Bool :=
  (row.zip [s.x, s.v, s.n, s.b]).foldl (fun a p => acc40 a (p.1 * p.2)) (0, false)

/-- One row's candidate in 1/256 dB with constant `k` and, for the LEVEL row, integrator `q` in 2^-16 dB; the flag says
that an accumulator or the candidate saturated (R535). -/
def candidate (c : Coef) (row : List Int) (s : Stage) (k q : Int) : Int × Bool :=
  let sh : Int := (c.rowExp + s.e : Nat) - 80
  let a := acc40 (acc40 (rowDot row s) (scaleInt k (-8 - sh))) (scaleInt q (-16 - sh))
  let y := scaleInt a.1 (sh + 8)
  let z := clampInt (-32767) 32767 y
  (z, a.2 || decide (z ≠ y))

/-- A coefficient part (row · ŝ) in 2^-16 dB, for the rescale of R541. -/
def rowPart (c : Coef) (row : List Int) (s : Stage) : Int :=
  let z := (row.zip [s.x, s.v, s.n, s.b]).foldl (fun a p => a + p.1 * p.2) (0 : Int)
  scaleInt z ((c.rowExp + s.e : Nat) - 80 + 16)

/-- What a selection gives (R490, R493): the winning row, the lowest candidate, the gain, whether the output is at a
limit, and whether the soft-start ceiling binds. -/
structure Pick where
  winner : Nat
  raw : Int
  gain : Int
  atLimit : Bool
  binds : Bool
  deriving DecidableEq, Repr

/-- The lowest of the enabled rows' candidates, the lowest row first among equals. -/
def lowestRow (l : List (Nat × Int)) : Nat × Int :=
  match l with
  | [] => (0, 32767)
  | p :: t => t.foldl (fun b q => if q.2 < b.2 then q else b) p

/-- The selection of R490, steps 1 to 4. -/
def selectGain (l : List (Nat × Int)) (upper : Int) (ceil : Option Int) : Pick :=
  let w := lowestRow l
  let a := min w.2 upper
  let binds := match ceil with | some c => decide (c < a) | none => false
  let g := match ceil with | some c => min a c | none => a
  { winner := w.1, raw := w.2, gain := max (-24576) g, binds := binds,
    atLimit := decide (upper < w.2) || decide (w.2 < -24576) || binds }

/-- A value rounded to 24 significant bits, in units of 2^-64 (R536). -/
def sig24 (num : Int) (den : Nat) : Int :=
  match firstBelow 128 (fun j =>
    let q := divNear (num * (2 ^ 64 : Nat)) (den * 2 ^ j)
    decide (-(2 ^ 23) ≤ q) && decide (q < 2 ^ 23)) with
  | some j => divNear (num * (2 ^ 64 : Nat)) (den * 2 ^ j) * (2 ^ j : Nat)
  | none => 0

/-- The notch's five coefficients in units of 2^-64 (R496, R536); `none` passes the error unchanged. -/
structure Notch where
  b0 : Int
  b1 : Int
  b2 : Int
  a1 : Int
  a2 : Int

/-- The notch of `NOTCH_LAG` and `NOTCH_R` (R496). -/
def notchOf (lag r : Nat) : Option Notch :=
  if lag < 2 then none
  else
    let c := listAt cosTab (lag - 2)
    let num : Int := (2 ^ 112 + r * r * 2 ^ 80 : Nat) - (2 * r * c : Nat)
    let den := 2 ^ 113 - 2 * c * 2 ^ 16
    some { b0 := sig24 num den, b1 := sig24 (-2 * num * c) (den * 2 ^ 96), b2 := sig24 num den,
           a1 := sig24 (-2 * (r * c : Nat)) (2 ^ 112), a2 := sig24 (r * r : Nat) (2 ^ 32) }

/-- One notch step (R536): the input in 1/256 dB, the states in 2^-12 dB; the output in 2^-76 dB, the states, and
whether one saturated. -/
def notchStep (nt : Option Notch) (e s1 s2 : Int) : Int × Int × Int × Bool :=
  match nt with
  | none => (e * (2 ^ 68 : Nat), s1, s2, false)
  | some c =>
    let x := 16 * e
    let y := c.b0 * x + s1 * (2 ^ 64 : Nat)
    let t1 := shrNear (c.b1 * x * (2 ^ 64 : Nat) - c.a1 * y + s2 * (2 ^ 128 : Nat)) 128
    let t2 := shrNear (c.b2 * x * (2 ^ 64 : Nat) - c.a2 * y) 128
    (y, satSigned 24 t1, satSigned 24 t2, decide (satSigned 24 t1 ≠ t1) || decide (satSigned 24 t2 ≠ t2))

/-- The notch at rest on an input (R541). -/
def notchRest (nt : Option Notch) (e : Int) : Int × Int :=
  match nt with
  | none => (0, 0)
  | some c =>
    let x := 16 * e
    (satSigned 24 (shrNear (((2 ^ 64 : Nat) - c.b0) * x) 64), satSigned 24 (shrNear ((c.b2 - c.a2) * x) 64))

/-- An integrator step k_I × notch(e) in 2^-16 dB, rounded (R536). -/
def integrate (c : Coef) (y : Int) : Int := scaleInt (c.ki * y) ((c.kiExp : Int) - 100)

/-- The integrator's limit, 24 dB in 2^-16 dB (R494). -/
def qLimit : Int := 1572864

/-- The next band of an axis (R504). -/
def nextBand (band : Nat) (v : Int) (thr : List Int) (h : Int) : Nat :=
  if band < 3 ∧ thr.getD band 0 + h ≤ v then band + 1
  else if 0 < band ∧ v < thr.getD (band - 1) 0 - h then band - 1
  else band

/-- The first band of an axis: how many thresholds lie at or below the value (R504). -/
def firstBand (v : Int) (thr : List Int) : Nat := (thr.filter (fun x => decide (x ≤ v))).length

/-- One tick of the profile generator (R508) in 2^-24 dB units and seconds from `dt` samples: target `t`, limits, and
position, velocity and acceleration. -/
def profileStep (vmax amax jmax : Int) (dt : Nat) (t : Int) (s : Int × Int × Int) : Int × Int × Int :=
  let f : Nat := 122880000
  let (p, v, a) := s
  if t ≤ p then (t, 0, 0)
  else
    let vb := min vmax (isqrt (amax * (t - p)).toNat : Int)
    let req := clampInt (-amax) amax (divNear ((vb - v) * f) (max 1 dt))
    let dj := divNear (jmax * dt) f
    let a1 := a + clampInt (-dj) dj (req - a)
    let v1 := clampInt 0 vmax (v + divNear (a1 * dt) f)
    let p1 := p + divNear (v1 * dt) f
    if t ≤ p1 then (t, 0, 0) else (p1, v1, a1)

/-- Reclaim's update (R501), in 1/256 dB. -/
def reclaim (beta err : Int) (shift : Nat) (step bound : Int) (may capped : Bool) : Int :=
  let b1 := if err < 0 then beta + shrNear err shift
    else if may then beta + min (shrNear err shift) step else beta
  clampInt (-bound) bound (if capped then min b1 0 else b1)

end Sys2Proof.Machine
end

