-- ==== Sys2Proof/Machine/Engine.lean ====
section
/-! DEFINITION. The loop engine: tile, slice and building loops, coefficient banks, processors (chapters 08 and 09). -/

namespace Sys2Proof.Machine

/-- What the current tick of a donor slice and direction has done. -/
def Dev.loopTick (d : Dev) (n r : Nat) : LoopTick := tabGet {} d.eng.ticks (2 * n + r)

/-- Replaces it. -/
def Dev.setLoopTick (d : Dev) (n r : Nat) (x : LoopTick) : Dev :=
  { d with eng := { d.eng with ticks := tabSet {} d.eng.ticks (2 * n + r) x } }

/-- The register fields of a coefficient set, in the order in which `coefOf` reads them (R539). -/
def coefFields : List Fld :=
  [F.CE_COEFA0_KX, F.CE_COEFA0_KV, F.CE_COEFA1_KB, F.CE_COEFA1_KI, F.CE_COEFA2_OBS_EXP, F.CE_COEFA2_KI_EXP,
   F.CE_COEFA2_ROW_EXP, F.CE_COEFA2_NOTCH_LAG, F.CE_COEFA3_NOTCH_R,
   F.CE_COEFA4_A_00, F.CE_COEFA4_A_01, F.CE_COEFA5_A_02, F.CE_COEFA5_A_03,
   F.CE_COEFA6_A_10, F.CE_COEFA6_A_11, F.CE_COEFA7_A_12, F.CE_COEFA7_A_13,
   F.CE_COEFA8_A_20, F.CE_COEFA8_A_21, F.CE_COEFA9_A_22, F.CE_COEFA9_A_23,
   F.CE_COEFA10_A_30, F.CE_COEFA10_A_31, F.CE_COEFA11_A_32, F.CE_COEFA11_A_33]

/-- A coefficient set as a donor slice uses it: the active bank, or the bank before a commit that the slice has yet to
take (R540). -/
def Dev.coefSet (d : Dev) (n cls set : Nat) : List Nat :=
  if d.eng.coefWait.contains n then coefFields.map (fun f => tabGet 0 d.eng.coefOld (f.key cls set 0))
  else coefFields.map (fun f => d.rd f cls set)

/-- `SHARE_W`; 0 acts as 1 (R516). -/
def Dev.shareW (d : Dev) (m : Nat) : Nat := max 1 (d.rd F.CE_PS0_SHARE_W m)

/-- The streams of a donor slice in one direction. -/
def Dev.streamsIn (d : Dev) (n r : Nat) : List Nat := (d.streamsOf n).filter (fun m => dirOf m == r)

/-- A stream's part of its building loop's weight in 1/256 dB: 10 log10(w / W) (R498). -/
def Dev.shareDb (d : Dev) (m : Nat) : Int :=
  dbRatio (d.shareW m) ((d.streamsIn (d.donorOf m) (dirOf m)).foldl (fun a q => a + d.shareW q) 0)

/-- The region of a tile in its class (R503): group, margin band and level band. -/
def Dev.region (d : Dev) (m t : Nat) : Nat :=
  16 * d.rd F.CE_PS0_GROUP m + 4 * d.rd F.LCX0_MB (256 * m + t) + d.rd F.LCX0_LB (256 * m + t)

/-- The tile is squelched (R584, R617). -/
def Dev.squelched (d : Dev) (id : Nat) : Bool := bitAt (d.rd F.PRT_SQUELCH_SQ (id / 32)) (id % 32)

/-- Sets or ends a tile's squelch. -/
def Dev.setSquelch (d : Dev) (id : Nat) (on : Bool) : Dev :=
  let w := d.rd F.PRT_SQUELCH_SQ (id / 32)
  let b := 2 ^ (id % 32)
  d.wr F.PRT_SQUELCH_SQ (if on then w ||| b else w - (w &&& b)) (id / 32)

/-- The state estimate of a context (R533, R537). -/
def Dev.stage (d : Dev) (id : Nat) : Stage :=
  { x := d.rdS F.LCX2_X_M id, v := d.rdS F.LCX2_V_M id, n := d.rdS F.LCX3_N_M id, b := d.rdS F.LCX3_B_M id,
    e := d.rd F.LCX4_S_EXP id }

/-- Writes the state estimate of a context. -/
def Dev.setStage (d : Dev) (id : Nat) (s : Stage) : Dev :=
  ((((d.wrS F.LCX2_X_M s.x id).wrS F.LCX2_V_M s.v id).wrS F.LCX3_N_M s.n id).wrS F.LCX3_B_M s.b id).wr
    F.LCX4_S_EXP s.e id

/-- Sets a sticky flag of a context where a condition holds (R494). -/
def Dev.stick (d : Dev) (f : Fld) (c : Bool) (id : Nat) : Dev := if c then d.wr f 1 id else d

/-- The gain in force at the OUT tap over the window of the newest output (R485): the active gain before the tick
commit of this boundary. -/
def Dev.gPrev (d : Dev) (m t : Nat) : Nat :=
  if d.flag F.TIL_STREAM_MANUAL m then d.act m t
  else if d.eng.committed.contains m then tabGet (d.act m t) (d.stream m).before t
  else d.act m t

/-- Some cause of R510 holds the observer: mute, survey, port outside *ACTIVE*, MEAS_STALE, an uplink cut. -/
def Dev.holdCode (d : Dev) (m t : Nat) : Nat :=
  let v := d.rd F.ISO_PS_VERDICT m
  if d.flag F.SLC_PROT_MUTE m then 1
  else if d.underSurvey m || !(v == 1 || v == 2 || v == 6) then 2
  else if !(d.portActive (portOf m)) then 3
  else if d.flag F.LCX0_STALE (256 * m + t) then 4
  else if d.flag F.TIL_STREAM_MANUAL m then 5
  else if dirOf m = 1 ∧ d.rd F.SLC_PROT_CUT m ≠ 0 then 6
  else 0

/-- The uplink cut holds observer and integrator whatever else is reported (R510). -/
def Dev.cutHeld (d : Dev) (m : Nat) : Bool := dirOf m == 1 && d.rd F.SLC_PROT_CUT m != 0

/-- The MEAS_STALE protection event of a port slice (R546, R587): a record, and `STALE` after `STALE_MUTE`, at once
where that is 0. -/
def Dev.staleEvent (d : Dev) (m : Nat) : Dev :=
  let k := sliceKey m
  let d1 := d.raise 0xE4 m
  let d2 := { d1 with prt := { d1.prt with
    stale := k :: d1.prt.stale.filter (fun q => q != k)
    staleAt := tabPut d1.prt.staleAt k d1.now } }
  if d2.rd F.PRT_STALE_CFG_STALE_MUTE = 0 ∧ d2.flag F.PRT_CTL_STALE_EN then
    ((((d2.setCause 5 k).setCause 5 (k + 8)).bump F.PRT_CNT_C_STALE).wr F.PRT_LAST_KIND 8 |>.wr F.PRT_LAST_STREAM m).faultPin
  else d2

/-- No tile of either stream of a port slice is in MEAS_STALE any more: `STALE` clears (R587). -/
def Dev.staleEnd (d : Dev) (m : Nat) : Dev :=
  let k := sliceKey m
  if (d.cause 5 k || d.cause 5 (k + 8)) &&
      (upTo 256).all (fun t => !(d.flag F.LCX0_STALE (256 * k + t)) && !(d.flag F.LCX0_STALE (256 * (k + 8) + t))) then
    ((d.clearCause 5 k).clearCause 5 (k + 8)).faultPin
  else d

/-- The sequence counts of a tile's chains have both risen since its last update (R545). -/
def Dev.seqNew (d : Dev) (m t : Nat) : Bool × Bool :=
  (d.rd F.MEA_HDR0_SEQ m 0 != d.rd F.LCX4_SEQ_IN (256 * m + t),
   d.rd F.MEA_HDR0_SEQ m 1 != d.rd F.LCX5_SEQ_OUT (256 * m + t))

/-- Stale detection (R545 to R547): the unchanged count, entry to MEAS_STALE, the ticks spent in it, and its end. -/
def Dev.staleTrack (d : Dev) (m t : Nat) : Dev :=
  let id := 256 * m + t
  let fresh := (d.seqNew m t).1 && (d.seqNew m t).2
  let un := if fresh then 0 else min 3 (d.rd F.LCX4_UNCHANGED id + 1)
  let d1 := ((d.wr F.LCX4_UNCHANGED un id).wr F.LCX4_SEQ_IN (d.rd F.MEA_HDR0_SEQ m 0) id).wr F.LCX5_SEQ_OUT
    (d.rd F.MEA_HDR0_SEQ m 1) id
  if d.flag F.LCX0_STALE id then
    if fresh then ((d1.wr F.LCX0_STALE 0 id).wr F.LCX0_RAMPING 0 id).wr F.LCX4_STALE_TICKS 0 id
    else d1.bump F.LCX4_STALE_TICKS id
  else if un = 3 then
    (((d1.wr F.LCX0_STALE 1 id).wr F.LCX0_STALE_SEEN 1 id).wr F.LCX4_STALE_TICKS 0 id).bump F.CE_STALE_CNT_ENTRIES
  else d1

/-- Stages a selected gain (R524); a stream with `MANUAL` set stages none (R544). -/
def Dev.stageGain (d : Dev) (m t g : Nat) : Dev :=
  if d.flag F.TIL_STREAM_MANUAL m then d
  else
    let n := d.donorOf m
    let lt := d.loopTick n (dirOf m)
    d.setLoopTick n (dirOf m) { lt with staged := tabPut lt.staged (256 * m + t) g }

/-- A tile in MEAS_STALE: its gain holds, then ramps down to the safe gain of its region (R546). -/
def Dev.staleGain (d : Dev) (m t : Nat) : Dev :=
  let id := 256 * m + t
  if d.flag F.TIL_STREAM_MANUAL m then d
  else if d.rd F.LCX4_STALE_TICKS id < d.rd F.CE_TIMING_STALE_HOLD ∧ !(d.flag F.LCX0_RAMPING id) then d
  else
    let safe := gainDb (d.rd F.CE_REGION_SAFE_GAIN (dirOf m) (d.region m t))
    let g := d.pend m t
    let step : Int := 16 * max 1 (d.rd F.CE_TIMING_STALE_RAMP)
    let d1 := if d.flag F.LCX0_RAMPING id then d else (d.wr F.LCX0_RAMPING 1 id).staleEvent m
    if g = 0x8000 ∨ toSigned 16 g ≤ safe then d1
    else d1.stageGain m t (ofSigned 16 (max safe (toSigned 16 g - step)))

/-- The slice trim τ of the tick before (R482). -/
def Dev.trimOf (d : Dev) (m : Nat) : Int :=
  tabGet (d.rdS F.CE_PS_STS_TRIM m) (d.loopTick (d.donorOf m) (dirOf m)).trims m

/-- The constants c_i of a tile's rows in 1/256 dB (R488). -/
def Dev.rowConst (d : Dev) (m t : Nat) (share : Int) (i : Nat) : Int :=
  let n := d.donorOf m
  let r := dirOf m
  if i = 0 then d.effIso m t - 64 * d.rd F.CE_LAW_CFG_ISO_MARGIN
  else if i = 1 then d.rdS F.CE_PS0_LEVEL_MAX m + d.trimOf m
  else if i = 2 then d.effIso m t + (d.rdS F.CE_BLD2_BUDGET_NOW n r + share) + d.rdS F.CE_BTILE0_BETA n r t
  else if r = 0 then dbOf (d.opSet m t)
  else d.rdS F.CE_BLD2_NOISE_NOW n r + share + d.rdS F.CE_BTILE0_NU n r t

/-- A row is enabled (R489). -/
def Dev.rowOn (d : Dev) (m i : Nat) : Bool :=
  if i = 1 then d.flag F.CE_PS0_LEVEL_EN m else if i = 3 then d.flag F.CE_PS0_ROW3_EN m else true

/-- The candidates of the enabled rows, and whether one saturated (R488, R535). -/
def Dev.candidates (d : Dev) (m t : Nat) (share : Int) (c : Coef) (s : Stage) : List (Nat × Int × Bool) :=
  ((upTo 4).filter (d.rowOn m)).map (fun i =>
    (i, candidate c (c.rows.getD i []) s (d.rowConst m t share i)
      (if i = 1 then d.rdS F.LCX6_Q (256 * m + t) else 0)))

/-- The upper limit of a tile's gain (R490). -/
def Dev.upper (d : Dev) (m t : Nat) : Int :=
  let o := d.opSet m t
  if dirOf m = 1 ∧ o ≠ 0x8000 then min (d.rdS F.CE_PS1_GMAX m) (toSigned 16 o) else d.rdS F.CE_PS1_GMAX m

/-- The tile's gain is 0x8000 whatever the rows give: set-point muted, or squelched (R490, R584). -/
def Dev.forcedMute (d : Dev) (m t : Nat) : Bool := d.opSet m t == 0x8000 || d.squelched (256 * m + t)

/-- Writes the candidates that a context reports (R537). -/
def Dev.showCands (d : Dev) (id : Nat) (l : List (Nat × Int × Bool)) : Dev :=
  let v := fun i => match l.find? (fun p => p.1 == i) with
    | some p => ofSigned 16 p.2.1
    | none => 0x7FFF
  (((d.wr F.LCX9_CAND_0 (v 0) id).wr F.LCX9_CAND_1 (v 1) id).wr F.LCX10_CAND_2 (v 2) id).wr F.LCX10_CAND_3 (v 3) id

/-- The soft-start ceiling of this tick (R506, R507): a start sets it to the measured gain, a running one rises. -/
def Dev.ceiling (d : Dev) (id : Nat) (starts : Bool) : Option Int :=
  let x := d.tile id
  if starts then
    some (match x.startFrom with
      | some g => gainDb g
      | none => x.meas.getD (-24576))
  else if d.flag F.LCX0_SS_RUN id then
    some (clampInt (-32767) 32767 (d.rdS F.LCX1_SS_CEIL id + max 1 (d.rd F.CE_LAW_CFG_SS_RATE : Int)))
  else none

/-- The selection of a tile under a soft-start ceiling: candidates, limits, flags and the staged gain (R488 to R494, R507). -/
def Dev.choose (d : Dev) (m t : Nat) (share : Int) (c : Coef) (ceil : Option Int) : Dev :=
  let id := 256 * m + t
  let l := d.candidates m t share c (d.stage id)
  let p := selectGain (l.map (fun q => (q.1, q.2.1))) (d.upper m t) ceil
  let g := if d.forcedMute m t then 0x8000 else ofSigned 16 p.gain
  let d1 := (d.showCands id l).stick F.LCX0_ESAT (l.any (fun q => q.2.2)) id
  let d2 := ((d1.wr F.LCX0_WINNER p.winner id).wrS F.LCX11_SEL_RAW p.raw id).stick F.LCX0_OSAT p.atLimit id
  let d3 := match ceil with
    | some k => if p.binds then (d2.wr F.LCX0_SS_RUN 1 id).wrS F.LCX1_SS_CEIL k id
      else (d2.wr F.LCX0_SS_RUN 0 id).wr F.LCX1_SS_CEIL 0x8000 id
    | none => d2
  d3.stageGain m t g

/-- The selection of a tile in its update; a soft-start that begins has begun (R506, R507). -/
def Dev.selectTile (d : Dev) (m t : Nat) (share : Int) (c : Coef) (starts : Bool) : Dev :=
  let id := 256 * m + t
  let d1 := d.choose m t share c (d.ceiling id starts)
  if starts then d1.setTile id { d1.tile id with start := false, startFrom := none } else d1

/-- The output of the tile stands at a limit of R493, as its last selection reports. -/
def Dev.atLimit (d : Dev) (m t : Nat) : Bool :=
  let raw := d.rdS F.LCX11_SEL_RAW (256 * m + t)
  decide (d.upper m t < raw) || decide (raw < -24576) || d.flag F.LCX0_SS_RUN (256 * m + t)

/-- The LEVEL integrator of a tile (R491, R495, R536, R542). -/
def Dev.integrateTile (d : Dev) (m t : Nat) (c : Coef) : Dev :=
  let id := 256 * m + t
  let lim := d.atLimit m t
  let x := d.tile id
  let d0 := if x.freezeQ && !lim then d.setTile id { x with freezeQ := false } else d
  let okOut := (d.seqNew m t).2 && d.flag F.MEA_OUT_VALID id && !(d.flag F.MEA_OUT_MIXED id)
  if d.rd F.LCX0_WINNER id ≠ 1 ∨ !(d.rowOn m 1) ∨ !okOut ∨ (dirOf m = 1 ∧ (lim ∨ (d0.tile id).freezeQ)) then d0
  else
    let e := d.rowConst m t 0 1 - dbOf (d.rd F.MEA_OUT_POWER id)
    let y := notchStep (notchOf c.lag c.r) e (d.rdS F.LCX7_NS1 id) (d.rdS F.LCX8_NS2 id)
    let q := d.rdS F.LCX6_Q id + integrate c y.1
    let q1 := clampInt (-qLimit) qLimit q
    let d1 := ((((d0.wrS F.LCX6_Q q1 id).wrS F.LCX7_NS1 y.2.1 id).wrS F.LCX8_NS2 y.2.2.1 id).stick F.LCX0_QSAT
      (decide (q1 ≠ q)) id).stick F.LCX0_ESAT y.2.2.2 id
    d1.setTile id { d1.tile id with lastIn := e }

/-- A tile meets a new coefficient set (R541 to R543): the integrator keeps the LEVEL candidate, the notch rests on its
last input. -/
def Dev.rescaleTile (d : Dev) (m t set : Nat) (new : List Nat) : Dev :=
  let id := 256 * m + t
  let x := d.tile id
  let d0 := d.wr F.LCX0_SET set id
  if x.coef = new then d0
  else if x.coef.isEmpty then d0.setTile id { x with coef := new }
  else
    let co := coefOf x.coef
    let cn := coefOf new
    let s := d.stage id
    let q := d.rdS F.LCX6_Q id
    let q1 := q + rowPart co (co.rows.getD 1 []) s - rowPart cn (cn.rows.getD 1 []) s
    let free := decide (-qLimit < q) && decide (q < qLimit)
    let d1 := if free then (d0.wrS F.LCX6_Q (clampInt (-qLimit) qLimit q1) id).stick F.LCX0_QSAT
        (decide (clampInt (-qLimit) qLimit q1 ≠ q1)) id
      else d0.wr F.LCX0_SWAP_SAT 1 id
    let ns := notchRest (notchOf cn.lag cn.r) x.lastIn
    ((d1.wrS F.LCX7_NS1 ns.1 id).wrS F.LCX8_NS2 ns.2 id).setTile id
      { x with coef := new, freezeQ := x.freezeQ || (!free && dirOf m == 1) }

/-- Margin and level thresholds of a class and group (R513). -/
def Dev.marginThr (d : Dev) (c g : Nat) : List Int :=
  [d.rdS F.CE_BAND0_MTHR_0 c g, d.rdS F.CE_BAND0_MTHR_1 c g, d.rdS F.CE_BAND1_MTHR_2 c g]
def Dev.levelThr (d : Dev) (c g : Nat) : List Int :=
  [d.rdS F.CE_BAND2_LTHR_0 c g, d.rdS F.CE_BAND2_LTHR_1 c g, d.rdS F.CE_BAND3_LTHR_2 c g]

/-- The bands follow the observer (R503, R504); `first` sets them without hysteresis. -/
def Dev.bandTile (d : Dev) (m t : Nat) (first : Bool) : Dev :=
  let id := 256 * m + t
  let c := dirOf m
  let g := d.rd F.CE_PS0_GROUP m
  let mu := d.effIso m t - gainDb (d.rd F.LCX1_G_PREV id)
  let x := (d.stage id).db (d.stage id).x
  if first then
    (d.wr F.LCX0_MB (firstBand mu (d.marginThr c g)) id).wr F.LCX0_LB (firstBand x (d.levelThr c g)) id
  else
    (d.wr F.LCX0_MB (nextBand (d.rd F.LCX0_MB id) mu (d.marginThr c g) (16 * d.rd F.CE_BAND1_MHYST c g)) id).wr
      F.LCX0_LB (nextBand (d.rd F.LCX0_LB id) x (d.levelThr c g) (16 * d.rd F.CE_BAND1_LHYST c g)) id

/-- The newest valid pair of readings without `MIXED` gives the measured gain (R506). -/
def Dev.measureGain (d : Dev) (m t : Nat) : Dev :=
  let id := 256 * m + t
  let i := d.rd F.MEA_IN_POWER id
  let o := d.rd F.MEA_OUT_POWER id
  if d.flag F.MEA_IN_VALID id && d.flag F.MEA_OUT_VALID id && !(d.flag F.MEA_OUT_MIXED id) then
    let v := if i = 0x8000 ∨ i = 0x8001 ∨ o = 0x8000 ∨ o = 0x8001 then none else some (dbOf o - dbOf i)
    d.setTile id { d.tile id with meas := v }
  else d

/-- The observer of a tile updates or initialises (R485, R486). `seq` says which sequence counts have risen; the result
says whether the loop may select. -/
def Dev.observeTile (d : Dev) (m t : Nat) (seq : Bool × Bool) (c : Coef) (init : Bool) : Dev × Bool :=
  let id := 256 * m + t
  let inOk := seq.1 && d.flag F.MEA_IN_VALID id
  let i := dbOf (d.rd F.MEA_IN_POWER id)
  if init then
    if inOk then
      let r := renorm (i * (2 ^ 72 : Nat)) 0 (i * (2 ^ 72 : Nat)) 0
      (((d.setStage id r.1).wr F.LCX0_READY 1 id).bandTile m t true, true)
    else (d.wr F.LCX0_READY 0 id, false)
  else
    let gp := d.rd F.LCX1_G_PREV id
    let bias := if inOk && seq.2 && d.flag F.MEA_OUT_VALID id && !(d.flag F.MEA_OUT_MIXED id) && gp != 0x8000 then
      some (dbOf (d.rd F.MEA_OUT_POWER id) - i - toSigned 16 gp) else none
    let el := max 1 ((d.rd F.CE_SLICE_TICK_TICK_CNT (d.donorOf m) + 256 - d.rd F.LCX5_LAST_TICK id) % 256)
    let r := observe c (d.stage id) el (d.rd F.CE_LAW_CFG_N_CREEP) (if inOk then some i else none) bias
    let d1 := (d.setStage id r.1).stick F.LCX0_ESAT r.2 id
    (if inOk then d1.bandTile m t false else d1, true)

/-- A squelched tile whose input rises leaves squelch (R584). -/
def Dev.squelchExit (d : Dev) (m t : Nat) : Dev :=
  let id := 256 * m + t
  let s := d.stage id
  if d.squelched id && decide (256 * (d.rd F.PRT_NR_CFG_NR_IDLE + 3) ≤ s.db s.x - s.db s.n) then
    (d.setSquelch id false).setTile id { d.tile id with start := true }
  else d

/-- The coefficient set of a tile's region, and what it holds (R503, R514, R540). -/
def Dev.setOf (d : Dev) (m t : Nat) : Nat × List Nat :=
  let set := d.rd F.CE_REGION_SET (dirOf m) (d.region m t)
  (set, d.coefSet (d.donorOf m) (dirOf m) set)

/-- The running part of a tile's update: observer, set change, rows, selection, integrator (R485 to R496). -/
def Dev.tileRun (d : Dev) (m t : Nat) (share : Int) (seq : Bool × Bool) (held : Bool) : Dev :=
  let id := 256 * m + t
  let x := d.tile id
  let init := !(d.flag F.LCX0_READY id) || (x.held && !held)
  let starts := x.start || init || (x.opMute && d.opSet m t != 0x8000)
  let set := d.setOf m t
  let c := coefOf set.2
  let o := if held then (d, d.flag F.LCX0_READY id) else d.observeTile m t seq c init
  let d1 := o.1.setTile id { o.1.tile id with held := held, opMute := d.opSet m t == 0x8000 }
  if !o.2 then d1.setTile id { d1.tile id with start := starts }
  else
    let d2 := (d1.rescaleTile m t set.1 set.2).squelchExit m t
    let d3 := d2.selectTile m t share c (starts || (d2.tile id).start)
    if held || d.flag F.TIL_STREAM_MANUAL m then d3 else d3.integrateTile m t c

/-- One tile's update (R523, R510): stale detection, then what the hold causes leave running. -/
def Dev.updateTile (d : Dev) (m t : Nat) (share : Int) : Dev :=
  let id := 256 * m + t
  if !(d.flag F.LCX0_EN id) then d
  else
    let seq := d.seqNew m t
    let d1 := ((d.staleTrack m t).measureGain m t).wr F.LCX1_G_PREV (d.gPrev m t) id
    let h := d1.holdCode m t
    let d2 := d1.wr F.LCX0_HOLD h id
    let d3 := if h = 1 ∨ h = 2 ∨ h = 3 then d2.setTile id { d2.tile id with held := true }
      else if h = 4 then ((d2.setTile id { d2.tile id with held := true }).rescaleTile m t (d2.setOf m t).1 (d2.setOf m t).2).staleGain m t
      else if d2.flag F.LCX0_STALE id then d2
      else d2.tileRun m t share seq (d2.cutHeld m)
    d3.wr F.LCX5_LAST_TICK (d.rd F.CE_SLICE_TICK_TICK_CNT (d.donorOf m)) id

/-- v̂ of every tile of a stream is multiplied by a new tick length over the old (R509). -/
def Dev.rescaleSlope (d : Dev) (m new old : Nat) : Dev :=
  d.each ((upTo 256).filter (fun t => d.flag F.LCX0_READY (256 * m + t))) (fun x t =>
    let s := x.stage (256 * m + t)
    let r := renorm (s.fine s.x) (divNear (s.fine s.v * new) (max 1 old)) (s.fine s.n) (s.fine s.b)
    x.setStage (256 * m + t) r.1)

/-- The tile updates of a stream have completed or have been abandoned in this tick (R524, R526, R549). -/
def LoopTick.settled (lt : LoopTick) (m : Nat) : Bool := lt.updated.contains m || lt.missed.contains m

/-- A stream's tile loops update once in its tick (R523, R524). -/
def Dev.tileUpdate (m : Nat) (d : Dev) : Dev :=
  let n := d.donorOf m
  let lt := d.loopTick n (dirOf m)
  if !(d.has m) || lt.settled m || lt.evaluated then d
  else
    let d0 := d.setLoopTick n (dirOf m) { lt with updated := lt.updated ++ [m] }
    let share := d.shareDb m
    (d0.each (upTo 256) (fun x t => x.updateTile m t share)).staleEnd m

/-- The gain with which a stream's tile enters the building loop (R499, R526): staged, else pending as it stands. -/
def Dev.loopGain (d : Dev) (m t : Nat) : Nat :=
  let lt := d.loopTick (d.donorOf m) (dirOf m)
  match tabFind lt.staged (256 * m + t) with
  | some g => g
  | none => d.pend m t

/-- The streams that enter Λ'_t and N'_t, with their gains (R499). -/
def Dev.loopTerms (d : Dev) (n r t : Nat) : List (Nat × Int) :=
  ((d.streamsIn n r).filter (fun m => !(d.silent m) && d.loopGain m t != 0x8000)).map
    (fun m => (m, toSigned 16 (d.loopGain m t)))

/-- Λ'_t (R499). -/
def Dev.lambda (d : Dev) (n r t : Nat) : Option Int :=
  dbSum ((d.loopTerms n r t).map (fun p => p.2 - d.effIso p.1 t))

/-- N'_t (R502). -/
def Dev.noiseMod (d : Dev) (n t : Nat) : Option Int :=
  dbSum ((d.loopTerms n 1 t).map (fun p =>
    let s := d.stage (256 * p.1 + t)
    s.db s.n + s.db s.b + p.2))

/-- A stream's tile loop has selected in this tick. -/
def Dev.selected (d : Dev) (m t : Nat) : Bool :=
  let id := 256 * m + t
  let h := d.rd F.LCX0_HOLD id
  (d.loopTick (d.donorOf m) (dirOf m)).updated.contains m && d.flag F.LCX0_EN id && d.flag F.LCX0_READY id &&
    (h == 0 || h == 5 || h == 6)

/-- The streams of a building loop that stage a gain for its tile select again under R500, with the trims as they now stand. -/
def Dev.reselect (d : Dev) (n r t : Nat) : Dev :=
  let ms := (d.streamsIn n r).filter (fun m => d.selected m t && !(d.flag F.TIL_STREAM_MANUAL m))
  let d1 := d.each ms (fun x m =>
    let id := 256 * m + t
    (x.choose m t (x.shareDb m) (coefOf (x.tile id).coef)
      (if x.flag F.LCX0_SS_RUN id then some (x.rdS F.LCX1_SS_CEIL id) else none)).bump F.CE_BLD3_RESELECTS n r)
  let lt := d1.loopTick n r
  d1.setLoopTick n r { lt with resel := lt.resel + ms.length }

/-- Some stream of the building loop is held by row `i` in its tile (R501). -/
def Dev.boundBy (d : Dev) (n r t i : Nat) : Bool :=
  (d.streamsIn n r).any (fun m => d.selected m t && d.rd F.LCX0_WINNER (256 * m + t) == i)

/-- Every cell of the tile whose port is in *ACTIVE* is trusted (R501). -/
def Dev.allTrusted (d : Dev) (n r t : Nat) : Bool :=
  (d.streamsIn n r).all (fun m => !(d.portActive (portOf m)) || d.trusted m t)

/-- A budget is still exceeded after reselection (R500). -/
def Dev.budgetOver (d : Dev) (n r t : Nat) : Dev := (d.wr F.CE_BLD3_OVER 1 n r).raise 0xC2 n (r * 256 + t)

/-- A budget of a tile is checked (R500): where its sum `of` exceeds it, the trim falls to 0 at once and the tile selects again. -/
def Dev.budgetCheck (d : Dev) (n r t : Nat) (budget : Int) (trim : Fld) (of : Dev → Option Int) : Dev :=
  if budget < (of d).getD (-32768) then
    let d1 := (d.wr trim 0 n r t).reselect n r t
    if budget < (of d1).getD (-32768) then d1.budgetOver n r t else d1
  else d

/-- β_t moves for the next tick (R501). -/
def Dev.betaStep (d : Dev) (n r t : Nat) : Dev :=
  let lam := d.lambda n r t
  let tr := d.allTrusted n r t
  let err := d.rdS F.CE_BLD2_BUDGET_NOW n r - 16 * d.rd F.CE_BLD0_GUARD n r - lam.getD (-32768)
  let beta := reclaim (d.rdS F.CE_BTILE0_BETA n r t) err (d.rd F.CE_BLD0_BETA_SHIFT n r)
    (16 * d.rd F.CE_BLD1_BETA_STEP n r) (128 * d.rd F.CE_BLD1_BETA_MAX n r) (d.boundBy n r t 2 && tr) (!tr)
  (d.wrS F.CE_BTILE0_BETA beta n r t).wr F.CE_BTILE1_LAMBDA (dbCode lam) n r t

/-- ν_t moves for the next tick (R502). -/
def Dev.nuStep (d : Dev) (n t : Nat) : Dev :=
  let nm := d.noiseMod n t
  let err := d.rdS F.CE_BLD2_NOISE_NOW n 1 - 16 * d.rd F.CE_BLD0_GUARD n 1 - nm.getD (-32768)
  let nu := reclaim (d.rdS F.CE_BTILE0_NU n 1 t) err (d.rd F.CE_BLD0_BETA_SHIFT n 1)
    (16 * d.rd F.CE_BLD1_BETA_STEP n 1) (128 * d.rd F.CE_BLD1_BETA_MAX n 1) (d.boundBy n 1 t 3) false
  (d.wrS F.CE_BTILE0_NU nu n 1 t).wr F.CE_BTILE1_NOISE_MOD (dbCode nm) n 1 t

/-- One tile in its building loop (R499 to R502). DEDUCED (log 101): both budgets are checked with the trims in force before either trim
moves, the loop gain last, so that the gains released are within it. -/
def Dev.budgetTile (d : Dev) (n r t : Nat) : Dev :=
  let d1 := if r = 1 then d.budgetCheck n 1 t (d.rdS F.CE_BLD2_NOISE_NOW n 1) F.CE_BTILE0_NU (fun x => x.noiseMod n t) else d
  let d2 := (d1.budgetCheck n r t (d1.rdS F.CE_BLD2_BUDGET_NOW n r) F.CE_BTILE0_BETA (fun x => x.lambda n r t)).betaStep n r t
  if r = 1 then d2.nuStep n t else d2

/-- The dominant port of a donor tile (R571, R616): the highest per-path loop gain of Λ'_t's terms. -/
def Dev.dominant (d : Dev) (n r t : Nat) : Dev :=
  match topOf ((d.loopTerms n r t).map (fun p => (p.1, p.2 - d.effIso p.1 t))) with
  | some (m, l) => ((d.wr F.PRT_DOM_VALID 1 n r t).wr F.PRT_DOM_PORT (portOf m) n r t).wr F.PRT_DOM_L (dbCode (some l)) n r t
  | none => ((d.wr F.PRT_DOM_VALID 0 n r t).wr F.PRT_DOM_PORT 0 n r t).wr F.PRT_DOM_L 0x8000 n r t

/-- The limits of `CE_PROFILE` in 2^-24 dB units (R512): vmax, amax and jmax. -/
def Dev.profileLimits (d : Dev) : Int × Int × Int :=
  (max 1 (d.rd F.CE_PROFILE_VMAX) * (2 ^ 20 : Nat), max 1 (d.rd F.CE_PROFILE_AMAX) * (2 ^ 22 : Nat),
   max 1 (d.rd F.CE_PROFILE_JMAX) * (2 ^ 24 : Nat))

/-- One tick of a profile toward a target in 1/256 dB; at load it starts at the target (R508). -/
def Dev.profile (d : Dev) (n : Nat) (target : Int) (s : Option (Int × Int × Int)) : Int × Int × Int :=
  let t := target * (2 ^ 16 : Nat)
  let l := d.profileLimits
  profileStep l.1 l.2.1 l.2.2 (d.tickLen n) t (s.getD (t, 0, 0))

/-- A profile's position in 1/256 dB. -/
def profileDb (s : Int × Int × Int) : Int := shrNear s.1 16

/-- The building loop's profiled budgets for this tick (R508). -/
def Dev.profileBudgets (d : Dev) (n r : Nat) : Dev :=
  let p := tabGet {} d.eng.profiles (2 * n + r)
  let b := d.profile n (d.rdS F.CE_BLD0_BUDGET n r) p.budget
  let k := d.profile n (d.rdS F.CE_BLD1_NOISE_MAX n r) p.noise
  let e : Engine := { d.eng with profiles := tabPut d.eng.profiles (2 * n + r) { budget := some b, noise := some k } }
  (({ d with eng := e }).wrS F.CE_BLD2_BUDGET_NOW (profileDb b) n r).wrS F.CE_BLD2_NOISE_NOW (profileDb k) n r

/-- The building loop (R499 to R502, R524): every tile is checked, reselects and moves its trims, once per tick; the trims of the tick
before stay at hand until it releases (R530). -/
def Dev.buildingLoop (n r : Nat) (d : Dev) : Dev :=
  if !(d.declared n) || (d.loopTick n r).evaluated then d
  else
    let old := (upTo 256).map (fun t => (t, (d.rd F.CE_BTILE0_BETA n r t, d.rd F.CE_BTILE0_NU n r t)))
    let d1 := (d.profileBudgets n r).each (upTo 256) (fun x t => (x.budgetTile n r t).dominant n r t)
    let d2 := d1.wr F.CE_BLD3_SHARE_TILES (countBelow 256 (fun t => d1.boundBy n r t 2)) n r
    d2.setLoopTick n r { d2.loopTick n r with evaluated := true, before := old }

/-- The checked gains go to the pending banks (R524). -/
def Dev.releaseGains (n r : Nat) (d : Dev) : Dev :=
  let lt := d.loopTick n r
  let d1 := lt.staged.foldr (fun p x =>
    if x.flag F.TIL_STREAM_MANUAL (p.1 / 256) then x else x.setPend (p.1 / 256) (p.1 % 256) p.2) d
  d1.setLoopTick n r { lt with released := true, staged := [], before := [] }

/-- The slice loop (R497, R508): the composite power of the newest OUT output moves the slice trim; this tick's tile loops still use
the trim of the tick before (R482). -/
def Dev.sliceLoop (m : Nat) (d : Dev) : Dev :=
  let n := d.donorOf m
  let lt := d.loopTick n (dirOf m)
  if !(d.has m) || lt.sliced.contains m then d
  else
    let ps := ((upTo 256).filter (fun t => d.flag F.MEA_OUT_VALID (256 * m + t))).map
      (fun t => dbOf (d.rd F.MEA_OUT_POWER (256 * m + t)))
    let c := d.profile n (d.rdS F.CE_PS1_SLICE_MAX m) (d.stream m).ceil
    let d1 := (d.setStream m { d.stream m with ceil := some c }).setLoopTick n (dirOf m)
      { lt with sliced := lt.sliced ++ [m], trims := tabPut lt.trims m (d.rdS F.CE_PS_STS_TRIM m) }
    match dbSum ps with
    | some p =>
      let d2 := d1.wr F.CE_PS_STS_COMPOSITE (dbCode (some p)) m
      if ps.length < 128 then d2
      else d2.wrS F.CE_PS_STS_TRIM (clampInt (-12288) 0 (d.rdS F.CE_PS_STS_TRIM m +
        shrNear (profileDb c - p) (d.rd F.CE_PROFILE_TRIM_SHIFT))) m
    | none => d1

/-- The effective multiplier of a donor slice for a base tick (R521). -/
def multFit (base : Nat) : Nat → Nat
  | 0 => 0
  | k + 1 => if base * 2 ^ (k + 1) ≤ 983040 then k + 1 else multFit base k

/-- The base tick that `CE_TICK_i` asks for (R521). -/
def Dev.baseTick (d : Dev) (i : Nat) : Nat :=
  max 30720 (min 983040 (d.rd F.CE_TICK_BASE_TICK i / 256 * 256))

/-- The multiplier that a donor slice asks for: the larger of the set and the granted one, within 983,040 (R521). -/
def Dev.multWanted (d : Dev) (n base : Nat) : Nat :=
  multFit base (max (d.rd F.CE_SLICE_TICK_MULT_SET n) (d.rd F.BGV_DSLICE_MULT_GRANT n))

/-- A donor slice's tick changes (R415, R509, R522, R551): chains swap to the same preset, slopes rescale, the
unchanged counts restart. -/
def Dev.tickChanged (d : Dev) (n new old : Nat) : Dev :=
  let ms := d.allStreams.filter (fun m => d.dsliceOf m == n)
  let d1 := d.each ms (fun x m => (x.chainStart m (some (x.boundaryNear n).1) 0).showH m)
  d1.each (ms.filter (fun m => decide (m < 2048))) (fun x m =>
    (x.rescaleSlope m new old).each (upTo 256) (fun x t => x.wr F.LCX4_UNCHANGED 0 (256 * m + t)))

/-- A tile update that a fault or a deadline leaves undone sets its flag (R529). -/
def Dev.missTiles (d : Dev) (m : Nat) (f cnt : Fld) : Dev :=
  let ts := (upTo 256).filter (fun t => d.flag F.LCX0_EN (256 * m + t))
  (d.each ts (fun x t => x.wr f 1 (256 * m + t))).bumpBy ts.length cnt

/-- The donor slice of a unit of work, and its direction. -/
def Dev.unitSlice (d : Dev) : LoopUnit → Nat × Nat
  | .tiles m => (d.donorOf m, dirOf m)
  | .building n r => (n, r)
  | .slice m => (d.donorOf m, dirOf m)

/-- A processor lets go of its unit; the time it was busy counts in the window of either orbit (R563). -/
def Dev.procFree (d : Dev) (lp : Nat) : Dev :=
  match tabFind d.eng.procs lp with
  | none => d
  | some p =>
    let t := d.now - p.since
    { d with eng := { d.eng with
        procs := tabDel d.eng.procs lp
        busy := (upTo 2).foldl (fun l i => tabPut l (2 * lp + i) (tabGet 0 l (2 * lp + i) + t)) d.eng.busy } }

/-- Every processor that holds one of certain units lets go of it. -/
def Dev.procsFree (d : Dev) (c : LoopUnit → Bool) : Dev :=
  d.each ((d.eng.procs.filter (fun q => c q.2.unit)).map (fun q => q.1)) Dev.procFree

/-- Tile updates that are abandoned count as tile misses (R526, R529). -/
def Dev.tilesLate (d : Dev) (n r : Nat) (ms : List Nat) : Dev :=
  let d1 := (d.procsFree (fun u => match u with | .tiles m => ms.contains m | _ => false)).each ms
    (fun x m => x.missTiles m F.LCX0_DMISS (if r = 0 then F.CE_MISS_TILE_DL_COUNT else F.CE_MISS_TILE_UL_COUNT))
  let lt := d1.loopTick n r
  d1.setLoopTick n r { lt with missed := lt.missed ++ ms }

/-- A building loop that has not released keeps the trims of the tick before (R530). -/
def Dev.trimsBack (d : Dev) (n r : Nat) : Dev :=
  (d.loopTick n r).before.foldl (fun (x : Dev) (q : Nat × (Nat × Nat)) =>
    (x.wr F.CE_BTILE0_BETA q.2.1 n r q.1).wr F.CE_BTILE0_NU q.2.2 n r q.1) d

/-- At the deadline of a donor slice's tick, unfinished work is abandoned (R525, R529 to R531). -/
def Dev.deadlineOf (d : Dev) (n : Nat) : Dev :=
  d.each ((upTo 2).filter (fun r => (d.loopTick n r).live && !(d.loopTick n r).closed)) (fun x r =>
    let ms := x.streamsIn n r
    let x1 := x.tilesLate n r (ms.filter (fun m => !((x.loopTick n r).settled m)))
    let x2 := if (x1.loopTick n r).released || ms.isEmpty then x1
      else (((x1.trimsBack n r).bump F.CE_MISS_CNT_BUILDING).each ms (fun y m =>
        y.each ((upTo 256).filter (fun t => y.flag F.LCX0_EN (256 * m + t))) (fun y t => y.wr F.LCX0_DMISS 1 (256 * m + t))))
    let lt := x2.loopTick n r
    let x3 := x2.bumpBy (ms.filter (fun m => !(lt.sliced.contains m))).length F.CE_MISS_CNT_SLICE
    (x3.procsFree (fun u => x3.unitSlice u == (n, r))).setLoopTick n r { lt with staged := [], before := [], closed := true })

/-- A new tick of a donor slice begins: its count rises, its work starts afresh, and a coefficient bank that waits is due (R524, R540,
R551, R558). What the tick before left undone is abandoned. -/
def Dev.newTick (d : Dev) (n : Nat) : Dev :=
  let d1 := (d.deadlineOf n).bumpWrap F.CE_SLICE_TICK_TICK_CNT n
  let d2 := d1.each (upTo 2) (fun x r => x.setLoopTick n r { live := x.engineOn, reserve := (x.loopTick n r).resel })
  let own := fun q => if 2080 ≤ q then q == 2080 + n else d2.dsliceOf q == n
  { d2 with eng := { d2.eng with
      committed := d2.eng.committed.filter (fun q => !(own q)) ++ d2.eng.ahead.filter own
      ahead := d2.eng.ahead.filter (fun q => !(own q))
      coefDue := if d2.eng.coefWait.contains n then d2.eng.coefDue.filter (fun k => k != n) ++ [n] else d2.eng.coefDue } }

/-- Donor slices of an orbit that are due at its current base tick (R521). -/
def Dev.dueSlices (d : Dev) (i : Nat) : List Nat :=
  (d.slicesOn i).filter (fun n => (d.orb i).tick % 2 ^ d.rd F.CE_SLICE_TICK_MULT_EFF n == 0)

/-- The loop-engine heartbeat of a base tick is due: every building loop of it has released, no processor failed, `RUN`
is set (R528). -/
def Dev.heartbeatDue (d : Dev) (i : Nat) : Bool :=
  d.engineOn && !(d.eng.tickFault.contains i) &&
    (d.dueSlices i).all (fun n => (upTo 2).all (fun r => (d.streamsIn n r).isEmpty || (d.loopTick n r).released))

/-- What a write of `CE_CTL` does to the coefficient banks (R540): every slice has yet to take the new bank. -/
def Dev.coefCommit (d : Dev) : Dev :=
  let lo := F.CE_COEFA0_KX.off * 8
  let keep := if d.eng.coefWait.isEmpty then
    d.regs.filter (fun p => decide (lo ≤ p.1) && decide (p.1 < lo + 0x10000)) else d.eng.coefOld
  let shadow := (d.regs.filter (fun p => decide (lo - 0x80000 ≤ p.1) && decide (p.1 < lo - 0x80000 + 0x10000))).map
    (fun (p : Nat × Nat) => (p.1 + 0x80000, p.2))
  let d0 := { d with regs := d.regs.filter (fun p => decide (p.1 < lo) || decide (lo + 0x10000 ≤ p.1)) }
  let d1 := shadow.foldr (fun p (x : Dev) => { x with regs := tabPut x.regs p.1 p.2 }) d0
  let ns := (upTo 16).filter d.declared
  ({ d1 with eng := { d1.eng with coefWait := ns, coefOld := keep, coefDue := [] } }).wr F.CE_STS_COEF_PENDING (b2n (!ns.isEmpty))

/-- COEF_COMMIT_APPLY (R540): at its next tick boundary a donor slice takes the committed bank, before the tick's work starts. -/
def Dev.coefApply (n : Nat) (d : Dev) : Dev :=
  if !(d.eng.coefDue.contains n) then d
  else
    let l := d.eng.coefWait.filter (fun k => k != n)
    let d1 := { d with eng := { d.eng with
      coefWait := l, coefOld := if l.isEmpty then [] else d.eng.coefOld, coefDue := d.eng.coefDue.filter (fun k => k != n) } }
    if l.isEmpty then d1.wr F.CE_STS_COEF_PENDING 0 else d1

/-- COEF_COMMIT_APPLY (R540). -/
def execCoefCommitApply (n : Nat) (s : State) : Out := unit n 16 (.next (s.onDev (Dev.coefApply n)))

/-- A unit of work whose processor fails is abandoned (R549): a stream's tiles are held, a building loop runs again, a slice loop's trim
stays. -/
def Dev.unitLost (d : Dev) : LoopUnit → Dev
  | .tiles m =>
    let lt := d.loopTick (d.donorOf m) (dirOf m)
    if lt.settled m then d
    else (d.missTiles m F.LCX0_FHOLD F.CE_LP_CNT_FAULT_HELD).setLoopTick (d.donorOf m) (dirOf m) { lt with missed := lt.missed ++ [m] }
  | .building _ _ => d
  | .slice m =>
    let lt := d.loopTick (d.donorOf m) (dirOf m)
    d.setLoopTick (d.donorOf m) (dirOf m) { lt with unsliced := lt.unsliced ++ [m] }

/-- A loop processor is declared failed (R548 to R550): its unit is abandoned, a record written, its supply gated. -/
def Dev.lpFail (d : Dev) (lp cause : Nat) : Dev :=
  if lp ≥ 32 ∨ (tabFind d.eng.failed lp).isSome then d
  else
    let d1 := { d with eng := { d.eng with failed := tabPut d.eng.failed lp cause, tickFault := [0, 1] } }
    let d2 := (((d1.wr F.CE_LP_STS_FAILED 1 lp).wr F.CE_LP_STS_CAUSE cause lp).wr F.CE_STS_HEALTHY
      (32 - d1.eng.failed.length)).bump F.CE_LP_CNT_FAULTS
    let d3 := match tabFind d2.eng.procs lp with
      | some p => (d2.procFree lp).unitLost p.unit
      | none => d2
    (((d3.wr F.PRT_FAULT_STS_LP_FAIL 1).raise 0xC3 lp cause).ladderAsk false (42 + lp)).faultPin

/-- LP_FAILURE (R549): a processor fails, with the unit that it holds. -/
def execLpFailure (lp cause : Nat) (s : State) : Out := unit lp 32 (.next (s.onDev (fun d => d.lpFail lp cause)))

/-- LP_WATCHDOG_EXPIRY (R548): a processor that has held its unit for more than 16 µs, without progress, fails. -/
def Dev.lpWatchdog (lp : Nat) (d : Dev) : Dev :=
  match tabFind d.eng.procs lp with
  | some p => if 1966 < d.now - p.since then d.lpFail lp 1 else d
  | none => d

/-- LP_WATCHDOG_EXPIRY (R548). -/
def execLpWatchdogExpiry (lp : Nat) (s : State) : Out := unit lp 32 (.next (s.onDev (Dev.lpWatchdog lp)))

/-- Every observer is released from its hold when `RUN` is set again (R551). -/
def Dev.runReleased (d : Dev) : Dev :=
  d.each d.portStreams (fun x m => x.each (upTo 256) (fun x t =>
    if x.flag F.LCX0_EN (256 * m + t) then x.setTile (256 * m + t) { x.tile (256 * m + t) with held := true } else x))

/-- Clears every `CE_` counter and `PEAK` (R553). -/
def Dev.ceClear (d : Dev) : Dev :=
  let d1 := d.zero [F.CE_MISS_TILE_DL_COUNT, F.CE_MISS_TILE_UL_COUNT, F.CE_MISS_CNT_SLICE, F.CE_MISS_CNT_BUILDING,
    F.CE_STALE_CNT_ENTRIES, F.CE_LP_CNT_FAULTS, F.CE_LP_CNT_FAULT_HELD]
  (d1.each (upTo 2) (fun x i => x.wr F.CE_LOAD_PEAK 0 i)).each (upTo 16) (fun x n =>
    x.each (upTo 2) (fun x r => x.wr F.CE_BLD3_RESELECTS 0 n r))

/-- What a write of `CE_CTL` does (R540, R548, R551, R553). -/
def Dev.actCeCtl (p : Path) (w : Nat) (d : Dev) : Option Dev :=
  let was := d.flag F.CE_CTL_RUN
  let d1 := d.putHit p (hit .CE_CTL RD.CE_CTL) w
  let d2 := if F.CE_CTL_CLR_CNT.hit w then d1.ceClear else d1
  let d3 := if F.CE_CTL_COEF_COMMIT.hit w then d2.coefCommit else d2
  let d4 := if !was && d3.flag F.CE_CTL_RUN then d3.runReleased else d3
  some (if F.CE_CTL_TEST_FAIL.hit w then d4.lpFail (d4.rd F.CE_CTL_TEST_LP) 5 else d4)

/-- A write of `CE_CTL` with some bits set. -/
def ceCtl (p : Path) (w : Nat) (s : State) : Out :=
  .next (s.onDev (fun d => d.write p (hit .CE_CTL RD.CE_CTL) w (Dev.actCeCtl p w)))

/-- COEF_COMMIT (R540): requests the shadow coefficient bank. -/
def execCoefCommit (p : Path) (w : Nat) (s : State) : Out := ceCtl p (withBits w 2 1 1) s

/-- CE_TEST_FAIL (R548): declares `TEST_LP` failed. -/
def execCeTestFail (p : Path) (w : Nat) (s : State) : Out := ceCtl p (withBits w 7 1 1) s

/-- CE_CLR_CNT (R553). -/
def execCeClrCnt (p : Path) (w : Nat) (s : State) : Out := ceCtl p (withBits w 1 1 1) s

/-- CE_RUN_WRITE (R551): `RUN` is written. -/
def execCeRunWrite (p : Path) (w : Nat) (s : State) : Out := ceCtl p w s

/-- What a write of word 0 of a loop context does (R537, R538): clearing `EN` stops updates, setting it initialises the
observer and starts a soft-start. A context of a stream that does not exist ignores it. -/
def Dev.actLcx0 (p : Path) (id w : Nat) (d : Dev) : Option Dev :=
  if !(d.has (id / 256)) then some d
  else
    let was := d.flag F.LCX0_EN id
    let d1 := d.putHit p (hit .LCX0 RD.LCX0 id) w
    some (if !was && d1.flag F.LCX0_EN id then
      (d1.wr F.LCX0_READY 0 id).setTile id { d1.tile id with start := true } else d1)

/-- LCX_EN_WRITE (R538): a master writes word 0 of a loop context. -/
def execLcxEnWrite (p : Path) (id w : Nat) (s : State) : Out :=
  unit id 524288 (.next (s.onDev (fun d => d.write p (hit .LCX0 RD.LCX0 id) w (Dev.actLcx0 p id w))))

end Sys2Proof.Machine
end

