-- ==== Sys2Proof/Machine/Protection.lean ====
section
/-! DEFINITION. Network protection: tail watch, mute causes, noise rise, output limit and FAULT_N (chapter 10). -/

namespace Sys2Proof.Machine

/-- Replaces the protection logic's state. -/
def Dev.setPrt (d : Dev) (x : Protect) : Dev := { d with prt := x }

/-- The last action, as `PRT_LAST` shows it (R611). -/
def Dev.prtLast (d : Dev) (kind m t : Nat) : Dev :=
  ((d.wr F.PRT_LAST_KIND kind).wr F.PRT_LAST_STREAM m).wr F.PRT_LAST_TILE t

/-- The streams of a port slice that exist. -/
def Dev.pairOf (d : Dev) (m : Nat) : List Nat := [sliceKey m, sliceKey m + 8].filter d.has

/-- Samples of 1 ms and of 1 s. -/
def msSamples : Nat := 122880
def secSamples : Nat := 122880000

/-- The hold or the fall of a stream takes its time from now (R567). -/
def Dev.markStep (d : Dev) (m : Nat) : Dev := d.setPrt { d.prt with stepAt := tabPut d.prt.stepAt m d.prtTime }

/-- The stage timer of a donor slice's noise rise starts afresh (R583, R590). -/
def Dev.markStage (d : Dev) (n : Nat) : Dev := d.setPrt { d.prt with stageAt := tabPut d.prt.stageAt n d.prtTime }

/-- A cause is set on both streams of a port slice (R566). -/
def Dev.causeSlice (d : Dev) (bit m : Nat) : Dev := ((d.setCause bit (sliceKey m)).setCause bit (sliceKey m + 8)).faultPin

/-- A cause clears on both streams of a port slice. -/
def Dev.clearSlice (d : Dev) (bit m : Nat) : Dev := ((d.clearCause bit (sliceKey m)).clearCause bit (sliceKey m + 8)).faultPin

/-- A tail step adds its size to one stream's cut and restarts the hold (R567); beyond 63.5 dB it sets `CUTMAX`. -/
def Dev.cutStep (d : Dev) (m size : Nat) (fast : Bool) : Dev :=
  let c := d.rd F.SLC_PROT_CUT m + size
  let d1 := (((d.wr F.SLC_PROT_CUT (min 127 c) m).wr F.PRT_CAUSE_HOLDING 1 m).wr F.PRT_CAUSE_RELEASING 0 m).markStep m
  let d2 := if fast then (d1.wr F.SLC_PROT_FT_CUT 1 m).wr F.PRT_CAUSE_FT_CUT 1 m else d1.wr F.PRT_CAUSE_ST_CUT 1 m
  if 127 < c then d2.setCause 8 m else d2

/-- The step counts toward recurrence (R578): the `REC_COUNT`-th within `REC_WINDOW` sets `RECUR` on both streams. -/
def Dev.countRecurrence (d : Dev) (m : Nat) : Dev :=
  let k := sliceKey m
  let d1 := d.setPrt { d.prt with hist := tabPut d.prt.hist k (d.now :: (tabGet [] d.prt.hist k).take 254) }
  if d1.recent m < max 2 (d1.rd F.PRT_REL_CFG_REC_COUNT) ∨ d1.cause 0 k ∨ d1.cause 0 (k + 8) then d1
  else (((d1.causeSlice 0 m).raise 0xE2 m).bump F.PRT_CNT_B_RECUR).prtLast 3 m 0

/-- A tail step, fast or slow (R572, R573, R577): both streams of the port slice are cut, the cells of the step's
direction are forgotten, and the step counts toward recurrence. `level` is m_k or r_p. -/
def Dev.tailStep (d : Dev) (m t size : Nat) (fast : Bool) (level : Int) : Dev :=
  let d1 := d.each (d.pairOf m) (fun x k => x.cutStep k size fast)
  let d2 := (d1.forgetCells m).raise (if fast then 0xE0 else 0xE1) m (t * 65536 + ofSigned 16 level)
  let d3 := if fast then
      ((d2.bump F.PRT_CNT_A_FT_STEPS).bump F.SLC_PROT_FT_COUNT m).prtLast 1 m t
    else (d2.bump F.PRT_CNT_A_ST_STEPS).prtLast 2 m t
  let d4 := d3.countRecurrence m
  (d4.each (d4.pairOf m) (fun x k => x.surveyCut k)).faultPin

/-- The samples of one tile sample of a donor slice. -/
def Dev.tileSample (d : Dev) (n : Nat) : Nat := 128 * d.scale n

/-- A trigger on stream `m` in tile `t` acts (R571): it is dominant, no dominant port is known, or the dominant port
has been cut shortly before. -/
def Dev.fastActs (d : Dev) (m t : Nat) : Bool :=
  let n := d.donorOf m
  let r := dirOf m
  if !(d.flag F.PRT_DOM_VALID n r t) then true
  else
    let p := d.rd F.PRT_DOM_PORT n r t
    p == portOf m || match d.streamAt r p n with
      | none => false
      | some q => match tabFind d.prt.lastFast (sliceKey q) with
        | none => false
        | some c => decide (d.now - c ≤ 4 * max 1 (d.rd F.PRT_FT_CFG_FT_HOLDOFF) * d.tileSample n)

/-- A fast trigger (R571, R572). -/
def Dev.fastTrigger (d : Dev) (m t : Nat) (level : Int) : Dev :=
  let k := sliceKey m
  if d.prt.holdoff.contains k then d
  else if !(d.fastActs m t) then d.bump F.PRT_CNT_C_GATED
  else
    let d1 := d.setPrt { d.prt with holdoff := d.prt.holdoff ++ [k], lastFast := tabPut d.prt.lastFast k d.now }
    d1.tailStep m t (max 1 (d.rd F.PRT_FT_CFG_FT_STEP)) true level

/-- The fast detector's reference R_t (R568): the tile's last valid OUT reading, or `FT_ABS`. -/
def Dev.fastRef (d : Dev) (m t : Nat) : Int :=
  let id := 256 * m + t
  if d.flag F.MEA_OUT_VALID id || d.rd F.MEA_OUT_POWER id != 0x8000 then dbOf (d.rd F.MEA_OUT_POWER id)
  else d.rdS F.PRT_FT_LVL_FT_ABS

/-- The fast detector of a stream: its window under way and those that have ended. -/
def Dev.fastAccOf (d : Dev) (m : Nat) : FastAcc := tabGet {} d.prt.fastAcc m

/-- The detector judges an ended window of tile `t` with mean `mean` in 1/256 dB (R569, R570). -/
def Dev.fastJudge (d : Dev) (m t : Nat) (mean : Int) (broken : Bool) : Dev :=
  let id := 256 * m + t
  if broken || !(d.flag F.PRT_CTL_FT_EN) then d.setPrt { d.prt with fast := tabDel d.prt.fast id }
  else
    let w := tabGet {} d.prt.fast id
    let rise := match w.prev with
      | some q => decide (q + 16 * d.rd F.PRT_FT_CFG_FT_GROW ≤ mean)
      | none => false
    let run := if rise then min 15 (w.rises + 1) else 0
    let d1 := d.setPrt { d.prt with fast := tabPut d.prt.fast id { prev := some mean, rises := run } }
    let growth := decide (max 1 (d.rd F.PRT_FT_CFG_FT_CONFIRM) ≤ run) &&
      decide (d.fastRef m t + 64 * d.rd F.PRT_FT_LVL_FT_RISE ≤ mean)
    if growth || decide (d.rdS F.PRT_FT_LVL_FT_ABS ≤ mean) then d1.fastTrigger m t mean else d1

/-- FAST_TAIL_WINDOW (R568 to R572): the window of tile `t` of stream `m` that has ended is judged, once. -/
def Dev.fastWindow (m t : Nat) (d : Dev) : Dev :=
  let a := d.fastAccOf m
  match tabFind a.done t with
  | none => d
  | some q =>
    let d1 := d.setPrt { d.prt with fastAcc := tabPut d.prt.fastAcc m { a with done := tabDel a.done t } }
    if !(d.has m) then d1 else d1.fastJudge m t q.1 (q.2 || d.flag F.SLC_PROT_MUTE m)

/-- FAST_TAIL_WINDOW (R569). -/
def execFastTailWindow (m t : Nat) (s : State) : Out :=
  unit m 2048 (unit t 256 (.next (s.onDev (Dev.fastWindow m t))))

/-- FT_HOLDOFF_EXPIRY (R572): `FT_HOLDOFF` tile samples after a fast step further triggers on the port slice may step again. -/
def Dev.holdoffEnd (m : Nat) (d : Dev) : Dev :=
  let k := sliceKey m
  if d.now - tabGet 0 d.prt.lastFast k < max 1 (d.rd F.PRT_FT_CFG_FT_HOLDOFF) * d.tileSample (d.donorOf m) then d
  else d.setPrt { d.prt with holdoff := d.prt.holdoff.filter (fun q => q != k) }

/-- FT_HOLDOFF_EXPIRY (R572). -/
def execFtHoldoffExpiry (m : Nat) (s : State) : Out := unit m 2048 (.next (s.onDev (Dev.holdoffEnd m)))

/-- Time of the paused clock since a stream's hold began or its cut last fell (R567). -/
def Dev.sinceStep (d : Dev) (m : Nat) : Nat := d.prtTime - tabGet 0 d.prt.stepAt m

/-- CUT_HOLD_EXPIRY (R567, R590): `HOLD` after the last step the fall begins and `CUTMAX` clears; timers pause in the safe state. -/
def Dev.cutHoldEnd (m : Nat) (d : Dev) : Dev :=
  if d.prt.paused || !(d.flag F.PRT_CAUSE_HOLDING m) ||
      decide (d.sinceStep m < 100 * msSamples * max 1 (d.rd F.PRT_REL_CFG_HOLD)) then d
  else ((((d.markStep m).wr F.PRT_CAUSE_HOLDING 0 m).wr F.PRT_CAUSE_RELEASING 1 m).clearCause 8 m).faultPin

/-- CUT_HOLD_EXPIRY (R567). -/
def execCutHoldExpiry (m : Nat) (s : State) : Out := unit m 2048 (.next (s.onDev (Dev.cutHoldEnd m)))

/-- CUT_FALL_STEP (R567): every `REL_STEP` ms the cut falls by 0.5 dB; at zero every report of it clears. -/
def Dev.cutFall (m : Nat) (d : Dev) : Dev :=
  if d.prt.paused || !(d.flag F.PRT_CAUSE_RELEASING m) ||
      decide (d.sinceStep m < msSamples * max 1 (d.rd F.PRT_REL_CFG_REL_STEP)) then d
  else
    let c := d.rd F.SLC_PROT_CUT m - 1
    let d1 := (d.markStep m).wr F.SLC_PROT_CUT c m
    if c = 0 then
      d1.zero [F.SLC_PROT_FT_CUT, F.PRT_CAUSE_FT_CUT, F.PRT_CAUSE_ST_CUT, F.PRT_CAUSE_HOLDING, F.PRT_CAUSE_RELEASING] m
    else d1

/-- CUT_FALL_STEP (R567). -/
def execCutFallStep (m : Nat) (s : State) : Out := unit m 2048 (.next (s.onDev (Dev.cutFall m)))

/-- The power sum of the modelled per-path loop gains of a stream over its donor slice's tiles (R577). -/
def Dev.modelledSum (d : Dev) (m : Nat) : Int :=
  (dbSum (((upTo 256).filter (fun t => d.act m t != 0x8000 && !(d.silent m))).map
    (fun t => toSigned 16 (d.act m t) - d.effIso m t))).getD (-40960)

/-- A stream's loop delay lies within the 64 µs that the slow watch covers (R574). -/
def Dev.slowCovers (d : Dev) (m : Nat) : Bool := decide (0 ≤ d.loopDelay m) && decide (d.loopDelay m ≤ 125829)

/-- One stream's ripple of the last tick and its runs toward the criteria (R574 to R576). -/
def Dev.slowOne (d : Dev) (m code : Nat) : Dev :=
  let c := if d.slowCovers m then code else 0x8000
  let d1 := (d.wr F.PRT_RIPPLE_RIPPLE c m).wr F.PRT_RIPPLE_DELAY (satNat 16 (d.loopDelay m / 4).toNat) m
  let w := tabGet {} d.prt.slow m
  let put := fun (x : SlowWin) => d1.setPrt { d1.prt with slow := tabPut d1.prt.slow m x }
  if c % 65536 = 0x8000 then put { w with last := none, ripples := 0, rises := 0 }
  else
    let r := dbOf c
    let rp := if -(64 * d.rd F.PRT_ST_CFG_ST_RIPPLE : Nat) ≤ r then min 15 (w.ripples + 1) else 0
    let up := match w.last with
      | some q => decide (q + 16 * d.rd F.PRT_ST_CFG_ST_GROW ≤ r)
      | none => false
    put { w with last := some r, ripples := rp, rises := if up then min 15 (w.rises + 1) else 0 }

/-- The ripple or the growth criterion of a stream is met (R575, R576). -/
def Dev.slowMet (d : Dev) (m : Nat) : Bool :=
  let w := tabGet {} d.prt.slow m
  decide (max 1 (d.rd F.PRT_ST_CFG_ST_CONFIRM) ≤ w.ripples) ||
    (decide (max 1 (d.rd F.PRT_ST_CFG_ST_GROW_TICKS) ≤ w.rises) &&
      match w.last with
      | some r => decide (-(64 * d.rd F.PRT_ST_CFG_ST_FLOOR : Nat) ≤ r)
      | none => false)

/-- Grows a group by the streams whose delay lies within one tile sample of a member (R577). -/
def growGroup (w : Int) (all : List (Nat × Int)) : Nat → List (Nat × Int) → List (Nat × Int)
  | 0, g => g
  | k + 1, g => growGroup w all k (all.filter (fun p => g.any (fun q => decide (absI (p.2 - q.2) ≤ w))))

/-- A stream's run ends: it may step in the next one. -/
def Dev.slowRest (d : Dev) (m : Nat) : Dev :=
  let w := tabGet {} d.prt.slow m
  d.setPrt { d.prt with slow := tabPut d.prt.slow m { w with stepped := false } }

/-- The slow watch acts on one group (R577): the member with the highest modelled sum that has not stepped in this run
steps, unless its port slice took a fast step within one tick. -/
def Dev.slowGroup (d : Dev) (g : List Nat) : Dev :=
  if !(g.any d.slowMet) then
    g.foldl Dev.slowRest d
  else
    match topOf ((g.filter (fun m => !(tabGet {} d.prt.slow m).stepped)).map (fun m => (m, d.modelledSum m))) with
    | none => d
    | some (m, _) =>
      let w := tabGet {} d.prt.slow m
      let d1 := d.setPrt { d.prt with slow := tabPut d.prt.slow m { w with stepped := true } }
      let near := match tabFind d.prt.lastFast (sliceKey m) with
        | some c => decide (d.now - c ≤ d.tickLen (d.donorOf m))
        | none => false
      if near then d1 else d1.tailStep m 0 (max 1 (d.rd F.PRT_ST_STEP_ST_STEP)) false (w.last.getD (-32768))

/-- The groups of a list of streams by their delays. -/
def slowGroups (w : Int) (all : List (Nat × Int)) : Nat → List (Nat × Int) → List (List Nat)
  | 0, _ => []
  | _ + 1, [] => []
  | k + 1, p :: rest =>
    let g := growGroup w all all.length [p]
    g.map (fun q => q.1) :: slowGroups w all k (rest.filter (fun q => !(g.any (fun z => z.1 == q.1))))

/-- The ripple that the slow watch has computed of a stream for the tick that closed; 0x8000 where it is not evaluated (R574). -/
def Dev.rippleOf (d : Dev) (m : Nat) : Nat := ((tabGet {} d.prt.slowAcc m).done).getD 0x8000

/-- The ripples of a tick are taken. -/
def Dev.slowTaken (d : Dev) (ms : List Nat) : Dev :=
  d.each ms (fun x m => x.setPrt { x.prt with slowAcc := tabSet {} x.prt.slowAcc m { tabGet {} x.prt.slowAcc m with done := none } })

/-- SLOW_TAIL_TICK (R574 to R577): the ripple statistics of a donor slice and direction are judged for the tick that closed. -/
def Dev.slowTick (n r : Nat) (d : Dev) : Dev :=
  let ms := d.streamsIn n r
  let d1 := (d.each ms (fun x m => x.slowOne m (if x.flag F.SLC_PROT_MUTE m then 0x8000 else d.rippleOf m))).slowTaken ms
  if !(d.flag F.PRT_CTL_ST_EN) then d1
  else
    let all := (ms.filter d.slowCovers).map (fun m => (m, d.loopDelay m))
    (slowGroups (16 * d.tileSample n) all all.length all).foldl (fun x g => x.slowGroup g) d1

/-- SLOW_TAIL_TICK (R577). -/
def execSlowTailTick (n r : Nat) (s : State) : Out :=
  unit n 16 (unit r 2 (.next (s.onDev (Dev.slowTick n r))))

/-- A re-enable of the port slice of stream `m` (R579): its result code and the effect. -/
def Dev.reenable (d : Dev) (m : Nat) : Nat × Dev :=
  let k := sliceKey m
  if !(d.has m) || decide (2048 ≤ m) then (2, d)
  else if !(d.cause 0 k || d.cause 0 (k + 8)) then (1, d)
  else
    let d1 := (d.clearSlice 0 m).setPrt { d.prt with hist := tabDel d.prt.hist k }
    let d2 := d1.each (d1.pairOf m) (fun x q =>
      if x.rd F.SLC_PROT_CUT q = 0 then x else ((x.wr F.PRT_CAUSE_HOLDING 1 q).wr F.PRT_CAUSE_RELEASING 0 q).markStep q)
    (0, ((d2.raise 0xE3 m).prtLast 10 m 0).faultPin)

/-- What a write of `PRT_REENABLE` does (R579, R609). -/
def Dev.actPrtReenable (p : Path) (w : Nat) (d : Dev) : Option Dev :=
  let d1 := d.putHit p (hit .PRT_REENABLE RD.PRT_REENABLE) w
  if F.PRT_REENABLE_GO.hit w then
    let r := d1.reenable (d1.rd F.PRT_REENABLE_STREAM)
    some (r.2.wr F.PRT_REENABLE_RESULT r.1)
  else some d1

/-- PRT_REENABLE (R579): a master writes `GO`. -/
def execPrtReenable (p : Path) (w : Nat) (s : State) : Out :=
  let w1 := withBits w 31 1 1
  .next (s.onDev (fun d => d.write p (hit .PRT_REENABLE RD.PRT_REENABLE) w1 (Dev.actPrtReenable p w1)))

/-- The donor downlink of a slice is lost (R580): `DLOSS` on its uplink port streams. -/
def Dev.donorLost (d : Dev) (n : Nat) (byLink : Bool) : Dev :=
  let d0 := d.setPrt { d.prt with good := tabDel d.prt.good n }
  if !(d.donor n).dlEn || d.flag F.PRT_DLOSS_STS_LOST n then d0
  else
    let ms := d.streamsIn n 1
    let d1 := ((d0.wr F.PRT_DLOSS_STS_LOST 1 n).wr F.PRT_DLOSS_STS_BY_LINK (b2n byLink) n).bump F.PRT_CNT_B_DLOSS
    ((d1.each ms (fun x m => x.setCause 1 m)).prtLast 4 (ms.headD 0) 0).faultPin

/-- The donor downlink is restored (R581). -/
def Dev.donorRestored (d : Dev) (n : Nat) : Dev :=
  (((((d.setPrt { d.prt with good := tabDel d.prt.good n, low := tabDel d.prt.low n }).markStage n).wr F.PRT_DLOSS_STS_LOST 0 n).wr
    F.PRT_DLOSS_STS_BY_LINK 0 n).each (d.streamsIn n 1) (fun x m => x.clearCause 1 m)).faultPin

/-- `DLOSS_MS`: 0 acts as 1, above 9 as 9 (R603). -/
def Dev.dlossMs (d : Dev) : Nat := max 1 (min 9 (d.rd F.PRT_DLOSS_CFG_DLOSS_MS))

/-- A 1 ms block of a donor downlink with composite code `c` is judged (R580, R581). -/
def Dev.dlossJudge (d : Dev) (n c : Nat) : Dev :=
  let thr := d.rdS F.PRT_DLOSS_CFG_DLOSS_THR
  let low := if dbOf c < thr then min 9 (tabGet 0 d.prt.low n + 1) else 0
  let good := if thr + 256 * d.rd F.PRT_DLOSS_CFG_DLOSS_HYST < dbOf c then tabGet 0 d.prt.good n + 1 else 0
  let d1 := (d.setPrt { d.prt with low := tabSet 0 d.prt.low n low, good := tabSet 0 d.prt.good n good }).wr
    F.PRT_DLOSS_STS_LEVEL c n
  if d1.flag F.PRT_DLOSS_STS_LOST n then
    if d1.donorLinkUp n && decide (10 * max 1 (d.rd F.PRT_DLOSS_CFG_DLOSS_RESTORE) ≤ good) then d1.donorRestored n
    else d1
  else if d1.flag F.PRT_CTL_DLOSS_EN && decide (d.dlossMs ≤ low) then d1.donorLost n false
  else d1

/-- DLOSS_BLOCK (R580): the 1 ms block of the donor IN tap of slice `n` that has ended is judged, once; one without a sample in a `DL`
segment counts for nothing. -/
def Dev.dlossBlock (n : Nat) (d : Dev) : Dev :=
  let b := tabGet {} d.prt.donorBlk n
  match b.done with
  | none => d
  | some v =>
    let d1 := d.setPrt { d.prt with donorBlk := tabSet {} d.prt.donorBlk n { b with done := none } }
    if !(d.declared n) || !(d.donor n).dlEn then d1
    else match v with
      | none => d1
      | some c => d1.dlossJudge n c

/-- DLOSS_BLOCK (R580). -/
def execDlossBlock (n : Nat) (s : State) : Out := unit n 16 (.next (s.onDev (Dev.dlossBlock n)))

/-- The floor of a donor uplink tile takes one tick (R582, by the rule of R485). -/
def Dev.floorStep (d : Dev) (n t : Nat) : Dev :=
  let k := 256 * n + t
  let v := d.flag F.MEA_DON_VALID (2 * n + 1) 0 t
  let x := dbOf (d.rd F.MEA_DON_POWER (2 * n + 1) 0 t)
  match tabFind d.prt.floor k with
  | some f =>
    let g := f + d.rd F.CE_LAW_CFG_N_CREEP
    d.setPrt { d.prt with floor := tabPut d.prt.floor k (if v then min g x else g) }
  | none => if v then d.setPrt { d.prt with floor := tabPut d.prt.floor k x } else d

/-- A donor uplink tile is in noise rise (R582). -/
def Dev.tileRise (d : Dev) (n t : Nat) : Bool :=
  match tabFind d.prt.floor (256 * n + t) with
  | some f => decide (d.rdS F.CE_BLD2_NOISE_NOW n 1 + 64 * d.rd F.PRT_NR_CFG_NR_LIMIT < f)
  | none => false

/-- The donor slice is in noise rise (R582). -/
def Dev.sliceRise (d : Dev) (n : Nat) : Bool :=
  decide (max 1 (d.rd F.PRT_NR_CFG_NR_TILES) ≤ countBelow 256 (d.tileRise n))

/-- NOISE_RISE_EVAL (R582, R583): floors are compared with the noise budget; the rise begins or ends. -/
def Dev.noiseEval (n : Nat) (d : Dev) : Dev :=
  if !(d.declared n) then d
  else
    let d1 := d.each (upTo 256) (fun x t => x.floorStep n t)
    let d2 := d1.wr F.PRT_NR_STS_TILES (countBelow 256 (d1.tileRise n)) n
    if d2.sliceRise n then (if d2.rd F.PRT_NR_STS_STAGE n = 0 then (d2.wr F.PRT_NR_STS_STAGE 1 n).markStage n else d2)
    else if d2.rd F.PRT_NR_STS_STAGE n = 0 then d2
    else (d2.wr F.PRT_NR_STS_STAGE 0 n).markStage n

/-- NOISE_RISE_EVAL (R582). -/
def execNoiseRiseEval (n : Nat) (s : State) : Out := unit n 16 (.next (s.onDev (Dev.noiseEval n)))

/-- Contributions n̂ + b̂ + G of the uplink streams to a tile (R583). -/
def Dev.contributions (d : Dev) (n t : Nat) : List (Nat × Int) :=
  (d.loopTerms n 1 t).map (fun p =>
    let s := d.stage (256 * p.1 + t)
    (p.1, s.db s.n + s.db s.b + p.2))

/-- Squelch in one tile (stage 2 of R583). -/
def Dev.squelchTile (d : Dev) (n t : Nat) : Dev :=
  let l := d.contributions n t
  match topOf l with
  | none => d
  | some (_, top) =>
    l.foldl (fun x p =>
      let id := 256 * p.1 + t
      let s := x.stage id
      if top - 512 * x.rd F.PRT_NR_CFG_NR_SPREAD ≤ p.2 ∧ s.db s.x - s.db s.n < 256 * x.rd F.PRT_NR_CFG_NR_IDLE ∧
          !(x.squelched id) then
        ((x.setSquelch id true).bump F.PRT_CNT_C_SQUELCH).prtLast 5 p.1 t
      else x) d

/-- One more port slice is muted for noise (stage 3 of R583). -/
def Dev.noiseMute (d : Dev) (n : Nat) : Dev :=
  let ts := (upTo 256).filter (d.tileRise n)
  let sum := fun m => dbSum ((ts.flatMap (fun t => (d.contributions n t).filter (fun p => p.1 == m))).map (fun p => p.2))
  match topOf (((d.streamsIn n 1).filter (fun m => !(d.cause 3 m))).filterMap (fun m => (sum m).map (fun v => (m, v)))) with
  | none => d
  | some (m, _) =>
    let d1 := (d.causeSlice 3 m).setPrt { d.prt with noisy := tabPut d.prt.noisy n (tabGet [] d.prt.noisy n ++ [sliceKey m]) }
    ((d1.wr F.PRT_NR_STS_LAST_MUTED m n).bump F.PRT_CNT_B_NOISE).prtLast 6 m 0 |>.faultPin

/-- Every squelch of a donor slice ends and the tiles soft-start (R584). -/
def Dev.squelchEnd (d : Dev) (n : Nat) : Dev :=
  d.each (d.streamsIn n 1) (fun x m => x.each ((upTo 256).filter (fun t => x.squelched (256 * m + t))) (fun x t =>
    (x.setSquelch (256 * m + t) false).setTile (256 * m + t) { x.tile (256 * m + t) with start := true }))

/-- Time of the paused clock since a donor slice came into its stage of noise rise, or last took its action (R583). -/
def Dev.sinceStage (d : Dev) (n : Nat) : Nat := d.prtTime - tabGet 0 d.prt.stageAt n

/-- `NR_CURE` in samples; 0 acts as 1 (R604). -/
def Dev.nrCureTime (d : Dev) : Nat := secSamples * max 1 (d.rd F.PRT_NR_CFG_NR_CURE)

/-- NR_CURE_EXPIRY (R583, R584): `NR_CURE` seconds in a stage: squelch, then mute, then one more; in the clear, every
squelch ends. -/
def Dev.nrCure (n : Nat) (d : Dev) : Dev :=
  if d.prt.paused ∨ d.sinceStage n < d.nrCureTime then d
  else
    let st := d.rd F.PRT_NR_STS_STAGE n
    if st = 0 then d.squelchEnd n
    else if !(d.flag F.PRT_CTL_NR_EN) then d
    else if st = 1 then
      ((d.each ((upTo 256).filter (d.tileRise n)) (fun x t => x.squelchTile n t)).wr F.PRT_NR_STS_STAGE 2 n).markStage n
    else ((d.markStage n).wr F.PRT_NR_STS_STAGE 3 n).noiseMute n

/-- NR_CURE_EXPIRY (R583). -/
def execNrCureExpiry (n : Nat) (s : State) : Out := unit n 16 (.next (s.onDev (Dev.nrCure n)))

/-- NR_RETRY_EXPIRY (R585): once clear for `NR_RETRY` × 10 s, `NOISE` clears every `NR_CURE` seconds on the port slice that was muted
first. -/
def Dev.nrRetry (n : Nat) (d : Dev) : Dev :=
  match tabGet [] d.prt.noisy n with
  | [] => d
  | k :: rest =>
    let clear := 10 * secSamples * max 1 (d.rd F.PRT_NR_CFG_NR_RETRY)
    let last := match tabFind d.prt.retryAt n with
      | some c => decide (tabGet 0 d.prt.stageAt n < c) && decide (d.prtTime - c < d.nrCureTime)
      | none => false
    if d.prt.paused || d.rd F.PRT_NR_STS_STAGE n != 0 || decide (d.sinceStage n < clear) || last then d
    else (d.setPrt { d.prt with noisy := tabSet [] d.prt.noisy n rest, retryAt := tabPut d.prt.retryAt n d.prtTime }).clearSlice 3 k

/-- NR_RETRY_EXPIRY (R585). -/
def execNrRetryExpiry (n : Nat) (s : State) : Out := unit n 16 (.next (s.onDev (Dev.nrRetry n)))

/-- The profiled `SLICE_MAX` in force of a stream (R508, R586). -/
def Dev.sliceMax (d : Dev) (m : Nat) : Int :=
  match (d.stream m).ceil with
  | some c => profileDb c
  | none => d.rdS F.CE_PS1_SLICE_MAX m

/-- A 1 ms block of the OUT tap of a stream with level `v` in 1/256 dB is judged (R586). -/
def Dev.olJudge (d : Dev) (m : Nat) (v : Int) : Dev :=
  let run := if d.sliceMax m + 16 * d.rd F.PRT_OL_CFG_OL_MARGIN < v then tabGet 0 d.prt.overRuns m + 1 else 0
  if run < max 1 (d.rd F.PRT_OL_CFG_OL_TIME) then d.setPrt { d.prt with overRuns := tabSet 0 d.prt.overRuns m run }
  else
    let d1 := d.setPrt { d.prt with overRuns := tabDel d.prt.overRuns m }
    if d1.cause 4 m then d1
    else
      (((d1.setPrt { d1.prt with overAt := tabPut d1.prt.overAt (sliceKey m) d1.prtTime }).causeSlice 4 m).bump
        F.PRT_CNT_B_OVER).prtLast 7 m 0

/-- OL_BLOCK (R586): the 1 ms block of the OUT tap of stream `m` that has ended is judged, once. -/
def Dev.olBlock (m : Nat) (d : Dev) : Dev :=
  let b := tabGet {} d.prt.outBlk m
  match b.done with
  | none => d
  | some v =>
    let d1 := d.setPrt { d.prt with outBlk := tabSet {} d.prt.outBlk m { b with done := none } }
    if !(d.has m) || !(d.flag F.PRT_CTL_OL_EN) then d1
    else match v with
      | none => d1
      | some c => d1.olJudge m (dbOf c)

/-- OL_BLOCK (R586). -/
def execOlBlock (m : Nat) (s : State) : Out := unit m 2048 (.next (s.onDev (Dev.olBlock m)))

/-- OL_RETRY_EXPIRY (R586): `OVER` clears `OL_RETRY` seconds after it was set. -/
def Dev.olRetry (m : Nat) (d : Dev) : Dev :=
  if d.prt.paused ∨ d.prtTime - tabGet 0 d.prt.overAt (sliceKey m) < secSamples * max 1 (d.rd F.PRT_OL_CFG_OL_RETRY) then d
  else d.clearSlice 4 m

/-- OL_RETRY_EXPIRY (R586). -/
def execOlRetryExpiry (m : Nat) (s : State) : Out := unit m 2048 (.next (s.onDev (Dev.olRetry m)))

/-- STALE_MUTE_EXPIRY (R587): a tile still in MEAS_STALE `STALE_MUTE` seconds after the event sets `STALE`. -/
def Dev.staleMute (m : Nat) (d : Dev) : Dev :=
  let k := sliceKey m
  if !(d.prt.stale.contains k) ∨ d.now - tabGet 0 d.prt.staleAt k < secSamples * d.rd F.PRT_STALE_CFG_STALE_MUTE then d
  else
    let d1 := d.setPrt { d.prt with stale := d.prt.stale.filter (fun q => q != k) }
    let still := (d1.pairOf m).any (fun q => (upTo 256).any (fun t => d1.flag F.LCX0_STALE (256 * q + t)))
    if still && d1.flag F.PRT_CTL_STALE_EN && !(d1.cause 5 k) then
      ((d1.causeSlice 5 m).bump F.PRT_CNT_C_STALE).prtLast 8 m 0
    else d1

/-- STALE_MUTE_EXPIRY (R587). -/
def execStaleMuteExpiry (m : Nat) (s : State) : Out := unit m 2048 (.next (s.onDev (Dev.staleMute m)))

/-- What a write of `PRT_CTL` does (R596). -/
def Dev.actPrtCtl (p : Path) (w : Nat) (d : Dev) : Option Dev :=
  let d1 := d.putHit p (hit .PRT_CTL RD.PRT_CTL) w
  some (if F.PRT_CTL_CLR_CNT.hit w then
    (d1.zero [F.PRT_CNT_A_FT_STEPS, F.PRT_CNT_A_ST_STEPS, F.PRT_CNT_B_RECUR, F.PRT_CNT_B_DLOSS, F.PRT_CNT_B_NOISE,
      F.PRT_CNT_B_OVER, F.PRT_CNT_C_SQUELCH, F.PRT_CNT_C_STALE, F.PRT_CNT_C_GATED])
    else d1)

/-- PRT_CLR_CNT (R596). -/
def execPrtClrCnt (p : Path) (w : Nat) (s : State) : Out :=
  let w1 := withBits w 7 1 1
  .next (s.onDev (fun d => d.write p (hit .PRT_CTL RD.PRT_CTL) w1 (Dev.actPrtCtl p w1)))

/-- The paused timers go on (R590). -/
def Dev.prtResume (d : Dev) : Protect :=
  if d.prt.paused then { d.prt with paused := false, lost := d.prt.lost + (d.now - d.prt.pausedAt) } else d.prt

/-- A port slice that a delta removes leaves nothing behind: causes, cut, history (R590). -/
def Dev.prtForget (d : Dev) (m : Nat) : Dev :=
  let k := sliceKey m
  let d1 := d.each [k, k + 8] (fun x q => x.zero [F.SLC_PROT_MUTE, F.SLC_PROT_FT_CUT, F.SLC_PROT_FT_COUNT, F.SLC_PROT_CUT,
    F.PRT_CAUSE_CAUSES, F.PRT_CAUSE_FT_CUT, F.PRT_CAUSE_ST_CUT, F.PRT_CAUSE_HOLDING, F.PRT_CAUSE_RELEASING] q)
  let inSlice := fun (m : Nat) => m == k || m == k + 8
  d1.setPrt { d1.prt with
    fast := d1.prt.fast.filter (fun q => !(inSlice (q.1 / 256)))
    slow := tabDel (tabDel d1.prt.slow k) (k + 8)
    holdoff := d1.prt.holdoff.filter (fun q => q != k)
    lastFast := tabDel d1.prt.lastFast k
    hist := tabDel d1.prt.hist k
    noisy := (d1.prt.noisy.map (fun (q : Nat × List Nat) => (q.1, q.2.filter (fun z => z != k)))).filter (fun q => !q.2.isEmpty)
    fastAcc := tabDel (tabDel d1.prt.fastAcc k) (k + 8)
    slowAcc := tabDel (tabDel d1.prt.slowAcc k) (k + 8)
    outBlk := tabDel (tabDel d1.prt.outBlk k) (k + 8)
    stepAt := tabDel (tabDel d1.prt.stepAt k) (k + 8)
    overAt := tabDel d1.prt.overAt k
    staleAt := tabDel d1.prt.staleAt k
    overRuns := tabDel (tabDel d1.prt.overRuns k) (k + 8)
    stale := d1.prt.stale.filter (fun q => q != k) }

/-- A full load clears every cause, cut, history, latch and squelch (R590). -/
def Dev.prtReset (d : Dev) : Dev :=
  let d1 := d.each (upTo 2048) (fun x m => x.zero [F.SLC_PROT_MUTE, F.SLC_PROT_FT_CUT, F.SLC_PROT_CUT,
    F.PRT_CAUSE_CAUSES, F.PRT_CAUSE_FT_CUT, F.PRT_CAUSE_ST_CUT, F.PRT_CAUSE_HOLDING, F.PRT_CAUSE_RELEASING] m)
  let lo := F.PRT_SQUELCH_SQ.off * 8
  let d2 := { d1 with regs := d1.regs.filter (fun p => decide (p.1 < lo) || decide (lo + 16384 * 32 ≤ p.1)) }
  let d3 := d2.each (upTo 16) (fun x n => x.zero [F.PRT_DLOSS_STS_LOST, F.PRT_DLOSS_STS_BY_LINK, F.PRT_NR_STS_STAGE,
    F.PRT_NR_STS_TILES] n)
  d3.setPrt { paused := d3.prt.paused, pausedAt := d3.prt.pausedAt, lost := d3.prt.lost }

end Sys2Proof.Machine
end

