-- ==== Sys2Proof/Machine/Datapath.lean ====
section
/-! DEFINITION. The tile datapath and the slice processors: gain banks, fades, alignment, residues, takeover (chapter 05). -/

namespace Sys2Proof.Machine

/-- What a write of a pending gain word does (R23, R35, R346, R347): nothing for a stream that does not exist; refused
unless `MANUAL` is set; gains outside the range are replaced and counted. Before *SURVEY* every gain reads 0x8000 (R67);
DESIGN CHOICE (log 83): such a write is accepted and changes nothing. -/
def Dev.actPend (k w : Nat) (d : Dev) : Option Dev :=
  let m := k / 128
  if !(d.has m) then some d
  else if !(d.flag F.TIL_STREAM_MANUAL m) then none
  else if !d.mld.entered then some d
  else
    let lo := bits w 0 16
    let hi := bits w 16 16
    let d1 := (d.setPend m (2 * (k % 128)) (gainFit lo)).setPend m (2 * (k % 128) + 1) (gainFit hi)
    some (d1.bumpBy (b2n (gainOut lo) + b2n (gainOut hi)) F.TIL_RANGE_CNT_COUNT)

/-- PENDING_GAIN_WRITE (R347): a master writes word `k` of the pending window. -/
def execPendingGainWrite (p : Path) (k w : Nat) (s : State) : Out :=
  unit k 262144 (.next (s.onDev (fun d => d.write p (hit .TIL_PEND RD.TIL_PEND k) w (Dev.actPend k w)
    (fun d => d.bump F.TIL_REJECT_CNT_COUNT))))

/-- `MANUAL` of a stream is cleared: its loops soft-start from the active gains (R507, R544). -/
def Dev.manualEnd (d : Dev) (m : Nat) : Dev :=
  d.each (upTo 256) (fun x t =>
    x.setTile (256 * m + t) { x.tile (256 * m + t) with start := true, startFrom := some (x.act m t) })

/-- What a write of `TIL_STREAM_m` does (R349, R392, R544). -/
def Dev.actTilStream (p : Path) (m w : Nat) (d : Dev) : Option Dev :=
  let was := d.flag F.TIL_STREAM_MANUAL m
  let d1 := d.putHit p (hit .TIL_STREAM RD.TIL_STREAM m) w
  let now := d1.flag F.TIL_STREAM_MANUAL m
  let d2 := if was && !now then d1.manualEnd m else d1
  some (if F.TIL_STREAM_COMMIT.hit w && now then d2.commit m else d2)

/-- TIL_COMMIT_WRITE (R349): a master writes `COMMIT`. -/
def execTilCommitWrite (p : Path) (m w : Nat) (s : State) : Out :=
  let w1 := withBits w 8 1 1
  unit m 2048 (.next (s.onDev (fun d => d.write p (hit .TIL_STREAM RD.TIL_STREAM m) w1 (Dev.actTilStream p m w1))))

/-- TIL_MANUAL_WRITE (R544): a master writes `MANUAL`. -/
def execTilManualWrite (p : Path) (m w : Nat) (s : State) : Out :=
  unit m 2048 (.next (s.onDev (fun d => d.write p (hit .TIL_STREAM RD.TIL_STREAM m) w (Dev.actTilStream p m w))))

/-- FADE_END (R350, R351, R414): a fade that has taken its 16 tile samples ends; a deferred commit executes, then a deferred
swap. -/
def Dev.fadeEnd (m : Nat) (d : Dev) : Dev :=
  if !(d.flag F.TIL_STREAM_FADING m) || decide (d.gainNo (d.donorOf m) < (d.stream m).fadeAt + 16) then d
  else
    let d1 := (d.setStream m { d.stream m with fadeFrom := [] }).wr F.TIL_STREAM_FADING 0 m
    let d2 := if d1.flag F.TIL_STREAM_WAITING m then (d1.wr F.TIL_STREAM_WAITING 0 m).swapBank m else d1
    d2.swapAfterFade m

/-- FADE_END (R351). -/
def execFadeEnd (m : Nat) (s : State) : Out := unit m 2048 (.next (s.onDev (Dev.fadeEnd m)))

/-- What a write of `TIL_CTL` does (R388). -/
def Dev.actTilCtl (p : Path) (w : Nat) (d : Dev) : Option Dev :=
  let d1 := d.putHit p (hit .TIL_CTL RD.TIL_CTL) w
  some (if F.TIL_CTL_CLR_CNT.hit w then
    d1.zero [F.TIL_RANGE_CNT_COUNT, F.TIL_COMMIT_CNT_DEFERRED, F.TIL_COMMIT_CNT_MERGED, F.TIL_REJECT_CNT_COUNT] else d1)

/-- TIL_CLR_CNT (R388). -/
def execTilClrCnt (p : Path) (w : Nat) (s : State) : Out :=
  let w1 := withBits w 0 1 1
  .next (s.onDev (fun d => d.write p (hit .TIL_CTL RD.TIL_CTL) w1 (Dev.actTilCtl p w1)))

/-- What a write of `SLC_DSLICE_d` does (R356, R381): the alignment follows its mode, then `REALIGN` acts. -/
def Dev.actSlcDslice (p : Path) (n w : Nat) (d : Dev) : Option Dev :=
  let d1 := (d.putHit p (hit .SLC_DSLICE RD.SLC_DSLICE n) w).alignRefresh n
  some (if F.SLC_DSLICE_REALIGN.hit w then d1.realign n else d1)

/-- REALIGN (R356): a master writes `REALIGN` of a donor slice. -/
def execRealign (p : Path) (n w : Nat) (s : State) : Out :=
  let w1 := withBits w 8 1 1
  unit n 16 (.next (s.onDev (fun d => d.write p (hit .SLC_DSLICE RD.SLC_DSLICE n) w1 (Dev.actSlcDslice p n w1))))

/-- What a write of `SLC_ALIGN_TGT_d` does (R356, R382). -/
def Dev.actSlcAlign (p : Path) (n w : Nat) (d : Dev) : Option Dev :=
  let d1 := d.putHit p (hit .SLC_ALIGN_TGT RD.SLC_ALIGN_TGT n) w
  some (if d1.flag F.SLC_DSLICE_ALIGN_MODE n then d1.alignRefresh n else d1)

/-- A stream emits invalid blocks, or valid ones again (R48, R368). -/
def Dev.setInvalid (d : Dev) (v : Bool) (m : Nat) : Dev := d.setStream m { d.stream m with invalid := v }

/-- A stream that a re-mould creates passes invalid blocks for 2 TDL frames, or 4 in sharp mode (R48). -/
def Dev.setFill (d : Dev) (m : Nat) : Dev :=
  d.setStream m { d.stream m with fill := if m < 2048 then d.bankFrames (d.donorOf m) else 0 }

/-- Replaces the slice processors' state. -/
def Dev.setSlc (d : Dev) (x : SliceProcs) : Dev := { d with slc := x }

/-- The failed processor's streams have no target (R371, R588): they stay fenced. -/
def Dev.spNoTarget (d : Dev) (sp : Nat) (ms : List Nat) : Dev :=
  let d1 := ((d.wr F.SLC_TAKEOVER_FAILED_SP sp).wr F.SLC_TAKEOVER_STEP 6).raise 0xA3 sp
  (d1.each (ms.filter (fun m => decide (m < 2048))) (fun x m => x.setCause 6 m)).faultPin

/-- The takeover of a failed processor's streams starts (R368): steps 1 and 2. A processor that holds none needs none. A
stream that migrates away from it takes its own way (R49). -/
def Dev.takeover (d : Dev) (sp : Nat) : Dev :=
  let ms := (d.streamsAt sp).filter (fun m =>
    match tabFind d.mld.migs m with
    | some g => g.phase == 5
    | none => true)
  if ms.isEmpty then d
  else
    match d.spTargets with
    | [] => d.spNoTarget sp ms
    | t :: _ =>
      let d1 := d.setSlc { d.slc with takeover := some { failed := sp, target := some t, streams := ms } }
      (((d1.wr F.SLC_TAKEOVER_FAILED_SP sp).wr F.SLC_TAKEOVER_TARGET_SP t).wr F.SLC_TAKEOVER_STEP 2).urgentWake (6 + t)

/-- Failures that waited for the takeover to end are taken up, in order, until one runs (R370). -/
def Dev.nextTakeover (d : Dev) : Nat → Dev
  | 0 => d
  | k + 1 =>
    match d.slc.takeover, d.slc.waiting with
    | none, (sp, _) :: rest => ((d.setSlc { d.slc with waiting := rest }).takeover sp).nextTakeover k
    | _, _ => d

/-- A migration ends before its switch (R49): the old placement continues; record `MIG_ABORT`. -/
def Dev.migEnd (d : Dev) (m : Nat) : Dev :=
  let d1 := { d with mld := { d.mld with migs := tabDel d.mld.migs m } }
  (if m < 2080 then (d1.wr F.MLD_PLACE_SHADOW 0 m).wr F.MLD_PLACE_SHADOW_SP 0 m else d1).raise 0x23 m

/-- A migration is abandoned before its switch (R49). Where its old processor has failed meanwhile, a takeover takes the
stream up. -/
def Dev.migAbort (d : Dev) (m : Nat) : Dev :=
  let d1 := d.migEnd m
  let sp := d1.spOf m
  if d1.has m && d1.spFailed sp then
    (d1.setSlc { d1.slc with waiting := d1.slc.waiting ++ [(sp, d1.rd F.SLC_SP_STS_CAUSE sp)] }).nextTakeover 36
  else d1

/-- A migration meets the failure of a processor (R49): its target's abandons it; its old one's advances the switch to the
next frame boundary. -/
def Dev.migFault (d : Dev) (sp : Nat) : Dev :=
  d.mld.migs.foldl (fun x q =>
    if q.2.phase = 5 then x
    else if x.rd F.MLD_PLACE_SHADOW_SP q.1 = sp then x.migAbort q.1
    else if x.spOf q.1 = sp then
      { x with mld := { x.mld with migs := tabPut x.mld.migs q.1 { q.2 with phase := 6 + min q.2.phase 3 } } }
    else x) d

/-- A slice processor is declared failed and fenced (R367 to R371): its streams emit exponent 15, it is gated, and the
takeover starts, or waits for the one that runs. -/
def Dev.spFail (d : Dev) (sp cause : Nat) : Dev :=
  if 36 ≤ sp ∨ d.spFailed sp then d
  else
    let d1 := ((d.setSlc { d.slc with failed := tabPut d.slc.failed sp cause }).wr F.SLC_SP_STS_CAUSE cause sp).raise
      0xA1 sp cause
    let d2 := (d1.migFault sp).wr F.PRT_FAULT_STS_SP_FAIL 1
    let ms := (d2.streamsAt sp).filter (fun m => (tabFind d2.mld.migs m).isNone)
    let d3 := d2.each ms (Dev.setInvalid · true)
    let d4 := if cause = 4 then d3 else d3.ladderAsk false (6 + sp)
    let d5 := if d4.slc.takeover.isSome then d4.setSlc { d4.slc with waiting := d4.slc.waiting ++ [(sp, cause)] }
      else d4.takeover sp
    d5.faultPin

/-- The residue limit of a processor is reached (R367): `RES_LIMIT` mismatches within 1 ms. -/
def Dev.resReached (d : Dev) (sp : Nat) : Bool :=
  match (tabGet [] d.slc.resAt sp)[max 1 (d.rd F.SLC_CTL_RES_LIMIT) - 1]? with
  | some t => decide (d.now - t ≤ 122880)
  | none => false

/-- Ring transfers of a processor in order, `true` where one failed: the failed ones in a row, at most 2 (R367). -/
def ringRun (n : Nat) (l : List Bool) : Nat := l.foldl (fun r bad => if r = 2 then 2 else if bad then r + 1 else 0) n

/-- The condition of a cause of R367 holds: residue mismatches, a missing heartbeat, two failed ring transfers in a row, a fault of the
processor's power domain. A test failure comes by its register only. -/
def Dev.spCause (d : Dev) (sp cause : Nat) : Bool :=
  match cause with
  | 1 => d.resReached sp
  | 2 => true
  | 3 => tabGet 0 d.slc.ringRuns sp == 2
  | 4 => d.rd F.PWR_DOM_STATE (6 + sp) == 5
  | _ => false

/-- SP_FAILURE (R367): processor `sp` is declared failed for a cause whose condition holds. `sends` are the outcomes of the ring
transfers that it has sent since the last such command. -/
def Dev.spFailure (sp cause : Nat) (sends : List Bool) (d : Dev) : Dev :=
  let d1 := d.setSlc { d.slc with ringRuns := tabSet 0 d.slc.ringRuns sp (ringRun (tabGet 0 d.slc.ringRuns sp) sends) }
  if d1.spCause sp cause then d1.spFail sp cause else d1

/-- SP_FAILURE (R367). -/
def execSpFailure (sp cause : Nat) (sends : List Bool) (s : State) : Out :=
  unit sp 36 (.next (s.onDev (Dev.spFailure sp cause sends)))

/-- SP_WATCHDOG_EXPIRY (R367): no processor heartbeat for 2 TDL frames. -/
def execSpWatchdogExpiry (sp : Nat) (s : State) : Out := unit sp 36 (.next (s.onDev (fun d => d.spFail sp 2)))

/-- A target's wake failed before it took the streams: the next healthy free processor is chosen (R368). -/
def Dev.retarget (d : Dev) (sp : Nat) : Dev :=
  match d.slc.takeover with
  | some t => if t.target = some sp ∧ d.rd F.SLC_TAKEOVER_STEP < 3 then
      (d.setSlc { d.slc with takeover := none }).takeover t.failed else d
  | none => d

/-- What a mismatch makes invalid (R364, R372): in the tile domain the stream for 3 TDL frames, or 5 in sharp mode; in the time domain
the block concerned, which in a port's uplink makes its frame's tiles invalid (R194). DEDUCED (log 96): one in the combiner makes
nothing invalid (R360). -/
def Dev.residueMark (d : Dev) (m u : Nat) : Dev :=
  if u = 5 then d
  else if u = 0 ∨ u = 6 ∨ u = 7 ∨ u = 9 then
    if m < 2048 ∧ dirOf m = 1 then d.fillTo m (d.bankFrames (d.dsliceOf m)) else d.setPs m { d.ps m with spoilt := true }
  else d.fillTo m (d.bankFrames (d.dsliceOf m) + 1)

/-- RESIDUE_MISMATCH (R364, R367): a mismatch of a unit class on a stream, attributed to a processor. -/
def Dev.residue (m u sp : Nat) (d : Dev) : Dev :=
  let d := d.residueMark m u
  let d1 := ((((d.bump F.SLC_RES_CNT_COUNT).bump F.SLC_SP_STS_RES_ERR sp).wr F.SLC_RES_LOG_NEW 1).wr F.SLC_RES_LOG_STREAM m).wr
    F.SLC_RES_LOG_UNIT u
  let d2 := (d1.wr F.SLC_RES_LOG_SP sp).wr F.PRT_FAULT_STS_RESIDUE 1
  let l := (d.now :: tabGet [] d.slc.resAt sp).take 15
  let d3 := (d2.setSlc { d2.slc with resAt := tabPut d2.slc.resAt sp l }).raise 0xA0 0 (d2.word RD.SLC_RES_LOG)
  match l[max 1 (d.rd F.SLC_CTL_RES_LIMIT) - 1]? with
  | some t => if d.now - t ≤ 122880 then (d3.spFail sp 1).faultPin else d3.faultPin
  | none => d3.faultPin

/-- RESIDUE_MISMATCH (R364). -/
def execResidueMismatch (m u sp : Nat) (s : State) : Out :=
  unit m 2080 (unit u 10 (unit sp 36 (.next (s.onDev (Dev.residue m u sp)))))

/-- Clears every `SLC_` counter (R374). -/
def Dev.slcClear (d : Dev) : Dev :=
  let d1 := d.zero [F.SLC_RES_CNT_COUNT, F.SLC_CNT_SAT, F.SLC_TAKEOVER_COUNT]
  let d2 := d1.each (upTo 36) (fun x n => x.wr F.SLC_SP_STS_RES_ERR 0 n)
  let d3 := d2.each (upTo 16) (fun x n => x.wr F.SLC_DCLIP_CLIP 0 n)
  d3.each (upTo 2048) (fun x m => (x.wr F.SLC_CLIP_CLIP 0 m).wr F.SLC_PROT_FT_COUNT 0 m)

/-- What a write of `SLC_CTL` does (R367, R374). -/
def Dev.actSlcCtl (p : Path) (w : Nat) (d : Dev) : Option Dev :=
  let d1 := d.putHit p (hit .SLC_CTL RD.SLC_CTL) w
  let d2 := if F.SLC_CTL_CLR_CNT.hit w then d1.slcClear else d1
  some (if F.SLC_CTL_TEST_FAIL.hit w then d2.spFail (d2.rd F.SLC_CTL_TEST_SP) 5 else d2)

/-- SLC_TEST_FAIL (R374). -/
def execSlcTestFail (p : Path) (w : Nat) (s : State) : Out :=
  let w1 := withBits w 8 1 1
  .next (s.onDev (fun d => d.write p (hit .SLC_CTL RD.SLC_CTL) w1 (Dev.actSlcCtl p w1)))

/-- SLC_CLR_CNT (R374). -/
def execSlcClrCnt (p : Path) (w : Nat) (s : State) : Out :=
  let w1 := withBits w 0 1 1
  .next (s.onDev (fun d => d.write p (hit .SLC_CTL RD.SLC_CTL) w1 (Dev.actSlcCtl p w1)))

/-- The next epoch of a stream (R42). -/
def Dev.nextEpoch (d : Dev) (m : Nat) : Dev := d.bumpWrap F.MLD_PLACE_EPOCH m

/-- TAKEOVER_PLACEMENT_DONE (step 3 of R368, R40): every placement of the failed processor names the target, with the
next epoch. The target must have woken. -/
def Dev.takeoverPlaced (d : Dev) : Dev :=
  match d.slc.takeover with
  | none => d
  | some t =>
    match t.target with
    | none => d
    | some n =>
      if d.rd F.SLC_TAKEOVER_STEP ≠ 2 ∨ !(d.domOn (6 + n)) then d
      else
        let d0 := d.setSlc { d.slc with takeover := some { t with placedAt := d.now } }
        let d1 := (d0.each t.streams (fun x m => (x.wr F.MLD_PLACE_SP n m).nextEpoch m)).wr F.SLC_TAKEOVER_STEP 3
        let lps := (upTo 32).filter (fun k => tabGet k d.mld.lpMap k == t.failed)
        { d1 with mld := { d1.mld with lpMap := lps.foldl (fun l k => tabPut l k n) d1.mld.lpMap } }

/-- TAKEOVER_PLACEMENT_DONE (R368). -/
def execTakeoverPlacementDone (s : State) : Out := .next (s.onDev Dev.takeoverPlaced)

/-- SP_TAKEOVER_SWITCH (step 5 of R368, R43, R415): on a TDL frame boundary with the banks filled, output switches to the target, `stale`
results of the old epoch are discarded, the chains start afresh, and a failure that waited is taken up. -/
def Dev.takeoverSwitch (stale : Nat) (d : Dev) : Dev :=
  match d.slc.takeover with
  | none => d
  | some t =>
    if (d.rd F.SLC_TAKEOVER_STEP ≠ 3 ∧ d.rd F.SLC_TAKEOVER_STEP ≠ 4) ∨ !(d.banksFilled t) ∨ d.sinceFrame ≠ 0 then d
    else
      let d1 := (d.each t.streams (fun x m => (x.setInvalid false m).chainStart m none 0)).bumpBy stale F.MLD_DISCARD_CNT_COUNT
      let d2 := ((d1.wr F.SLC_TAKEOVER_STEP 5).bump F.SLC_TAKEOVER_COUNT).raise 0xA2 (t.target.getD 0) t.failed
      (d2.setSlc { d2.slc with takeover := none }).nextTakeover 36

/-- SP_TAKEOVER_SWITCH (R368). -/
def execSpTakeoverSwitch (stale : Nat) (s : State) : Out := .next (s.onDev (Dev.takeoverSwitch stale))

end Sys2Proof.Machine
end

