-- ==== Sys2Proof/Machine/Patterns.lean ====
section
/-! DEFINITION. Symbols, TDD patterns, eclipse windows and commit points of an orbit (R113 to R130). -/

namespace Sys2Proof.Machine

/-- Replaces an orbit's state. -/
def Dev.setOrb (d : Dev) (i : Nat) (o : Orbit) : Dev := { d with orbs := tabSet {} d.orbs i o }

/-- Samples from one position forward to another, round the span. -/
def ahead (a b : Nat) : Nat := posFrom a b

/-- The first symbol boundary at or after a position (R120). -/
def nextSymbol (scs x : Nat) : Nat :=
  let o := x % 61440
  if o = 0 then x
  else if o ≤ symFirst scs then x - o + symFirst scs
  else x - o + symFirst scs + (o - symFirst scs + symNext scs - 1) / symNext scs * symNext scs

/-- The lowest subcarrier spacing of an orbit's donor slices; the 15 kHz grid for none (R126). -/
def Dev.gridScs (d : Dev) (i : Nat) : Nat :=
  match (d.slicesOn i).map (fun n => d.rd F.ORB_SLICE_CFG_SCS n) with
  | [] => 0
  | x :: l => l.foldl min x

/-- The first commit point of an orbit at or after a position (R126). -/
def Dev.commitPoint (d : Dev) (i x : Nat) : Nat := nextSymbol (d.gridScs i) x % orbitSpan

/-- The position at which a commit of stream `m` named at position `p` executes (R342); the rest of a tick commit has no
lead. -/
def Dev.commitExec (d : Dev) (m p : Nat) : Nat :=
  if m < 2048 then ((16 * (p : Int) - d.commitLead m) / 16 % (orbitSpan : Int)).toNat else p

/-- The pattern position of an orbit position (R116). -/
def patternPos (per pos : Nat) : Nat := pos % 2457600 % max 1 per

/-- The segment type in force at a position of the active pattern; 3 without a valid bank (R114, R117). -/
def Dev.gateAt (d : Dev) (i pos : Nat) : Nat :=
  if !(d.patternValid i) then 3
  else
    let x := patternPos (d.rd F.ORB_TDD_PER_PERIOD i (d.activeBank i)) pos
    (d.segments i (d.activeBank i)).foldl (fun t s => if s.2 ≤ x then s.1 else t) 3

/-- Segments with their ends: type, start, end (R114). -/
def spans (per : Nat) : List (Nat × Nat) → List (Nat × Nat × Nat)
  | [] => []
  | [a] => [(a.1, a.2, per)]
  | a :: b :: t => (a.1, a.2, b.2) :: spans per (b :: t)

/-- The eclipse windows that guards yield, within a period: start and end (R124). -/
def Dev.guardWindows (d : Dev) (i : Nat) : List (Nat × Nat) :=
  if !(d.flag F.ORB_ECL_CFG_GUARD_ECL i) || !(d.patternValid i) then []
  else
    let b := d.activeBank i
    let m := d.rd F.ORB_ECL_CFG_MARGIN i
    ((spans (d.rd F.ORB_TDD_PER_PERIOD i b) (d.segments i b)).filter
      (fun s => s.1 == 2 && decide (s.2.1 + 2 * m < s.2.2))).map (fun s => (s.2.1 + m, s.2.2 - m))

/-- The quiet points of an orbit frame: start and length (R125, R163). -/
def Dev.quietPoints (d : Dev) (i : Nat) : List (Nat × Nat) :=
  ((upTo 16).filter (fun n => d.flag F.ORB_QUIET_EN i n && d.rd F.ORB_QUIET_LENGTH i n != 0 &&
    decide (d.rd F.ORB_QUIET_SAMPLE i n < 1228800))).map
      (fun n => (d.rd F.ORB_QUIET_SAMPLE i n, 8 * d.rd F.ORB_QUIET_LENGTH i n))

/-- A position lies inside an eclipse window (R124, R125). -/
def Dev.inEclipse (d : Dev) (i pos : Nat) : Bool :=
  let x := patternPos (d.rd F.ORB_TDD_PER_PERIOD i (d.activeBank i)) pos
  (d.guardWindows i).any (fun g => decide (g.1 ≤ x) && decide (x < g.2)) ||
    (d.quietPoints i).any (fun q => decide ((pos % 1228800 + 1228800 - q.1) % 1228800 < q.2))

/-- Samples from a position to the start of the next eclipse window. -/
def Dev.eclipseIn (d : Dev) (i pos : Nat) : Option Nat :=
  let per := max 1 (d.rd F.ORB_TDD_PER_PERIOD i (d.activeBank i))
  let x := patternPos per pos
  let l := (d.guardWindows i).map (fun g => (g.1 + per - x) % per) ++
    (d.quietPoints i).map (fun q => (q.1 + 1228800 - pos % 1228800) % 1228800)
  match l with
  | [] => none
  | a :: t => some (t.foldl min a)

/-- The lane frame number of the frame that runs (R177). -/
def Dev.lfn (d : Dev) : Nat := (d.now - d.lnk.grid) / 256 % 2 ^ 32

/-- Frames from one LFN to a later one (R178). -/
def lfnSince (old new : Nat) : Nat := (new + 2 ^ 32 - old % 2 ^ 32) % 2 ^ 32

/-- Where the tick commit of a donor slice falls, for a tick boundary `g` samples ahead of the orbit's present position (R129, R130). -/
def Dev.commitPos (d : Dev) (n g : Nat) : Nat :=
  let i := (d.donor n).orbit
  let pos := (d.orbPos i + g) % orbitSpan
  let symbol := d.commitPoint i pos
  match d.rd F.TRN_TICK_CFG_TICK_ALIGN i with
  | 1 =>
    if d.inEclipse i pos then pos
    else
      match d.eclipseIn i pos with
      | some e => if e ≤ min (256 * d.rd F.TRN_TICK_CFG_TICK_SLACK i) (d.tickLen n / 2) then (pos + e) % orbitSpan else symbol
      | none => symbol
  | 2 => (pos + (256 - (d.sinceFrame + g) % 256) % 256) % orbitSpan
  | _ => symbol

/-- The tick commit of a donor slice is placed for a tick boundary `g` samples ahead (R129). -/
def Dev.commitPlace (d : Dev) (i g n : Nat) : Dev :=
  d.setOrb i { d.orb i with commitAt := tabPut (d.orb i).commitAt n (d.commitPos n g) }

/-- Samples before a tick boundary at which its commit is placed: more than the largest lead of an uplink commit (R342), less than half a
tick. -/
def placeLead : Nat := 8192

/-- The tick commits of an orbit's slices whose next boundary lies that far ahead are placed (R127, R342). -/
def Dev.commitsPlace (d : Dev) (i : Nat) : Dev :=
  d.each ((d.slicesOn i).filter (fun n => d.sinceTick n + placeLead == d.tickLen n)) (fun x n =>
    let y := x.commitPlace i placeLead n
    y.setOrb i { y.orb i with placed := (y.orb i).placed.filter (fun k => k != n) ++ [n] })

/-- The slices of a list whose tick starts now take a new tick, and those tick commits that have not been placed ahead are (R128, R129,
R524). -/
def Dev.tickStartOf (d : Dev) (i : Nat) (ns : List Nat) : Dev :=
  d.each ns (fun x n =>
    let y := x.newTick n
    let o := y.orb i
    if o.placed.contains n then y.setOrb i { o with placed := o.placed.filter (fun k => k != n) } else y.commitPlace i 0 n)

/-- TICK_LENGTH_CHANGE (R522): at an orbit frame boundary a written base tick or multiplier takes effect; that boundary is
a tick boundary of every slice of the orbit. -/
def Dev.tickLengthChange (i : Nat) (d : Dev) : Dev :=
  let o := d.orb i
  let base := d.baseTick i
  let ns := d.slicesOn i
  if o.base = base ∧ ns.all (fun n => d.rd F.CE_SLICE_TICK_MULT_EFF n == d.multWanted n base) then d
  else
    let frame := o.pos / 1228800 * 1228800
    let olds := ns.map (fun n => (n, d.tickLen n))
    let fresh := (olds.filter (fun q => posFrom o.tickFrom frame % max 1 q.2 != 0)).map (fun q => q.1)
    let d1 := d.setOrb i { o with base := base, tickFrom := if o.ticks = 2 then frame else o.tickFrom, tick := 0 }
    let d2 := d1.each ns (fun x n => x.wr F.CE_SLICE_TICK_MULT_EFF (x.multWanted n base) n)
    let d3 := olds.foldl (fun (x : Dev) q => if x.tickLen q.1 = q.2 then x else x.tickChanged q.1 (x.tickLen q.1) q.2) d2
    if o.ticks = 2 then (d3.setOrb i { d3.orb i with placed := [] }).tickStartOf i fresh else d3

/-- TICK_LENGTH_CHANGE (R522). -/
def execTickLengthChange (o : Nat) (s : State) : Out := unit o 2 (.next (s.onDev (Dev.tickLengthChange o)))

/-- The counter has reached or passed a position (R104). -/
def Dev.reached (d : Dev) (i pos : Nat) : Bool := decide (2 * ahead pos (d.orbPos i) < orbitSpan)

/-- Length of the guards between a downlink segment and the uplink that follows, from the segment list walked twice
round: the shortest (R214). `g` is the guard so far since a downlink segment, `none` outside one. -/
def guardWalk : List (Nat × Nat × Nat) → Option Nat → Option Nat → Option Nat
  | [], _, best => best
  | (t, a, b) :: l, g, best =>
    if t = 0 then guardWalk l (some 0) best
    else if t = 2 then guardWalk l (g.map (fun x => x + (b - a))) best
    else
      match g with
      | some x => guardWalk l none (some (match best with | some y => min x y | none => x))
      | none => guardWalk l none best

/-- The shortest network guard of the active pattern at a change from downlink to uplink (R214). -/
def Dev.networkGuard (d : Dev) (i : Nat) : Option Nat :=
  if !(d.patternValid i) then none
  else
    let b := d.activeBank i
    let l := spans (d.rd F.ORB_TDD_PER_PERIOD i b) (d.segments i b)
    guardWalk (l ++ l) none none

end Sys2Proof.Machine
end

