-- ==== Sys2Proof/Machine/Samples.lean ====
section
/-! DEFINITION. Sample blocks and their place in a frame (R24 to R26, R186, R187, R269, R270), and arithmetic on samples that carry residues (R345, R362, R363). -/

namespace Sys2Proof.Machine

/-- The residue of an integer (R362). -/
def residue7 (x : Int) : Nat := (x % 7).toNat

/-- Attaches its residue to a number (R362). -/
def Comp.attach (x : Int) : Comp := { v := x, res := residue7 x }

/-- The residue that came along is that of the value (R363). -/
def Comp.ok (a : Comp) : Bool := a.res % 7 == residue7 a.v

/-- Sum, difference and product, with the residue that the operands predict (R363). -/
def Comp.add (a b : Comp) : Comp := { v := a.v + b.v, res := (a.res + b.res) % 7 }
def Comp.sub (a b : Comp) : Comp := { v := a.v - b.v, res := (a.res + 7 - b.res % 7) % 7 }
def Comp.mul (a b : Comp) : Comp := { v := a.v * b.v, res := a.res * b.res % 7 }

/-- Scaling by 2^k multiplies the residue by 2^k (R362). -/
def Comp.scale (a : Comp) (k : Nat) : Comp := { v := a.v * (2 ^ k : Nat), res := a.res * 2 ^ k % 7 }

/-- The check of a shift right by `k` with rounding (R363): the result y and the discarded part d agree with the residue
predicted for y × 2^k + d. -/
def shiftAgrees (k : Nat) (predicted : Nat) (y d : Int) : Bool :=
  (residue7 y * 2 ^ k + residue7 d) % 7 == predicted % 7

/-- A shift right by `k`, rounded to nearest with ties away from zero. A result whose check of R363 agrees carries its own residue;
one whose check fails keeps a residue that no value has, so that every later check finds it. -/
def Comp.shr (a : Comp) (k : Nat) : Comp :=
  let y := divNear a.v (2 ^ k)
  { v := y, res := if shiftAgrees k a.res y (a.v - y * (2 ^ k : Nat)) then residue7 y else 7 + residue7 y + 1 }

/-- Saturation to `w` bits (R345); a value that saturates takes the residue of the limit. -/
def Comp.sat (a : Comp) (w : Nat) : Comp := if satSigned w a.v = a.v then a else Comp.attach (satSigned w a.v)

/-- A component outside the range of `w` bits. -/
def Comp.exceeds (a : Comp) (w : Nat) : Bool := satSigned w a.v != a.v

/-- The same on complex samples. -/
def Cx.attach (i q : Int) : Cx := { i := Comp.attach i, q := Comp.attach q }
def Cx.ok (a : Cx) : Bool := a.i.ok && a.q.ok
def Cx.add (a b : Cx) : Cx := { i := a.i.add b.i, q := a.q.add b.q }
def Cx.sub (a b : Cx) : Cx := { i := a.i.sub b.i, q := a.q.sub b.q }
def Cx.mul (a b : Cx) : Cx := { i := (a.i.mul b.i).sub (a.q.mul b.q), q := (a.i.mul b.q).add (a.q.mul b.i) }
def Cx.shr (a : Cx) (k : Nat) : Cx := { i := a.i.shr k, q := a.q.shr k }
def Cx.sat (a : Cx) (w : Nat) : Cx := { i := a.i.sat w, q := a.q.sat w }
def Cx.exceeds (a : Cx) (w : Nat) : Bool := a.i.exceeds w || a.q.exceeds w

/-- |I|² + |Q|² of a sample. -/
def Cx.power (a : Cx) : Nat := a.i.v.natAbs ^ 2 + a.q.v.natAbs ^ 2

/-- The sample of zero value. -/
def Cx.zero : Cx := Cx.attach 0 0

/-- The tile sample of tile `t` of a row. -/
def Row.at (r : Row) (t : Nat) : Cx := (r.smp[t]?).getD Cx.zero

/-- A row of 256 tiles by a function of the tile, saturated to the 24-bit tile range (R345). -/
def Row.build (bad : Bool) (f : Nat → Cx) : Row :=
  let l := (upTo 256).map f
  { smp := l.map (fun x => x.sat 24), bad := bad, sat := (upTo 256).filter (fun t => ((l[t]?).getD Cx.zero).exceeds 24) }

/-- Every residue of a row agrees with its value (R363). -/
def Row.ok (r : Row) : Bool := r.smp.all Cx.ok

/-- Exponent `e` holds every component of a block (R269): divided by 2^e and rounded to nearest with ties away from zero, it lies
within 12 bits. -/
def expFits (l : List (Int × Int)) (e : Nat) : Bool :=
  l.all (fun c => !((Comp.attach (divNear c.1 (2 ^ e))).exceeds 12) && !((Comp.attach (divNear c.2 (2 ^ e))).exceeds 12))

/-- The exponent of a block (R269): the smallest that holds it, else 7. -/
def blockExp (l : List (Int × Int)) : Nat := (firstBelow 8 (expFits l)).getD 7

/-- A block of internal amplitudes as exponent and mantissas (R269), and how many components were clamped. DEDUCED (log 94): a
component below −2,048 is clamped to that limit. -/
def toBlock (l : List (Int × Int)) : Block × Nat :=
  let e := blockExp l
  let m := fun (x : Int) => clampInt (-2048) 2047 (divNear x (2 ^ e))
  let cut := fun (x : Int) => b2n (m x != divNear x (2 ^ e))
  ({ exp := e, smp := l.map (fun c => (m c.1, m c.2)) }, l.foldl (fun n c => n + cut c.1 + cut c.2) 0)

/-- A block is valid (R25, R26): exponents 8 to 15 mark an invalid one. -/
def Block.valid (b : Block) : Bool := decide (b.exp ≤ 7)

/-- A received block has an exponent of 8 to 14, which counts as a format error (R26). -/
def Block.malformed (b : Block) : Bool := decide (8 ≤ b.exp) && decide (b.exp ≤ 14)

/-- An invalid block (R25). -/
def Block.lost : Block := { exp := 15, smp := List.replicate 16 (0, 0) }

/-- A valid block of zero samples (R118). -/
def Block.silent : Block := { exp := 0, smp := List.replicate 16 (0, 0) }

/-- The internal samples of a block, m × 2^e (R24), their residues attached to the mantissas and scaled (R362); zeros for an
invalid one. -/
def Block.samples (b : Block) : List Cx :=
  if b.valid then b.smp.map (fun c => { i := (Comp.attach c.1).scale b.exp, q := (Comp.attach c.2).scale b.exp })
  else List.replicate 16 Cx.zero

/-- What a donor converter sends for a block (R270): m × 2^e / 8 to nearest, zeros for an invalid block. -/
def Block.donor (b : Block) : List (Int × Int) :=
  if b.valid then b.smp.map (fun c => (divNear (c.1 * (2 ^ b.exp : Nat)) 8, divNear (c.2 * (2 ^ b.exp : Nat)) 8))
  else List.replicate 16 (0, 0)

/-- The 388 bits of a block as a number, the first sent in bit 0 (R187): exponent, then I and Q of each sample. -/
def Block.code (b : Block) : Nat :=
  b.exp % 16 + 16 * ((upTo 16).foldl (fun a j =>
    let c := (b.smp[j]?).getD (0, 0)
    a + (ofSigned 12 c.1 + 2 ^ 12 * ofSigned 12 c.2) * 2 ^ (24 * j)) 0)

/-- The block that 388 bits spell (R187). -/
def readBlock (x : Nat) : Block :=
  { exp := x % 16
    smp := (upTo 16).map (fun j => (toSigned 12 (bits x (4 + 24 * j) 12), toSigned 12 (bits x (16 + 24 * j) 12))) }

/-- Blocks of a section by rate code, and the section's words (R186). -/
def sectionBlocks (rate : Nat) : Nat := 16 / 2 ^ rate
def sectionWords (rate : Nat) : Nat := (388 * sectionBlocks rate + 63) / 64

/-- The words of a section (R186, R187): block b at bit 388 × b, zero padding above. -/
def sectionOfBlocks (rate : Nat) (l : List Block) : List Nat :=
  let x := (upTo (sectionBlocks rate)).foldl (fun a b => a + ((l[b]?).getD Block.lost).code * 2 ^ (388 * b)) 0
  (upTo (sectionWords rate)).map (fun k => bits x (64 * k) 64)

/-- The blocks of a section's words. -/
def blocksOfSection (rate : Nat) (ws : List Nat) : List Block :=
  let x := ws.foldr (fun w a => w + 2 ^ 64 * a) 0
  (upTo (sectionBlocks rate)).map (fun b => readBlock (bits x (388 * b) 388))

/-- Chip `k` of the code of port `p` (R437): row `p` of the Sylvester-Hadamard matrix of order 128, then its inverse. -/
def chipOf (p k : Nat) : Int :=
  let ones := countBelow 7 (fun b => bitAt p b && bitAt (k % 128) b)
  let w : Int := if ones % 2 = 0 then 1 else -1
  if k % 256 < 128 then w else -w

end Sys2Proof.Machine
end

