-- ==== Sys2Proof/Machine/Plane.lean ====
section
/-! DEFINITION. The sample datapath (chapter 05): donor ingress and egress, gates, filter banks, gain, rotation, alignment, combining, cut and conversion. -/

namespace Sys2Proof.Machine

/-- A residue check of a unit: a failure is a mismatch of that unit class on the stream (R363, R364). -/
def Dev.checked (d : Dev) (m u : Nat) (ok : Bool) : Dev := if ok then d else d.residue m u (d.spOf m)

/-- Length of the prototype in samples (R339). -/
def Dev.bankTaps (d : Dev) (n : Nat) : Nat := if (d.donor n).sharp then 1024 else 512

/-- The orbit position at the antenna reference of a donor slice's sample that passes the donor interface now (R99, R342): a
downlink sample was there `RX_PATH` ago, an uplink sample will be there in `TX_PATH`. -/
def Dev.refPos (d : Dev) (n : Nat) (up : Bool) : Nat :=
  let p : Int := 16 * d.orbPos (d.donor n).orbit
  let lag : Int := if up then d.rd F.DON_PATH_TX_PATH n else -(d.rd F.DON_PATH_RX_PATH n : Int)
  ((p + lag) / 16 % (orbitSpan : Int)).toNat

/-- The stream position, in 1/16 sample of the frame grid, of the downlink sample of a donor slice that carries what reached the
antenna reference at an orbit position (R99, R188, R340): it comes in `RX_PATH` later and goes out after the transit latency. -/
def Dev.streamPos (d : Dev) (n pos : Nat) : Int :=
  let x : Int := ((pos + orbitSpan - d.orbPos (d.donor n).orbit + orbitSpan / 2) % orbitSpan : Nat)
  16 * ((d.gridNow : Int) + x - (orbitSpan / 2 : Nat)) + d.rd F.DON_PATH_RX_PATH n + d.transit n

/-- The segment type in force for a donor slice at an orbit position (R114, R117): outside *LOCKED* and *HOLDOVER* the gate stands as it
was (R138); 0 for an FDD slice. -/
def Dev.segmentAt (d : Dev) (n pos : Nat) : Nat :=
  let i := (d.donor n).orbit
  let st := d.rd F.ORB_STS_STATE i
  if st = 2 ∨ st = 3 then d.gateAt i pos else (d.orb i).gate

/-- An orbit position lies in a segment of the direction; on an FDD slice every one does. -/
def Dev.inSegment (d : Dev) (n : Nat) (up : Bool) (pos : Nat) : Bool := !(d.donor n).tdd || d.segmentAt n pos == b2n up

/-- The gate of a direction passes the sample that is at the donor interface now (R117, R354, R361): always on an FDD slice; on a
TDD slice where its antenna reference position lies in a segment of the direction. Outside *LOCKED* and *HOLDOVER* the gate
stands as it was (R138). -/
def Dev.passes (d : Dev) (n : Nat) (up : Bool) : Bool :=
  d.inSegment n up (d.refPos n up)

/-! ## The donor interface (R263 to R270) -/

/-- The logical lane of a physical lane (R268, R308): nibble `p` of the map. -/
def Dev.logicalLane (d : Dev) (tx : Bool) (p : Nat) : Nat :=
  let lo := if tx then d.word RD.DON_LANE_MAP_TX_LO else d.word RD.DON_LANE_MAP_RX_LO
  let hi := if tx then d.word RD.DON_LANE_MAP_TX_HI else d.word RD.DON_LANE_MAP_RX_HI
  bits (lo + 2 ^ 32 * hi) (4 * p) 4

/-- Octet `k` of a logical receive lane: of the physical lane that carries it, inverted where `DON_POL` says so (R268). Inverting
both pins of a lane inverts every bit of its line, and so every bit that the descrambler gives. -/
def Dev.drxOctet (d : Dev) (l k : Nat) : Nat :=
  match firstBelow 16 (fun p => d.logicalLane false p == l) with
  | some p =>
    let o := Config.donorOctet p k % 256
    if bitAt (d.rd F.DON_POL_RX_INV) p then 255 - o else o
  | none => 0

/-- L, S and octets per lane and frame of a link (R264): F = M × S × 2 / L. -/
def Dev.linkS (d : Dev) (j : Nat) : Nat := 2 ^ d.rd F.DON_LINK_CFG_S_CODE j
def Dev.linkF (d : Dev) (j : Nat) : Nat :=
  max 1 (4 * max 1 (d.rd F.DON_LINK_CFG_M_PAIRS j) * d.linkS j / 2 ^ d.rd F.DON_LINK_CFG_L_CODE j)

/-- The low bits of a converter word that carry nothing (R264, R310): N′ − N of them. -/
def Dev.linkIdle (d : Dev) (j : Nat) : Nat := 15 - max 11 (d.rd F.DON_LINK_CFG_N_M1 j)

/-- A 16-bit word with the bits that carry nothing zeroed (R264). -/
def zeroLow (x : Int) (k : Nat) : Int := x - x % (2 ^ k : Nat)

/-- Sample `c` of converter `v` of a receive link (R264, R268): frames are filled with converter 0 first, its samples in order, and
the frame's octets lie on the link's lanes in order. -/
def Dev.convSample (d : Dev) (j v c : Nat) : Int :=
  let s := d.linkS j
  let f := d.linkF j
  let o := fun (q : Nat) => d.drxOctet ((d.rd F.DON_LINK_CFG_FIRST_LANE j + q / f) % 16) (c / s * f + q % f)
  let q := 2 * (v * s + c % s)
  zeroLow (toSigned 16 (256 * o q + o (q + 1))) (d.linkIdle j)

/-- The converter pair's sample `c` of a donor slice's downlink (R31, R264). -/
def Dev.donorSample (d : Dev) (n c : Nat) : Int × Int :=
  let j := d.rd F.DON_SMAP_RX_LINK n
  let p := d.rd F.DON_SMAP_RX_PAIR n
  (d.convSample j (2 * p) c, d.convSample j (2 * p + 1) c)

/-- The receive link of a donor slice is in *DATA* (R277). -/
def Dev.donorHeard (d : Dev) (n : Nat) : Bool :=
  d.flag F.DON_SMAP_RX_VALID n && d.rd F.DON_LINK_STS_STATE (d.rd F.DON_SMAP_RX_LINK n) == 4

/-- A block of donor samples completes (R269, R278, R335 stages 1 and 2): it is converted, its clamps counted, and gated samples
become valid zeros. A block that holds a lost sample, or is the first to complete after the link's return, is invalid. -/
def Dev.donorBlock (d : Dev) (n : Nat) : Dev :=
  let m := 2048 + 2 * n
  let x := d.ps m
  let r := toBlock (x.raw.map (fun c => (8 * c.1, 8 * c.2.1)))
  let bad := x.lost || decide (x.raw.length ≠ 16) || x.spoilt
  let b := if bad then Block.lost else r.1
  let g := 16 * d.gridNow
  let l := (b.samples.zip (x.raw.map (fun c => c.2.2))).map (fun c => if c.2 then c.1 else Cx.zero)
  let d1 := if bad then d.fillTo m (d.bankFrames n + 1) else d.bumpBy r.2 F.DON_CLIP_CLIP n
  let d2 := d1.checked m 0 (l.all Cx.ok)
  d2.setPs m { x with raw := [], lost := !(d.donorHeard n), spoilt := false
                      hist := (l.reverse.map (fun c => (g, bad, c)) ++ x.hist).take (d.bankTaps n) }

/-- How far an orbit position lies behind the last multiple of 20 ms before a learning run's start. -/
def LearnRun.offset (r : LearnRun) (pos : Nat) : Nat := (pos + orbitSpan - r.start / 2457600 * 2457600) % orbitSpan

/-- A learning run takes a sample of its slice's downlink (R122): it belongs to the symbol that holds its position at the antenna
reference. Samples after the run's `LEARN_FRAMES` frames are not observed. -/
def Dev.learnHear (d : Dev) (n i : Nat) (s : Int × Int) : Dev :=
  let o := d.orb i
  let r := o.learning
  let pos := d.refPos n false
  if d.rd F.ORB_TDD_CTL_LEARN_STS i ≠ 1 ∨ r.slice ≠ n ∨
      max 1 (d.rd F.ORB_TDD_CTL_LEARN_FRAMES i) * 1228800 ≤ r.offset pos - r.start % 2457600 then d
  else
    let x := r.offset pos
    let scs := d.rd F.ORB_SLICE_CFG_SCS n
    let key := 28 * (x / 61440) + (if x % 61440 < symFirst scs then 0 else 1 + (x % 61440 - symFirst scs) / symNext scs)
    let e := (s.1 * s.1 + s.2 * s.2).toNat
    d.setOrb i { o with learning :=
      { r with energy := tabSet 0 r.energy key (tabGet 0 r.energy key + e), heard := tabSet 0 r.heard key (tabGet 0 r.heard key + 1) } }

/-- One slice sample of a donor slice's downlink, `k` slice samples from the start of the grid; block 0 of a TDL frame starts at
the frame boundary (R269). -/
def Dev.donorIngress (d : Dev) (n k : Nat) : Dev :=
  if !(d.donor n).dlEn then d
  else
    let m := 2048 + 2 * n
    let x := d.ps m
    let s := d.donorSample n k
    let raw := if k % 16 = 0 then [] else x.raw
    let d1 := d.setPs m { x with raw := raw ++ [(s.1, s.2, d.passes n false)], lost := x.lost || !(d.donorHeard n) }
    let d2 := if k % 16 = 15 then d1.donorBlock n else d1
    d2.each (upTo 2) (fun y i => y.learnHear n i s)

/-- The octets of a transmit link's lanes for 16 samples of each converter (R264, R268, R270): CS and the idle low bits are zero. -/
def Dev.linkOctets (d : Dev) (j : Nat) (smp : Nat → Nat → Int) : List Nat :=
  let s := d.linkS j
  let m := 2 * max 1 (d.rd F.DON_LINK_CFG_M_PAIRS j)
  (upTo (16 / s)).flatMap (fun f => (upTo m).flatMap (fun v => (upTo s).flatMap (fun c =>
    let w := ofSigned 16 (zeroLow (smp v (f * s + c)) (d.linkIdle j))
    [w / 256, w % 256])))

/-- The clock-failure safe state (R696) or an orderly stop (R748) mutes every port stream and sends zeros to the donors. -/
def Dev.allMuted (d : Dev) : Bool := d.flag F.CLK_STS_SAFE || d.pwr.stopping.isSome

/-- The lanes of transmit link `j` take the blocks that its donor slices have completed (R268, R270); a link outside *DATA* sends
nothing (R278). -/
def Dev.donorEgress (d : Dev) (j : Nat) : Dev :=
  let smp := fun (v c : Nat) =>
    if d.allMuted then 0 else
    match firstBelow 16 (fun n => d.declared n && d.flag F.DON_SMAP_TX_VALID n && d.rd F.DON_SMAP_TX_LINK n + 4 == j &&
        d.rd F.DON_SMAP_TX_PAIR n == v / 2) with
    | some n =>
      let q := ((((d.ps (2049 + 2 * n)).full.getD 0 Block.lost).donor)[c]?).getD (0, 0)
      if v % 2 = 0 then q.1 else q.2
    | none => 0
  let l := d.linkOctets j smp
  let f := d.linkF j
  let on := d.rd F.DON_LINK_STS_STATE j == 4
  d.each ((upTo 16).filter (fun p => decide (d.rd F.DON_LINK_CFG_FIRST_LANE j ≤ d.logicalLane true p) &&
      decide (d.logicalLane true p < d.rd F.DON_LINK_CFG_FIRST_LANE j + 2 ^ d.rd F.DON_LINK_CFG_L_CODE j))) (fun x p =>
    let i := d.logicalLane true p - d.rd F.DON_LINK_CFG_FIRST_LANE j
    let lanes := 2 ^ d.rd F.DON_LINK_CFG_L_CODE j
    let own := ((upTo l.length).zip l).filterMap (fun q => if q.1 / f % lanes = i then some q.2 else none)
    let line := own.map (fun o => if bitAt (d.rd F.DON_POL_TX_INV) p then 255 - o else o)
    { x with plane := { x.plane with dtx := tabSet [] x.plane.dtx p (if on then line else []) } })

/-! ## Filter banks, interpolation, gain and rotation -/

/-- The analysis bank (R337, R339): each tile is the sum of the prototype's taps over the newest samples, rounded once. -/
def Dev.analyse (d : Dev) (n : Nat) (hist : List Cx) (bad : Bool) : Row :=
  let sharp := (d.donor n).sharp
  let l := (upTo (d.bankTaps n)).zip hist
  Row.build bad (fun t => (l.foldl (fun a q =>
    let c := Config.analysisTap sharp t q.1
    a.add (q.2.mul (Cx.attach c.1 c.2))) Cx.zero).shr Config.tapBits)

/-- The synthesis bank (R336, R339): sample `i` of the 128 that a new row brings, from the rows that the prototype covers. -/
def synthesise (sharp : Bool) (rows : List Row) (i : Nat) : Cx :=
  (((upTo rows.length).zip rows).foldl (fun a q => (upTo 256).foldl (fun a t =>
    let c := Config.synthesisTap sharp t (128 * q.1 + i)
    a.add ((q.2.at t).mul (Cx.attach c.1 c.2))) a) Cx.zero).shr Config.tapBits

/-- A tile at `by16` sixteenths of a sample before the newest row (R358): whole tile samples from the buffer, the rest by the 8-tap
interpolator. `u` is 2 to the power of the rate code. -/
def interpolated (rows : List Row) (u by16 t : Nat) : Cx :=
  let whole := by16 / (2048 * u)
  let rest := by16 % (2048 * u)
  let tap := fun (k : Nat) => ((rows[whole + k]?).getD {}).at t
  if rest = 0 then tap 0
  else ((upTo 8).foldl (fun a k => a.add ((tap k).mul (Cx.attach (Config.interpTap rest k) 0))) Cx.zero).shr Config.tapBits

/-- A tile delayed by `by16` (R358): the part beyond whole tile samples also rotates it at the tile's centre frequency. -/
def delayed (rows : List Row) (u by16 t : Nat) : Cx :=
  let rest := by16 % (2048 * u)
  let y := interpolated rows u by16 t
  if rest = 0 then y
  else
    let r := cisTurn (-(((t : Int) - 128) * rest)) (4096 * u)
    (y.mul (Cx.attach r.1 r.2)).shr 40

/-- The factor of a gain in units of 2^-40 (R343): 10^(G / 5,120) to within 0.005 dB, and zero for 0x8000. -/
def gainFactor (g : Nat) : Nat :=
  if g = 0x8000 then 0
  else dbAmp (toSigned 16 g) * ((2 ^ 20 : Nat) + clampInt (-603) 603 (Config.gainError g)).toNat / 2 ^ 20

/-- The gain of a tile that tile sample `x` of its stream takes (R348, R350): the active one, or a step of the cross-fade. -/
def Dev.gainOf (d : Dev) (m t x : Nat) : Nat :=
  match tabFind (d.stream m).fadeFrom t with
  | some g => fadeGain g (d.act m t) (x + 1 - (d.stream m).fadeAt)
  | none => d.act m t

/-- The chip index of tile sample `x` of a donor slice (R438). -/
def Dev.chipIndex (d : Dev) (n x : Nat) : Nat := x / (16 * 2 ^ (d.weave n).chip) % 256

/-- The signature rotation of a downlink port stream at tile sample `x` (R344, R437 to R440, R443), cosine and sine of c θ in units of
2^-40: θ is arcsin(10^(D/20)), zero while the weave is off; a port removed from weaving has chips of zero. -/
def Dev.signature (d : Dev) (m n x : Nat) : Int × Int :=
  let w := d.weave n
  if !w.on || d.weaveOff n || d.far m then ((2 ^ 40 : Nat), 0)
  else
    let s := dbAmp (256 * (w.depth : Int) - 12800)
    ((isqrt (2 ^ 80 - s * s) : Nat), chipOf (portOf m) (d.chipIndex n x) * s)

/-- The probe of a downlink round at tile sample `x` (R461): a_t × c_p(n) × s(n), s being ±1 ± j from a sequence of 2^15 − 1 steps
that restarts with each code period. -/
def Dev.probe (d : Dev) (sv : Survey) (m n t x : Nat) : Cx :=
  let a : Nat := isqrt (dbAmp (tabGet (-15360) sv.probe t) ^ 2 * 2 ^ 35) / 2 ^ 40
  let b := Config.probeBits (x % (4096 * 2 ^ (d.weave n).chip) % 32767)
  let c := chipOf (portOf m) x * a
  Cx.attach (if b % 2 = 0 then c else -c) (if b / 2 % 2 = 0 then c else -c)

/-- The factor of the cut stage in units of 2^-40 (R366): the attenuation up to 63.5 dB, zero beyond it and under a mute, that of the
safe state or an orderly stop included. A surveyed stream is muted outside the rounds of its direction (R462). -/
def Dev.cutFactor (d : Dev) (m : Nat) : Nat :=
  let c := d.rd F.SLC_PROT_CUT m
  if d.flag F.SLC_PROT_MUTE m || d.allMuted || (d.underSurvey m && (d.inRound m).isNone) || decide (127 < c) then 0 else dbAmp (-(128 * c : Nat))

/-- A sample through the cut stage of a stream. -/
def Dev.cutOf (d : Dev) (m : Nat) (x : Cx) : Cx := (x.mul (Cx.attach (d.cutFactor m) 0)).shr 40

/-! ## The stages of a tile sample -/

/-- Stage 4 of the downlink (R335, R450): the branches of a donor tile subtract w × r_c(n − δ); w is in units of 2^-24. -/
def Dev.echoFree (d : Dev) (n t : Nat) (y : Cx) : Cx :=
  (upTo 4).foldl (fun a b =>
    match d.rd F.ISO_BRANCH_STATE n t b, d.streamAt 0 (d.rd F.ISO_BRANCH_PORT n t b) n with
    | 0, _ => a
    | _, none => a
    | _, some m =>
      let w := tabGet {} d.iso.branches ((n * 256 + t) * 4 + b)
      let r := delayed ((d.ps m).refs) (d.scale n) (d.rd F.ISO_BRANCH_DELAY n t b - 2048 * d.scale n) t
      a.sub ((r.mul (Cx.attach w.wRe w.wIm)).shr 24)) y

/-- The processors that synthesise a port slice of a donor slice (R353). -/
def Dev.ringTargets (d : Dev) (n : Nat) : List Nat :=
  (((d.streamsOf n).filter (fun m => dirOf m == 0)).map d.spOf).eraseDups

/-- Stages 3 and 4 of a donor slice's downlink at a tile sample (R335, R353): analysis, echo subtraction, and the broadcast on the
ring. A failed processor sends nothing (R368). -/
def Dev.donorTiles (d : Dev) (n : Nat) : Dev :=
  if !(d.donor n).dlEn then d
  else
    let m := 2048 + 2 * n
    let x := d.ps m
    let a := d.analyse n (x.hist.map (fun q => q.2.2)) (d.streamBad m)
    let l := (upTo 256).map (fun t => d.echoFree n t (a.at t))
    let y : Row := Row.build a.bad (fun t => (l[t]?).getD Cx.zero)
    let d1 := ((d.setPs m { x with inTap := a, outTap := y, refs := (y :: x.refs).take 72 }).bumpBy (a.sat.length + y.sat.length) F.SLC_CNT_SAT)
    let d2 := (d1.checked m 1 a.ok).checked m 2 y.ok
    if d2.spFailed (d2.spOf m) then d2
    else (d2.each (d2.ringTargets n) (fun z sp =>
      { z with plane := { z.plane with ring := tabSet {} z.plane.ring (64 * n + sp) y } })).checked m 8 y.ok

/-- Stage 5 of a downlink port stream (R335, R343 to R345): the donor tile that its processor received, or the survey's probe, times
gain times signature rotation. The cancellers' reference is the result scaled by the cut stage (R450). -/
def Dev.downGain (d : Dev) (n x m : Nat) : Dev :=
  let p := d.ps m
  let src := tabGet {} d.plane.ring (64 * n + d.spOf m)
  let rot : Int × Int := if (d.inRound m).isSome then ((2 ^ 40 : Nat), 0) else d.signature m n x
  let y := Row.build (src.bad || d.streamBad m) (fun t =>
    let a := match d.inRound m with
      | some sv => d.probe sv m n t x
      | none => src.at t
    let g : Int := gainFactor (d.gainOf m t x)
    (a.mul (Cx.attach (divNear (g * rot.1) (2 ^ 40)) (divNear (g * rot.2) (2 ^ 40)))).shr 40)
  let ref : Row := if y.bad then {} else { smp := y.smp.map (d.cutOf m) }
  let chip := chipOf (portOf m) (d.chipIndex n x)
  let own : Row := if (d.inRound m).isSome then y else Row.build y.bad (fun t =>
    ((src.at t).mul (Cx.attach (chip * gainFactor (d.gainOf m t x)) 0)).shr 40)
  let d1 := (d.setPs m { p with inTap := src, outTap := y, refs := (ref :: p.refs).take 40, gained := (own :: p.gained).take 40 }).bumpBy y.sat.length F.SLC_CNT_SAT
  (if src.bad then d1.fillTo m (d.bankFrames n + 1) else d1).checked m 3 y.ok

/-- The received samples that an analysis at a grid position covers (R336, R340): 8 slice samples after their arrival, from the first
sample at or after that instant. With them comes by how much, in 1/16 sample, the newest is too new, and whether its frame counts
as invalid (R194). -/
def Dev.upWindow (d : Dev) (m n : Nat) : List Cx × Nat × Bool :=
  let u := d.scale n
  let at16 := 16 * d.gridNow - 128 * u
  let l := (d.ps m).hist.dropWhile (fun q => decide (at16 + 16 * u ≤ q.1))
  match l with
  | [] => ([], 0, true)
  | q :: _ => (l.map (fun z => z.2.2), q.1 - at16, q.2.1 || decide (q.1 < at16))

/-- Stages 3 and 4 of an uplink port stream (R336, R358, R359): analysis, and the delay to the alignment target, cross-faded over 16
tile samples from the old delay where it has changed. -/
def Dev.upTiles (d : Dev) (n m : Nat) : Dev :=
  let p := d.ps m
  let w := d.upWindow m n
  let a := d.analyse n w.1 (w.2.2 || (d.stream m).invalid || !(d.portActive (portOf m)))
  ((d.setPs m { p with inTap := a, rows := (a :: p.rows).take 40, late := w.2.1 }).bumpBy a.sat.length F.SLC_CNT_SAT).checked m 1 a.ok

/-- The aligned tile `t` of an uplink port stream at tile sample `x` (R358, R359). -/
def Dev.aligned (d : Dev) (m n x t : Nat) : Cx :=
  let p := d.ps m
  let st := d.stream m
  let new := delayed p.rows (d.scale n) (d.rd F.SLC_UL_ADD m + p.late) t
  let k := x + 1 - st.addAt
  if st.addAt = 0 ∨ 16 ≤ k then new
  else
    let old := delayed p.rows (d.scale n) (st.oldAdd.toNat + p.late) t
    ((old.mul (Cx.attach (16 - k) 0)).add (new.mul (Cx.attach k 0))).shr 4

/-- Stage 5 of an uplink port stream (R336, R343): the port's gain; no signature. -/
def Dev.upGain (d : Dev) (n x m : Nat) : Dev :=
  let p := d.ps m
  let whole := (d.rd F.SLC_UL_ADD m + p.late) / (2048 * d.scale n)
  let bad := ((p.rows[whole]?).map (fun r => r.bad)).getD true
  let a := Row.build bad (d.aligned m n x)
  let y := Row.build bad (fun t => ((a.at t).mul (Cx.attach (gainFactor (d.gainOf m t x)) 0)).shr 40)
  (((d.setPs m { p with outTap := y }).bumpBy (a.sat.length + y.sat.length) F.SLC_CNT_SAT).checked m 4 a.ok).checked m 3 y.ok

/-- A sum in a 28-bit accumulator (R360). DESIGN CHOICE (log 95): an accumulator that would overflow stops at its limit. -/
def accumulate (a b : Cx) : Cx := (a.add b).sat 28

/-- The port streams of a donor slice whose contribution the combiner takes (R357, R360, R368): in range, valid, and on a processor
that has not failed. -/
def Dev.contributors (d : Dev) (n : Nat) : List Nat :=
  (d.streamsOf n).filter (fun m => dirOf m == 1 && d.flag F.SLC_UL_VALID m && !(d.flag F.SLC_UL_RANGE m) &&
    !((d.ps m).outTap.bad) && !(d.spFailed (d.spOf m)))

/-- The partial sum of tile `t` that a processor forms and sends over the ring to the home processor (R38, R336). -/
def Dev.partialSum (d : Dev) (n sp t : Nat) : Cx :=
  ((d.contributors n).filter (fun m => d.spOf m == sp)).foldl (fun a m => accumulate a ((d.ps m).outTap.at t)) Cx.zero

/-- Stage 6 of a donor slice's uplink (R336, R360): the partial sums of every processor, saturated to the tile range. The sum is invalid
only while the home processor produces nothing valid. -/
def Dev.combine (d : Dev) (n : Nat) : Row :=
  let sps := ((d.contributors n).map d.spOf).eraseDups
  Row.build (d.streamBad (2049 + 2 * n)) (fun t => sps.foldl (fun a sp => accumulate a (d.partialSum n sp t)) Cx.zero)

/-- The analysis instant of a donor slice (R337, R340). -/
def Dev.planeAnalysis (d : Dev) (n : Nat) : Dev :=
  (d.donorTiles n).each ((d.streamsOf n).filter (fun m => dirOf m == 1)) (fun z m => z.upTiles n m)

/-- The gain stages of a donor slice's port streams take tile sample `x`. -/
def Dev.planeGain (d : Dev) (n x : Nat) : Dev :=
  d.each (d.streamsOf n) (fun z m => if dirOf m = 0 then z.downGain n x m else z.upGain n x m)

/-- A row enters a synthesis bank and yields the next 128 samples (R336). -/
def Dev.synthesis (d : Dev) (n m : Nat) (y : Row) : Dev :=
  let p := d.ps m
  let rows := (y :: p.rows).take (d.bankTaps n / 128)
  let l := (upTo 128).map (synthesise (d.donor n).sharp rows)
  (d.setPs m { p with rows := rows, out := p.out ++ l }).checked m 6 (l.all Cx.ok)

/-- Stages 6 of the downlink port streams, and 6 and 7 of the donor uplink (R335, R336). A donor uplink's sum is its IN tap (R393). -/
def Dev.planeSynthesis (d : Dev) (n : Nat) : Dev :=
  let d1 := d.each ((d.streamsOf n).filter (fun m => dirOf m == 0)) (fun z m => z.synthesis n m (z.ps m).outTap)
  if !(d.donor n).ulEn then d1
  else
    let m := 2049 + 2 * n
    let y := d1.combine n
    ((((d1.setPs m { d1.ps m with inTap := y, refs := (y :: (d1.ps m).refs).take 72 }).bumpBy y.sat.length F.SLC_CNT_SAT).checked m 5 y.ok).synthesis n m y)

/-! ## Egress -/

/-- A block of internal samples completes (R335 stages 8 and 9, R336 stage 9): checked, converted by R269, its clamps counted; an
invalid stream's block has exponent 15. -/
def Dev.sendBlock (d : Dev) (m : Nat) (l : List Cx) : Dev × Block :=
  let r := toBlock (l.map (fun c => (c.i.v, c.q.v)))
  let d1 := d.checked m 9 (l.all Cx.ok)
  if d1.streamBad m || (d1.ps m).spoilt then (d1.setPs m { d1.ps m with spoilt := false }, Block.lost)
  else (if m < 2048 then d1.bumpBy r.2 F.SLC_CLIP_CLIP m else d1.bumpBy r.2 F.SLC_DCLIP_CLIP ((m - 2048) / 2), r.1)

/-- One sample of a downlink port stream leaves its synthesis (R335 stages 7 to 9): cut, collected into blocks, and the blocks of a
frame collected, 8 slice samples after (R340). -/
def Dev.downEgress (d : Dev) (n k m : Nat) : Dev :=
  let p := d.ps m
  let y := d.cutOf m (p.out.headD Cx.zero)
  let d1 := (d.setPs m { p with out := p.out.drop 1, blk := p.blk ++ [y] }).checked m 7 y.ok
  if (k + 8) % 16 ≠ 15 then d1
  else
    let q := d1.ps m
    let r := d1.sendBlock m q.blk
    let f := q.frame ++ [r.2]
    let last := decide ((k + 8) % (256 / d.scale n) + 1 = 256 / d.scale n)
    r.1.setPs m { r.1.ps m with blk := [], frame := if last then [] else f, full := if last then f else q.full }

/-- One sample of a donor uplink leaves its synthesis (R336 stages 8 and 9): gated by its antenna reference position, and collected
into blocks. -/
def Dev.upEgress (d : Dev) (n k : Nat) : Dev :=
  if !(d.donor n).ulEn then d
  else
    let m := 2049 + 2 * n
    let p := d.ps m
    let y := if d.passes n true then p.out.headD Cx.zero else Cx.zero
    let d1 := d.setPs m { p with out := p.out.drop 1, blk := p.blk ++ [y] }
    if k % 16 ≠ 15 then d1
    else
      let r := d1.sendBlock m (d1.ps m).blk
      r.1.setPs m { r.1.ps m with blk := [], full := [r.2] }

end Sys2Proof.Machine
end

