-- ==== Sys2Proof/Machine/Link.lean ====
section
/-! DEFINITION. The distribution link: sessions, ports, protected pairs and lanes (chapter 03). -/

namespace Sys2Proof.Machine

/-- One port's session. -/
def Dev.lp (d : Dev) (p : Nat) : LinkPort := tabGet {} d.lnk.ports p

/-- Replaces a port's session. -/
def Dev.setLp (d : Dev) (p : Nat) (x : LinkPort) : Dev :=
  { d with lnk := { d.lnk with ports := tabSet {} d.lnk.ports p x } }

/-- One lane's receiver. -/
def Dev.ll (d : Dev) (n : Nat) : LinkLane := tabGet {} d.lnk.lanes n

/-- Replaces a lane's receiver. -/
def Dev.setLl (d : Dev) (n : Nat) (x : LinkLane) : Dev :=
  { d with lnk := { d.lnk with lanes := tabSet {} d.lnk.lanes n x } }

/-- A port's state (R216). -/
def Dev.portState (d : Dev) (p : Nat) : Nat := d.rd F.LNK_STS_PORT_STATE p

/-- A lane's state (R215). -/
def Dev.laneState (d : Dev) (n : Nat) : Nat := d.rd F.LNK_STS_LANE_STATE n

/-- The power domain of a lane's link-die quarter (R726). -/
def laneDomain (n : Nat) : Nat := 74 + n / 16

/-- A lane is in signal fail (R227, R703, R729). -/
def Dev.laneSf (d : Dev) (n : Nat) : Bool :=
  !(d.flag F.LNK_STS_SIG_DET n) || decide (d.laneState n < 2) || decide (2 ≤ (d.ll n).disc) ||
    decide (2 ≤ (d.ll n).miss) || !(bitAt (d.rd F.CLK_STS_LREF_OK) (n / 32)) || !(d.domOn (laneDomain n))

/-- The standby may not be used: it fails, or the pair is skewed (R228, R229). -/
def Dev.standbyFails (d : Dev) (k : Nat) : Bool := d.laneSf (k + 64) || d.flag F.LNK_PROT_STS_PAIR_SKEW k

/-- The row of R229 that decides for a pair, and the lane it selects: 0 lane k, 1 lane k + 64. -/
def Dev.pairRow (d : Dev) (k : Nat) : Nat × Nat :=
  let req := d.rd F.LNK_PROT_REQ k
  let sel := d.rd F.LNK_PROT_STS_SELECTED k
  let fa := d.laneSf k
  let fb := d.standbyFails k
  let da := d.flag F.LNK_PROT_STS_SD_A k
  let db := d.flag F.LNK_PROT_STS_SD_B k
  if req = 1 then (1, 0)
  else if fb then (2, 0)
  else if req = 2 then (3, 1)
  else if fa then (4, 1)
  else if sel = 0 ∧ da ∧ !db then (5, 1)
  else if sel = 1 ∧ db ∧ !da then (5, 0)
  else if req = 3 ∧ !db then (6, 1)
  else if d.flag F.LNK_PROT_STS_WTR_RUN k then (7, 1)
  else if (d.lp k).clearDue ∧ req = 0 ∧ !da then (8, 0)
  else (8, sel)

/-- Lane `k` of a pair has a fault, whether fail or degrade (R229, R230). -/
def Dev.laneBad (d : Dev) (k : Nat) : Bool := d.laneSf k || d.flag F.LNK_PROT_STS_SD_A k

/-- Wait-to-restore (R230): it starts when lane k is clear again after a switch away from it, and any fault on the lane restarts
it. -/
def Dev.wtrRefresh (d : Dev) (k : Nat) : Dev :=
  let x := d.lp k
  let away := d.flag F.LNK_PROT_STS_SELECTED k
  let fault := d.laneBad k || (x.aFault && (away || x.pend.isSome))
  let runs := !(d.laneBad k) && fault && away && d.flag F.LNK_PROT_REVERTIVE k
  let d1 := d.setLp k { x with aFault := fault, wtrAt := if d.flag F.LNK_PROT_STS_WTR_RUN k then x.wtrAt else d.now }
  d1.wr F.LNK_PROT_STS_WTR_RUN (b2n runs) k

/-- The frame in which a lane's signal fail began is kept while it lasts (R227, R232). -/
def Dev.sfRefresh (d : Dev) (n : Nat) : Dev :=
  let x := d.ll n
  if !(d.laneSf n) then d.setLl n { x with sfAt := none }
  else if x.sfAt.isNone then d.setLl n { x with sfAt := some d.lfn }
  else d

/-- Both lanes of a pair came into signal fail in one frame (R232). -/
def Dev.bothFail (d : Dev) (k : Nat) : Bool := (d.ll k).sfAt.isSome && (d.ll k).sfAt == (d.ll (k + 64)).sfAt

/-- A lane is in *FRAMED* since an earlier frame. -/
def Dev.framedBefore (d : Dev) (n : Nat) : Bool := d.laneState n == 3 && (d.ll n).framedAt != some d.lfn

/-- PAIR_SWITCH_DECIDE (R229): a pair's fail bits follow its lanes, and a changed selection waits for the next frame
boundary; nothing is decided while a switch waits. After a signal fail on both lanes in one frame there is no switch until a lane
has reached *FRAMED* (R232), but for `LOCKOUT`. -/
def Dev.pairDecide (d : Dev) (k : Nat) : Dev :=
  if !(d.paired k) then d
  else
    let d0 := (d.sfRefresh k).sfRefresh (k + 64)
    let d1 := ((d0.wr F.LNK_PROT_STS_SF_A (b2n (d0.laneSf k)) k).wr F.LNK_PROT_STS_SF_B (b2n (d0.laneSf (k + 64))) k).wtrRefresh k
    let x := d1.lp k
    let r := d1.pairRow k
    let dark := d1.bothFail k || (x.dark && !(d1.framedBefore k) && !(d1.framedBefore (k + 64)))
    let d2 := d1.setLp k { x with dark := dark, pend := if dark && !x.dark then none else x.pend }
    if dark && r.1 != 1 then d2
    else if (d2.lp k).pend.isSome then d2
    else
      let d3 := (d2.wr F.LNK_PROT_STS_PRIORITY r.1 k).setLp k { d2.lp k with clearDue := false }
      if r.2 = d3.rd F.LNK_PROT_STS_SELECTED k then d3
      else d3.setLp k { d3.lp k with pend := some r.2 }

/-- A control cell of a type, with flags and payload octets from octet 4 (R195). -/
def mkCell (ty flags : Nat) (payload : List Nat) : List Nat := [ty, flags, 0, 0] ++ takeFill 28 payload

/-- A cell with its `SEQ` or its `ACK` filled in. -/
def cellSeq (c : List Nat) (q : Nat) : List Nat := c.set 2 q
def cellAck (c : List Nat) (a : Nat) : List Nat := c.set 3 a

/-- A reliable message joins the port's queue (R196). -/
def Dev.queueRel (d : Dev) (p ty : Nat) (payload : List Nat) : Dev :=
  let x := d.lp p
  d.setLp p { x with waiting := x.waiting ++ [(mkCell ty 1 payload, none)] }

/-- The mailbox of one of the 128 lanes answers (R261). -/
def Dev.mailDone (d : Dev) (n r : Nat) : Dev :=
  if n < 128 then (d.wr F.LNK_MSG_CTL_BUSY 0 n).wr F.LNK_MSG_CTL_RESULT r n else d

/-- Every mailbox cell that a port still owes an acknowledgement is answered. -/
def Dev.mailAll (d : Dev) (p r : Nat) : Dev :=
  let x := d.lp p
  d.each ((x.waiting.filterMap (fun c => c.2)) ++ (x.unacked.filterMap (fun u => u.mail))) (fun y n => y.mailDone n r)

/-- The donor slice of a port slice, by its downlink stream; a slice of one direction has it from the stream it has. -/
def Dev.sliceDonor (d : Dev) (m : Nat) : Nat := d.donorOf (if d.has m then m else m + 8)

/-- One repeater round trip of a port slice in 1/16 sample, by its downlink stream (R211): donor receive path, both
transit latencies with the added alignment, one-way delays, the remote's latencies and the donor transmit path. -/
def Dev.roundTrip (d : Dev) (m : Nat) : Int :=
  let n := d.sliceDonor m
  let p := portOf m
  d.rd F.DON_PATH_RX_PATH n + 2 * d.transit n + d.rd F.SLC_UL_ADD (m + 8) + d.owd p + d.owdUl p +
    d.rd F.LNK_REM_LAT_DL_LAT p + d.rd F.LNK_REM_LAT_UL_LAT p + d.rd F.DON_PATH_TX_PATH n

/-- The remote guard of a TDD port slice is shorter than 256 samples (R214). -/
def Dev.guardShort (d : Dev) (m : Nat) : Bool :=
  (d.donor (d.sliceDonor m)).tdd && d.flag F.LNK_RTD_VALID (d.laneOf (portOf m)) &&
    match d.networkGuard (d.donor (d.sliceDonor m)).orbit with
    | some g => decide ((16 * g : Nat) - d.roundTrip m < 4096)
    | none => false

/-- The port slices of some streams, by downlink stream. -/
def Dev.pairsOf (d : Dev) (l : List Nat) : List Nat :=
  (l.map sliceKey).eraseDups.filter (fun m => d.has m || d.has (m + 8))

/-- TDD_GUARD (R214): port slices whose remote guard is too short are held muted in both directions, and released when it
is long enough again. -/
def Dev.guardCheck (d : Dev) (l : List Nat) : Dev :=
  (d.each (d.pairsOf l) (fun x m =>
    let bad := x.guardShort m
    let was := x.lnk.guard.contains m
    if bad == was then x
    else if bad then
      ((({ x with lnk := { x.lnk with guard := m :: x.lnk.guard } }).setCause 7 m).setCause 7 (m + 8)).raise 0x65
        (portOf m) (m % 8)
    else
      (({ x with lnk := { x.lnk with guard := x.lnk.guard.filter (fun q => q != m) } }).clearCause 7 m).clearCause 7
        (m + 8))).faultPin

/-- A port leaves *ACTIVE* (R194, R218, R304, R467): its surveys end, its stations disarm, its uplinks leave the sums. -/
def Dev.portLeft (d : Dev) (p : Nat) : Dev :=
  let d1 := d.surveyPortLeft p
  let d2 := d1.each (upTo 4) (fun x k => x.wr F.FES_REM_STS_ARMED 0 (4 * p + k))
  d2.each ((d2.portStreamsOf p).filter (fun m => dirOf m == 1)) (fun x m => x.wr F.SLC_UL_VALID 0 m)

/-- The remote guards of a port's slices are judged anew (R214). -/
def Dev.portGuards (d : Dev) (p : Nat) : Dev := d.guardCheck (d.portStreamsOf p)

/-- A port's uplinks pass as invalid for the frames that a run of lost input leaves behind it (R194). -/
def Dev.portTail (d : Dev) (p : Nat) : Dev :=
  d.each ((d.portStreamsOf p).filter (fun m => dirOf m == 1)) (fun x m => x.fillTo m (x.bankFrames (x.donorOf m)))

/-- The alignment of every donor slice that a port carries follows the port's delays (R356). -/
def Dev.portAlign (d : Dev) (p : Nat) : Dev := d.each (((d.portStreamsOf p).map d.donorOf).eraseDups) Dev.alignRefresh

/-- A port enters *ACTIVE* (R194, R214, R219, R356): alignment follows, guards are judged, and in *SURVEY* and *SERVICE* its
port slices are surveyed. -/
def Dev.portEntered (d : Dev) (p : Nat) : Dev :=
  let d2 := ((d.portTail p).portAlign p).portGuards p
  if d2.boot = 7 ∨ d2.boot = 8 then d2.surveyStart (d2.portStreamsOf p) else d2

/-- The lanes of a port. -/
def Dev.lanesOf (d : Dev) (p : Nat) : List Nat := if d.paired p then [p, p + 64] else [p]

/-- A port's last cause, on each of its lanes (R226). -/
def Dev.setPortCause (d : Dev) (p cause : Nat) : Dev := d.each (d.lanesOf p) (fun x n => x.wr F.LNK_STS_CAUSE cause n)

/-- `LNK_REM_ID` of a port (R248). -/
def Dev.showRemId (d : Dev) (p v : Nat) : Dev :=
  (d.wr F.LNK_REM_ID_VENDOR (v % 2 ^ 16) p).wr F.LNK_REM_ID_MODEL (v / 2 ^ 16) p

/-- A port changes state (R217, R226): a cause other than 0 is reported, and the change recorded. The remote's identity shows from
*MAP* onward (R248). -/
def Dev.setPort (d : Dev) (p st cause : Nat) : Dev :=
  let old := d.portState p
  let d1 := if cause = 0 then d else d.setPortCause p cause
  if st = old then d1
  else
    let d2 := (d1.wr F.LNK_STS_PORT_STATE st p).raise 0x61 p (st + 256 * cause)
    let d3 := if old = 5 then d2.portLeft p else d2
    let d4 := d3.showRemId p (if 3 ≤ st then (d3.lp p).remId else 0)
    let d5 := if st = 6 then d4.setLp p { d4.lp p with incAt := d4.now } else d4
    let d6 := if st = 5 then d5.portEntered p else d5
    d6.faultPin

/-- A session ends: every mailbox cell that the port owes is answered, and its queue of reliable messages empties. -/
def Dev.sessionEnd (d : Dev) (p r : Nat) : Dev :=
  let d1 := d.mailAll p r
  d1.setLp p { d1.lp p with waiting := [], unacked := [], resend := [], leftAt := none }

/-- A port returns to *HELLO* with a new session (R196, R201, R217). The session value is the controller's own, left
open. -/
def Dev.toHello (d : Dev) (p cause : Nat) : Dev :=
  let v := (d.sessionEnd p (if cause = 6 then 2 else 1)).draw
  let d2 := v.2.setLp p { v.2.lp p with
    session := v.1 % 2 ^ 32, peer := none, txSeq := 0, timed := [], greet := none, greetAt := none, rxSeq := 0, rxCell := none
    offered := none, accepted := none, recheck := false, remId := 0 }
  let d3 := d2.each (d2.lanesOf p) (fun y n =>
    ((y.wr F.LNK_RTD_VALID 0 n).wr F.LNK_OWD_VALID 0 n).setLl n { y.ll n with da := none })
  d3.setPort p 1 cause

/-- A port goes *DOWN* (R217). From *RTD* and *ACTIVE* its session stands for the re-check, with the messages that it still owes
(R196). -/
def Dev.portDown (d : Dev) (p cause : Nat) : Dev :=
  let old := d.portState p
  if old = 0 then d
  else if old = 4 ∨ old = 5 then (d.setLp p { d.lp p with leftAt := some d.lfn }).setPort p 0 cause
  else (d.sessionEnd p 1).setPort p 0 cause

/-- The port's selected lane is in *FRAMED* (R217): a re-check of the delay within 480 frames, else a new session. -/
def Dev.portUp (d : Dev) (p : Nat) : Dev :=
  if d.portState p ≠ 0 then d
  else
    match (d.lp p).leftAt with
    | some t => if lfnSince t d.lfn < 480 then (d.setLp p { d.lp p with recheck := true }).setPort p 4 0 else d.toHello p 0
    | none => d.toHello p 0

/-- The lane of a pair that a selection names. -/
def pairLane (k v : Nat) : Nat := k + 64 * v

/-- The port follows its selected lane (R216, R217): up while it is in *FRAMED*; else *DOWN*, unless a switch to a lane in *FRAMED*
waits. DEDUCED (log 97): while `EN` of lane k is clear the port stays *DOWN*. -/
def Dev.portCheck (d : Dev) (p : Nat) : Dev :=
  let n := d.laneOf p
  if d.laneState n = 3 then (if d.flag F.LNK_CTL_EN p then d.portUp p else d)
  else
    match (d.lp p).pend with
    | some v => if d.laneState (pairLane p v) = 3 then d else d.portDown p (d.ll n).exit
    | none => d.portDown p (d.ll n).exit

/-- A lane of a pair reaches *FRAMED* after both failed in one frame (R232): the first to do so is selected, lane k if both do so in
one frame. A skewed pair uses lane k only (R228). -/
def Dev.laneRecovered (d : Dev) (k n : Nat) : Dev :=
  if !(d.lp k).dark || d.rd F.LNK_PROT_REQ k == 1 then d
  else
    let both := d.laneState k == 3 && d.laneState (k + 64) == 3
    let v := if both || d.flag F.LNK_PROT_STS_PAIR_SKEW k then 0 else b2n (n != k)
    d.setLp k { d.lp k with pend := if v = d.rd F.LNK_PROT_STS_SELECTED k then none else some v }

/-- What a lane's change of state means for its port (R217, R232). -/
def Dev.laneMoved (d : Dev) (n new : Nat) : Dev :=
  let p := d.portOfLane n
  if (d.portDecl p).isNone then d
  else
    let d1 := d.pairDecide p
    (if new = 3 then d1.laneRecovered p n else d1).portCheck p

/-- A lane changes state (R215, R253). -/
def Dev.setLane (d : Dev) (n st cause : Nat) : Dev :=
  let old := d.laneState n
  if st = old then d
  else
    let d1 := (d.wr F.LNK_STS_LANE_STATE st n).raise 0x60 n st
    let d2 := if old = 3 then
      (((d1.bump F.LNK_CNT_FRAME_LOSS n).wr F.LNK_RTD_VALID 0 n).wr F.LNK_OWD_VALID 0 n).setLl n
        { d1.ll n with meas := [], exit := cause }
      else d1
    let d3 := if 2 ≤ old ∧ (cause = 1 ∨ cause = 2) then d2.bump F.LNK_CNT_BLOCK_LOSS n else d2
    let x := d3.ll n
    let d4 := d3.setLl n (
      if st < 2 then { x with good := 0, disc := 0, miss := 0, lastAt := none, sentCell := if st = 0 then [] else x.sentCell }
      else if st = 3 then { x with good := 0, framedAt := some d3.lfn }
      else if old < 2 then { x with good := 0, lastAt := none, due := 16 * d3.gridNow }
      else { x with good := 0 })
    (d4.laneMoved n st).faultPin

/-- A lane is enabled (R215, R731): to *SIGNAL*, and its quarter of the link die is woken. -/
def Dev.laneOn (d : Dev) (n : Nat) : Dev :=
  ((d.ladderAsk true (laneDomain n)).wr F.LNK_CTL_EN 1 n).setLane n 1 0

/-- A lane is disabled (R215, R217). -/
def Dev.laneOff (d : Dev) (n : Nat) : Dev :=
  let d1 := (d.wr F.LNK_CTL_EN 0 n).setLane n 0 13
  if n < 64 ∨ d1.portOfLane n = n then d1.portDown (d1.portOfLane n) 13 else d1

/-- Every counter of a lane clears (R243). -/
def Dev.laneClear (d : Dev) (n : Nat) : Dev :=
  let d1 := d.zero [F.LNK_CNT_CRC_CRC_ERR, F.LNK_CNT_BLOCK_LOSS, F.LNK_CNT_FRAME_LOSS, F.LNK_CNT_FORMAT_ERR,
    F.LNK_CNT_RESENDS, F.LNK_CNT_ETH_FCS_ERR, F.LNK_CNT_ETH_FOREIGN, F.LNK_MSG_RX_OVERFLOW] n
  if n < 64 then d1.wr F.LNK_PROT_STS_SWITCHES 0 n else d1

/-- What a write of `LNK_CTL_n` does (R5, R215, R243, R703): a lane is enabled only while its `LREF_OK` bit is set; a lane that the
small configuration lacks takes no write. -/
def Dev.actLnkCtl (p : Path) (n w : Nat) (d : Dev) : Option Dev :=
  let was := d.flag F.LNK_CTL_EN n
  let on := F.LNK_CTL_EN.hit w
  if d.laneAbsent n then some d
  else if on && !was && !(bitAt (d.rd F.CLK_STS_LREF_OK) (n / 32)) then none
  else
    let d1 := d.putHit p (hit .LNK_CTL RD.LNK_CTL n) w
    let d2 := if on && !was then d1.laneOn n else if was && !on then d1.laneOff n else d1
    let d3 := if F.LNK_CTL_RESTART.hit w then d2.setLane n 1 15 else d2
    some (if F.LNK_CTL_CLR_CNT.hit w then d3.laneClear n else d3)

/-- LANE_ENABLE_WRITE (R215): a write of `LNK_CTL_n`, its `EN` set or cleared. -/
def execLaneEnableWrite (p : Path) (n w : Nat) (s : State) : Out :=
  unit n 128 (.next (s.onDev (fun d => d.write p (hit .LNK_CTL RD.LNK_CTL n) w (Dev.actLnkCtl p n w))))

/-- LANE_RESTART (R215): a write of `LNK_CTL_n` with `RESTART`. -/
def execLaneRestart (p : Path) (n w : Nat) (s : State) : Out :=
  let w1 := withBits w 8 1 1
  unit n 128 (.next (s.onDev (fun d => d.write p (hit .LNK_CTL RD.LNK_CTL n) w1 (Dev.actLnkCtl p n w1))))

/-- LNK_CLR_CNT (R243). -/
def execLnkClrCnt (p : Path) (n w : Nat) (s : State) : Out :=
  let w1 := withBits w 9 1 1
  unit n 128 (.next (s.onDev (fun d => d.write p (hit .LNK_CTL RD.LNK_CTL n) w1 (Dev.actLnkCtl p n w1))))

/-- SIGNAL_LOSS (R215): signal detect is lost. -/
def Dev.signalLoss (n : Nat) (d : Dev) : Dev :=
  let d1 := d.wr F.LNK_STS_SIG_DET 0 n
  if d1.laneState n < 2 then d1.pairDecide (d1.portOfLane n) else d1.setLane n 1 1

/-- SIGNAL_LOSS (R215). -/
def execSignalLoss (n : Nat) (s : State) : Out := unit n 128 (.next (s.onDev (Dev.signalLoss n)))

/-- BLOCK_LOCK (R174, R215): 64 valid sync headers on an enabled lane in *SIGNAL* whose die and clock run. -/
def Dev.blockLock (n : Nat) (d : Dev) : Dev :=
  if d.laneState n = 1 && bitAt (d.rd F.CLK_STS_LREF_OK) (n / 32) && d.domOn (laneDomain n) then
    (d.wr F.LNK_STS_SIG_DET 1 n).setLane n 2 0
  else d

/-- BLOCK_LOCK (R174). -/
def execBlockLock (n : Nat) (s : State) : Out := unit n 128 (.next (s.onDev (Dev.blockLock n)))

/-- BLOCK_LOCK_LOSS (R174, R215): 16 invalid sync headers in 64. -/
def Dev.blockLockLoss (n : Nat) (d : Dev) : Dev := if 2 ≤ d.laneState n then d.setLane n 1 2 else d

/-- BLOCK_LOCK_LOSS (R174). -/
def execBlockLockLoss (n : Nat) (s : State) : Out := unit n 128 (.next (s.onDev (Dev.blockLockLoss n)))

/-- Discarded frames of a lane in the last second (R227). -/
def Dev.lostNow (d : Dev) (n : Nat) : Nat :=
  ((d.ll n).lost.filter (fun t => decide (d.now - t < 122880000))).length

/-- The signal-degrade bit of a lane. -/
def sdFld (n : Nat) : Fld := if n < 64 then F.LNK_PROT_STS_SD_A else F.LNK_PROT_STS_SD_B

/-- A discarded frame may bring a lane of a pair into signal degrade (R227). -/
def Dev.degrade (d : Dev) (n : Nat) : Dev :=
  let k := d.portOfLane n
  let thr := d.rd F.LNK_PROT_SD_THR k
  if d.paired k && thr != 0 && decide (thr < d.lostNow n) then d.wr (sdFld n) 1 k else d

/-- What a write of `LNK_PROT_k` does (R229, R232, R257): a `REQ` of 4 to 7 is ignored; during a switch the request waits
for the boundary after it; an `SD_THR` of 0 disables signal degrade. -/
def Dev.actProt (p : Path) (k w : Nat) (d : Dev) : Option Dev :=
  let req := d.rd F.LNK_PROT_REQ k
  let d1 := d.putHit p (hit .LNK_PROT RD.LNK_PROT k) w
  let d2 := if 4 ≤ d1.rd F.LNK_PROT_REQ k then d1.wr F.LNK_PROT_REQ req k else d1
  let d3 := if d2.rd F.LNK_PROT_SD_THR k = 0 then (d2.wr F.LNK_PROT_STS_SD_A 0 k).wr F.LNK_PROT_STS_SD_B 0 k else d2
  let clr := F.LNK_PROT_REQ.of w == 0
  some ((d3.setLp k { d3.lp k with clearDue := clr && d3.paired k }).pairDecide k)

/-- PROT_REQ_WRITE (R229): a master writes `REQ` of a pair. -/
def execProtReqWrite (p : Path) (k w : Nat) (s : State) : Out :=
  unit k 64 (.next (s.onDev (fun d => d.write p (hit .LNK_PROT RD.LNK_PROT k) w (Dev.actProt p k w))))

/-- PAIR_SWITCH_APPLY (R194, R214, R230, R258): at a frame boundary the waiting selection takes effect, with its tail of invalid
uplink frames, and the port follows it; a request that waited is then judged. -/
def Dev.pairApply (k : Nat) (d : Dev) : Dev :=
  match (d.lp k).pend with
  | none => d
  | some v =>
    let d1 := (((d.setLp k { d.lp k with pend := none }).wr F.LNK_PROT_STS_SELECTED v k).bump F.LNK_PROT_STS_SWITCHES k).raise
      0x62 k v
    ((((d1.portTail k).pairDecide k).portCheck k).portAlign k).portGuards k

/-- PAIR_SWITCH_APPLY (R230). -/
def execPairSwitchApply (k : Nat) (s : State) : Out := unit k 64 (.next (s.onDev (Dev.pairApply k)))

/-- WTR_EXPIRY (R229, R230, R257): after `WTR` seconds wait-to-restore ends; where no earlier row decides, lane k is selected. -/
def Dev.wtrExpiry (k : Nat) (d : Dev) : Dev :=
  if !(d.flag F.LNK_PROT_STS_WTR_RUN k) || decide (d.now - (d.lp k).wtrAt < 122880000 * max 1 (d.rd F.LNK_PROT_WTR k)) then d
  else
    let r := d.pairRow k
    let d1 := (d.wr F.LNK_PROT_STS_WTR_RUN 0 k).setLp k { d.lp k with aFault := false }
    if r.1 = 7 ∧ (d1.lp k).pend.isNone then
      (d1.wr F.LNK_PROT_STS_PRIORITY 7 k).setLp k { d1.lp k with pend := some 0 }
    else d1

/-- WTR_EXPIRY (R230). -/
def execWtrExpiry (k : Nat) (s : State) : Out := unit k 64 (.next (s.onDev (Dev.wtrExpiry k)))

/-- SIGNAL_DEGRADE_CLEAR (R227): a full second with `SD_THR` / 2 discards or fewer. -/
def Dev.sdClear (n : Nat) (d : Dev) : Dev :=
  let k := d.portOfLane n
  if d.paired k && decide (d.lostNow n ≤ d.rd F.LNK_PROT_SD_THR k / 2) then (d.wr (sdFld n) 0 k).pairDecide k else d

/-- SIGNAL_DEGRADE_CLEAR (R227). -/
def execSignalDegradeClear (n : Nat) (s : State) : Out := unit n 128 (.next (s.onDev (Dev.sdClear n)))

end Sys2Proof.Machine
end

