-- ==== Sys2Proof/Machine/Donor.lean ====
section
/-! DEFINITION. The donor interface: links, SYSREF and the LEMC (chapter 04, R263 to R279). -/

namespace Sys2Proof.Machine

/-- A donor link's state (R275, R276). -/
def Dev.donState (d : Dev) (j : Nat) : Nat := d.rd F.DON_LINK_STS_STATE j

/-- L, M and E of a link's configuration (R310). -/
def Dev.donL (d : Dev) (j : Nat) : Nat := 2 ^ d.rd F.DON_LINK_CFG_L_CODE j
def Dev.donPairs (d : Dev) (j : Nat) : Nat := max 1 (d.rd F.DON_LINK_CFG_M_PAIRS j)
def Dev.donE (d : Dev) (j : Nat) : Nat := 2 ^ d.rd F.DON_LINK_CFG_E_CODE j

/-- The LEMC period of a link in half samples of 122.88 MHz (R266): 256 × E × S / F converter samples. -/
def Dev.lemcHalf (d : Dev) (j : Nat) : Nat :=
  max 1 (128 * d.donE j * d.donL j * 2 ^ d.rd F.DON_LINK_CFG_RATE j / d.donPairs j)

/-- The lane rate of a link in kbit/s, rounded down (R265). -/
def Dev.donKbps (d : Dev) (j : Nat) : Nat :=
  2 * d.donPairs j * 16 * 122880 * 66 / (64 * d.donL j * 2 ^ d.rd F.DON_LINK_CFG_RATE j)

/-- A link may leave *DISABLED*: its own enable, its direction's enable, and the donor interface powered (R275, R276,
R729). -/
def Dev.donWanted (d : Dev) (j : Nat) : Bool :=
  d.flag F.DON_LINK_CFG_EN j && d.flag (if j < 4 then F.DON_CTL_RX_EN else F.DON_CTL_TX_EN) && d.domOn 4

/-- Donor slices whose downlink a receive link carries (R315). -/
def Dev.slicesOfLink (d : Dev) (j : Nat) : List Nat :=
  (upTo 16).filter (fun n => d.declared n && d.flag F.DON_SMAP_RX_VALID n && d.rd F.DON_SMAP_RX_LINK n == j)

/-- A link changes state (R275 to R277, R312, R467): an exit from *DATA* is counted, loses the slices' downlink and abandons their surveys, and each
change is recorded. -/
def Dev.setDon (d : Dev) (j st : Nat) : Dev :=
  let old := d.donState j
  if st = old then d
  else
    let d1 := (d.wr F.DON_LINK_STS_STATE st j).raise 0x80 j st
    let d2 := if old = 0 then d1.wr F.DON_LINK_RATE_RATE_KBPS (d1.donKbps j) j
      else if st = 0 then d1.wr F.DON_LINK_RATE_RATE_KBPS 0 j else d1
    if old = 4 then
      let d3 := d2.bump F.DON_LINK_CNT_RELINKS j
      if j < 4 then d3.each (d3.slicesOfLink j) (fun x n => (x.donorLost n true).surveyAbandon n) else d3
    else if st = 4 then
      ({ d2 with don := { d2.don with runs := d2.don.runs.filter (fun q => q.1 / 8 != j) } }).wr F.DON_LINK_LAT_LAT
        (Config.donorLat j (d2.word RD.DON_LINK_CFG j) (d2.don.phase.getD 0 % d2.lemcHalf j)) j
    else d2

/-- Every link follows its enables and its supply (R275, R276, R729). -/
def Dev.donRefresh (d : Dev) : Dev :=
  d.each (upTo 8) (fun x j =>
    if !(x.donWanted j) then x.setDon j 0
    else if x.donState j = 0 then x.setDon j (if j < 4 then 1 else 3) else x)

/-- DON_SH_LOCK (R275). -/
def Dev.donShLock (j : Nat) (d : Dev) : Dev := if d.donState j = 1 then d.setDon j 2 else d

/-- DON_SH_LOCK (R275): sync header lock on every lane of receive link `j`. -/
def execDonShLock (j : Nat) (s : State) : Out := unit j 4 (.next (s.onDev (Dev.donShLock j)))

/-- DON_EMB_LOCK (R275). -/
def Dev.donEmbLock (j : Nat) (d : Dev) : Dev := if d.donState j = 2 then d.setDon j 3 else d

/-- DON_EMB_LOCK (R275): extended multiblock lock on every lane of receive link `j`. -/
def execDonEmbLock (j : Nat) (s : State) : Out := unit j 4 (.next (s.onDev (Dev.donEmbLock j)))

/-- The present sample holds the instant that lies `off` half samples after an LEMC boundary of a link (R266, R271). -/
def Dev.lemcNow (d : Dev) (j off : Nat) : Bool :=
  match d.don.phase with
  | none => false
  | some ph => decide ((2 * d.now + 1 + d.lemcHalf j * (ph + off + 1) - ph - off) % d.lemcHalf j ≤ 1)

/-- The release point of a receive link after an LEMC boundary, in half samples (R272): `RBD` blocks, of which an LEMC period holds
32 × E. -/
def Dev.releaseOff (d : Dev) (j : Nat) : Nat := d.rd F.DON_LINK_CFG_RBD j * d.lemcHalf j / (32 * d.donE j)

/-- Data that arrived `a` blocks after the LEMC boundary came after its release point (R272, R273). -/
def Dev.afterRelease (d : Dev) (j a : Nat) : Bool := decide (d.rd F.DON_LINK_CFG_RBD j < a)

/-- DON_LATE (R273): data of a lane arrived `a` blocks after the LEMC boundary. After its release point `LATE` is set, an event
recorded, and the link goes to *ALIGN*. -/
def Dev.donLate (j a : Nat) (d : Dev) : Dev :=
  if (d.donState j = 3 ∨ d.donState j = 4) ∧ d.afterRelease j a then ((d.wr F.DON_LINK_STS_LATE 1 j).raise 0x81 j).setDon j 3 else d

/-- DON_LATE (R273). -/
def execDonLate (j a : Nat) (s : State) : Out := unit j 4 (.next (s.onDev (Dev.donLate j a)))

/-- DON_DATA_ENTRY (R272, R274, R275): at the release point, with every lane's data there, the link enters *DATA*. A lane's margin is
the blocks that its buffer of 256 holds when it is released. `l` says, lane by lane, how many blocks after the LEMC boundary its
data arrived. DEDUCED (log 99): data that arrives in the very block of the release point is in time. -/
def Dev.donDataEntry (j : Nat) (l : List Nat) (d : Dev) : Dev :=
  if d.donState j = 3 ∧ d.flag F.DON_SYSREF_STS_ALIGNED ∧ l.length = d.donL j ∧ d.lemcNow j (d.releaseOff j) then
    match l.find? (d.afterRelease j) with
    | some a => d.donLate j a
    | none =>
      let held := l.map (fun a => d.rd F.DON_LINK_CFG_RBD j - a)
      let least := held.foldl min (d.rd F.DON_LINK_STS_BUF_MARGIN j)
      ((d.wr F.DON_LINK_STS_BUF_MARGIN least j).wr F.DON_LINK_STS_BUF_MAX (held.foldl max (d.rd F.DON_LINK_STS_BUF_MAX j)) j).setDon j 4
  else d

/-- DON_DATA_ENTRY (R275). -/
def execDonDataEntry (j : Nat) (l : List Nat) (s : State) : Out := unit j 4 (.next (s.onDev (Dev.donDataEntry j l)))

/-- The failures in a row of a lane's multiblocks (R275): the longest run that ends in them, and the run that stands after them. -/
def crcRun (run : Nat) (l : List Bool) : Nat × Nat :=
  l.foldl (fun r ok => let n := if ok then 0 else r.2 + 1; (max r.1 n, n)) (0, run)

/-- The multiblocks of a link's lanes, lane by lane (R275, R312): failures of the CRC-12 are counted, and runs of them go on. The
longest run comes beside. -/
def Dev.crcTake (d : Dev) (j : Nat) (l : List (List Bool)) : Dev × Nat :=
  let rs := ((upTo (min 8 l.length)).zip l).map (fun q => (8 * j + q.1, crcRun (tabGet 0 d.don.runs (8 * j + q.1)) q.2))
  let bad := l.foldl (fun a q => a + (q.filter (fun ok => !ok)).length) 0
  let d1 := d.bumpBy bad F.DON_LINK_CNT_CRC_ERR j
  ({ d1 with don := { d1.don with runs := rs.foldl (fun t q => tabSet 0 t q.1 q.2.2) d1.don.runs } }, maxOf (rs.map (fun q => q.2.1)))

/-- DON_LOCK_LOSS (R275, R312): what the lanes brought since the last report: `sh` invalid sync headers, the multiblocks with their
CRC-12 good or not, and whether a lane has lost sync header or extended multiblock lock. A loss takes the link to *SH_SEARCH* from
*EMB_SEARCH* and *DATA*, and 8 failures in a row on one lane from *DATA*. -/
def Dev.donLockLoss (j : Nat) (lost : Bool) (sh : Nat) (l : List (List Bool)) (d : Dev) : Dev :=
  let st := d.donState j
  if st = 0 then d
  else
    let r := (d.bumpBy sh F.DON_LINK_CNT_SH_ERR j).crcTake j l
    if (lost ∧ (st = 2 ∨ st = 4)) ∨ (st = 4 ∧ 8 ≤ r.2) then r.1.setDon j 1 else r.1

/-- DON_LOCK_LOSS (R275). -/
def execDonLockLoss (j : Nat) (lost : Bool) (sh : Nat) (l : List (List Bool)) (s : State) : Out :=
  unit j 4 (.next (s.onDev (Dev.donLockLoss j lost sh l)))

/-- DON_TX_DATA_ENTRY (R276): at an LEMC boundary with the phase set. -/
def Dev.donTxEntry (j : Nat) (d : Dev) : Dev :=
  if 4 ≤ j ∧ d.donState j = 3 ∧ d.flag F.DON_SYSREF_STS_ALIGNED ∧ d.lemcNow j 0 then d.setDon j 4 else d

/-- DON_TX_DATA_ENTRY (R276): the first LEMC boundary of transmit link `j` after the phase is set. -/
def execDonTxDataEntry (j : Nat) (s : State) : Out := unit j 8 (.next (s.onDev (Dev.donTxEntry j)))

/-- The pulse at half sample `t` falls on a boundary of every enabled link's LEMC (R271). -/
def Dev.onLemc (d : Dev) (t : Nat) : Bool :=
  match d.don.phase with
  | none => true
  | some ph => (upTo 8).all (fun j => !(d.flag F.DON_LINK_CFG_EN j) || (t - ph) % d.lemcHalf j == 0)

/-- SYSREF_PULSE (R271). -/
def Dev.sysref (h : Nat) (d : Dev) : Dev :=
  let t := 2 * d.now + h % 2
  let d1 := d.wr F.DON_SYSREF_STS_SEEN 1
  if d1.don.armed then
    ({ d1 with don := { armed := false, phase := some t } }).wr F.DON_SYSREF_STS_ALIGNED 1
  else if !(d1.flag F.DON_SYSREF_STS_ALIGNED) then d1
  else
    let mode := d1.rd F.DON_CTL_SYSREF_MODE
    if mode = 0 ∨ d1.onLemc t then d1
    else
      let d2 := d1.bump F.DON_SYSREF_STS_SYSREF_ERR
      if mode = 2 then
        let d3 : Dev := { d2 with don := { d2.don with phase := some t } }
        d3.each (upTo 8) (fun x j => if x.donState j = 4 then x.setDon j 3 else x)
      else d2

/-- SYSREF_PULSE (R271): a pulse sampled at the first or the second rising edge of SAMPCLK in the sample. -/
def execSysrefPulse (h : Nat) (s : State) : Out := .next (s.onDev (Dev.sysref h))

/-- Every `DON_` counter clears, and the buffer marks (R306). -/
def Dev.donClear (d : Dev) : Dev :=
  let d1 := d.wr F.DON_SYSREF_STS_SYSREF_ERR 0
  let d2 := d1.each (upTo 8) (fun x j =>
    (x.zero [F.DON_LINK_CNT_CRC_ERR, F.DON_LINK_CNT_SH_ERR, F.DON_LINK_CNT_RELINKS, F.DON_LINK_STS_BUF_MAX] j).unset
      F.DON_LINK_STS_BUF_MARGIN j)
  d2.each (upTo 16) (fun x n => x.wr F.DON_CLIP_CLIP 0 n)

/-- Every enabled link restarts (R276). -/
def Dev.relink (d : Dev) : Dev :=
  d.each (upTo 8) (fun x j => if x.donState j = 0 then x else x.setDon j (if j < 4 then 1 else 3))

/-- What a write of `DON_CTL` does (R276, R306). -/
def Dev.actDonCtl (p : Path) (w : Nat) (d : Dev) : Option Dev :=
  let d1 := (d.putHit p (hit .DON_CTL RD.DON_CTL) w).donRefresh
  let d2 := if F.DON_CTL_SYSREF_ARM.hit w then
    (({ d1 with don := { d1.don with armed := true } }).wr F.DON_SYSREF_STS_SEEN 0).wr F.DON_SYSREF_STS_ALIGNED 0
    else d1
  let d3 := if F.DON_CTL_RELINK.hit w then d2.relink else d2
  some (if F.DON_CTL_CLR_CNT.hit w then d3.donClear else d3)

/-- A write of `DON_CTL` with a bit set. -/
def donCtlWrite (p : Path) (w : Nat) (s : State) : Out :=
  .next (s.onDev (fun d => d.write p (hit .DON_CTL RD.DON_CTL) w (Dev.actDonCtl p w)))

/-- SYSREF_ARM (R271, R306). -/
def execSysrefArm (p : Path) (w : Nat) (s : State) : Out := donCtlWrite p (withBits w 6 1 1) s

/-- RELINK (R276). -/
def execRelink (p : Path) (w : Nat) (s : State) : Out := donCtlWrite p (withBits w 2 1 1) s

/-- DON_CLR_CNT (R306). -/
def execDonClrCnt (p : Path) (w : Nat) (s : State) : Out := donCtlWrite p (withBits w 3 1 1) s

/-- What a write of `DON_LINK_CFG_j` does (R276, R310): only `EN` changes while the link is not *DISABLED*. -/
def Dev.actDonLink (p : Path) (j w : Nat) (d : Dev) : Option Dev :=
  let d1 := if d.donState j = 0 then d.putHit p (hit .DON_LINK_CFG RD.DON_LINK_CFG j) w
    else d.putField F.DON_LINK_CFG_EN w true j 0 0
  some d1.donRefresh

/-- DON_LINK_CFG_WRITE (R310). -/
def execDonLinkCfgWrite (p : Path) (j w : Nat) (s : State) : Out :=
  unit j 8 (.next (s.onDev (fun d => d.write p (hit .DON_LINK_CFG RD.DON_LINK_CFG j) w (Dev.actDonLink p j w))))

end Sys2Proof.Machine
end

