-- ==== Sys2Proof/Machine/LineCode.lean ====
section
/-! DEFINITION. Line coding of the lanes (R173 to R176, R180, R182, R223): 64b/66b blocks, the scrambler, and frames as blocks. -/

namespace Sys2Proof.Machine

/-- One bit through the scrambler 1 + x^39 + x^58 (R173): bit `k` of `st` is the line's bit `k + 1` bits ago. `back` undoes it.
The bit that comes out, and the state after it. -/
def scrambleBit (back : Bool) (st b : Nat) : Nat × Nat :=
  let o := (b + bits st 38 1 + bits st 57 1) % 2
  (o, (2 * st + (if back then b else o)) % 2 ^ 58)

/-- The low `n` bits of a number through the scrambler, bit 0 first: the number that comes out, and the state after it. -/
def scrambleWord (back : Bool) : Nat → Nat → Nat → Nat × Nat
  | 0, st, _ => (0, st)
  | n + 1, st, x =>
    let r := scrambleBit back st (x % 2)
    let q := scrambleWord back n r.2 (x / 2)
    (r.1 + 2 * q.1, q.2)

/-- A run of blocks through the scrambler (R173): payloads only, sync headers pass as they are. -/
def scramble (back : Bool) : Nat → List LineBlock → List LineBlock × Nat
  | st, [] => ([], st)
  | st, b :: t =>
    let r := scrambleWord back 64 st b.payload
    let q := scramble back r.2 t
    ({ b with payload := r.1 } :: q.1, q.2)

/-- A data block. -/
def dataBlock (w : Nat) : LineBlock := { sync := 1, payload := w }

/-- A control block of a type, with its seven further octets. -/
def ctlBlock (ty : Nat) (rest : List Nat) : LineBlock := { sync := 2, payload := fromOctets (ty :: takeFill 7 rest) }

/-- `FILL` (R175): eight idle control characters. -/
def fillBlock : LineBlock := ctlBlock 0x1E []

/-- `TERM` (R175): the end of a frame, seven idle control characters. -/
def termBlock : LineBlock := ctlBlock 0x87 []

/-- The eight octets of `SOF`, which open the MAC payload as the carriage word in Ethernet carriage (R180). -/
def sofOctets (n lofs : Nat) : List Nat := [0x78, 0x54, 0x44, 0x4C] ++ toOctets 2 n ++ [lofs % 256, 0]

/-- The octets of frame words, octet 0 of each first (R183). -/
def wordOctets (ws : List Nat) : List Nat := ws.flatMap (toOctets 8)

/-- The words that octets spell, eight to a word. -/
def octetWords : Nat → List Nat → List Nat
  | 0, _ => []
  | n + 1, l => fromOctets (l.take 8) :: octetWords n (l.drop 8)

/-- The trailer of a frame (R189): CRC-32C of the words before it. -/
def trailerOf (ws : List Nat) : Nat := crc32c (wordOctets ws)

/-- A frame in native mode (R182): `SOF`, the data blocks, `TERM`. -/
def nativeBlocks (ws : List Nat) (lofs : Nat) : List LineBlock :=
  { sync := 2, payload := fromOctets (sofOctets ws.length lofs) } :: ws.map dataBlock ++ [termBlock]

/-- The types of the terminate blocks of Clause 49, by the count of octets before the end. PRESUMED (log 93): the spec cites the
clause. -/
def terminateTypes : List Nat := [0x87, 0x99, 0xAA, 0xB4, 0xCC, 0xD2, 0xE1, 0xFF]

/-- The rest of a MAC frame as data blocks and the terminate block. -/
def macRest : Nat → List Nat → List LineBlock
  | 0, _ => []
  | n + 1, l =>
    if l.length < 8 then [ctlBlock (listAt terminateTypes l.length) l]
    else dataBlock (fromOctets (l.take 8)) :: macRest n (l.drop 8)

/-- A MAC frame, from destination address to FCS, as blocks of Clause 49 (R176): the start block with the preamble, the octets,
the terminate block. -/
def macBlocks (l : List Nat) : List LineBlock :=
  ctlBlock 0x78 [0x55, 0x55, 0x55, 0x55, 0x55, 0x55, 0xD5] :: macRest (l.length / 8 + 1) l

/-- A number as octets, the most significant first, as addresses and types travel in a MAC frame. -/
def netOctets (n x : Nat) : List Nat := (toOctets n x).reverse

/-- The MAC frame that carries a TDL frame (R223): addresses, tag, EtherType, carriage word, frame words, FCS. -/
def macFrame (da sa et : Nat) (tag : Option Nat) (ws : List Nat) (lofs : Nat) : List Nat :=
  let t := match tag with
    | some v => netOctets 2 0x8100 ++ netOctets 2 v
    | none => []
  let l := netOctets 6 da ++ netOctets 6 sa ++ t ++ netOctets 2 et ++ sofOctets ws.length lofs ++ wordOctets ws
  l ++ toOctets 4 (fcs32 l)

/-- What a native lane's receiver has found: unknown control blocks outside a frame and inside it, the octets of `SOF`, the data
words, and whether the words ended with `TERM` and nothing else stood among them. -/
structure Heard where
  outside : Nat := 0
  inside : Nat := 0
  sof : Option (List Nat) := none
  words : List Nat := []
  ended : Bool := false
  broken : Bool := false
  deriving DecidableEq, Repr

/-- One block of a native lane (R175, R182, R190). -/
def hearBlock (h : Heard) (b : LineBlock) : Heard :=
  let ty := b.payload % 256
  let known := ty == 0x1E || ty == 0x78 || ty == 0x87
  if h.ended || h.sof.isNone then
    if b.sync ≠ 2 then h
    else if ty = 0x78 && h.sof.isNone then { h with sof := some (toOctets 8 b.payload) }
    else if known then h
    else { h with outside := h.outside + 1 }
  else if b.sync = 1 then { h with words := h.words ++ [b.payload] }
  else if b.sync ≠ 2 then { h with broken := true }
  else if ty = 0x87 then { h with ended := true }
  else if known then { h with broken := true }
  else { h with inside := h.inside + 1 }

/-- What a native lane's receiver makes of a run of descrambled blocks. -/
def hear (l : List LineBlock) : Heard := l.foldl hearBlock {}

/-- The octets of a MAC frame among descrambled blocks (R176), with the preamble, and whether a terminate block ended it. -/
def hearMac : List LineBlock → Option (List Nat) → Option (List Nat × Bool)
  | [], none => none
  | [], some a => some (a, false)
  | b :: t, none =>
    let o := toOctets 8 b.payload
    if b.sync ≠ 2 then hearMac t none
    else if listAt o 0 = 0x78 then hearMac t (some (o.drop 1))
    else if listAt o 0 = 0x33 then hearMac t (some (o.drop 5))
    else hearMac t none
  | b :: t, some a =>
    let o := toOctets 8 b.payload
    if b.sync = 1 then hearMac t (some (a ++ o))
    else
      match terminateTypes.findIdx? (fun x => x == listAt o 0) with
      | some k => if b.sync = 2 then some (a ++ (o.drop 1).take k, true) else some (a, false)
      | none => some (a, false)

/-- The octets of a MAC frame after its start delimiter. -/
def afterDelimiter (l : List Nat) : List Nat := (l.dropWhile (fun x => x != 0xD5)).drop 1

/-- A received MAC frame (R223): its addresses, tag and EtherType, its payload, and whether its FCS is good. -/
structure MacHeard where
  da : Nat := 0
  sa : Nat := 0
  tag : Option Nat := none
  etherType : Nat := 0
  payload : List Nat := []
  fcsOk : Bool := false
  deriving DecidableEq, Repr

/-- The number that octets spell, the most significant first. -/
def netNum (l : List Nat) : Nat := fromOctets l.reverse

/-- Takes a MAC frame apart. -/
def readMac (l : List Nat) (ended : Bool) : MacHeard :=
  let body := l.take (l.length - 4)
  let tagged := netNum ((body.drop 12).take 2) == 0x8100
  let rest := body.drop (if tagged then 16 else 12)
  { da := netNum (body.take 6)
    sa := netNum ((body.drop 6).take 6)
    tag := if tagged then some (netNum ((body.drop 14).take 2)) else none
    etherType := netNum (rest.take 2)
    payload := rest.drop 2
    fcsOk := ended && decide (4 ≤ l.length) && fcs32 body == fromOctets (l.drop (l.length - 4)) }

end Sys2Proof.Machine
end

