-- ==== Sys2Proof/Machine/Frames.lean ====
section
/-! DEFINITION. Frames of the distribution link: sending, accepting, and what they carry (R173 to R200, R220, R223, R224). -/

namespace Sys2Proof.Machine

/-- `MUTE_ALL` (R185): before *SURVEY*, in the safe state, while SAFE_N is low, in *STOPPED*. -/
def Dev.muteAll (d : Dev) : Bool :=
  !(d.boot == 7 || d.boot == 8) || d.flag F.CLK_STS_SAFE || d.flag F.FES_SAFE_STS_SAFE_N || d.pwr.stopping.isSome

/-- `CLK_OK` of the downlink header (R702). -/
def Dev.clkOk (d : Dev) : Bool := d.rd F.CLK_STS_SAMP_STATE == 2 && d.refQualified && !(d.flag F.CLK_STS_SAFE)

/-- The controller receives on the lane (R184, R244). -/
def Dev.laneSel (d : Dev) (n : Nat) : Bool := d.laneOf (d.portOfLane n) == n

/-- The header of a downlink frame of a lane (R184). -/
def Dev.header (d : Dev) (n : Nat) : Nat :=
  let p := d.portOfLane n
  d.lfn + 2 ^ 33 * b2n d.clkOk + 2 ^ 34 * b2n d.muteAll + 2 ^ 40 * d.rd F.LNK_STS_DL_MAP_ID p + 2 ^ 50 * (p % 128) +
    2 ^ 57 * b2n (d.laneSel n) + 2 ^ 58 * b2n (p != n) + 2 ^ 60

/-- The cell that a port sends next, by the classes of R198, and the queues after it. -/
def Dev.nextCell (d : Dev) (p : Nat) : List Nat × LinkPort :=
  let x := d.lp p
  let t := d.lfn
  match x.timed, x.resend with
  | (c, cell) :: rest, _ =>
    (if c < 3 then cell.set 1 2 else cell, { x with timed := if c ≤ 1 then rest else (c - 1, cell) :: rest })
  | [], q :: rest =>
    let cell := match x.unacked.find? (fun u => listAt u.cell 2 == q) with
      | some u => u.cell
      | none => mkCell 0 0 []
    (cell, { x with resend := rest
                    unacked := x.unacked.map (fun u => if listAt u.cell 2 = q then { u with sentAt := t } else u) })
  | [], [] =>
    match x.waiting, decide (x.unacked.length < 8) with
    | (c, mail) :: rest, true =>
      let q := x.txSeq % 255 + 1
      let cell := cellSeq c q
      (cell, { x with txSeq := q, waiting := rest, unacked := x.unacked ++ [{ cell := cell, sentAt := t, mail := mail }] })
    | _, _ =>
      match x.greet with
      | some c => (c, { x with greet := none })
      | none => (mkCell 0 0 [], x)

/-- The source address of a lane (R224). -/
def Dev.laneMac (d : Dev) (n : Nat) : Nat := (d.rd F.LNK_MAC_LO_MAC_LO + 2 ^ 32 * d.rd F.LNK_MAC_HI_MAC_HI + n) % 2 ^ 48

/-- The MAC header of a frame sent in Ethernet carriage (R223, R224): destination, source, EtherType, tag. -/
def Dev.macHeader (d : Dev) (n : Nat) : Option (Nat × Nat × Nat × Option Nat) :=
  if !(d.flag F.LNK_CTL_CARRIAGE (d.portOfLane n)) then none
  else
    let da := if d.flag F.LNK_ETH_CFG_LEARN_DA n then (d.ll n).da.getD (2 ^ 48 - 1)
      else d.rd F.LNK_ETH_DA_LO_DA_LO n + 2 ^ 32 * d.rd F.LNK_ETH_DA_HI_DA_HI n
    let tag := if d.flag F.LNK_ETH_CFG_VLAN_EN n then
      some (d.rd F.LNK_ETH_CFG_VID n + 2 ^ 13 * d.rd F.LNK_ETH_CFG_PCP n) else none
    some (da, d.laneMac n, d.rd F.LNK_GLB_CFG_ETHERTYPE, tag)

/-- The slices of a map that have a section in a direction, in ascending order (R186). -/
def mapSlices (l : List MapSlice) (up : Bool) : List MapSlice :=
  (upTo 8).filterMap (fun q => l.find? (fun s => s.num == q && (if up then s.ul else s.dl)))

/-- The count of frame words that a map implies in a direction (R189, R190). -/
def mapWords (l : List MapSlice) (up : Bool) : Nat := 6 + (mapSlices l up).foldl (fun a s => a + sectionWords s.rate) 0

/-- The maps a frame may follow: the one in force and its predecessor (R209). -/
def Dev.mapNamed (d : Dev) (p id : Nat) : Option (List MapSlice) :=
  let cur := (d.lp p).map.getD (0, [])
  if cur.1 = id then some cur.2
  else
    match (d.lp p).prev with
    | some q => if q.1 = id then some q.2 else none
    | none => none

/-- The blocks that frame `f` of a port carries in the section of a map's slice. Exponent 15 until the controller has entered *SURVEY*
(R67) and while the port is outside *ACTIVE* (R218); the stream's own blocks after that. A removed stream's section carries valid
zeros, and exponent 15 in the last frame before the map leaves it out (R48). -/
def Dev.blocksSent (d : Dev) (p f : Nat) (s : MapSlice) : List Block :=
  let m := streamOf p 0 s.num
  let none15 := List.replicate (sectionBlocks s.rate) Block.lost
  if !(d.portActive p) || decide (d.boot < 7) then none15
  else if d.has m then (d.ps m).full
  else
    let x := d.lp p
    let next := (x.accepted.orElse (fun _ => x.map)).getD (0, [])
    if x.switchAt = (f + 1) % 2 ^ 32 ∧ !(next.2.any (fun q => q.num == s.num && q.dl)) then none15
    else List.replicate (sectionBlocks s.rate) Block.silent

/-- The words of a frame (R183, R186, R189): header, cell, sections, trailer. -/
def frameWords (hdr : Nat) (cell : List Nat) (secs : List Nat) : List Nat :=
  let ws := hdr :: octetWords 4 cell ++ secs
  ws ++ [trailerOf ws]

/-- The words of the downlink frame that a lane has under way, by the map that its header names. -/
def Dev.wordsSent (d : Dev) (n : Nat) : List Nat :=
  let x := d.ll n
  let p := d.portOfLane n
  let l := (d.mapNamed p (bits x.sentHdr 40 8)).getD []
  frameWords x.sentHdr x.sentCell
    ((mapSlices l false).flatMap (fun s => sectionOfBlocks s.rate (d.blocksSent p (x.sentHdr % 2 ^ 32) s)))

/-- Blocks of a lane's line from the `SOF` of a frame to the next, by the launch offsets of both (R169, R181): a lane sends 15,625
blocks in 196,608 units of 1/16 sample, or two and a half times as many. -/
def lineBlocks (fast : Bool) (lofs next : Nat) : Nat :=
  if fast then ((4096 + next - lofs) * 15625 * 5 + 196608) / 393216 else ((4096 + next - lofs) * 15625 + 98304) / 196608

/-- The blocks of a frame on its lane, with the fill up to the next frame (R170, R182, R223). -/
def Dev.blocksOf (d : Dev) (n : Nat) (ws : List Nat) (next : Nat) : List LineBlock :=
  let x := d.ll n
  let l := match x.sentMac with
    | some h => macBlocks (macFrame h.1 h.2.1 h.2.2.1 h.2.2.2 ws x.sentLofs)
    | none => nativeBlocks ws x.sentLofs
  l ++ List.replicate (lineBlocks (d.flag F.LNK_CTL_RATE (d.portOfLane n)) x.sentLofs next - l.length) fillBlock

/-- The launch offset of a frame of a lane (R181, R182): it goes out on the first block boundary at or after the nominal one. -/
def Dev.launchOf (d : Dev) (n f : Nat) : Nat :=
  Config.launch n f % (if d.flag F.LNK_CTL_RATE (d.portOfLane n) then 6 else 13)

/-- The frame that a lane has under way is complete: its words, and its blocks as they went onto the line, scrambled (R173). -/
def Dev.frameDone (d : Dev) (n next : Nat) : Dev :=
  let x := d.ll n
  if x.sentCell.isEmpty then d
  else
    let ws := d.wordsSent n
    let r := scramble false x.txBits (d.blocksOf n ws next)
    d.setLl n { x with sentWords := ws, sentLine := r.1, txBits := r.2 }

/-- A lane starts a frame with a control cell; its previous one is complete. -/
def Dev.frameStart (d : Dev) (n : Nat) (cell : List Nat) : Dev :=
  let lofs := d.launchOf n d.lfn
  let d1 := d.frameDone n lofs
  d1.setLl n { d1.ll n with sentHdr := d1.header n, sentCell := cell, sentLofs := lofs, sentMac := d1.macHeader n }

/-- TDL_FRAME_TX (R182, R198, R215): a frame goes out on every lane that is not *DISABLED*; the lanes of a port carry one cell. -/
def Dev.frameTx (d : Dev) : Dev :=
  d.each ((upTo 128).filter (fun p => d.portOfLane p == p)) (fun x p =>
    let lanes := (x.lanesOf p).filter (fun n => x.laneState n != 0)
    if lanes.isEmpty then x
    else
      let r := x.nextCell p
      (x.setLp p r.2).each lanes (fun y n => y.frameStart n (cellAck r.1 r.2.rxSeq)))

/-- TDL_FRAME_TX (R182). -/
def execTdlFrameTx (s : State) : Out := .next (s.onDev Dev.frameTx)

/-! ## Received frames -/

/-- Near-end loopback: the receiver accepts its own direction (R243). -/
def Dev.looped (d : Dev) (n : Nat) : Bool := d.rd F.LNK_CTL_LOOPBACK n == 1

/-- The lane uses Ethernet carriage; a standby lane takes its mode from lane k (R169). -/
def Dev.ethernet (d : Dev) (n : Nat) : Bool := d.flag F.LNK_CTL_CARRIAGE (d.portOfLane n)

/-- A frame as a lane's receiver has taken it from the line: the unknown control blocks around and inside it (R175), whether a frame
opened at all, its MAC frame in Ethernet carriage, the octets of `SOF` or of the carriage word, the frame words, and whether they
are as many as N and end as they should. -/
structure HeardFrame where
  unknown : Nat := 0
  foul : Bool := false
  began : Bool := false
  mac : Option MacHeard := none
  sof : List Nat := []
  words : List Nat := []
  whole : Bool := false
  deriving DecidableEq, Repr

/-- N of a `SOF` (R180). -/
def sofCount (l : List Nat) : Nat := leAt l 4 2

/-- A lane's receiver descrambles a frame's blocks and takes them apart (R173 to R176, R180, R182, R223). -/
def Dev.hearFrame (d : Dev) (n : Nat) (f : TdlFrame) : HeardFrame :=
  let l := (scramble true (d.ll n).rxBits f.line).1
  if d.ethernet n then
    match hearMac l none with
    | none => {}
    | some r =>
      let m := readMac (afterDelimiter r.1) r.2
      let sof := m.payload.take 8
      { began := true, mac := some m, sof := sof, words := octetWords (sofCount sof) (m.payload.drop 8)
        whole := m.payload.length == 8 + 8 * sofCount sof }
  else
    let h := hear l
    let sof := h.sof.getD []
    { unknown := h.outside + h.inside, foul := h.inside != 0, began := h.sof.isSome, sof := sof, words := h.words
      whole := h.ended && !h.broken && h.inside == 0 && h.words.length == sofCount sof }

/-- The MAC frame is addressed to the lane's TDL (R224). -/
def Dev.macFits (d : Dev) (n : Nat) (m : MacHeard) : Bool :=
  m.da == d.laneMac n && m.etherType == d.rd F.LNK_GLB_CFG_ETHERTYPE &&
    (if d.flag F.LNK_ETH_CFG_VLAN_EN n then m.tag.map (fun v => v % 2 ^ 12) == some (d.rd F.LNK_ETH_CFG_VID n) else m.tag.isNone)

/-- The header and the count of words pass R190 and R209. -/
def Dev.headerFits (d : Dev) (n : Nat) (ws : List Nat) : Bool :=
  let p := d.portOfLane n
  let hdr := listAt ws 0
  bits hdr 60 4 == 1 && bitAt hdr 59 == !(d.looped n) && bits hdr 50 7 == p % 128 &&
    match d.mapNamed p (bits hdr 40 8) with
    | some l => ws.length == mapWords l (!(d.looped n))
    | none => false

/-- The CRC of a frame is good (R189). -/
def crcFits (ws : List Nat) : Bool := (ws.getLast?.getD 0) % 2 ^ 32 == trailerOf ws.dropLast

/-- What is wrong with a frame heard (R190, R224): 0 nothing, 1 CRC, 2 format, 3 FCS, 4 foreign; 5 where no frame opened. -/
def Dev.heardFault (d : Dev) (n : Nat) (h : HeardFrame) : Nat :=
  if !h.began then 5
  else if (h.mac.map (fun m => !m.fcsOk)).getD false then 3
  else if (h.mac.map (fun m => !(d.macFits n m))).getD false then 4
  else if !h.whole || (h.sof.drop 1).take 3 != [0x54, 0x44, 0x4C] then 2
  else if !(crcFits h.words) then 1
  else if d.headerFits n h.words then 0 else 2

/-- What is wrong with a received frame. -/
def Dev.frameFault (d : Dev) (n : Nat) (f : TdlFrame) : Nat := d.heardFault n (d.hearFrame n f)

/-- By how much a lane's uplink is delayed to meet the later lane of its pair (R228), in 1/16 sample. -/
def Dev.pairLag (d : Dev) (n : Nat) : Nat :=
  let p := d.portOfLane n
  if d.flag F.LNK_RTD_VALID n then (d.owdUl p - d.laneUl p n).toNat else 0

/-- The blocks of one frame enter an uplink port stream (R191, R192, R194, R336 stages 1 and 2): the first sample came at `at16`, in
1/16 sample of the frame grid. Invalid input makes this frame and those that the analysis bank spreads it over count as invalid.
Samples of a lane selected anew take the place of those that the other lane brought for the same instants. -/
def Dev.takeSection (d : Dev) (m at16 : Nat) (bad : Bool) (l : List Block) : Dev :=
  let n := d.donorOf m
  let u := d.scale n
  let st := d.stream m
  let xs := l.flatMap Block.samples
  let ys := xs.map (d.cutOf m)
  let new := ((upTo ys.length).zip ys).map (fun q => (at16 + 16 * u * q.1, bad || st.fill != 0, q.2))
  let p := d.ps m
  let d1 := d.setStream m { st with fill := if bad then max (d.bankFrames n) st.fill else st.fill - 1 }
  let d2 := d1.setPs m { p with
    hist := (new.reverse ++ p.hist.dropWhile (fun q => decide (at16 < q.1 + 8 * u))).take (d.bankTaps n + 1024 / u) }
  (d2.checked m 0 (xs.all Cx.ok)).checked m 7 (ys.all Cx.ok)

/-- The uplink streams that a map's sections belong to, with the section's slice. -/
def Dev.sectionStreams (d : Dev) (p : Nat) (l : List MapSlice) : List (Nat × MapSlice) :=
  ((mapSlices l true).map (fun s => (streamOf p 1 s.num, s))).filter (fun q =>
    d.has q.1 && (d.donor (d.donorOf q.1)).rate == q.2.rate)

/-- The sections of a frame's words, by port slice. -/
def sectionsOf : List MapSlice → List Nat → Tab (List Block)
  | [], _ => []
  | s :: t, ws => (s.num, blocksOfSection s.rate (ws.take (sectionWords s.rate))) :: sectionsOf t (ws.drop (sectionWords s.rate))

/-- A frame that a lane lost (R191): on the lane that the controller receives on, every section counts as blocks of exponent 15. -/
def Dev.sectionsLost (d : Dev) (n : Nat) : Dev :=
  let p := d.portOfLane n
  if !(d.laneSel n) then d
  else
    (d.sectionStreams p ((d.lp p).map.getD (0, [])).2).foldl (fun (x : Dev) q =>
      x.takeSection q.1 ((d.ll n).due + d.pairLag n) true (List.replicate (sectionBlocks q.2.rate) Block.lost)) d

/-- The sections of an accepted frame (R26, R186, R192): blocks of exponent 8 to 14 are counted, and on the lane that the controller
receives on the blocks go to their streams. -/
def Dev.sectionsTaken (d : Dev) (n at16 : Nat) (ws : List Nat) : Dev :=
  let p := d.portOfLane n
  let l := (d.mapNamed p (bits (listAt ws 0) 40 8)).getD []
  let secs := sectionsOf (mapSlices l (!(d.looped n))) (ws.drop 5)
  let d1 := d.bumpBy (secs.foldl (fun a s => a + (s.2.filter Block.malformed).length) 0) F.LNK_CNT_FORMAT_ERR n
  if !(d.laneSel n) || d.looped n then d1
  else
    (d.sectionStreams p l).foldl (fun (x : Dev) q =>
      let bs := tabGet [] secs q.2.num
      x.takeSection q.1 (at16 + d.pairLag n) (bs.any (fun b => !b.valid)) bs) d1

/-- A frame is discarded (R191, R215, R227). -/
def Dev.discard (d : Dev) (n : Nat) : Dev :=
  let d0 := d.sectionsLost n
  let x := d0.ll n
  let d1 := (d0.setLl n { x with good := 0, miss := 0, disc := x.disc + 1, due := x.due + 4096
                                 lost := (d.now :: x.lost).take 256 }).degrade n
  if d1.laneState n = 3 && decide (max 1 (d1.rd F.LNK_TIMING_CRC_LIMIT (d1.portOfLane n)) ≤ x.disc + 1) then d1.setLane n 2 3
  else d1.pairDecide (d1.portOfLane n)

/-- Insertion into a rising list. -/
def insertNat (x : Nat) : List Nat → List Nat
  | [] => [x]
  | y :: t => if x ≤ y then x :: y :: t else y :: insertNat x t

/-- The median of a list, the mean of the two middle values rounded to nearest where their count is even (R220). -/
def medianNat (l : List Nat) : Nat :=
  let s := l.foldr insertNat []
  if s.length % 2 = 1 then listAt s (s.length / 2)
  else (listAt s (s.length / 2 - 1) + listAt s (s.length / 2) + 1) / 2

/-- Measurements lie within a window of each other. -/
def within (w : Nat) (l : List Nat) : Bool := decide (maxOf l - l.foldl min (maxOf l) ≤ w)

/-- `RTD_WIN` of a lane's port; 0 acts as 1 (R245). -/
def Dev.rtdWin (d : Dev) (n : Nat) : Nat := max 1 (d.rd F.LNK_TIMING_RTD_WIN (d.portOfLane n))

/-- Publishes a round trip and the downlink one-way delay of a lane (R220, R222). -/
def Dev.publishRtd (d : Dev) (n v : Nat) : Dev :=
  let p := d.portOfLane n
  let owd := divNear ((v : Int) - d.rd F.LNK_REM_LAT_DL_LAT p - d.rd F.LNK_REM_LAT_UL_LAT p + d.rdS F.LNK_ASYM_ASYM n) 2
  (((d.wr F.LNK_RTD_VALUE v n).wr F.LNK_RTD_VALID 1 n).wrS F.LNK_OWD_VALUE owd n).wr F.LNK_OWD_VALID 1 n

/-- PAIR_SKEW (R226, R228): the one-way delays of a pair differ by more than 8 frames. The uplink's alignment follows the delays. -/
def Dev.pairSkew (d : Dev) (k : Nat) : Dev :=
  if d.paired k && d.flag F.LNK_OWD_VALID k && d.flag F.LNK_OWD_VALID (k + 64) then
    let bad := decide (32768 < (d.rdS F.LNK_OWD_VALUE k - d.rdS F.LNK_OWD_VALUE (k + 64)).natAbs)
    let was := d.flag F.LNK_PROT_STS_PAIR_SKEW k
    let d1 := d.wr F.LNK_PROT_STS_PAIR_SKEW (b2n bad) k
    let d2 := if bad && !was then (d1.setPortCause k 14).raise 0x63 k else d1
    (d2.pairDecide k).portAlign k
  else d

/-- RTD_MEASURE, RTD_SHIFT and PORT_ACTIVE (R217 to R221): a round trip of a lane in *FRAMED*. -/
def Dev.measureRtd (d : Dev) (n v : Nat) : Dev :=
  let p := d.portOfLane n
  let l := (v :: (d.ll n).meas).take 16
  let d1 := d.setLl n { d.ll n with meas := l }
  let sel := d1.laneSel n
  let st := d1.portState p
  let c := if (d1.lp p).recheck && sel then 4 else 16
  let met := decide (c ≤ l.length) && within (d1.rtdWin n) (l.take c)
  if sel && st == 4 && met then
    (((d1.publishRtd n (medianNat (l.take c))).setLp p { d1.lp p with recheck := false, leftAt := none }).pairSkew p).setPort p 5 0
  else if !sel && decide (3 ≤ st) && met then (d1.publishRtd n (medianNat l)).pairSkew p
  else if sel && st == 5 && l.length == 16 &&
      l.all (fun x => decide (d1.rtdWin n < ((x : Int) - d1.rd F.LNK_RTD_VALUE n).natAbs)) then
    d1.setPort p 4 8
  else d1

/-- An acknowledgement (R195, R196): every message up to it leaves the window. -/
def Dev.takeAck (d : Dev) (p a : Nat) : Dev :=
  let x := d.lp p
  if x.unacked.any (fun u => listAt u.cell 2 == a) then
    let done := x.unacked.takeWhile (fun u => listAt u.cell 2 != a) ++ x.unacked.filter (fun u => listAt u.cell 2 == a)
    let rest := x.unacked.drop done.length
    let d1 := d.setLp p { x with unacked := rest
                                 resend := x.resend.filter (fun q => rest.any (fun u => listAt u.cell 2 == q)) }
    d1.each (done.filterMap (fun u => u.mail)) (fun y n => y.mailDone n 0)
  else d

/-- The control cell of an accepted frame on the selected lane (R195, R196, R199); a port that is *DOWN* has no session for its
messages. -/
def Dev.takeCell (d : Dev) (p n : Nat) (c : List Nat) : Dev :=
  let ty := listAt c 0
  if 0x10 < ty then d.bump F.LNK_CNT_FORMAT_ERR n
  else if d.portState p = 0 then d
  else
    let d1 := d.takeAck p (listAt c 3)
    let x := d1.lp p
    if bitAt (listAt c 1) 0 then
      if listAt c 2 = x.rxSeq % 255 + 1 then d1.setLp p { x with rxSeq := listAt c 2, rxCell := some c } else d1
    else if ty = 0 then d1
    else d1.setLp p { x with rxCell := some c }

/-- The round trip that a frame shows (R220): from the departure of downlink frame n, which its boundary is, to the arrival of uplink
frame n, both corrected by `LOFS`. -/
def tripOf (at16 hdr : Nat) : Nat := (at16 + 4096 * 2 ^ 32 - 4096 * (hdr % 2 ^ 32)) % (4096 * 2 ^ 32)

/-- A frame is accepted (R190, R215, R220, R224): `at16` is its `LOFS`-corrected arrival (R181). -/
def Dev.acceptFrame (d : Dev) (n at16 : Nat) (h : HeardFrame) : Dev :=
  let p := d.portOfLane n
  let x := d.ll n
  let hdr := listAt h.words 0
  let near := match x.lastAt with
    | some t => decide ((((at16 : Int) - t) - 4096).natAbs ≤ 4)
    | none => true
  let da := if d.flag F.LNK_ETH_CFG_LEARN_DA n && x.da.isNone && d.portState p != 0 then h.mac.map (fun m => m.sa) else x.da
  let d1 := (d.setLl n { x with disc := 0, miss := 0, da := da, good := if near then min 4 (x.good + 1) else 1
                                lastAt := some at16, due := at16 + 4096 }).wr F.LNK_STS_UL_MAP_ID (bits hdr 40 8) n
  let d2 := if d1.laneState n = 2 then (if (d1.ll n).good = 4 then d1.setLane n 3 0 else d1) else d1.measureRtd n (tripOf at16 hdr)
  let d3 := if d2.laneSel n then d2.takeCell p n (wordOctets ((h.words.drop 1).take 4)) else d2
  (d3.sectionsTaken n at16 h.words).pairDecide p

/-- TDL_FRAME_RX (R175, R190, R191): the blocks around a received frame are taken from the line, unknown ones counted, and the frame is
checked, then accepted or discarded and counted. A frame with an unknown control block inside it is discarded without a further
count. A MAC frame that is not TDL's is counted and is no frame of the lane. -/
def Dev.frameRx (n : Nat) (f : TdlFrame) (d : Dev) : Dev :=
  if d.laneState n < 2 then d
  else
    let h := d.hearFrame n f
    let d1 := (d.setLl n { d.ll n with rxBits := (scramble true (d.ll n).rxBits f.line).2 }).bumpBy h.unknown F.LNK_CNT_FORMAT_ERR n
    match d.heardFault n h with
    | 0 => d1.acceptFrame n (f.arrived - listAt h.sof 6) h
    | 1 => (d1.bump F.LNK_CNT_CRC_CRC_ERR n).discard n
    | 3 => (d1.bump F.LNK_CNT_ETH_FCS_ERR n).discard n
    | 4 => d1.bump F.LNK_CNT_ETH_FOREIGN n
    | 5 => d1
    | _ => (if h.foul then d1 else d1.bump F.LNK_CNT_FORMAT_ERR n).discard n

/-- TDL_FRAME_RX (R190). -/
def execTdlFrameRx (n : Nat) (f : TdlFrame) (s : State) : Out := unit n 128 (.next (s.onDev (Dev.frameRx n f)))

/-- FRAME_MISSING (R191, R227): no frame within one frame period of its expected boundary. -/
def Dev.frameMissing (n : Nat) (d : Dev) : Dev :=
  let x := d.ll n
  if d.laneState n < 2 ∨ 16 * d.gridNow < x.due + 4096 then d
  else ((d.sectionsLost n).setLl n { x with good := 0, miss := x.miss + 1, due := x.due + 4096 }).pairDecide (d.portOfLane n)

/-- FRAME_MISSING (R191). -/
def execFrameMissing (n : Nat) (s : State) : Out := unit n 128 (.next (s.onDev (Dev.frameMissing n)))

/-- NO_FRAME_TIMEOUT (R215): a lane in *FRAMED* that has had no frame for 4 frame periods returns to *BLOCK*. -/
def Dev.noFrame (n : Nat) (d : Dev) : Dev :=
  if d.laneState n = 3 ∧ 4 ≤ (d.ll n).miss then d.setLane n 2 4 else d

/-- NO_FRAME_TIMEOUT (R215). -/
def execNoFrameTimeout (n : Nat) (s : State) : Out := unit n 128 (.next (s.onDev (Dev.noFrame n)))

end Sys2Proof.Machine
end

