-- ==== Sys2Proof/Machine/Messages.lean ====
section
/-! DEFINITION. The control channel: messages, sessions, maps and gate edges (R195 to R217). -/

namespace Sys2Proof.Machine

/-- Acts on the waiting message of a port where it has the type asked for; the message is then gone. -/
def Dev.onMsg (d : Dev) (p ty : Nat) (g : Dev → List Nat → Dev) : Dev :=
  match (d.lp p).rxCell with
  | some c => if listAt c 0 = ty then g (d.setLp p { d.lp p with rxCell := none }) c else d
  | none => d

/-- HELLO_RX (R201, R217). -/
def Dev.helloRx (p : Nat) (d : Dev) : Dev :=
  d.onMsg p 1 (fun d c =>
    let ses := leAt c 8 4
    if listAt c 4 ≠ 1 then d
    else if d.portState p = 1 then
      let d1 := d.setLp p { d.lp p with peer := some ses, hbAt := d.now, greetAt := none }
      if listAt c 5 / 16 = 1 then d1.setPort p 2 0 else d1.setPort p 6 9
    else if d.portState p ≠ 0 ∧ (d.lp p).peer ≠ some ses then d.toHello p 7
    else d)

/-- HELLO_RX (R217). -/
def execHelloRx (p : Nat) (s : State) : Out := unit p 128 (.next (s.onDev (Dev.helloRx p)))

/-- The entries of the map that the plan gives a port (R34, R200). -/
def Dev.planMap (d : Dev) (p : Nat) : List MapSlice :=
  match d.portDecl p with
  | none => []
  | some q => q.slices.map (fun s =>
      let n := d.donor s.donor
      { num := s.num, rate := n.rate, dl := s.dlEn && n.dlEn, ul := s.ulEn && n.ulEn, tdd := n.tdd, centre := n.centreKhz })

/-- The payload of one `SLICE_MAP` message (R200). -/
def mapPayload (id cnt : Nat) (last : Bool) (s : MapSlice) : List Nat :=
  [id, s.num, b2n s.dl + 2 * b2n s.ul + 4 * b2n s.tdd + 8 * b2n last, s.rate] ++ toOctets 4 s.centre ++ [cnt]

/-- The payloads of a map's messages, the last one marked; a map without entries is one message. -/
def mapPayloads (id cnt : Nat) : List MapSlice → List (List Nat)
  | [] => [mapPayload id 0 true {}]
  | [s] => [mapPayload id cnt true s]
  | s :: t => mapPayload id cnt false s :: mapPayloads id cnt t

/-- SLICE_MAP_OFFER (R217): the messages of a new map, its number one above the last. -/
def Dev.offerMap (d : Dev) (p : Nat) : Dev :=
  let x := d.lp p
  let last := match x.offered, x.accepted, x.map with
    | some o, _, _ => o.1
    | none, some o, _ => o.1
    | none, none, some o => o.1
    | none, none, none => 0
  let id := (last + 1) % 256
  let l := d.planMap p
  (mapPayloads id l.length l).foldl (fun y pl => y.queueRel p 3 pl) (d.setLp p { x with offered := some (id, l) })

/-- Capacity in eighths that the plan asks of a port in one direction (R200). -/
def mapSum (l : List MapSlice) (up : Bool) : Nat :=
  (l.filter (fun s => if up then s.ul else s.dl)).foldl (fun a s => a + unitsOf s.rate) 0

/-- CAPS_RX (R217, R248 to R251): the capabilities are published and checked. -/
def Dev.capsRx (p : Nat) (d : Dev) : Dev :=
  d.onMsg p 2 (fun d c =>
    if d.portState p ≠ 2 then d
    else
      let d1 := (((d.setLp p { d.lp p with remId := leAt c 4 4 }).wr F.LNK_REM_SER_LO_SERIAL_LO (leAt c 8 4) p).wr
        F.LNK_REM_SER_HI_SERIAL_HI (leAt c 12 4) p).wr F.LNK_REM_CAP_TDL_VER (listAt c 16) p
      let d2 := (((d1.wr F.LNK_REM_CAP_RATES (listAt c 17) p).wr F.LNK_REM_CAP_MAX_SLICES (listAt c 18) p).wr
        F.LNK_REM_CAP_MAX_SUM (listAt c 19) p).wr F.LNK_REM_CAP_STATIONS (listAt c 20) p
      let d3 := (d2.wr F.LNK_REM_LAT_DL_LAT (leAt c 22 2) p).wr F.LNK_REM_LAT_UL_LAT (leAt c 24 2) p
      let l := d3.planMap p
      let mode := d3.rd F.LNK_CTL_RATE p + 2 * d3.rd F.LNK_CTL_CARRIAGE p
      let sts := ((d3.portDecl p).map (fun q => q.stations)).getD 0
      let unfit := fun (y : Dev) (cause : Nat) => (y.setLp p { y.lp p with remId := 0 }).setPort p 6 cause
      if !(bitAt (listAt c 17) mode) then unfit d3 10
      else if decide (listAt c 18 < l.length) || decide (listAt c 19 < mapSum l false) ||
          decide (listAt c 19 < mapSum l true) || decide (listAt c 20 < sts) then unfit d3 11
      else (d3.setPort p 3 0).offerMap p)

/-- CAPS_RX (R217). -/
def execCapsRx (p : Nat) (s : State) : Out := unit p 128 (.next (s.onDev (Dev.capsRx p)))

/-- SLICE_ACK_RX (R217): a verdict on the map offered, in *MAP*, or for a re-mould of the port in *ACTIVE*, which may have returned to
*RTD* meanwhile. -/
def Dev.sliceAckRx (p : Nat) (d : Dev) : Dev :=
  d.onMsg p 4 (fun d c =>
    let x := d.lp p
    match x.offered with
    | none => d
    | some o =>
      if listAt c 4 ≠ o.1 ∨ d.portState p < 3 ∨ 5 < d.portState p then d
      else if listAt c 5 = 0 then
        let d1 := d.setLp p { x with offered := none, accepted := some o, switchAt := (d.lfn + 4) % 2 ^ 32 }
        if d1.portState p = 3 then d1.setPort p 4 0 else d1
      else (d.setLp p { x with offered := none }).setPort p 6 12)

/-- SLICE_ACK_RX (R217). -/
def execSliceAckRx (p : Nat) (s : State) : Out := unit p 128 (.next (s.onDev (Dev.sliceAckRx p)))

/-- MAP_ID_SWITCH (R217): four frames after the acceptance the header carries the new `MAP_ID`. -/
def Dev.mapSwitch (p : Nat) (d : Dev) : Dev :=
  let x := d.lp p
  match x.accepted with
  | none => d
  | some o =>
    if lfnSince x.switchAt d.lfn < 2 ^ 31 then
      (d.setLp p { x with accepted := none, prev := some (x.map.getD (0, [])), map := some o }).each (d.lanesOf p) (fun y n =>
        y.wr F.LNK_STS_DL_MAP_ID o.1 n)
    else d

/-- MAP_ID_SWITCH (R217). -/
def execMapIdSwitch (p : Nat) (s : State) : Out := unit p 128 (.next (s.onDev (Dev.mapSwitch p)))

/-- A received cell is copied to the port's ring, or dropped and counted where it is full (R262). -/
def Dev.ringCell (d : Dev) (p : Nat) (c : List Nat) : Dev :=
  let h := d.rd F.LNK_MSG_RX_HEAD p
  if (h + 1) % 16 = d.rd F.LNK_MSG_RX_TAIL p then d.bump F.LNK_MSG_RX_OVERFLOW p
  else
    (d.each (upTo 8) (fun x w => x.wr F.LNK_MSG_RXB_DATA (leAt c (4 * w) 4) p h w)).wr F.LNK_MSG_RX_HEAD (h + 1) p

/-- ALARM_RX (R262): the alarm goes to the ring and is recorded. -/
def Dev.alarmRx (p : Nat) (d : Dev) : Dev :=
  d.onMsg p 8 (fun d c =>
    (d.ringCell p c).raise 0x66 p (leAt c 4 2 + 2 ^ 16 * listAt c 6 + 2 ^ 24 * listAt c 7))

/-- ALARM_RX (R262). -/
def execAlarmRx (p : Nat) (s : State) : Out := unit p 128 (.next (s.onDev (Dev.alarmRx p)))

/-- READ_RSP_RX (R262). -/
def execReadRspRx (p : Nat) (s : State) : Out :=
  unit p 128 (.next (s.onDev (fun d => d.onMsg p 0x0A (fun d c => d.ringCell p c))))

/-- WRITE_RSP_RX (R262). -/
def execWriteRspRx (p : Nat) (s : State) : Out :=
  unit p 128 (.next (s.onDev (fun d => d.onMsg p 0x0C (fun d c => d.ringCell p c))))

/-- VENDOR_RX (R262). -/
def execVendorRx (p : Nat) (s : State) : Out :=
  unit p 128 (.next (s.onDev (fun d => d.onMsg p 0x0F (fun d c => d.ringCell p c))))

/-- HEARTBEAT_RX (R201, R217): the heartbeat limit starts again; a new `SESSION` is a restart of the remote. -/
def Dev.heartbeatRx (p : Nat) (d : Dev) : Dev :=
  d.onMsg p 0x0D (fun d c =>
    if d.portState p < 2 then d
    else if (d.lp p).peer = some (leAt c 4 4) then d.setLp p { d.lp p with hbAt := d.now }
    else d.toHello p 7)

/-- HEARTBEAT_RX (R201). -/
def execHeartbeatRx (p : Nat) (s : State) : Out := unit p 128 (.next (s.onDev (Dev.heartbeatRx p)))

/-- LAT_UPDATE_RX (R206, R217). -/
def Dev.latUpdateRx (p : Nat) (d : Dev) : Dev :=
  d.onMsg p 0x0E (fun d c =>
    let d1 := (d.wr F.LNK_REM_LAT_DL_LAT (leAt c 22 2) p).wr F.LNK_REM_LAT_UL_LAT (leAt c 24 2) p
    if d1.portState p = 4 ∨ d1.portState p = 5 then (d1.setLp p { d1.lp p with recheck := false }).setPort p 4 8 else d1)

/-- LAT_UPDATE_RX (R217). -/
def execLatUpdateRx (p : Nat) (s : State) : Out := unit p 128 (.next (s.onDev (Dev.latUpdateRx p)))

/-- A message that falls due every so many frames is due: none has been in this session, or the last one was that long ago. -/
def Dev.greetDue (d : Dev) (p frames : Nat) : Bool :=
  match (d.lp p).greetAt with
  | some t => decide (frames ≤ lfnSince t d.lfn)
  | none => true

/-- HELLO_TX (R199): a `HELLO` is due every 16 frames in *HELLO*. -/
def Dev.helloTx (p : Nat) (d : Dev) : Dev :=
  if d.portState p = 1 ∧ d.greetDue p 16 then
    let x := d.lp p
    d.setLp p { x with greet := some (mkCell 1 0 ([0, 0x10] ++ toOctets 2 p ++ toOctets 4 x.session)), greetAt := some d.lfn }
  else d

/-- HELLO_TX (R199). -/
def execHelloTx (p : Nat) (s : State) : Out := unit p 128 (.next (s.onDev (Dev.helloTx p)))

/-- The port slices of a port with a muted stream, a bit each (R200). -/
def Dev.muteMask (d : Dev) (p : Nat) : Nat :=
  (upTo 8).foldl (fun a q => a + 2 ^ q * b2n (d.flag F.SLC_PROT_MUTE (16 * p + q) || d.flag F.SLC_PROT_MUTE (16 * p + 8 + q))) 0

/-- HEARTBEAT_TX (R199, R200): a `HEARTBEAT` is due every 480 frames of an open session. -/
def Dev.heartbeatTx (p : Nat) (d : Dev) : Dev :=
  if 2 ≤ d.portState p ∧ d.portState p ≤ 5 ∧ d.greetDue p 480 then
    let x := d.lp p
    d.setLp p { x with greet := some (mkCell 0x0D 0 (toOctets 4 x.session ++ [d.boot, d.muteMask p])), greetAt := some d.lfn }
  else d

/-- HEARTBEAT_TX (R199). -/
def execHeartbeatTx (p : Nat) (s : State) : Out := unit p 128 (.next (s.onDev (Dev.heartbeatTx p)))

/-- RESEND_TIMEOUT (R196): the oldest message has waited 64 frames; all are resent, or after 8 resends the port returns to
*HELLO*. DEDUCED (log 97): of a port that is *DOWN* the session ends, and *HELLO* follows when its lane is back. -/
def Dev.resendTimeout (p : Nat) (d : Dev) : Dev :=
  let x := d.lp p
  match x.unacked with
  | [] => d
  | u :: _ =>
    if x.resend ≠ [] ∨ lfnSince u.sentAt d.lfn < 64 then d
    else if 8 ≤ u.resends then (if d.portState p = 0 then d.sessionEnd p 2 else d.toHello p 6)
    else
      (d.setLp p { x with resend := x.unacked.map (fun v => listAt v.cell 2)
                          unacked := x.unacked.map (fun v => { v with resends := v.resends + 1 }) }).bump F.LNK_CNT_RESENDS
        (d.laneOf p)

/-- RESEND_TIMEOUT (R196). -/
def execResendTimeout (p : Nat) (s : State) : Out := unit p 128 (.next (s.onDev (Dev.resendTimeout p)))

/-- HB_LIMIT_EXPIRY (R217): no `HEARTBEAT` for `HB_LIMIT` ms of an open session. -/
def Dev.hbExpiry (p : Nat) (d : Dev) : Dev :=
  if 2 ≤ d.portState p ∧ d.portState p ≤ 5 ∧ 122880 * max 1 (d.rd F.LNK_TIMING_HB_LIMIT p) ≤ d.now - (d.lp p).hbAt then
    d.toHello p 5
  else d

/-- HB_LIMIT_EXPIRY (R217). -/
def execHbLimitExpiry (p : Nat) (s : State) : Out := unit p 128 (.next (s.onDev (Dev.hbExpiry p)))

/-- INCOMPATIBLE_TIMEOUT (R217): 10 s in *INCOMPATIBLE* have passed. -/
def Dev.incompatibleEnd (p : Nat) (d : Dev) : Dev :=
  if d.portState p = 6 ∧ 1228800000 ≤ d.now - (d.lp p).incAt then d.toHello p 0 else d

/-- INCOMPATIBLE_TIMEOUT (R217). -/
def execIncompatibleTimeout (p : Nat) (s : State) : Out :=
  unit p 128 (.next (s.onDev (Dev.incompatibleEnd p)))

/-- The stream position, in samples of the frame grid, that a gate edge is named at (R211): a downlink edge as it stands,
an uplink edge earlier by the round trip, an opening rounded later and a closing earlier. -/
def Dev.edgeNamed (d : Dev) (m : Nat) (up opens : Bool) (at16 : Int) : Int :=
  let x := if up then at16 - d.roundTrip m else at16
  if opens then (x + 15) / 16 else x / 16

/-- The frame that can carry the first copy of a timed message queued now: after the copies that wait (R197, R198). -/
def Dev.firstCopy (d : Dev) (p : Nat) : Nat := (d.lfn + 1 + (d.lp p).timed.foldl (fun a q => a + q.1) 0) % 2 ^ 32

/-- The active pattern of orbit `i` changes at position `pos` so that the gate of a direction opens or closes (R119). -/
def Dev.isEdge (d : Dev) (i : Nat) (up opens : Bool) (pos : Nat) : Bool :=
  let now := d.gateAt i pos == b2n up
  let was := d.gateAt i ((pos + orbitSpan - 1) % orbitSpan) == b2n up
  now != was && now == opens

/-- TDD_EDGE_SEND (R138, R188, R197, R210 to R212): an edge of port slice `q` of port `p`, at orbit position `pos` of the active
pattern, is sent where its first copy can leave `EDGE_LEAD` frames ahead of the frame that carries the named position. -/
def Dev.edgeSend (p q : Nat) (up opens : Bool) (pos : Nat) (d : Dev) : Dev :=
  let m := streamOf p 0 q
  let n := d.donor (d.sliceDonor m)
  let x := d.lp p
  let at1 := ((d.edgeNamed m up opens (d.streamPos (d.sliceDonor m) pos)) % (2 ^ 40 : Nat)).toNat
  let lead := lfnSince (d.firstCopy p) (at1 / 256)
  let timed := d.rd F.ORB_STS_STATE n.orbit == 2 || d.rd F.ORB_STS_STATE n.orbit == 3
  if d.portState p = 5 ∧ d.has (if up then m + 8 else m) ∧ n.tdd ∧ timed ∧ d.isEdge n.orbit up opens pos ∧
      max 1 (d.rd F.LNK_TIMING_EDGE_LEAD p) ≤ lead ∧ lead < 2 ^ 31 then
    let id := (x.edgeId + 1) % 65536
    let cell := mkCell 5 0 (toOctets 2 id ++ [2 ^ q, b2n up + 2 * b2n opens] ++ toOctets 4 (at1 / 256) ++ [at1 % 256])
    d.setLp p { x with edgeId := id, timed := x.timed ++ [(3, cell)] }
  else d

/-- TDD_EDGE_SEND (R212). -/
def execTddEdgeSend (p q : Nat) (up opens : Bool) (pos : Nat) (s : State) : Out :=
  unit p 128 (unit q 8 (.next (s.onDev (Dev.edgeSend p q up opens pos))))

/-- What a write of `LNK_MSG_CTL_n` does (R261). -/
def Dev.actMsgCtl (n w : Nat) (d : Dev) : Option Dev :=
  let p := d.portOfLane n
  if !(F.LNK_MSG_CTL_SEND.hit w) || d.flag F.LNK_MSG_CTL_BUSY n then some d
  else if d.portState p ≠ 5 then some (d.wr F.LNK_MSG_CTL_RESULT 1 n)
  else
    let cell := (upTo 8).flatMap (fun k => toOctets 4 (d.rd F.LNK_MSG_TXB_DATA n k))
    if 0x10 < listAt cell 0 then some (d.wr F.LNK_MSG_CTL_RESULT 3 n)
    else
      let x := d.lp p
      some ((d.setLp p { x with waiting := x.waiting ++ [(cell.set 1 1, some n)] }).wr F.LNK_MSG_CTL_BUSY 1 n)

/-- LNK_MSG_SEND (R261). -/
def execLnkMsgSend (p : Path) (n w : Nat) (s : State) : Out :=
  let w1 := withBits w 0 1 1
  unit n 128 (.next (s.onDev (fun d => d.write p (hit .LNK_MSG_CTL RD.LNK_MSG_CTL n) w1 (Dev.actMsgCtl n w1))))

end Sys2Proof.Machine
end

