-- ==== Sys2Proof/Machine/Stations.lean ====
section
/-! DEFINITION. Front-end stations: states, commands, pins, alarms and the channel cache (chapter 04, R280 to R304). -/

namespace Sys2Proof.Machine

/-- One on-board station's state beside its registers. -/
def Dev.stn (d : Dev) (s : Nat) : Station := tabGet {} d.stns s

/-- Replaces it. -/
def Dev.setStn (d : Dev) (s : Nat) (x : Station) : Dev := { d with stns := tabSet {} d.stns s x }

/-- A station's state (R288). -/
def Dev.stnState (d : Dev) (s : Nat) : Nat := d.rd F.FES_STS_STATE s

/-- A station enters a state; `LOCK` holds in *READY* and *TRANSMIT* (R288, R321). -/
def Dev.toState (d : Dev) (s st : Nat) : Dev :=
  (d.wr F.FES_STS_STATE st s).wr F.FES_STS_LOCK (b2n (st == 4 || st == 5)) s

/-- A command's result and slot are reported (R303). -/
def Dev.stnReport (d : Dev) (s k r : Nat) : Dev := (d.wr F.FES_STS_LAST_RESULT r s).wr F.FES_STS_LAST_SLOT k s

/-- A transmit record of a station (R292 to R294, R299). -/
def Dev.stnRecord (d : Dev) (s r : Nat) (safe : Bool) : Dev := d.raise 0x82 s (r + 256 * b2n safe)

/-- Transmit enables may be active: the controller has entered *SURVEY*, SAFE_N is high, no clock failure forces the pins
(R67, R299, R300). -/
def Dev.txAllowed (d : Dev) : Bool :=
  (d.boot == 7 || d.boot == 8) && !(d.flag F.FES_SAFE_STS_SAFE_N) && !(d.flag F.FES_SAFE_STS_CLK_SAFE) &&
    d.pwr.stopping.isNone

/-- The safe level of a pin: 0 RXEN, 1 LNABYP, 2 TRSW, 3 AUX (R281, R323). -/
def Dev.safeLevel (d : Dev) (s b : Nat) : Bool := bitAt (d.rd F.FES_PIN_CFG_SAFE s) b

/-- The levels at the pins, in the order of `FES_PIN_CFG_s.POL`, 1 active (R281, R297, R300): safe levels while the
station is *OFF*, RXEN never active beside TRSW or TXEN. -/
def Dev.stnPins (d : Dev) (s : Nat) : List Bool :=
  let x := d.stn s
  let off := d.stnState s == 0
  let trsw := if off || d.flag F.FES_SAFE_STS_CLK_SAFE then d.safeLevel s 2 else x.trsw
  let tx := d.flag F.FES_STS_TXEN s
  [tx, (if off then d.safeLevel s 0 else x.rxen) && !trsw && !tx, d.flag F.FES_STS_PAEN s,
   if off then d.safeLevel s 1 else x.lna, trsw, if off then d.safeLevel s 3 else x.aux]

/-- The electrical levels at the pins, 1 high: active low where `POL` says so (R281, R323). -/
def Dev.stnLevels (d : Dev) (s : Nat) : List Bool :=
  ((upTo 6).zip (d.stnPins s)).map (fun q => q.2 != bitAt (d.rd F.FES_PIN_CFG_POL s) q.1)

/-- The low `w` bits of a number in the other order. -/
def turned (w x : Nat) : Nat := (upTo w).foldl (fun a k => a + bits x k 1 * 2 ^ (w - 1 - k)) 0

/-- A station sends words on its SPI: least significant bit first where `LSB_FIRST` is set (R282). -/
def Dev.spiSend (d : Dev) (s : Nat) (l : List (Nat × Nat)) : Dev :=
  d.setStn s { d.stn s with spi := l.map (fun q => if d.flag F.FES_SPI_CFG_LSB_FIRST s then (turned q.2 q.1, q.2) else q) }

/-- Transmit enables go inactive at once (R299, R300). -/
def Dev.txOff (d : Dev) (s : Nat) : Dev :=
  ((d.wr F.FES_STS_PAEN 0 s).wr F.FES_STS_TXEN 0 s).setStn s { d.stn s with step := 0 }

/-- An orderly drop (R295): PAEN at once, TXEN `PA_DELAY` samples later. -/
def Dev.stnDrop (d : Dev) (s : Nat) : Dev :=
  let d1 := d.wr F.FES_STS_PAEN 0 s
  if !(d1.flag F.FES_STS_TXEN s) then d1.setStn s { d1.stn s with step := 0 }
  else if d1.rd F.FES_TIMING_PA_DELAY s = 0 then d1.txOff s
  else d1.setStn s { d1.stn s with step := 1, stepAt := d1.now }

/-- An orderly raise (R295): TXEN at once, PAEN `PA_DELAY` samples later. -/
def Dev.stnRaise (d : Dev) (s : Nat) : Dev :=
  if !d.txAllowed then d
  else
    let d1 := d.wr F.FES_STS_TXEN 1 s
    if d1.rd F.FES_TIMING_PA_DELAY s = 0 then (d1.wr F.FES_STS_PAEN 1 s).setStn s { d1.stn s with step := 0 }
    else d1.setStn s { d1.stn s with step := 2, stepAt := d1.now }

/-- A station leaves *TRANSMIT* for a state. -/
def Dev.leaveTx (d : Dev) (s st : Nat) : Dev := ((if d.stnState s = 5 then d.stnDrop s else d).toState s st)

/-- *TRANSMIT* is renewed (R294). -/
def Dev.stnRenew (d : Dev) (s : Nat) : Dev :=
  if d.stnState s = 5 then d.setStn s { d.stn s with renewAt := d.now } else d

/-- A station enters *TRANSMIT*: without a pattern the enables rise, with one they rise where its segment is open (R291,
R296). -/
def Dev.enterTx (d : Dev) (s : Nat) : Dev :=
  let d1 := (d.toState s 5).stnRenew s
  if !(d1.flag F.FES_CTL_PAT s) || (d1.stn s).patTx then d1.stnRaise s else d1

/-- A pending command is cancelled or replaced: it is counted and recorded, and answered no more (R292). -/
def Dev.pendCancel (d : Dev) (s : Nat) : Dev :=
  match (d.stn s).pend with
  | none => d
  | some _ =>
    (((d.setStn s { d.stn s with pend := none }).wr F.FES_STS_PENDING 0 s).bump F.FES_CNT_CANCELLED s).stnRecord s 2 false

/-- A `TX_ON` enters the pending slot (R292, R293): a replacement keeps the time of the first. -/
def Dev.pendPut (d : Dev) (s k : Nat) : Dev :=
  let t := if (d.stn s).pend.isSome then (d.stn s).pendAt else d.now
  let d1 := d.pendCancel s
  (d1.setStn s { d1.stn s with pend := some k, pendAt := t }).wr F.FES_STS_PENDING 1 s

/-- A transmit command is rejected with `NO_LOCK`: counted and recorded (R289, R293, R299). -/
def Dev.noLock (d : Dev) (s k : Nat) : Dev :=
  ((d.stnReport s k 3).bump F.FES_CNT_NO_LOCK s).stnRecord s 3 (d.flag F.FES_SAFE_STS_SAFE_N)

/-- A pending command is rejected with `NO_LOCK` (R293). -/
def Dev.pendReject (d : Dev) (s : Nat) : Dev :=
  match (d.stn s).pend with
  | none => d
  | some k => ((d.setStn s { d.stn s with pend := none }).wr F.FES_STS_PENDING 0 s).noLock s k

/-- The cached entry of a channel (R283, R286). -/
def Dev.cached (d : Dev) (s ch : Nat) : Option (List Nat) :=
  ((d.stn s).cache.find? (fun q => leAt q.2 0 2 == ch)).map (fun q => q.2)

/-- The low bits of a word of `WBITS`. -/
def cutBits (w x : Nat) : Nat × Nat := (x % 2 ^ w, w)

/-- The SPI words of a channel entry (R282, R283). -/
def entryWords (e : List Nat) : List (Nat × Nat) :=
  (upTo (min 12 (listAt e 6))).map (fun n => cutBits (listAt e 7) (leAt e (12 + 4 * n) 4))

/-- The length of `n` words of an entry in periods of 200 MHz (R287, R322). -/
def Dev.spiTime (d : Dev) (s n : Nat) (e : List Nat) : Nat :=
  n * (listAt e 7 + max 1 (d.rd F.FES_SPI_CFG_CS_GAP s)) * (max 3 (d.rd F.FES_SPI_CFG_DIV s) + 1)

/-- A hop or a calibration starts: words are sent and its time runs (R287, R289). -/
def Dev.startHop (d : Dev) (s st ch len : Nat) (words : List (Nat × Nat)) : Dev :=
  let d1 := (d.leaveTx s st).wr F.FES_STS_CHANNEL ch s
  (d1.setStn s { d1.stn s with hopAt := d1.now, hopLen := len, hopOver := false, missed := 0, pollAt := none }).spiSend s words

/-- After a tune or calibration that left *TRANSMIT* with `KEEP_TX`, a `TX_ON` is pending (R289, R292). -/
def Dev.afterHop (d : Dev) (s k : Nat) (wasTx keep : Bool) : Dev :=
  if wasTx && keep then (d.pendPut s k).stnReport s k 2 else d.stnReport s k 0

/-- The tune itself, from a state that takes it (R286, R287, R289). -/
def Dev.tuneNow (d : Dev) (s k ch : Nat) (keep : Bool) : Dev :=
  match d.cached s ch with
  | none => (d.bump F.FES_CNT2_CACHE_MISS s).stnReport s k 6
  | some e =>
    let cal := bitAt (listAt e 8) 0
    let t := d.spiTime s (listAt e 6) e + (if cal then 200 * leAt e 4 2 else 20 * leAt e 2 2)
    (d.startHop s (if cal then 3 else 2) ch t (entryWords e)).afterHop s k (d.stnState s == 5) keep

/-- `TUNE` (R289): in *CALIBRATING* it is held in the tune slot, where a newer one replaces it. -/
def Dev.stnTune (d : Dev) (s k ch : Nat) (keep : Bool) : Dev :=
  match d.stnState s with
  | 0 => d.stnReport s k 5
  | 6 => d.stnReport s k 6
  | 3 =>
    if (d.cached s ch).isNone then (d.bump F.FES_CNT2_CACHE_MISS s).stnReport s k 6
    else (d.setStn s { d.stn s with held := some (k, [ch]) }).stnReport s k 2
  | _ => d.tuneNow s k ch keep

/-- `CALIBRATE` (R287, R289, R302): the current channel's words and `CAL_WORD`. -/
def Dev.stnCalibrate (d : Dev) (s k w : Nat) (keep : Bool) : Dev :=
  match d.stnState s with
  | 0 => d.stnReport s k 5
  | 6 => d.stnReport s k 6
  | _ =>
    let ch := d.rd F.FES_STS_CHANNEL s
    match d.cached s ch with
    | none => d.stnReport s k 6
    | some e =>
      (d.startHop s 3 ch (d.spiTime s (listAt e 6 + 1) e + 200 * leAt e 4 2)
        (entryWords e ++ [cutBits (listAt e 7) w])).afterHop s k (d.stnState s == 5) keep

/-- `TX_ON` (R289, R292, R299). -/
def Dev.stnTxOn (d : Dev) (s k : Nat) : Dev :=
  match d.stnState s with
  | 0 => d.stnReport s k 5
  | 2 | 3 => if d.flag F.FES_SAFE_STS_SAFE_N then d.noLock s k else (d.pendPut s k).stnReport s k 2
  | 4 => if d.flag F.FES_SAFE_STS_SAFE_N then d.noLock s k else (d.enterTx s).stnReport s k 0
  | 5 => (d.stnRenew s).stnReport s k 0
  | _ => d.noLock s k

/-- `TX_OFF` (R289). -/
def Dev.stnTxOff (d : Dev) (s k : Nat) : Dev :=
  match d.stnState s with
  | 0 => d.stnReport s k 5
  | 2 | 3 => (d.pendCancel s).stnReport s k 0
  | 5 => (d.leaveTx s 4).stnReport s k 0
  | _ => d.stnReport s k 0

/-- `RX_SET` (R302): RXEN only with `PAT` clear. -/
def Dev.stnRxSet (d : Dev) (s k v : Nat) : Dev :=
  if d.stnState s = 0 then d.stnReport s k 5
  else
    let x := d.stn s
    (d.setStn s { x with rxen := if d.flag F.FES_CTL_PAT s then x.rxen else bitAt v 0, lna := bitAt v 1 }).stnReport s k 0

/-- `PIN_SET` (R297, R302): TRSW only with `PAT` clear, and refused where RXEN is active. -/
def Dev.stnPinSet (d : Dev) (s k mask v : Nat) : Dev :=
  if d.stnState s = 0 then d.stnReport s k 5
  else
    let x := d.stn s
    let sw := bitAt mask 0 && !(d.flag F.FES_CTL_PAT s)
    if sw && bitAt v 0 && (d.stnPins s).getD 1 false then d.stnReport s k 6
    else
      (d.setStn s { x with trsw := if sw then bitAt v 0 else x.trsw
                           aux := if bitAt mask 1 then bitAt v 1 else x.aux }).stnReport s k 0

/-- `SPI_WRITE` (R302): one word of 8 to 64 bits, no state change. -/
def Dev.stnSpiWrite (d : Dev) (s k len : Nat) (l : List Nat) : Dev :=
  if d.stnState s = 0 then d.stnReport s k 5
  else if len = 0 ∨ 8 < len then d.stnReport s k 6
  else (d.spiSend s [cutBits (8 * len) (fromOctets (takeFill len l))]).stnReport s k 0

/-- `SPI_READ` (R302): the write octets are sent, and the result follows when the read octets are in. -/
def Dev.stnSpiRead (d : Dev) (s k wlen rlen : Nat) (l : List Nat) : Dev :=
  if d.stnState s = 0 then d.stnReport s k 5
  else if wlen = 0 ∨ 4 < wlen ∨ rlen = 0 ∨ 4 < rlen then d.stnReport s k 6
  else
    let d1 := d.spiSend s [cutBits (8 * wlen) (fromOctets (takeFill wlen l))]
    (d1.setStn s { d1.stn s with reading := some (k + 16 * rlen) }).stnReport s k 2

/-- A command body executes on an on-board station, from slot `k` (R302, R303). -/
def Dev.stnExec (d : Dev) (s k : Nat) (b : List Nat) : Dev :=
  if !d.coreOn then d
  else
    let keep := bitAt (listAt b 1) 0
    match listAt b 0 with
    | 0 => d.stnReport s k 0
    | 1 => d.stnTune s k (leAt b 2 2) keep
    | 2 => d.stnTxOn s k
    | 3 => d.stnTxOff s k
    | 4 => (d.stnRenew s).stnReport s k 0
    | 5 => d.stnRxSet s k (listAt b 2)
    | 6 => d.stnPinSet s k (listAt b 2) (listAt b 3)
    | 7 => d.stnCalibrate s k (leAt b 4 4) keep
    | 8 => d.stnSpiWrite s k (listAt b 4) (b.drop 8)
    | 9 => d.stnSpiRead s k (listAt b 4) (listAt b 5) (b.drop 8)
    | _ => d.stnReport s k 6

/-- The body that a command slot holds (R333). -/
def Dev.slotBody (d : Dev) (s k : Nat) : List Nat :=
  (upTo 4).flatMap (fun w => toOctets 4 (d.rd F.FES_SLOT_BODY s k w))

/-- The operand octets of a command body by its opcode (R302). -/
def bodyOctets (op : Nat) : List Nat :=
  match op with
  | 1 | 6 => [2, 3]
  | 5 => [2]
  | 7 => [4, 5, 6, 7]
  | 8 => [4, 8, 9, 10, 11, 12, 13, 14, 15]
  | 9 => [4, 5, 8, 9, 10, 11]
  | _ => []

/-- A command body of the format of R302 whose opcode, `KEEP_TX` and operands are those of a number; unlisted octets are zero. -/
def bodyOf (v : Nat) : List Nat :=
  (upTo 16).map (fun k =>
    if k = 0 then v % 10 else if k = 1 then v / 256 % 2 else if (bodyOctets (v % 10)).contains k then v / 2 ^ (8 * k) % 256 else 0)

/-- A service sequencer gives a station a command (R303). -/
def stnCommand (t k : Nat) (b : List Nat) (s : State) : Out :=
  unit t 8 (unit k 16 (.next (s.onDev (fun d => d.stnExec t k b))))

/-- STN_NOP (R302). -/
def execStnNop (t k : Nat) (s : State) : Out := stnCommand t k [0] s

/-- STN_TUNE (R289). -/
def execStnTune (t k ch : Nat) (keep : Bool) (s : State) : Out :=
  stnCommand t k ([1, b2n keep] ++ toOctets 2 ch) s

/-- STN_TX_ON (R292). -/
def execStnTxOn (t k : Nat) (s : State) : Out := stnCommand t k [2] s

/-- STN_TX_OFF (R289). -/
def execStnTxOff (t k : Nat) (s : State) : Out := stnCommand t k [3] s

/-- STN_RENEW (R294). -/
def execStnRenew (t k : Nat) (s : State) : Out := stnCommand t k [4] s

/-- STN_RX_SET (R302). -/
def execStnRxSet (t k : Nat) (rxen lna : Bool) (s : State) : Out := stnCommand t k [5, 0, b2n rxen + 2 * b2n lna] s

/-- STN_PIN_SET (R297). -/
def execStnPinSet (t k mask v : Nat) (s : State) : Out := stnCommand t k [6, 0, mask % 256, v % 256] s

/-- STN_CALIBRATE (R287). -/
def execStnCalibrate (t k w : Nat) (keep : Bool) (s : State) : Out :=
  stnCommand t k ([7, b2n keep, 0, 0] ++ toOctets 4 w) s

/-- STN_SPI_WRITE (R302). -/
def execStnSpiWrite (t k len : Nat) (l : List Nat) (s : State) : Out :=
  stnCommand t k ([8, 0, 0, 0, len % 256, 0, 0, 0] ++ takeFill 8 l) s

/-- STN_SPI_READ (R302). -/
def execStnSpiRead (t k wlen rlen : Nat) (l : List Nat) (s : State) : Out :=
  stnCommand t k ([9, 0, 0, 0, wlen % 256, rlen % 256, 0, 0] ++ takeFill 4 l) s

/-- STN_BAD_OPCODE (R302): an opcode of 0x0A to 0xFF. -/
def execStnBadOpcode (t k op : Nat) (s : State) : Out := stnCommand t k [10 + op % 246] s

/-- SPI_READ_DONE (R302): the octets read land in `FES_RDATA_s`. -/
def Dev.spiReadDone (t data : Nat) (d : Dev) : Dev :=
  match (d.stn t).reading with
  | none => d
  | some r =>
    ((d.setStn t { d.stn t with reading := none }).wr F.FES_RDATA_DATA (data % 2 ^ (8 * (r / 16))) t).stnReport t (r % 16) 0

/-- SPI_READ_DONE (R302). -/
def execSpiReadDone (t data : Nat) (s : State) : Out := unit t 8 (.next (s.onDev (Dev.spiReadDone t data)))

/-- Lock is declared (R289, R290): a held `TUNE` starts, or a pending `TX_ON` executes. -/
def Dev.lockDeclared (d : Dev) (s : Nat) : Dev :=
  let d0 := d.setStn s { d.stn s with missed := 0 }
  match (if d0.stnState s = 3 then (d0.stn s).held else none) with
  | some (k, l) => ((d0.setStn s { d0.stn s with held := none }).tuneNow s k (listAt l 0) false)
  | none =>
    match (d0.stn s).pend with
    | none => d0.toState s 4
    | some k =>
      if d0.flag F.FES_SAFE_STS_SAFE_N then (d0.toState s 4).pendReject s
      else (((d0.setStn s { d0.stn s with pend := none }).wr F.FES_STS_PENDING 0 s).enterTx s).stnReport s k 0

/-- HOP_TIME_EXPIRY (R287, R290). -/
def Dev.hopExpiry (t : Nat) (d : Dev) : Dev :=
  let x := d.stn t
  if !(d.stnState t == 2 || d.stnState t == 3) || x.hopOver || decide ((d.now - x.hopAt) * 20000 < x.hopLen * 12288) then d
  else
    let d1 := d.setStn t { x with hopOver := true }
    if d1.flag F.FES_LOCK_CFG_POLL_EN t then d1 else d1.lockDeclared t

/-- HOP_TIME_EXPIRY (R287): the hop or calibration time of station `t` elapses. -/
def execHopTimeExpiry (t : Nat) (s : State) : Out := unit t 8 (.next (s.onDev (Dev.hopExpiry t)))

/-- A station faults: an orderly drop, the pending slot cancelled (R289). -/
def Dev.stnFault (d : Dev) (s : Nat) : Dev :=
  let d1 := (d.leaveTx s 6).pendCancel s
  d1.setStn s { d1.stn s with held := none }

/-- A poll of a station's synthesiser is due (R290, R327): the first since the hop began, or `POLL_US` after the last. -/
def Dev.pollsNow (d : Dev) (t : Nat) : Bool :=
  match (d.stn t).pollAt with
  | some a => decide (12288 * max 1 (d.rd F.FES_LOCK_CFG_POLL_US t) ≤ 100 * (d.now - a))
  | none => true

/-- LOCK_POLL (R290): one poll of station `t` ends with `data` read. -/
def Dev.lockPoll (t data : Nat) (d : Dev) : Dev :=
  let st := d.stnState t
  if !(d.flag F.FES_LOCK_CFG_POLL_EN t) || st < 2 || st = 6 || !(d.pollsNow t) then d
  else
    let m := d.rd F.FES_LOCK_CFG_MASK t
    let shows := data &&& m == m
    let d1 := (d.setStn t { d.stn t with pollAt := some d.now }).spiSend t [(d.rd F.FES_LOCK_CFG_READ_CMD t, 16)]
    if st < 4 then (if (d1.stn t).hopOver && shows then d1.lockDeclared t else d1)
    else if shows then d1.setStn t { d1.stn t with missed := 0 }
    else if (d1.stn t).missed = 0 then d1.setStn t { d1.stn t with missed := 1 }
    else d1.stnFault t

/-- LOCK_POLL (R290). -/
def execLockPoll (t data : Nat) (s : State) : Out := unit t 8 (.next (s.onDev (Dev.lockPoll t data)))

/-- TX_WAIT_LIMIT_EXPIRY (R293). -/
def Dev.txWaitExpiry (t : Nat) (d : Dev) : Dev :=
  let lim := max 10 (d.rd F.FES_LIMIT_TX_WAIT_LIMIT t)
  if (d.stnState t == 2 || d.stnState t == 3) && decide (lim * 12288 ≤ (d.now - (d.stn t).pendAt) * 100) then d.pendReject t
  else d

/-- TX_WAIT_LIMIT_EXPIRY (R293). -/
def execTxWaitLimitExpiry (t : Nat) (s : State) : Out := unit t 8 (.next (s.onDev (Dev.txWaitExpiry t)))

/-- The renewal limit in force, in samples (R294). -/
def Dev.maxOn (d : Dev) (s : Nat) : Nat :=
  let own := 12288 * max 1 (d.rd F.FES_LIMIT_MAX_ON s)
  if d.flag F.FES_GLB_CTL_HB_EN && d.flag F.FES_CTL_HB_RENEW s then
    max own (2 * (d.orb (d.donor (d.rd F.FES_CTL_SLICE s)).orbit).base + 12288)
  else own

/-- MAX_ON_EXPIRY (R289, R294). -/
def Dev.maxOnExpiry (t : Nat) (d : Dev) : Dev :=
  if d.stnState t = 5 ∧ d.maxOn t ≤ d.now - (d.stn t).renewAt then
    (((d.leaveTx t 4).wr F.FES_STS_LAST_RESULT 4 t).bump F.FES_CNT_MAX_ON_DROP t).stnRecord t 4 false
  else d

/-- MAX_ON_EXPIRY (R294). -/
def execMaxOnExpiry (t : Nat) (s : State) : Out := unit t 8 (.next (s.onDev (Dev.maxOnExpiry t)))

/-- PA_DELAY_EXPIRY (R291, R295). -/
def Dev.paDelayExpiry (t : Nat) (d : Dev) : Dev :=
  let x := d.stn t
  if x.step = 0 ∨ d.now - x.stepAt < d.rd F.FES_TIMING_PA_DELAY t then d
  else if x.step = 1 then d.txOff t
  else if d.stnState t = 5 ∧ d.txAllowed then (d.wr F.FES_STS_PAEN 1 t).setStn t { x with step := 0 }
  else d.setStn t { x with step := 0 }

/-- PA_DELAY_EXPIRY (R295). -/
def execPaDelayExpiry (t : Nat) (s : State) : Out := unit t 8 (.next (s.onDev (Dev.paDelayExpiry t)))

/-- The segment type that a station meets `k` samples after its own position (R296); none where pattern edges do not run (R138). -/
def Dev.stnSegment (d : Dev) (t : Nat) (k : Int) : Option Nat :=
  let i := (d.donor (d.rd F.FES_CTL_SLICE t)).orbit
  let st := d.rd F.ORB_STS_STATE i
  if (st == 2 || st == 3) && d.patternValid i then
    some (d.gateAt i (((d.orbPos i : Int) + k) % (orbitSpan : Int)).toNat)
  else none

/-- The pattern calls for a pin change of R296 at this sample: an edge lies ahead by the station's path and the change's own
lead. `e` is 0 RXEN inactive, 1 TRSW active, 2 TXEN active, 3 PAEN active, 4 PAEN inactive, 5 TXEN inactive, 6 TRSW inactive,
7 RXEN active. -/
def Dev.pinCalled (d : Dev) (t e : Nat) : Bool :=
  let p : Int := d.stnPath t
  let pa : Int := d.rd F.FES_TIMING_PA_DELAY t
  let st : Int := d.rd F.FES_TIMING_PIN_STEP t
  let tx := if d.flag F.FES_CTL_TX_DIR t then 0 else 1
  let at' := fun (k : Int) => d.stnSegment t k
  let is := fun (k : Int) (v : Nat) => at' k == some v
  let off := fun (k : Int) (v : Nat) => (at' k).isSome && at' k != some v
  match e with
  | 0 => off p (1 - tx) || is (p + pa + 2 * st) tx
  | 1 => is (p + pa + st) tx
  | 2 => is (p + pa) tx
  | 3 => is p tx
  | 4 => off p tx
  | 5 => off (p - pa) tx
  | 6 => off (p - pa - st) tx
  | _ => is p (1 - tx) && !(is (p - pa - 2 * st) tx)

/-- A pin change that a pattern edge scheduled falls due (R119, R294, R296), in the order of R296's table. -/
def Dev.stationPin (t e : Nat) (d : Dev) : Dev :=
  if !(d.flag F.FES_CTL_PAT t) || d.stnState t == 0 || d.flag F.FES_SAFE_STS_CLK_SAFE || !(d.pinCalled t e) then d
  else
    let x := d.stn t
    let tx := d.stnState t = 5 ∧ d.txAllowed
    match e with
    | 0 => d.setStn t { x with rxen := false }
    | 1 => d.setStn t { x with trsw := true }
    | 2 =>
      let d1 := d.setStn t { x with patTx := true, step := 0 }
      if tx then d1.wr F.FES_STS_TXEN 1 t else d1
    | 3 =>
      let d1 := d.stnRenew t
      if tx then (if d1.flag F.FES_STS_TXEN t then d1.wr F.FES_STS_PAEN 1 t else d1.stnRaise t) else d1
    | 4 => (d.setStn t { x with patTx := false, step := 0 }).wr F.FES_STS_PAEN 0 t
    | 5 => d.wr F.FES_STS_TXEN 0 t
    | 6 => d.setStn t { x with trsw := false }
    | _ => d.setStn t { x with rxen := true }

/-- STATION_PIN_EDGE (R296). -/
def execStationPinEdge (t e : Nat) (s : State) : Out := unit t 8 (unit e 8 (.next (s.onDev (Dev.stationPin t e))))

/-- An alarm's action (R289, R301, R328). -/
def Dev.alarmAct (d : Dev) (s : Nat) : Dev :=
  let a := d.rd F.FES_ALARM_CFG_ACTION s
  if d.flag F.FES_STS_STUCK s || a == 0 || d.stnState s == 0 then d
  else if a = 1 then (if d.stnState s = 5 then d.leaveTx s 4 else d)
  else d.stnFault s

/-- FES_ALM_ACTIVE (R301): the alarm input of station `t` has been at a level, high or low, for `held` samples. It counts as active
at the level that `POL` sets, once it has held it for `FILTER` µs. -/
def Dev.alarm (t : Nat) (high : Bool) (held : Nat) (d : Dev) : Dev :=
  if !d.coreOn then d
  else if high == d.flag F.FES_ALARM_CFG_POL t then d.wr F.FES_STS_ALARM 0 t
  else if d.flag F.FES_STS_ALARM t || decide (100 * held < 12288 * d.rd F.FES_ALARM_CFG_FILTER t) then d
  else
    let d0 := (d.wr F.FES_STS_ALARM 1 t).setStn t { d.stn t with alarmAt := d.now }
    let d1 := ((d0.bump F.FES_CNT2_ALARMS t).alarmAct t)
    let x := d1.stn t
    match x.lockout with
    | some _ => (d1.setStn t { x with suppressed := x.suppressed + 1 }).bump F.FES_CNT_CHATTER t
    | none => (d1.setStn t { x with lockout := some d1.now }).raise 0x83 t

/-- FES_ALM_ACTIVE (R301). -/
def execFesAlmActive (t : Nat) (high : Bool) (held : Nat) (s : State) : Out := unit t 8 (.next (s.onDev (Dev.alarm t high held)))

/-- FES_ALM_STUCK (R301): the input has been active longer than `STUCK_TIME`. -/
def Dev.alarmStuck (t : Nat) (d : Dev) : Dev :=
  let lim := d.rd F.FES_ALARM_CFG_STUCK_TIME t
  if d.flag F.FES_STS_ALARM t && lim != 0 && decide (12288000 * lim < d.now - (d.stn t).alarmAt) then d.wr F.FES_STS_STUCK 1 t else d

/-- FES_ALM_STUCK (R301). -/
def execFesAlmStuck (t : Nat) (s : State) : Out := unit t 8 (.next (s.onDev (Dev.alarmStuck t)))

/-- FES_ALM_LOCKOUT_END (R301): suppressed activations give one record and another lockout. -/
def Dev.alarmLockoutEnd (t : Nat) (d : Dev) : Dev :=
  let x := d.stn t
  match x.lockout with
  | none => d
  | some b =>
    if d.now - b < 122880 * max 1 (d.rd F.FES_ALARM_CFG_LOCKOUT t) then d
    else if x.suppressed = 0 then d.setStn t { x with lockout := none }
    else (d.setStn t { x with lockout := some d.now, suppressed := 0 }).raise 0x83 t

/-- FES_ALM_LOCKOUT_END (R301). -/
def execFesAlmLockoutEnd (t : Nat) (s : State) : Out := unit t 8 (.next (s.onDev (Dev.alarmLockoutEnd t)))

/-- A station is enabled or disabled (R281, R289). -/
def Dev.stnEnable (d : Dev) (s : Nat) (on : Bool) : Dev :=
  let x := d.stn s
  let safe := { x with rxen := d.safeLevel s 0, lna := d.safeLevel s 1, trsw := d.safeLevel s 2, aux := d.safeLevel s 3 }
  if on then (if d.stnState s = 0 then (d.setStn s safe).toState s 1 else d)
  else if d.stnState s = 0 then d
  else
    let d1 := (d.leaveTx s 0).pendCancel s
    d1.setStn s { d1.stn s with held := none, patTx := false, rxen := safe.rxen, lna := safe.lna, trsw := safe.trsw
                                aux := safe.aux }

/-- What a write of `FES_CTL_s` does (R289, R301, R303, R320). -/
def Dev.actFesCtl (p : Path) (t w : Nat) (d : Dev) : Option Dev :=
  let d1 := (d.putHit p (hit .FES_CTL RD.FES_CTL t) w).stnEnable t (F.FES_CTL_EN.hit w)
  let d2 := if F.FES_CTL_FAULT_CLR.hit w && d1.stnState t == 6 then d1.toState t 1 else d1
  let d3 := if F.FES_CTL_ALM_REARM.hit w then d2.wr F.FES_STS_STUCK 0 t else d2
  some (if F.FES_CTL_RUN.hit w then d3.stnExec t (F.FES_CTL_RUN_SLOT.of w) (d3.slotBody t (F.FES_CTL_RUN_SLOT.of w)) else d3)

/-- A write of `FES_CTL_s`. -/
def fesCtlWrite (p : Path) (t w : Nat) (s : State) : Out :=
  unit t 8 (.next (s.onDev (fun d => d.write p (hit .FES_CTL RD.FES_CTL t) w (Dev.actFesCtl p t w))))

/-- FES_EN_WRITE (R289): a write of `FES_CTL_s`, its `EN` set or cleared. -/
def execFesEnWrite (p : Path) (t w : Nat) (s : State) : Out := fesCtlWrite p t w s

/-- FES_RUN (R303). -/
def execFesRun (p : Path) (t w : Nat) (s : State) : Out := fesCtlWrite p t (withBits w 20 1 1) s

/-- FAULT_CLR (R289). -/
def execFaultClr (p : Path) (t w : Nat) (s : State) : Out := fesCtlWrite p t (withBits w 8 1 1) s

/-- ALM_REARM (R301). -/
def execAlmRearm (p : Path) (t w : Nat) (s : State) : Out := fesCtlWrite p t (withBits w 9 1 1) s

/-- Every `FES_` counter clears (R318). -/
def Dev.fesClear (d : Dev) : Dev :=
  (d.each (upTo 8) (fun x s =>
    x.zero [F.FES_CNT_NO_LOCK, F.FES_CNT_MAX_ON_DROP, F.FES_CNT_CANCELLED, F.FES_CNT_CHATTER, F.FES_CNT2_CACHE_MISS,
      F.FES_CNT2_ALARMS] s)).wr F.FES_SAFE_STS_SAFE_CNT 0

/-- What a write of `FES_GLB_CTL` does (R318). -/
def Dev.actFesGlb (p : Path) (w : Nat) (d : Dev) : Option Dev :=
  let d1 := d.putHit p (hit .FES_GLB_CTL RD.FES_GLB_CTL) w
  some (if F.FES_GLB_CTL_CLR_CNT.hit w then d1.fesClear else d1)

/-- FES_CLR_CNT (R318). -/
def execFesClrCnt (p : Path) (w : Nat) (s : State) : Out :=
  let w1 := withBits w 1 1 1
  .next (s.onDev (fun d => d.write p (hit .FES_GLB_CTL RD.FES_GLB_CTL) w1 (Dev.actFesGlb p w1)))

/-- SAFE_N goes low (R299, R319, R467): enables off, *TRANSMIT* left, no pending command survives, surveys abandoned. -/
def Dev.safeAssert (d : Dev) : Dev :=
  if d.flag F.FES_SAFE_STS_SAFE_N then d
  else
    let d1 := (d.wr F.FES_SAFE_STS_SAFE_N 1).bump F.FES_SAFE_STS_SAFE_CNT
    if !d.coreOn then d1.faultPin
    else
      let d2 := d1.each (upTo 8) (fun x s =>
        let y := (x.txOff s).pendCancel s
        if y.stnState s = 5 then y.toState s 4 else y)
      (d2.each (upTo 16) Dev.surveyAbandon).faultPin

/-- SAFE_N_ASSERT (R299). -/
def execSafeNAssert (s : State) : Out := .next (s.onDev Dev.safeAssert)

/-- SAFE_N_RELEASE (R299): no pin and no state changes. -/
def execSafeNRelease (s : State) : Out := .next (s.onDev (fun d => (d.wr F.FES_SAFE_STS_SAFE_N 0).faultPin))

/-- A clock failure forces the stations (R300): pins safe, every station but *OFF* and *FAULT* to *IDLE*. -/
def Dev.stnClockSafe (d : Dev) : Dev :=
  (d.each (upTo 8) (fun x s =>
    let y := x.txOff s
    let z := y.setStn s { y.stn s with trsw := y.safeLevel s 2, held := none, patTx := false }
    if z.stnState s = 0 ∨ z.stnState s = 6 then z else (z.pendCancel s).toState s 1)).wr F.FES_SAFE_STS_CLK_SAFE 1

/-- Every station is *OFF* (R300). -/
def Dev.stnAllOff (d : Dev) : Dev :=
  d.each (upTo 8) (fun x s => ((x.stnEnable s false).txOff s).wr F.FES_CTL_EN 0 s)

/-- On entry to *SURVEY* the enables of stations in *TRANSMIT* rise (R67, R296). -/
def Dev.stnSurveyEntry (d : Dev) : Dev :=
  d.each (upTo 8) (fun x s =>
    if x.stnState s = 5 ∧ !(x.flag F.FES_STS_TXEN s) then x.enterTx s else x)

/-- The loop-engine heartbeat renews the stations of an orbit's donor slices (R294). -/
def Dev.heartbeat (d : Dev) (i : Nat) : Dev :=
  if !(d.flag F.FES_GLB_CTL_HB_EN) then d
  else
    d.each (upTo 8) (fun x s =>
      if x.flag F.FES_CTL_HB_RENEW s && (x.donor (x.rd F.FES_CTL_SLICE s)).orbit == i then x.stnRenew s else x)

/-- What a write of `FES_CACHE_CTL_s` does (R284, R330). -/
def Dev.actCacheCtl (p : Path) (t w : Nat) (d : Dev) : Option Dev :=
  let d1 := d.putHit p (hit .FES_CACHE_CTL RD.FES_CACHE_CTL t) w
  if !(F.FES_CACHE_CTL_LOAD.hit w) || d1.flag F.FES_CACHE_CTL_BUSY t then some d1
  else if !d1.memReady then some (d1.wr F.FES_CACHE_CTL_RESULT 2 t)
  else some ((d1.wr F.FES_CACHE_CTL_BUSY 1 t).setStn t
    { d1.stn t with load := some (F.FES_CACHE_CTL_CACHE_IDX.of w, F.FES_CACHE_CTL_CHANNEL.of w) })

/-- CACHE_LOAD (R284): a write of `FES_CACHE_CTL_s` with `LOAD`. -/
def execCacheLoad (p : Path) (t w : Nat) (s : State) : Out :=
  let w1 := withBits w 31 1 1
  unit t 8 (.next (s.onDev (fun d => d.write p (hit .FES_CACHE_CTL RD.FES_CACHE_CTL t) w1 (Dev.actCacheCtl p t w1))))

/-- A channel entry goes into a cache place where its CRC and its index are good (R284, R285): the result code. -/
def Dev.cacheStore (d : Dev) (t idx ch : Nat) (e : List Nat) : Nat × Dev :=
  if !(crcGood e) then (1, d)
  else if leAt e 0 2 ≠ ch then (3, d)
  else (0, d.setStn t { d.stn t with cache := tabPut (d.stn t).cache idx e })

/-- CACHE_LOAD_DONE (R284, R330, R834). -/
def State.cacheLoadDone (t : Nat) (ue : Bool) (s : State) : State :=
  let d := s.dev
  match (d.stn t).load with
  | none => s
  | some (idx, ch) =>
    let a := 64 * (d.rd F.FES_TBL_ADDR64 t + ch)
    let d1 := (d.setStn t { d.stn t with load := none }).wr F.FES_CACHE_CTL_BUSY 0 t
    let d2 :=
      if !d1.memReady || !(d1.memFits a 64) then d1.wr F.FES_CACHE_CTL_RESULT 2 t
      else if ue then (d1.wr F.FES_CACHE_CTL_RESULT 2 t).memUe a
      else
        let r := (d1.tally 7 64).cacheStore t idx ch (s.mem.sdRead a 64)
        r.2.wr F.FES_CACHE_CTL_RESULT r.1 t
    { s with dev := d2 }

/-- CACHE_LOAD_DONE (R284): the read of station `t`'s entry ends, with an uncorrectable error or without. -/
def execCacheLoadDone (t : Nat) (ue : Bool) (s : State) : Out := unit t 8 (.next (s.cacheLoadDone t ue))

/-- A command from slot `k` goes to remote station `q` as `STN_CMD` (R200, R202, R304): `time` is its `TIMED`, `LFN` and `SAMPLE`. -/
def Dev.stnRemote (d : Dev) (q k : Nat) (time b : List Nat) : Dev :=
  let p := q / 4
  if d.portActive p then
    let d1 := d.queueRel p 6 ([q % 4, k % 16] ++ takeFill 10 time ++ takeFill 16 b)
    let retunes := listAt b 0 == 1 || listAt b 0 == 7
    let l := d1.lp p
    d1.setLp p { l with commands := tabPut l.commands (16 * (q % 4) + k % 16) (listAt b 0)
                        tuning := if retunes then q % 4 :: l.tuning.filter (fun s => s != q % 4) else l.tuning }
  else d

/-- REM_RENEW (R304): the renewal period of remote station `q` passes. -/
def Dev.remRenew (q : Nat) (d : Dev) : Dev :=
  let due := match tabFind (d.lp (q / 4)).renewedAt (q % 4) with
    | some t => decide (61440 * d.rd F.FES_GLB_CTL_REM_RENEW ≤ d.now - t)
    | none => true
  if d.flag F.FES_GLB_CTL_HB_EN && d.engineOn && d.flag F.FES_REM_STS_ARMED q && d.rd F.FES_GLB_CTL_REM_RENEW != 0 && due then
    let d1 := d.stnRemote q 0 [] [4]
    d1.setLp (q / 4) { d1.lp (q / 4) with renewedAt := tabPut (d1.lp (q / 4)).renewedAt (q % 4) d1.now }
  else d

/-- REM_RENEW (R304). -/
def execRemRenew (q : Nat) (s : State) : Out := unit q 512 (.next (s.onDev (Dev.remRenew q)))

/-- STN_RSP_RX (R202, R304): a remote station's answer; a `DONE` to `TX_ON`, late or not, arms it in the controller's belief. What it
answers is the command last sent to the station from the slot that it names. -/
def Dev.stnRsp (p : Nat) (d : Dev) : Dev :=
  d.onMsg p 7 (fun d c =>
    let q := 4 * p + listAt c 4 % 4
    let r := listAt c 6
    let op := tabGet 0 (d.lp p).commands (16 * (listAt c 4 % 4) + listAt c 5 % 16)
    let x := d.lp p
    let d0 := if op = 1 ∨ op = 7 then d.setLp p { x with tuning := x.tuning.filter (fun s => s != listAt c 4 % 4) } else d
    let d1 := (d0.wr F.FES_REM_STS_LAST_RESULT r q).wr F.FES_REM_STS_LAST_SLOT (listAt c 5) q
    if r = 3 ∨ r = 4 ∨ op = 3 then d1.wr F.FES_REM_STS_ARMED 0 q
    else if (r = 0 ∨ r = 1) ∧ op = 2 then d1.wr F.FES_REM_STS_ARMED 1 q
    else d1)

/-- STN_RSP_RX (R202). -/
def execStnRspRx (p : Nat) (s : State) : Out := unit p 128 (.next (s.onDev (Dev.stnRsp p)))

end Sys2Proof.Machine
end

