-- ==== Sys2Proof/Machine/Housekeeping.lean ====
section
/-! DEFINITION. Housekeeping converters and window monitors (chapter 11). -/

namespace Sys2Proof.Machine

/-- One converter. -/
def Dev.conv (d : Dev) (k : Nat) : HkConv := tabGet {} d.hk.convs k

/-- Replaces a converter. -/
def Dev.setConv (d : Dev) (k : Nat) (c : HkConv) : Dev := { d with hk := { d.hk with convs := tabSet {} d.hk.convs k c } }

/-- One window monitor. -/
def Dev.mon (d : Dev) (n : Nat) : WinMon := tabGet {} d.hk.mons n

/-- Replaces a window monitor. -/
def Dev.setMon (d : Dev) (n : Nat) (x : WinMon) : Dev := { d with hk := { d.hk with mons := tabSet {} d.hk.mons n x } }

/-- What a converter does: 0 idle, 1 regular, 2 injected, 3 resolve reading (R665). -/
def Dev.hkAct (d : Dev) (k : Nat) : Nat := d.rd F.HK_SEQ_STS_ACTIVITY k

/-- A converter turns to an activity and an entry, whose conversion begins (R618). -/
def Dev.setAct2 (d : Dev) (k a e : Nat) : Dev :=
  ((d.setConv k { d.conv k with since := d.now }).wr F.HK_SEQ_STS_ACTIVITY a k).wr F.HK_SEQ_STS_ENTRY e k

/-- The HKCLK cycle under way, at 40 MHz (R618); DESIGN CHOICE (log 104): cycles are counted from AO power-good. -/
def Dev.hkCycle (d : Dev) : Nat := d.now * 125 / 384

/-- The die of a thermal sensor is powered (R620, R621). -/
def Dev.sensorOn (d : Dev) (ch : Nat) : Bool :=
  if ch < 72 then d.coreOn
  else if ch < 74 then (upTo 4).any (fun q => d.domOn (74 + q))
  else if ch < 76 then (upTo 4).any (fun q => d.domOn (78 + q))
  else true

/-- A conversion of a channel can be valid (R620, R621). -/
def Dev.channelOk (d : Dev) (ch : Nat) : Bool :=
  if decide (48 ≤ ch) && decide (ch < 78) then d.sensorOn ch
  else !(ch == 78 || ch == 79 || (decide (91 ≤ ch) && decide (ch < 96))) && decide (ch < 128)

/-- The code of a conversion: corrected for the analogue inputs (R636). -/
def Dev.hkCode (d : Dev) (ch raw : Nat) : Nat :=
  if ch < 48 then
    (clampInt 0 4095 (divNear (((raw * 16 : Nat) - d.rdS F.HK_CAL_OFS ch) * (d.rd F.HK_CAL_GAIN ch : Nat)) (2 ^ 18))).toNat
  else raw

/-- The fields of an entry word (R668). -/
def entCh (w : Nat) : Nat := bits w 0 7
def entAcq (w : Nat) : Nat := bits w 8 4
def entFilt (w : Nat) : Option Nat :=
  let f := bits w 12 4
  if f = 0 ∨ 8 < f then none else some (f - 1)

/-- The entry words of a run (R623, R625, R626). -/
def Dev.userEntries (d : Dev) (k : Nat) : List (Nat × Nat) :=
  (upTo (min 22 (d.rd F.HK_CFG_REG_LEN k))).map (fun e => (10 + e, d.word RD.HK_REG k (10 + e)))
def Dev.systemEntries (d : Dev) (k : Nat) : List (Nat × Nat) := (upTo 10).map (fun e => (e, d.word RD.HK_REG k e))
def Dev.injEntries (d : Dev) (k : Nat) : List (Nat × Nat) :=
  (upTo (min 8 (d.rd F.HK_CFG_INJ_LEN k))).map (fun e => (e, d.word RD.HK_INJ k e))

/-- At a sequence's start a unit whose configuration or entry was written takes it and restarts (R643, R652). -/
def Dev.filtStart (d : Dev) (k : Nat) (l : List (Nat × Nat)) : Dev :=
  (l.filterMap (fun p => entFilt p.2)).foldl (fun x f =>
    let c := x.conv k
    let u := tabGet {} c.filts f
    if u.dirty then
      x.setConv k { c with filts := tabSet {} c.filts f { cfg := x.word RD.HK_FILT k f, dirty := false, count := 0, hist := [] } }
    else x) d

/-- A unit restarts. -/
def Dev.filtRestart (d : Dev) (k f : Nat) : Dev :=
  let c := d.conv k
  let u := tabGet {} c.filts f
  d.setConv k { c with filts := tabSet {} c.filts f { u with count := 0, hist := [] } }

/-- The mode in force follows `LP` and the compute die while the converter is idle; a change restarts every filter
(R619). -/
def Dev.hkMode (d : Dev) (k : Nat) : Dev :=
  let want := d.flag F.HK_CFG_LP k || !d.coreOn
  let c := d.conv k
  if d.hkAct k = 0 ∧ c.inj.isNone ∧ c.reg.isNone ∧ c.resolve.isEmpty ∧ !(d.flag F.HK_SEQ_STS_PENDING k) ∧
      !(d.flag F.HK_SEQ_STS_REG_WAIT k) ∧ c.lp ≠ want then
    let d1 := d.setConv k { c with lp := want }
    d1.each (upTo 8) (fun x f => x.filtRestart k f)
  else d

/-- Samples to the end of an acquisition (R618, R619), rounded down. -/
def Dev.acqSamples (d : Dev) (k w : Nat) : Nat :=
  (12 + 4 * entAcq w) * 3072 * (if (d.conv k).lp then 5 else 1) / 1000

/-- The stamp of an injected run's first sampling instant (R635). -/
def Dev.injStamp (d : Dev) (k w : Nat) : Dev :=
  let o := d.rd F.HK_CTL_STAMP_ORB
  if d.coreOn && d.rd F.ORB_STS_STATE o != 0 then
    let v := stampOf o ((d.orbPos o + d.acqSamples k w) % orbitSpan)
    ((d.wr F.HK_INJ_STAMP_LO_STAMP_LO (v % 2 ^ 32) k).wr F.HK_INJ_STAMP_HI_STAMP_HI (v / 2 ^ 32) k).wr
      F.HK_INJ_STAMP_HI_VALID 1 k
  else d.wr F.HK_INJ_STAMP_HI_VALID 0 k

/-- An injected run's next entry converts; at its first, the stamp is taken (R635). -/
def Dev.injConvert (d : Dev) (k : Nat) (r : HkRun) : Dev :=
  match r.left with
  | [] => d
  | (e, w) :: _ =>
    let d1 := if r.started then d else (d.filtStart k (if r.cal then [] else r.left)).injStamp k w
    (d1.setConv k { d1.conv k with inj := some { r with started := true, group := none } }).setAct2 k 2 e

/-- The other members of a group start at the same edge (R633). -/
def Dev.groupStart (d : Dev) (g : Nat) : Dev :=
  d.each (upTo 4) (fun x k =>
    match (x.conv k).inj with
    | some r => if r.group = some g ∧ x.hkAct k = 0 then x.injConvert k r else x
    | none => x)

/-- A converter reaches its boundary with an injected run to start: it waits for its group's other members (R633). -/
def Dev.injBegin (d : Dev) (k : Nat) (r : HkRun) : Dev :=
  match r.group with
  | none => d.injConvert k r
  | some g =>
    let wait := (tabGet [] d.hk.groups g).filter (fun j => j != k)
    let d1 := (({ d with hk := { d.hk with groups := tabSet [] d.hk.groups g wait } }).setConv k
      { d.conv k with inj := some r }).setAct2 k 0 0
    if wait.isEmpty then d1.groupStart g else d1

/-- A regular run starts, a round's or another (R625). -/
def Dev.regBegin (d : Dev) (k : Nat) (round : Bool) (l : List (Nat × Nat)) : Dev :=
  let d1 := d.filtStart k l
  d1.setConv k { d1.conv k with reg := some l, regRound := round }

/-- The entries that a regular trigger performs (R625). -/
def Dev.regEntries (d : Dev) (k : Nat) (round : Bool) : List (Nat × Nat) :=
  if round then d.systemEntries k ++ (if bitAt (d.rd F.HK_CFG_REG_TRIG k) 0 then d.userEntries k else [])
  else d.userEntries k

/-- The pending injected run takes its turn, and then a waiting regular run (R629, R631). -/
def Dev.hkPromote (d : Dev) (k : Nat) : Dev :=
  let c := d.conv k
  if c.inj.isSome then d
  else if d.flag F.HK_SEQ_STS_PENDING k then
    let run : HkRun := if c.pendCal then
        match d.hk.step with
        | some st => { left := List.replicate 64 (0, st.ain + 15 * 256), cal := true }
        | none => {}
      else { left := d.injEntries k }
    (d.setConv k { c with inj := if run.left.isEmpty then none else some run, pendCal := false }).wr F.HK_SEQ_STS_PENDING 0 k
  else if d.flag F.HK_SEQ_STS_REG_WAIT k && c.reg.isNone then
    (d.wr F.HK_SEQ_STS_REG_WAIT 0 k).regBegin k c.waitRound (d.regEntries k c.waitRound)
  else d

/-- What a converter does at a boundary, or when it is idle and something arrives (R629 to R631, R646): resolve readings
first, then injected work, then the regular run. -/
def Dev.hkNext (d : Dev) (k : Nat) : Dev :=
  let d1 := (d.hkPromote k).hkPromote k
  let c := d1.conv k
  match c.resolve with
  | n :: t => (d1.setConv k { c with resolve := t, reading := some n }).setAct2 k 3 0
  | [] =>
    match c.inj with
    | some r => if r.started then d1.injConvert k r else d1.injBegin k r
    | none =>
      match c.reg with
      | some ((e, _) :: _) => d1.setAct2 k 1 e
      | _ => (d1.setAct2 k 0 0).hkMode k

/-- An idle converter takes up what has arrived. -/
def Dev.hkKick (d : Dev) (k : Nat) : Dev := if d.hkAct k = 0 then d.hkNext k else d

/-- A regular trigger reaches a converter (R625, R627, R628, R631): one only in an HKCLK cycle. -/
def Dev.regTrigger (d : Dev) (k : Nat) (round : Bool) : Dev :=
  let l := d.regEntries k round
  let c0 := d.conv k
  if l.isEmpty || c0.regAt == some d.hkCycle then d
  else
    let c := { c0 with regAt := some d.hkCycle }
    let d0 := d.setConv k c
    if c.reg.isSome || d.flag F.HK_SEQ_STS_REG_WAIT k then
      let d1 := d0.bump F.HK_CNT_REG_OVR k
      if round then (d1.bump F.HK_CNT_ROUND_MISS k).raise 0x100 k else d1
    else if c.inj.isSome || d.flag F.HK_SEQ_STS_PENDING k then
      (d0.setConv k { c with waitRound := round }).wr F.HK_SEQ_STS_REG_WAIT 1 k
    else (d0.regBegin k round l).hkKick k

/-- A regular run that began in this very HKCLK cycle waits for the injected run that a trigger of the cycle starts (R631). -/
def Dev.regYield (d : Dev) (k : Nat) : Dev :=
  let c := d.conv k
  if c.reg.isSome ∧ c.regAt = some d.hkCycle ∧ d.hkAct k = 1 ∧ c.since = d.now then
    ((d.setConv k { c with reg := none, waitRound := c.regRound }).wr F.HK_SEQ_STS_REG_WAIT 1 k).setAct2 k 0 0
  else d

/-- An injected trigger finds the converter's injected path busy: it takes the pending slot or is ignored (R629). -/
def Dev.injBusy (d : Dev) (k : Nat) (cal : Bool) : Dev :=
  if d.flag F.HK_SEQ_STS_PENDING k then (d.bump F.HK_CNT_INJ_OVR k).raise 0x101 k
  else (d.setConv k { d.conv k with pendCal := cal }).wr F.HK_SEQ_STS_PENDING 1 k

/-- One event delivers an injected trigger to several converters (R626, R627, R629 to R631, R633): one only in an HKCLK cycle. -/
def Dev.injEvent (d0 : Dev) (ks : List Nat) : Dev :=
  let live := ks.filter (fun k => !(d0.injEntries k).isEmpty && (d0.conv k).injAt != some d0.hkCycle)
  let d := d0.each live (fun x k => (x.setConv k { x.conv k with injAt := some x.hkCycle }).regYield k)
  let idle := live.filter (fun k => (d.conv k).inj.isNone)
  let d1 := d.each (live.filter (fun k => (d.conv k).inj.isSome)) (fun x k => x.injBusy k false)
  let g := d1.hk.nextGroup
  let grp := if 1 < idle.length then some g else none
  let d2 : Dev := if 1 < idle.length then
    { d1 with hk := { d1.hk with groups := tabSet [] d1.hk.groups g idle, nextGroup := g + 1 } } else d1
  let d3 := d2.each idle (fun x k => x.setConv k { x.conv k with inj := some { left := x.injEntries k, group := grp } })
  d3.each idle Dev.hkKick

/-- Writes an unfiltered result (R621, R622, R669). -/
def Dev.hkResult (d : Dev) (inj : Bool) (k e : Nat) (valid filtered supp : Bool) (code : Nat) : Dev :=
  if inj then
    ((((d.wr F.HK_INJ_RES_VALID (b2n valid) k e).wr F.HK_INJ_RES_FILTERED (b2n filtered) k e).wr F.HK_INJ_RES_SUPPRESSED
      (b2n supp) k e).wr F.HK_INJ_RES_RUN (d.rd F.HK_SEQ_STS_INJ_RUNS k + 1) k e).wr F.HK_INJ_RES_CODE code k e
  else
    ((((d.wr F.HK_REG_RES_VALID (b2n valid) k e).wr F.HK_REG_RES_FILTERED (b2n filtered) k e).wr F.HK_REG_RES_SUPPRESSED
      (b2n supp) k e).wr F.HK_REG_RES_RUN (d.rd F.HK_SEQ_STS_REG_RUNS k + 1) k e).wr F.HK_REG_RES_CODE code k e

/-- Adds a shifted list to a list of weights. -/
def addLists : List Nat → List Nat → List Nat
  | [], l => l
  | l, [] => l
  | a :: s, b :: t => (a + b) :: addLists s t

/-- The convolution of a list of weights with a boxcar of `n` points. -/
def boxConv (l : List Nat) (n : Nat) : List Nat :=
  (upTo n).foldl (fun a k => addLists a (List.replicate k 0 ++ l)) []

/-- The weights of a unit over its newest results: the boxcar and the sinc stage (R641). -/
def filtWeights (m k dd : Nat) : List Nat := (upTo k).foldl (fun l _ => boxConv l dd) (boxConv [1] m)

/-- A unit's M, k and D (R641, R670). -/
def filtM (w : Nat) : Nat := max 1 (bits w 16 6)
def filtK (w : Nat) : Nat := max 1 (bits w 12 2)
def filtD (w : Nat) : Nat := bits w 0 6 + 1

/-- A valid result enters a unit: what it gives out, if anything, as a suppression mark and a code (R641, R642). -/
def filtPush (u : HkFilt) (x : Nat) : HkFilt × Option (Bool × Nat) :=
  let m := filtM u.cfg
  let k := filtK u.cfg
  let dd := filtD u.cfg
  let span := m + k * (dd - 1)
  let h := (x :: u.hist).take span
  let n := u.count + 1
  let u1 := { u with hist := h, count := if span ≤ n ∧ n % dd = 0 then span / dd * dd + dd else n }
  if n % dd ≠ 0 then (u1, none)
  else
    let s := (List.zipWith (fun a b => a * b) h (filtWeights m k dd)).foldl (fun a b => a + b) 0
    (u1, some (decide (n < span), (divNear (16 * s : Nat) (m * dd ^ k)).toNat))

/-- A result of an entry is written, through its post-filter if it names one (R641, R642). A suppressed output's code is
left open. -/
def Dev.hkPut (d : Dev) (inj : Bool) (k e w : Nat) (valid : Bool) (code : Nat) : Dev :=
  match entFilt w with
  | none => d.hkResult inj k e valid false false (16 * code)
  | some f =>
    if !valid then d.filtRestart k f
    else
      let c := d.conv k
      let r := filtPush (tabGet {} c.filts f) code
      let d1 := d.setConv k { c with filts := tabSet {} c.filts f r.1 }
      match r.2 with
      | none => d1
      | some (true, _) =>
        let v := d1.draw
        v.2.hkResult inj k e false true true v.1
      | some (false, y) => d1.hkResult inj k e true true false y

/-- The current of rail `r` follows its system entry (R725): a result that is not valid leaves the previous current in force
for three rounds. -/
def Dev.railStore (d : Dev) (r : Nat) (valid : Bool) (code : Nat) : Dev :=
  if valid then
    ({ d with pwr := { d.pwr with railMiss := tabDel d.pwr.railMiss r } }).wr F.PWR_RAIL_I_CURRENT
      (divNear (code * d.rd F.PWR_RAIL_SCALE r : Nat) 1000).toNat r |>.wr F.PWR_RAIL_I_VALID 1 r
  else
    let n := tabGet 0 d.pwr.railMiss r + 1
    let d1 := { d with pwr := { d.pwr with railMiss := tabPut d.pwr.railMiss r n } }
    if 3 < n then d1.wr F.PWR_RAIL_I_VALID 0 r else d1

/-- A result of an entry is stored (R641 to R643); a rail-current entry of the regular sequence gives its rail's current
too (R725). -/
def Dev.hkStore (d : Dev) (inj : Bool) (k e w : Nat) (valid : Bool) (code : Nat) : Dev :=
  let d1 := d.hkPut inj k e w valid code
  if !inj && decide (80 ≤ entCh w) && decide (entCh w < 88) then d1.railStore (entCh w - 80) valid code else d1

/-- A calibration step ends (R638, R659). -/
def Dev.calEnd (d : Dev) (res : Nat) : Dev :=
  (({ d with hk := { d.hk with step := none } }).wr F.HK_CAL_STS_BUSY 0).wr F.HK_CAL_STS_RESULT res |>.hkIrq 1024

/-- Every unit whose entry converts an input restarts (R643). -/
def Dev.inputRestart (d : Dev) (ain : Nat) : Dev :=
  d.each (upTo 4) (fun x k =>
    let ws := (upTo 22).map (fun e => x.word RD.HK_REG k (10 + e)) ++ (upTo 8).map (fun e => x.word RD.HK_INJ k e)
    ((ws.filter (fun w => entCh w == ain)).filterMap entFilt).foldl (fun y f => y.filtRestart k f) x)

/-- A burst of 64 conversions has ended (R637, R638). -/
def Dev.burstEnd (d : Dev) (st : HkStep) : Dev :=
  if st.bad then ({ d with hk := { d.hk with zero := if st.full then none else d.hk.zero } }).calEnd 4
  else
    let mean := (divNear (16 * st.sum : Nat) 64).toNat
    let d1 := d.wr F.HK_CAL_STS_MEAN mean
    if !st.full then ({ d1 with hk := { d1.hk with zero := some (st.ain, st.conv, mean) } }).calEnd 0
    else
      let d2 : Dev := { d1 with hk := { d1.hk with zero := none } }
      match d1.hk.zero with
      | none => d2.calEnd 2
      | some (_, _, z) =>
        if mean < z + 4096 then d2.calEnd 1
        else
          let g := (divNear (st.target * 2 ^ 18 : Nat) (mean - z)).toNat
          if 0xFFFF < g then d2.calEnd 1
          else
            ((((d2.wr F.HK_CAL_OFS z st.ain).wr F.HK_CAL_GAIN g st.ain).raise 0x102 st.ain (z + 65536 * g)).inputRestart
              st.ain).calEnd 0

/-- The state that the comparators spell (R645). -/
def monState (hi lo : Bool) : Nat := if hi then 2 else if lo then 0 else 1

/-- The monitor is active in a state (R647). -/
def Dev.monActive (d : Dev) (n st : Nat) : Bool :=
  match d.rd F.WM_CFG_ACT n with
  | 0 => st == 2
  | 1 => st == 0
  | 2 => st == 2 || st == 0
  | _ => st == 1

/-- An event of a monitor (R648, R649): counted, flagged, recorded with the state and the last lockout's chatter, a
trigger where it is armed, and a new lockout. -/
def Dev.monEvent (d : Dev) (n chat : Nat) (trig : Bool) : Dev :=
  let d1 := ((d.bump F.WM_STS_EVENTS n).hkIrq 256).raise 0x104 n (d.rd F.WM_STS_STATE n + 256 * chat)
  let d2 := (d1.setMon n { d1.mon n with lockout := some d1.now, chat := 0 }).wr F.WM_STS_LOCKED_OUT 1 n
  if trig && d2.flag F.WM_CFG_TRIG_EN n && !(d2.flag F.WM_STS_STUCK n) then d2.injEvent [d2.rd F.WM_CFG_TRIG_HKA n] else d2

/-- A monitor's comparators take new states: the state, activation and leave follow (R645, R648, R649). -/
def Dev.monSet (d : Dev) (n : Nat) (hi lo : Bool) : Dev :=
  let st := monState hi lo
  let was := d.flag F.WM_STS_ACTIVE n
  let is := d.monActive n st
  let d1 := ((d.setMon n { d.mon n with hi := hi, lo := lo }).wr F.WM_STS_STATE st n).wr F.WM_STS_ACTIVE (b2n is) n
  if is && !was then
    let x := { d1.mon n with activeAt := some d1.now }
    match x.lockout with
    | some _ => (d1.setMon n { x with chat := x.chat + 1 }).bump F.WM_STS_CHATTER n
    | none => (d1.setMon n x).monEvent n 0 true
  else if was && !is then (d1.setMon n { d1.mon n with activeAt := none }).raise 0x105 n st
  else d1

/-- A resolve reading ends (R646). -/
def Dev.resolved (d : Dev) (n c : Nat) : Dev :=
  if !(d.flag F.WM_CFG_EN n) || d.rd F.WM_STS_STATE n != 3 || (d.mon n).blank.isSome then d
  else
    let h := listAt [0, 4, 8, 16] (d.rd F.WM_CFG_HYST n)
    d.monSet n (decide (4 * d.rd F.WM_THR_HIGH n ≤ c + 2 * h)) (decide (c < 4 * d.rd F.WM_THR_LOW n + 2 * h))

/-- A run ends: its count, its flag, and what follows (R659, R665). -/
def Dev.injEnd (d : Dev) (k : Nat) : Dev :=
  ((d.setConv k { d.conv k with inj := none }).bumpWrap F.HK_SEQ_STS_INJ_RUNS k).hkIrq (2 ^ (4 + k))
def Dev.regEnd (d : Dev) (k : Nat) : Dev :=
  ((d.setConv k { d.conv k with reg := none }).bumpWrap F.HK_SEQ_STS_REG_RUNS k).hkIrq (2 ^ k)

/-- The entry word of the conversion in progress; a resolve reading has none of its own (R646). -/
def HkConv.word (c : HkConv) (act : Nat) : Nat :=
  match act with
  | 1 => ((c.reg.getD []).head?.map (fun q => q.2)).getD 0
  | 2 => ((c.inj.map (fun r => r.left)).getD [] |>.head?.map (fun q => q.2)).getD 0
  | _ => 0

/-- The conversion in progress has had its cycles: 32 + 4 × `ACQ_EXT` at 40 MHz, or at 8 MHz in low-power mode (R618, R619). -/
def Dev.converted (d : Dev) (k : Nat) : Bool :=
  let c := d.conv k
  decide ((32 + 4 * entAcq (c.word (d.hkAct k))) * 384 * (if c.lp then 5 else 1) ≤ 125 * (d.now - c.since))

/-- CONVERSION_DONE (R618, R621, R630, R637, R646): the conversion in progress of converter `k` ends with code `raw`, once it has had
its time. -/
def Dev.conversionDone (k raw : Nat) (d : Dev) : Dev :=
  if !(d.converted k) then d else
  let c := d.conv k
  let sw := c.switched
  let d0 := d.setConv k { c with switched := false }
  let raw := min 4095 raw
  match d.hkAct k with
  | 1 =>
    match c.reg with
    | some ((e, w) :: t) =>
      let d1 := d0.hkStore false k e w (d.channelOk (entCh w) && !sw) (d.hkCode (entCh w) raw)
      let d2 := d1.setConv k { d1.conv k with reg := some t }
      (if t.isEmpty then d2.regEnd k else d2).hkNext k
    | _ => d0.hkNext k
  | 2 =>
    match c.inj with
    | some r =>
      match r.left with
      | (e, w) :: t =>
        let ok := d.channelOk (entCh w) && !sw
        if r.cal then
          match d0.hk.step with
          | some st =>
            let st1 := { st with count := st.count + 1, sum := st.sum + raw, bad := st.bad || !ok }
            let d1 : Dev := { d0 with hk := { d0.hk with step := some st1 } }
            let d2 := d1.setConv k { d1.conv k with inj := some { r with left := t } }
            (if t.isEmpty then (d2.injEnd k).burstEnd st1 else d2).hkNext k
          | none => (d0.injEnd k).hkNext k
        else
          let d1 := d0.hkStore true k e w ok (d.hkCode (entCh w) raw)
          let d2 := d1.setConv k { d1.conv k with inj := some { r with left := t } }
          (if t.isEmpty then d2.injEnd k else d2).hkNext k
      | [] => (d0.injEnd k).hkNext k
    | none => d0.hkNext k
  | 3 =>
    match c.reading with
    | some n =>
      let d1 := d0.setConv k { d0.conv k with reading := none, resolve := if sw then n :: c.resolve else c.resolve }
      (if sw then d1 else d1.resolved n (d.hkCode (d.rd F.WM_CFG_AIN n) raw)).hkNext k
    | none => d0.hkNext k
  | _ => d0

/-- CONVERSION_DONE (R618). -/
def execConversionDone (k raw : Nat) (s : State) : Out := unit k 4 (.next (s.onDev (Dev.conversionDone k raw)))

/-- A housekeeping round is due (R624): at a frame boundary of the orbit that gives the rounds, at least 5 ms after the last
start; else 10 ms after it. -/
def Dev.roundDue (d : Dev) : Bool :=
  match d.roundOrbit with
  | some i => decide (d.hk.roundAt + 614400 + d.orbPos i % 1228800 ≤ d.now)
  | none => decide (d.hk.roundAt + 1228800 ≤ d.now)

/-- HK_ROUND_START (R624, R625, R632): a round starts on all four converters. -/
def Dev.roundStart (d : Dev) : Dev :=
  if !d.roundDue then d
  else
  let d1 := ({ d with hk := { d.hk with roundAt := d.now }, pwr := { d.pwr with evalOwed := true, governOwed := true } }).bumpWrap F.HK_ROUND_CNT_COUNT
  d1.each (upTo 4) (fun x k => x.regTrigger k true)

/-- HK_ROUND_START (R624). -/
def execHkRoundStart (s : State) : Out := .next (s.onDev Dev.roundStart)

/-- The period of a converter's timer in 1/100 sample (R664). -/
def Dev.hkPeriod (d : Dev) (k : Nat) : Nat := 12288 * max 10 (d.rd F.HK_TIMER_PERIOD k)

/-- HK_TIMER_EXPIRY (R631, R664): a period of a running timer has passed; a trigger selected in both masks is taken injected first. -/
def Dev.hkTimer (k : Nat) (d0 : Dev) : Dev :=
  let c := d0.conv k
  if !(d0.flag F.HK_TIMER_EN k) || decide (100 * d0.now < c.timerAt + d0.hkPeriod k) then d0
  else
    let d := d0.setConv k { c with timerAt := c.timerAt + d0.hkPeriod k }
    let d1 := if bitAt (d.rd F.HK_CFG_INJ_TRIG k) 1 then d.injEvent [k] else d
    if bitAt (d.rd F.HK_CFG_REG_TRIG k) 1 then d1.regTrigger k false else d1

/-- HK_TIMER_EXPIRY (R664). -/
def execHkTimerExpiry (k : Nat) (s : State) : Out := unit k 4 (.next (s.onDev (Dev.hkTimer k)))

/-- HK_TRIG_EDGE (R625 to R627, R633): pin HK_TRIG_`p` has held a new level for 100 ns. -/
def Dev.hkPin (p : Nat) (falling : Bool) (d : Dev) : Dev :=
  if bitAt (d.rd F.HK_PIN_CFG_POL) p != falling then d
  else
    let d1 := d.injEvent ((upTo 4).filter (fun k => bitAt (d.rd F.HK_CFG_INJ_TRIG k) (2 + p)))
    d1.each ((upTo 4).filter (fun k => bitAt (d.rd F.HK_CFG_REG_TRIG k) (2 + p))) (fun x k => x.regTrigger k false)

/-- HK_TRIG_EDGE (R627). -/
def execHkTrigEdge (p : Nat) (falling : Bool) (s : State) : Out := unit p 4 (.next (s.onDev (Dev.hkPin p falling)))

/-- What a write of `HK_GO` does (R631, R633, R657). -/
def Dev.actHkGo (w : Nat) (d : Dev) : Option Dev :=
  let d1 := d.injEvent ((upTo 4).filter (fun k => bitAt w (4 + k)))
  some (d1.each ((upTo 4).filter (fun k => bitAt w k)) (fun x k => x.regTrigger k false))

/-- REG_GO (R657): a write of `HK_GO` with the bits `m` of `REG_GO`. -/
def execRegGo (p : Path) (m : Nat) (s : State) : Out :=
  .next (s.onDev (fun d => d.write p (hit .HK_GO RD.HK_GO) (m % 16) (Dev.actHkGo (m % 16))))

/-- INJ_GO (R633, R657): a write of `HK_GO` with the bits `m` of `INJ_GO`; one event. -/
def execInjGo (p : Path) (m : Nat) (s : State) : Out :=
  .next (s.onDev (fun d => d.write p (hit .HK_GO RD.HK_GO) (m % 16 * 16) (Dev.actHkGo (m % 16 * 16))))

/-- An `HK_INJECT` transit delivers a trigger to the converters of its mask that select it (R626, R633). -/
def Dev.hkInject (d : Dev) (mask : Nat) : Dev :=
  d.injEvent ((upTo 4).filter (fun k => bitAt mask k && bitAt (d.rd F.HK_CFG_INJ_TRIG k) 0))

/-- A calibration burst is asked of a converter (R637, R638): run, held in the pending slot, or refused. -/
def Dev.calBurst (d : Dev) (st : HkStep) : Dev :=
  let k := st.conv
  if d.flag F.HK_SEQ_STS_PENDING k && (d.conv k).inj.isSome then (d.injBusy k true).calEnd 3
  else
    let d1 := ({ d with hk := { d.hk with step := some st } }).wr F.HK_CAL_STS_BUSY 1
    if (d1.conv k).inj.isSome then d1.injBusy k true
    else
      (d1.setConv k { d1.conv k with inj := some { left := List.replicate 64 (0, st.ain + 15 * 256), cal := true } }).hkKick k

/-- What a write of `HK_CAL_CTL` does (R637, R638, R661). -/
def Dev.actHkCal (p : Path) (w : Nat) (d : Dev) : Option Dev :=
  let d1 := d.putHit p (hit .HK_CAL_CTL RD.HK_CAL_CTL) w
  if !(F.HK_CAL_CTL_GO.hit w) then some d1
  else if d1.hk.step.isSome then some ((d1.wr F.HK_CAL_STS_RESULT 3).hkIrq 1024)
  else
    let ain := d1.rd F.HK_CAL_CTL_AIN
    let k := d1.rd F.HK_CAL_CTL_HKA
    let pt := d1.rd F.HK_CAL_CTL_POINT
    if 47 < ain ∨ 1 < pt then some (d1.calEnd 1)
    else if pt = 1 ∧ (d1.hk.zero.map (fun z => (z.1, z.2.1))) ≠ some (ain, k) then some (d1.calEnd 2)
    else some (d1.calBurst { ain := ain, conv := k, full := pt == 1, target := d1.rd F.HK_CAL_CTL_TARGET })

/-- HK_CAL_ZERO (R637): a write of `HK_CAL_CTL` with `GO` and `POINT` = `ZERO`. -/
def execHkCalZero (p : Path) (w : Nat) (s : State) : Out :=
  let w1 := withBits (withBits w 31 1 1) 12 2 0
  .next (s.onDev (fun d => d.write p (hit .HK_CAL_CTL RD.HK_CAL_CTL) w1 (Dev.actHkCal p w1)))

/-- HK_CAL_FULL (R637): a write of `HK_CAL_CTL` with `GO` and `POINT` = `FULL`. -/
def execHkCalFull (p : Path) (w : Nat) (s : State) : Out :=
  let w1 := withBits (withBits w 31 1 1) 12 2 1
  .next (s.onDev (fun d => d.write p (hit .HK_CAL_CTL RD.HK_CAL_CTL) w1 (Dev.actHkCal p w1)))

/-- Every `HK_` and `WM_` counter clears (R654). -/
def Dev.hkClear (d : Dev) : Dev :=
  let d1 := d.wr F.HK_ROUND_CNT_COUNT 0
  let d2 := d1.each (upTo 4) (fun x k => x.zero [F.HK_CNT_ROUND_MISS, F.HK_CNT_INJ_OVR, F.HK_CNT_REG_OVR] k)
  d2.each (upTo 16) (fun x n => x.zero [F.WM_STS_CHATTER, F.WM_STS_EVENTS] n)

/-- What a write of `HK_CTL` does (R654). -/
def Dev.actHkCtl (p : Path) (w : Nat) (d : Dev) : Option Dev :=
  let d1 := d.putHit p (hit .HK_CTL RD.HK_CTL) w
  some (if F.HK_CTL_CLR_CNT.hit w then d1.hkClear else d1)

/-- HK_CLR_CNT (R654). -/
def execHkClrCnt (p : Path) (w : Nat) (s : State) : Out :=
  let w1 := withBits w 0 1 1
  .next (s.onDev (fun d => d.write p (hit .HK_CTL RD.HK_CTL) w1 (Dev.actHkCtl p w1)))

/-- What a write of `HK_TIMER_k` does (R664): the first period begins as `EN` is set. -/
def Dev.actHkTimer (p : Path) (k w : Nat) (d : Dev) : Option Dev :=
  let d1 := d.putHit p (hit .HK_TIMER RD.HK_TIMER k) w
  some (if !(d.flag F.HK_TIMER_EN k) && d1.flag F.HK_TIMER_EN k then d1.setConv k { d1.conv k with timerAt := 100 * d1.now } else d1)

/-- What a write of `HK_CFG_k` does (R619, R663). -/
def Dev.actHkCfg (p : Path) (k w : Nat) (d : Dev) : Option Dev := some ((d.putHit p (hit .HK_CFG RD.HK_CFG k) w).hkMode k)

/-- The unit that an entry of a converter names, over all entries but one (R640). -/
def Dev.unitTaken (d : Dev) (k f : Nat) (inj : Bool) (e : Nat) : Bool :=
  (upTo 22).any (fun q => (inj || 10 + q != e) && entFilt (d.word RD.HK_REG k (10 + q)) == some f) ||
    (upTo 8).any (fun q => (!inj || q != e) && entFilt (d.word RD.HK_INJ k q) == some f)

/-- A unit restarts at its sequence's next start (R643, R652). -/
def Dev.filtDirty (d : Dev) (k : Nat) (f : Option Nat) : Dev :=
  match f with
  | none => d
  | some f =>
    let c := d.conv k
    let u : HkFilt := tabGet {} c.filts f
    let v : HkFilt := { u with dirty := true }
    d.setConv k { c with filts := tabSet {} c.filts f v }

/-- What a write of an entry does (R623, R640, R643, R668): system entries are read-only, and two entries never name one
unit. -/
def Dev.actHkEntry (p : Path) (inj : Bool) (k e w : Nat) (d : Dev) : Option Dev :=
  if !inj && decide (e < 10) then some d
  else if ((entFilt w).map (fun f => d.unitTaken k f inj e)).getD false then none
  else
    let h := if inj then hit .HK_INJ RD.HK_INJ k e else hit .HK_REG RD.HK_REG k e
    let old := entFilt (d.word h.desc k e)
    some ((((d.putHit p h w).filtDirty k old).filtDirty k (entFilt w)))

/-- What a write of `HK_FILT_k_f` does (R643, R670). -/
def Dev.actHkFilt (p : Path) (k f w : Nat) (d : Dev) : Option Dev :=
  some ((d.putHit p (hit .HK_FILT RD.HK_FILT k f) w).filtDirty k (some f))

/-- What a write of `HK_IRQ_CFG` does (R660): a bit already set that becomes enabled raises the vector. -/
def Dev.actHkIrqCfg (p : Path) (w : Nat) (d : Dev) : Option Dev :=
  let old := d.word RD.HK_IRQ &&& d.rd F.HK_IRQ_CFG_IRQ_MASK
  let d1 := d.putHit p (hit .HK_IRQ_CFG RD.HK_IRQ_CFG) w
  let new := d1.word RD.HK_IRQ &&& d1.rd F.HK_IRQ_CFG_IRQ_MASK
  some (if (new ||| old) != old && d1.coreOn then d1.msi (d1.rd F.HK_IRQ_CFG_IRQ_VEC) else d1)

/-- The housekeeping clock switches source: every conversion in progress ends invalid (R621, R652). -/
def Dev.hkClockSwitch (d : Dev) : Dev :=
  d.each (upTo 4) (fun x k => if x.hkAct k = 0 then x else x.setConv k { x.conv k with switched := true })

/-- The compute die powers on or off (R619, R652, R660): modes follow at the next idle, and on power-on a bit set and enabled
raises the vector. -/
def Dev.hkCoreChange (d : Dev) : Dev :=
  let d1 := d.each (upTo 4) Dev.hkMode
  if d1.coreOn && (d1.word RD.HK_IRQ &&& d1.rd F.HK_IRQ_CFG_IRQ_MASK) != 0 then d1.msi (d1.rd F.HK_IRQ_CFG_IRQ_VEC) else d1

/-- A settling sequence starts (R646): blanking, a resolve reading that waits is dropped. -/
def Dev.monSettle (d : Dev) (n : Nat) : Dev :=
  let d1 := d.each (upTo 4) (fun x k => x.setConv k { x.conv k with resolve := (x.conv k).resolve.filter (fun q => q != n) })
  (d1.setMon n { d1.mon n with blank := some d1.now, activeAt := none }).wr F.WM_STS_ACTIVE 0 n

/-- A monitor is disabled (R652). -/
def Dev.monOff (d : Dev) (n : Nat) : Dev :=
  let d1 := d.monSettle n
  ((d1.setMon n {}).wr F.WM_STS_STATE 0 n).wr F.WM_STS_LOCKED_OUT 0 n

/-- What a write of `WM_CFG_n` does (R646, R650, R652, R672). -/
def Dev.actWmCfg (p : Path) (n w : Nat) (d : Dev) : Option Dev :=
  if 47 < F.WM_CFG_AIN.of w then none
  else
    let was := d.flag F.WM_CFG_EN n
    let on := F.WM_CFG_EN.hit w
    let d1 := d.putHit p (hit .WM_CFG RD.WM_CFG n) w
    let d2 := if on && !was then d1.monSettle n else if was && !on then d1.monOff n else d1
    if F.WM_CFG_REARM.hit w then
      let x := d2.mon n
      some ((d2.wr F.WM_STS_STUCK 0 n).setMon n { x with activeAt := x.activeAt.map (fun _ => d2.now) })
    else some d2

/-- A write of `WM_CFG_n`. -/
def wmCfgWrite (p : Path) (n w : Nat) (s : State) : Out :=
  unit n 16 (.next (s.onDev (fun d => d.write p (hit .WM_CFG RD.WM_CFG n) w (Dev.actWmCfg p n w))))

/-- WM_ENABLE (R646): a write of `WM_CFG_n`, its `EN` set or cleared. -/
def execWmEnable (p : Path) (n w : Nat) (s : State) : Out := wmCfgWrite p n w s

/-- WM_REARM (R650): a write of `WM_CFG_n` with `REARM`. -/
def execWmRearm (p : Path) (n w : Nat) (s : State) : Out := wmCfgWrite p n (withBits w 30 1 1) s

/-- What a write of `WM_THR_n` does (R645, R646). -/
def Dev.actWmThr (p : Path) (n w : Nat) (d : Dev) : Option Dev :=
  if F.WM_THR_HIGH.of w ≤ F.WM_THR_LOW.of w then none
  else
    let d1 := d.putHit p (hit .WM_THR RD.WM_THR n) w
    some (if d1.flag F.WM_CFG_EN n then d1.monSettle n else d1)

/-- WM_THR_WRITE (R645). -/
def execWmThrWrite (p : Path) (n w : Nat) (s : State) : Out :=
  unit n 16 (.next (s.onDev (fun d => d.write p (hit .WM_THR RD.WM_THR n) w (Dev.actWmThr p n w))))

/-- WM_BLANK_END (R646): the comparators at their thresholds, and at the thresholds shifted by H. -/
def Dev.blankEnd (n : Nat) (hi hiH lo loH : Bool) (d : Dev) : Dev :=
  match (d.mon n).blank with
  | none => d
  | some b =>
    if (d.now - b) * 100 < 5 * 12288 then d
    else
      let d1 := d.setMon n { d.mon n with blank := none }
      if d1.rd F.WM_CFG_HYST n = 0 ∨ (hi = hiH ∧ lo = loH) then d1.monSet n hi lo
      else
        let k := d1.rd F.WM_CFG_TRIG_HKA n
        let d2 := (d1.wr F.WM_STS_STATE 3 n).raise 0x103 n
        let c := d2.conv k
        let l := c.resolve.filter (fun q => decide (q < n)) ++ [n] ++ c.resolve.filter (fun q => decide (n < q))
        (d2.setConv k { c with resolve := l }).hkKick k

/-- WM_BLANK_END (R646). -/
def execWmBlankEnd (n : Nat) (hi hiH lo loH : Bool) (s : State) : Out :=
  unit n 16 (.next (s.onDev (Dev.blankEnd n hi hiH lo loH)))

/-- WM_CROSSING (R644): the deglitched comparators of an enabled, settled monitor read `hi` and `lo`. -/
def Dev.crossing (n : Nat) (hi lo : Bool) (d : Dev) : Dev :=
  if !(d.flag F.WM_CFG_EN n) || (d.mon n).blank.isSome || d.rd F.WM_STS_STATE n == 3 then d else d.monSet n hi lo

/-- WM_CROSSING (R644). -/
def execWmCrossing (n : Nat) (hi lo : Bool) (s : State) : Out := unit n 16 (.next (s.onDev (Dev.crossing n hi lo)))

/-- WM_LOCKOUT_END (R646, R649): not during blanking. -/
def Dev.wmLockoutEnd (n : Nat) (d : Dev) : Dev :=
  let x := d.mon n
  match x.lockout with
  | none => d
  | some b =>
    if d.now - b < 122880 * max 1 (d.rd F.WM_TIME_LOCKOUT n) || x.blank.isSome then d
    else if x.chat = 0 then (d.setMon n { x with lockout := none }).wr F.WM_STS_LOCKED_OUT 0 n
    else (d.monEvent n x.chat (d.flag F.WM_STS_ACTIVE n)).raise 0x106 n x.chat

/-- WM_LOCKOUT_END (R649). -/
def execWmLockoutEnd (n : Nat) (s : State) : Out := unit n 16 (.next (s.onDev (Dev.wmLockoutEnd n)))

/-- WM_STUCK_EXPIRY (R650). -/
def Dev.wmStuck (n : Nat) (d : Dev) : Dev :=
  let lim := d.rd F.WM_TIME_STUCK_TIME n
  match (d.mon n).activeAt with
  | some b =>
    if lim = 0 ∨ d.flag F.WM_STS_STUCK n ∨ d.now - b ≤ 12288000 * lim then d
    else ((d.wr F.WM_STS_STUCK 1 n).hkIrq 512).raise 0x107 n
  | none => d

/-- WM_STUCK_EXPIRY (R650). -/
def execWmStuckExpiry (n : Nat) (s : State) : Out := unit n 16 (.next (s.onDev (Dev.wmStuck n)))

end Sys2Proof.Machine
end

