-- ==== Sys2Proof/Machine/Orbits.lean ====
section
/-! DEFINITION. Orbit timing: sources, measurements, states, pattern learning (chapter 02, R92 to R123). -/

namespace Sys2Proof.Machine

/-- An orbit's state (R106) and its source (R92). -/
def Dev.orbState (d : Dev) (i : Nat) : Nat := d.rd F.ORB_STS_STATE i
def Dev.orbSrc (d : Dev) (i : Nat) : Nat := d.rd F.ORB_CTL_SRC i

/-- Lock settings with their least values (R150). -/
def Dev.lockCount (d : Dev) (i : Nat) : Nat := max 1 (d.rd F.ORB_LOCK_CFG_LOCK_COUNT i)
def Dev.lockWin (d : Dev) (i : Nat) : Nat := max 1 (d.rd F.ORB_LOCK_CFG_LOCK_WIN i)
def Dev.slewMax (d : Dev) (i : Nat) : Nat := d.rd F.ORB_LOCK_CFG_SLEW_MAX i

/-- A phase error in 1/16 sample brought within half a frame. -/
def wrapErr (e : Int) : Int :=
  let r := e % 19660800
  if 9830400 ≤ r then r - 19660800 else r

/-- The points that a line is fitted through: sample counts and positions against the sample count, from the first (R107). -/
def fitPoints : List (Nat × Int) → List (Int × Int)
  | [] => []
  | (t0, y0) :: l => (0, 0) :: l.map (fun p => ((p.1 - t0 : Nat), wrapErr (p.2 - y0)))

/-- Sums of a line fit by least squares: the slope's numerator and denominator (R107). -/
def fitSlope (l : List (Int × Int)) : Int × Int :=
  let n : Int := l.length
  let st := l.foldl (fun a p => a + p.1) 0
  let sy := l.foldl (fun a p => a + p.2) 0
  let sty := l.foldl (fun a p => a + p.1 * p.2) 0
  let stt := l.foldl (fun a p => a + p.1 * p.1) 0
  (n * sty - st * sy, n * stt - st * st)

/-- Every point lies within `w` 1/16 samples of the fitted line (R107). -/
def fitAgrees (l : List (Int × Int)) (w : Nat) : Bool :=
  let n : Int := l.length
  let s := fitSlope l
  let st := l.foldl (fun a p => a + p.1) 0
  let sy := l.foldl (fun a p => a + p.2) 0
  l.all (fun p => decide (absI (s.2 * (n * p.2 - sy) - s.1 * (n * p.1 - st)) ≤ (w : Int) * n * s.2))

/-- The frequency of the fitted line in units of 1/1,024 ppb (R157); none where no two points differ in time. -/
def fitFreq (l : List (Int × Int)) : Option Int :=
  let s := fitSlope l
  if s.2 ≤ 0 then none else some (divNear (s.1 * 64000000000) s.2.toNat)

/-- 100 ppm in units of 1/1,024 ppb (R101). -/
def freqLimit : Int := 102400000

/-- The newest `n` of a list kept oldest first. -/
def lastOf {α : Type} (n : Nat) (l : List α) : List α := l.drop (l.length - n)

/-- The loss of an orbit's timing: both directions of every TDD slice are muted, their surveys abandoned (R112, R467). -/
def Dev.orbitMute (d : Dev) (i : Nat) : Dev :=
  let d1 := d.setOrb i { d.orb i with lossMute := true, muteEnd := none }
  (d1.each (d1.tddOn i) (fun x n =>
    (x.each (x.streamsOf n) (fun y m => y.setCause 2 m)).surveyAbandon n)).faultPin

/-- The first position at or after another at which a frame starts. -/
def frameAtOrAfter (p : Nat) : Nat := (p + 1228799) / 1228800 * 1228800 % orbitSpan

/-- Tick boundaries start at the next orbit frame boundary (R128). -/
def Dev.ticksStart (d : Dev) (i : Nat) : Dev :=
  let o := d.orb i
  d.setOrb i { o with ticks := 1, tickFrom := (o.pos / 1228800 + 1) * 1228800 % orbitSpan, tick := 0, commitAt := [], placed := [] }

/-- An orbit changes state (R106, R108, R112): the cause of an entry to *HOLDOVER* or *LOST*, counts, the record. -/
def Dev.setOrbState (d : Dev) (i st cause : Nat) : Dev :=
  if d.orbState i = st then d
  else
    let d1 := d.wr F.ORB_STS_STATE st i
    let d2 := if st = 3 ∨ st = 4 then d1.wr F.ORB_STS_CAUSE cause i else d1
    let d3 := if st = 3 then d2.bump F.ORB_CNT_HOLDOVERS i else if st = 4 then d2.bump F.ORB_CNT_LOSSES i else d2
    let d4 := d3.raise 0x40 i (st + 256 * cause)
    let o := d4.orb i
    if st = 0 then
      ((d4.wr F.ORB_FREQ_FREQ 0 i).wr F.ORB_STS_FREQ_RANGE 0 i).setOrb i
        { o with hist := [], outside := 0, errs := [], slew := 0, acc := 0, ticks := 0, commitAt := [], placed := [], jobs := [], cell := none,
                 ssbGap := 0 }
    else if st = 1 then d4.setOrb i { o with hist := [], outside := 0, cell := none, measAt := d4.now }
    else if st = 3 then
      d4.setOrb i { o with hist := [], outside := 0, holdAt := d4.now
                           holdU0 := (o.errs.foldl (fun a e => max a e.natAbs) 0) }
    else if st = 4 then
      (d4.setOrb i { o with hist := if cause = 7 then o.hist else [], outside := 0, slew := 0 }).orbitMute i
    else d4

/-- The mute of an orbit loss ends at the first frame boundary at least 10 ms after the relock (R112). -/
def Dev.muteArm (d : Dev) (i : Nat) : Dev :=
  let o := d.orb i
  if o.lossMute then d.setOrb i { o with muteEnd := some (frameAtOrAfter (o.pos + 1228800)) } else d

/-- The gate follows the pattern while the orbit is *LOCKED* or *HOLDOVER* (R138); without a valid bank both directions are
muted in any state (R117). -/
def Dev.gateNow (d : Dev) (i : Nat) : Dev :=
  if !(d.patternValid i) then d.setOrb i { d.orb i with gate := 3 }
  else if d.orbState i = 2 ∨ d.orbState i = 3 then d.setOrb i { d.orb i with gate := d.gateAt i (d.orbPos i) } else d

/-- `n` occurrences of an entry are counted in `MISSED`; of one without an action none is (R134). -/
def Dev.missCount (d : Dev) (i e n : Nat) : Dev :=
  if d.rd F.TRN_ENT0_ACTION i e = 0 then d else d.bumpBy n F.TRN_CNT_MISSED i

/-- After a forward step: a one-shot entry whose position was passed executes late, every periodic occurrence passed is
dropped and counted (R139). `step` is the length of the step. -/
def Dev.catchUp (d : Dev) (i step : Nat) : Dev :=
  let o := d.orb i
  let passed := o.due.filter (fun q => decide (0 < ahead q.2.take o.pos) && decide (ahead q.2.take o.pos ≤ step))
  passed.foldl (fun x q =>
    let per := x.rd F.TRN_ENT1_PERIOD i q.1 * 61440
    let y := x.orb i
    if per = 0 then x.setOrb i { y with due := tabPut y.due q.1 { q.2 with take := y.pos, late := true } }
    else
      let k := (ahead q.2.base y.pos) / per + 1
      let nb := (q.2.base + k * per) % orbitSpan
      (x.missCount i q.1 k).setOrb i { y with due := tabPut y.due q.1 { base := nb, take := nb } }) d

/-- The orbit enters *LOCKED* with a step to the nearest frame boundary that the measurements imply (R103). The phase errors
of R109 go on against the stepped position. -/
def Dev.lockStep (d : Dev) (i : Nat) (e : Int) : Dev :=
  let step := divNear e 16
  let o := d.orb i
  let pos := ((o.pos + step) % (orbitSpan : Int)).toNat
  let errs := (o.hist.map (fun q => wrapErr (q.2 - 16 * ((pos : Int) - d.now)))).reverse
  let d0 := d.chainsSpoil (d.allStreams.filter (fun m => d.orbitOf m == i))
  let d1 := (d0.setOrb i { o with pos := pos, slew := 0, errs := errs }).bump F.ORB_CNT_STEPS i
  let d2 := (((d1.setOrbState i 2 0).ticksStart i).muteArm i).gateNow i
  if 0 < step then d2.catchUp i step.toNat else d2

/-- The frequency estimate of the fitted line comes into force, or lies out of range (R101). Measurements that give no line
leave the estimate as it is. -/
def Dev.freqSet (d : Dev) (i : Nat) (l : List (Nat × Int)) : Dev :=
  match fitFreq (fitPoints l) with
  | none => d.wr F.ORB_STS_FREQ_RANGE 0 i
  | some f =>
    let out := decide (f < -freqLimit) || decide (freqLimit < f)
    (d.wrS F.ORB_FREQ_FREQ (clampInt (-freqLimit) freqLimit f) i).wr F.ORB_STS_FREQ_RANGE (b2n out) i

/-- A measurement while searching (R107, R108): the last `LOCK_COUNT` measurements meet the criterion where they agree. In
*ACQUIRE* the third in a row that does not agree with those before it restarts the count with itself. -/
def Dev.searchStep (d : Dev) (i : Nat) (e y : Int) : Dev :=
  let o := d.orb i
  let n := d.lockCount i
  let run := lastOf n (o.hist ++ [(d.now, y)])
  let errs := (e :: o.errs).take n
  if !(fitAgrees (fitPoints run) (16 * d.lockWin i)) then
    if d.orbState i = 1 ∧ o.outside = 2 then d.setOrb i { o with outside := 0, hist := [(d.now, y)], errs := errs }
    else d.setOrb i { o with outside := min 2 (o.outside + 1), hist := run, errs := errs }
  else
    let d1 := d.setOrb i { o with hist := run, outside := 0, errs := errs }
    if run.length < n then d1
    else
      let d2 := d1.freqSet i run
      if d2.flag F.ORB_STS_FREQ_RANGE i then d2
      else if d2.orbState i = 3 then
        if absI e ≤ 16 * d2.slewMax i then (d2.setOrb i { d2.orb i with slew := divNear e 16 }).setOrbState i 2 0
        else d2.setOrbState i 4 7
      else d2.lockStep i e

/-- A measurement in *LOCKED* (R102, R108). DESIGN CHOICE (log 87): within the window, phase is slewed and the frequency is
fitted anew through the last `LOCK_COUNT` such measurements; one alone gives no frequency. -/
def Dev.trackStep (d : Dev) (i : Nat) (e y : Int) : Dev :=
  let o := d.orb i
  let n := d.lockCount i
  let errs := (e :: o.errs).take n
  if absI e ≤ 16 * (min (d.lockWin i) (d.slewMax i) : Nat) then
    let run := lastOf n (o.hist ++ [(d.now, y)])
    (d.setOrb i { o with errs := errs, outside := 0, hist := run, slew := divNear e 16 }).freqSet i run
  else
    let d1 := d.setOrb i { o with errs := errs, outside := o.outside + 1 }
    if o.outside = 2 then d1.setOrbState i 3 2 else d1

/-- A frame-boundary measurement of the orbit's source (R99, R107, R108): the boundary at counter position `b` in 1/16
sample. -/
def Dev.measured (d : Dev) (i : Nat) (b : Int) : Dev :=
  let e := wrapErr (16 * d.rdS F.ORB_REF_OFS_OFFSET i - b)
  let d1 := (d.wrS F.ORB_ERR_PHASE_ERR (satSigned 16 e) i).setOrb i { d.orb i with measAt := d.now }
  let y := wrapErr (16 * ((d.orbPos i : Int) - d.now) + e)
  match d.orbState i with
  | 0 => d
  | 2 => if d.orbSrc i = 0 then d else d1.trackStep i e y
  | _ => d1.searchStep i e y

/-- The SSB periodicities of R98 in samples. -/
def ssbPeriods : List Nat := [614400, 1228800, 2457600, 4915200, 9830400, 19660800]

/-- A donor source can measure a cell (R95, R96): for `NR_SSB` a supported spacing and Lmax, at `SSB_OFS`, the whole block
inside the slice. PRESUMED (log 88): a block is 240 subcarriers wide. -/
def Dev.cellFits (d : Dev) (i : Nat) (c : SyncCell) : Bool :=
  if d.orbSrc i = 1 then
    (c.scs == 15 || c.scs == 30) && (c.lmax == 4 || c.lmax == 8) && decide (c.ssb < c.lmax) &&
      c.ofs == d.rdS F.ORB_CELL_SSB_OFS i &&
      decide (absI (15 * c.ofs) + 120 * c.scs ≤ ((61440 / 2 ^ (d.donor (d.rd F.ORB_CTL_SRC_SLICE i)).rate : Nat) : Int))
  else c.ofs == 0

/-- The strongest of a list of cells, the first of equals. -/
def strongest : List SyncCell → Option SyncCell
  | [] => none
  | c :: l =>
    match strongest l with
    | some q => if c.power < q.power then some q else some c
    | none => some c

/-- The cell of a search that the source measures (R97): the one configured, else the one tracked, else the strongest. -/
def Dev.cellOf (d : Dev) (i : Nat) (l : List SyncCell) : Option SyncCell :=
  let ok := l.filter (d.cellFits i)
  let want := if d.rd F.ORB_CELL_PCI i ≠ 1023 then some (d.rd F.ORB_CELL_PCI i) else (d.orb i).cell
  match want with
  | some p => ok.find? (fun c => c.pci == p)
  | none => strongest ok

/-- The frame boundary that a cell implies, in 1/16 sample of the counter (R95, R96). -/
def cellBoundary (nr : Bool) (c : SyncCell) : Int :=
  if nr then c.time - 16 * ((Config.ssbStart c.scs c.lmax c.ssb + 614400 * b2n c.half : Nat) : Int) else c.time

/-- The SSB periodicity of R98 nearest to a spacing, from below. -/
def ssbNearest (x : Nat) : Nat := (ssbPeriods.filter (fun p => decide (p ≤ x + p / 4))).foldl max 614400

/-- ORB_MEASUREMENT (R95 to R98, R107, R277): a donor source searches its slice and measures the frame boundary of its cell. -/
def Dev.donorMeasure (i : Nat) (l : List SyncCell) (d : Dev) : Dev :=
  let src := d.orbSrc i
  if !(src == 1 || src == 2) || d.orbState i == 0 || !(d.donorLinkUp (d.rd F.ORB_CTL_SRC_SLICE i)) then d
  else
    match d.cellOf i l with
    | none => d
    | some c =>
      let o := d.orb i
      let gap := ssbNearest (d.now - o.measAt)
      let found := d.orbState i == 1 && !o.hist.isEmpty
      let d1 := d.setOrb i { o with
        ssbGap := if found then (if o.ssbGap = 0 then gap else min o.ssbGap gap) else o.ssbGap }
      let d2 := ((d1.wr F.ORB_STS_PCI c.pci i).wr F.ORB_STS_SFN (if src = 1 then c.sfn else 0) i).measured i
        (cellBoundary (src == 1) c)
      if 2 ≤ d2.orbState i then d2.setOrb i { d2.orb i with cell := some c.pci } else d2

/-- ORB_MEASUREMENT (R107). -/
def execOrbMeasurement (o : Nat) (cells : List SyncCell) (s : State) : Out :=
  unit o 2 (.next (s.onDev (Dev.donorMeasure o cells)))

/-- The expected interval between measurements in samples (R98). DESIGN CHOICE (log 89): an SSB periodicity not yet found
counts as the longest. -/
def Dev.measInterval (d : Dev) (i : Nat) : Nat :=
  match d.orbSrc i with
  | 1 => if (d.orb i).ssbGap = 0 then 19660800 else (d.orb i).ssbGap
  | 2 => 1228800
  | 3 => 122880000
  | _ => 1228800 * max 1 (d.rd F.ORB_SYNC_CFG_PULSE_FRAMES)

/-- A measurement is missing (R107): none has arrived for the expected interval plus `MISS_TIME` frames. -/
def Dev.measLate (d : Dev) (i : Nat) : Bool :=
  decide (d.measInterval i + 1228800 * d.rd F.ORB_LOCK_CFG_MISS_TIME i ≤ d.now - (d.orb i).measAt)

/-- MEASUREMENT_MISSING (R107, R108). -/
def Dev.measMissing (i : Nat) (d : Dev) : Dev :=
  if d.orbSrc i = 0 ∨ !(d.measLate i) then d
  else
    let d1 := d.setOrb i { d.orb i with measAt := d.now }
    match d.orbState i with
    | 1 | 4 => d1.setOrb i { d1.orb i with hist := [], outside := 0 }
    | 2 => d1.setOrbState i 3 1
    | _ => d

/-- MEASUREMENT_MISSING (R107). -/
def execMeasurementMissing (o : Nat) (s : State) : Out := unit o 2 (.next (s.onDev (Dev.measMissing o)))

/-- HOLD_LIMIT_EXPIRY (R108). -/
def Dev.holdLimit (i : Nat) (d : Dev) : Dev :=
  if d.orbState i = 3 ∧ 1228800 * max 1 (d.rd F.ORB_HOLD_CFG_HOLD_LIMIT i) ≤ d.now - (d.orb i).holdAt then d.setOrbState i 4 3
  else d

/-- HOLD_LIMIT_EXPIRY (R108). -/
def execHoldLimitExpiry (o : Nat) (s : State) : Out := unit o 2 (.next (s.onDev (Dev.holdLimit o)))

/-- UNC_LIMIT_EXCEEDED (R109). -/
def Dev.uncLimit (i : Nat) (d : Dev) : Dev :=
  let o := d.orb i
  if d.orbState i = 3 ∧ 16 * 10 ^ 9 * d.rd F.ORB_HOLD_CFG_UNC_LIMIT i <
      o.holdU0 * 10 ^ 9 + 16 * d.rd F.ORB_HOLD_CFG_DRIFT_PPB i * (d.now - o.holdAt) then d.setOrbState i 4 4
  else d

/-- UNC_LIMIT_EXCEEDED (R109). -/
def execUncLimitExceeded (o : Nat) (s : State) : Out := unit o 2 (.next (s.onDev (Dev.uncLimit o)))

/-- ORBIT_MUTE_END (R112): the orbit-loss mute's causes clear. -/
def Dev.orbitMuteEnd (i : Nat) (d : Dev) : Dev :=
  let o := d.orb i
  match o.muteEnd with
  | none => d
  | some p =>
    if !(d.reached i p) then d
    else
      let d1 := d.setOrb i { o with lossMute := false, muteEnd := none }
      (d1.each (d1.tddOn i) (fun x n => x.each (x.streamsOf n) (fun y m => y.clearCause 2 m))).faultPin

/-- ORBIT_MUTE_END (R112). -/
def execOrbitMuteEnd (o : Nat) (s : State) : Out := unit o 2 (.next (s.onDev (Dev.orbitMuteEnd o)))

/-- `REACQUIRE` (R108). -/
def Dev.reacquire (d : Dev) (i : Nat) : Dev :=
  if d.orbSrc i = 0 ∧ d.orbState i = 2 then d
  else
    match d.orbState i with
    | 1 | 4 => d.setOrb i { d.orb i with hist := [], outside := 0 }
    | 2 | 3 => d.setOrbState i 4 6
    | _ => d

/-- The orbit that wants ORB_SYNC_IN (R94). -/
def Dev.wantsPin (d : Dev) (i : Nat) : Bool := d.flag F.ORB_CTL_EN i && (d.orbSrc i == 3 || d.orbSrc i == 4)

/-- ORB_SYNC_IN is released by an orbit that no longer wants it and taken by one that waits, ORB_0 first (R94). -/
def Dev.pinRefresh (d : Dev) : Dev :=
  let d1 := d.each (upTo 2) (fun x i =>
    if (x.orb i).pin && !(x.wantsPin i) then x.setOrb i { x.orb i with pin := false, pinAt := none } else x)
  d1.each (upTo 2) (fun x i =>
    if x.wantsPin i && !((upTo 2).any (fun j => (x.orb j).pin)) then x.setOrb i { x.orb i with pin := true, pinAt := none }
    else x)

/-- An orbit is enabled from *FREE* (R107, R108, R128). -/
def Dev.orbEnable (d : Dev) (i : Nat) : Dev :=
  if d.orbSrc i = 0 then (((d.setOrbState i 2 0).ticksStart i).muteArm i).gateNow i else d.setOrbState i 1 0

/-- An orbit whose pin source is held by the other stays in *ACQUIRE* (R94, R111). DEDUCED (log 90): one that was locked
enters *LOST* first, which mutes its TDD slices. -/
def Dev.pinWait (d : Dev) (i : Nat) : Dev :=
  if d.wantsPin i && !(d.orb i).pin && decide (2 ≤ d.orbState i) then d.setOrbState i 1 0 else d

/-- A changed source tracks no cell yet; other than `NR_SSB` it has no SFN (R96, R97). -/
def Dev.sourceFresh (d : Dev) (i : Nat) : Dev :=
  let d1 := d.setOrb i { d.orb i with cell := none, ssbGap := 0, measAt := d.now }
  if d1.orbSrc i = 1 then d1 else d1.wr F.ORB_STS_SFN 0 i

/-- What a write of `ORB_CTL_i` does (R108, R111, R149). -/
def Dev.actOrbCtl (p : Path) (i w : Nat) (d : Dev) : Option Dev :=
  let old := d.orbSrc i
  let new := if 5 ≤ F.ORB_CTL_SRC.of w then old else F.ORB_CTL_SRC.of w
  let sliceMoves := F.ORB_CTL_SRC_SLICE.of w != d.rd F.ORB_CTL_SRC_SLICE i
  let was := d.flag F.ORB_CTL_EN i
  let on := F.ORB_CTL_EN.hit w
  if was && new == 0 && old != 0 && !(d.tddOn i).isEmpty then none
  else
    let d0 := d.putHit p (hit .ORB_CTL RD.ORB_CTL i) (withBits w 1 3 new)
    let d1 := if old ≠ new ∨ sliceMoves then d0.sourceFresh i else d0
    let d2 :=
      if was && on then
        if old ≠ new ∧ (old = 0 ∨ new = 0) then (d1.setOrbState i 0 0).orbEnable i
        else if old ≠ new ∨ (sliceMoves ∧ (new = 1 ∨ new = 2)) then d1.reacquire i
        else d1
      else if was then d1.setOrbState i 0 0
      else if on then d1.orbEnable i
      else d1
    let d3 := d2.pinRefresh.pinWait i
    let d4 := if F.ORB_CTL_REACQUIRE.hit w then d3.reacquire i else d3
    some (if F.ORB_CTL_CLR_CNT.hit w then
      d4.zero [F.ORB_CNT_STEPS, F.ORB_CNT_LOSSES, F.ORB_CNT_HOLDOVERS, F.ORB_CNT_PIN_CHATTER] i else d4)

/-- A write of `ORB_CTL_i`. -/
def orbCtlWrite (p : Path) (o w : Nat) (s : State) : Out :=
  unit o 2 (.next (s.onDev (fun d => d.write p (hit .ORB_CTL RD.ORB_CTL o) w (Dev.actOrbCtl p o w))))

/-- ORB_CTL_WRITE (R111). -/
def execOrbCtlWrite (p : Path) (o w : Nat) (s : State) : Out := orbCtlWrite p o w s

/-- REACQUIRE (R108). -/
def execReacquire (p : Path) (o w : Nat) (s : State) : Out := orbCtlWrite p o (withBits w 8 1 1) s

/-- ORB_CLR_CNT (R149). -/
def execOrbClrCnt (p : Path) (o w : Nat) (s : State) : Out := orbCtlWrite p o (withBits w 9 1 1) s

/-- What a write of `ORB_CELL_i` does (R111, R153). -/
def Dev.actOrbCell (p : Path) (i w : Nat) (d : Dev) : Option Dev :=
  let old := d.word RD.ORB_CELL i
  let d1 := d.putHit p (hit .ORB_CELL RD.ORB_CELL i) w
  let donor := d.orbSrc i == 1 || d.orbSrc i == 2
  some (if donor && d1.word RD.ORB_CELL i != old then
    (if d.flag F.ORB_CTL_EN i then (d1.sourceFresh i).reacquire i else d1.sourceFresh i) else d1)

/-- ORB_PIN_EDGE (R94, R100): an edge of ORB_SYNC_IN marks a frame boundary of the orbit that holds the pin, or comes too
soon. -/
def Dev.pinEdge (falling : Bool) (d : Dev) : Dev :=
  if falling != d.flag F.ORB_SYNC_CFG_POLARITY then d
  else
    match firstBelow 2 (fun i => (d.orb i).pin) with
    | none => d
    | some i =>
      let o := d.orb i
      let soon := match o.pinAt with
        | some t => decide (2 * (d.now - t) < d.measInterval i)
        | none => false
      if soon then d.bump F.ORB_CNT_PIN_CHATTER i
      else (d.setOrb i { o with pinAt := some d.now }).measured i (16 * (o.pos % 1228800) : Nat)

/-- ORB_PIN_EDGE (R100). -/
def execOrbPinEdge (falling : Bool) (s : State) : Out := .next (s.onDev (Dev.pinEdge falling))

/-- A failure of the sample clock (R110). -/
def Dev.orbitClockFail (d : Dev) : Dev :=
  d.each (upTo 2) (fun x i =>
    if x.orbSrc i = 0 ∨ !(x.flag F.ORB_CTL_EN i) then x
    else
      let x1 := match x.orbState i with
        | 2 | 3 => x.setOrbState i 4 5
        | _ => x.setOrb i { x.orb i with hist := [], outside := 0 }
      ((x1.orb i).due.filter (fun q => x1.rd F.TRN_ENT1_PERIOD i q.1 == 0)).foldl (fun y q =>
        ((y.wr F.TRN_ENT0_EN 0 i q.1).missCount i q.1 1).setOrb i
          { y.orb i with due := tabDel (y.orb i).due q.1 }) x1)

/-- The port streams of an orbit's slices are judged anew for their remote guard, and the gate follows (R114, R214). -/
def Dev.patternChanged (d : Dev) (i : Nat) : Dev :=
  (d.gateNow i).guardCheck ((d.tddOn i).flatMap d.streamsOf)

/-- What a write of `ORB_SLICE_CFG_d` does (R148): a write of 3 is ignored. -/
def Dev.actSliceCfg (p : Path) (n w : Nat) (d : Dev) : Option Dev :=
  if F.ORB_SLICE_CFG_SCS.of w = 3 then some d
  else some ((d.putHit p (hit .ORB_SLICE_CFG RD.ORB_SLICE_CFG n) w).patternChanged (d.donor n).orbit)

/-- What a write of a pattern bank does (R113): only the standby bank may be written. -/
def Dev.actTddBank (p : Path) (h : Hit) (i b w : Nat) (d : Dev) : Option Dev :=
  if d.activeBank i = b then none else some (d.putHit p h w)

/-- What a write of `ORB_TDD_CTL_i` does (R121, R160). -/
def Dev.actTddCtl (p : Path) (i w : Nat) (d : Dev) : Option Dev :=
  let d1 := d.putHit p (hit .ORB_TDD_CTL RD.ORB_TDD_CTL i) w
  if !(F.ORB_TDD_CTL_LEARN.hit w) || d1.rd F.ORB_TDD_CTL_LEARN_STS i == 1 then some d1
  else
    let o := d1.orb i
    let d2 := d1.setOrb i { o with learning := { slice := d1.rd F.ORB_CTL_SRC_SLICE i, since := d1.now, start := o.pos } }
    some (d2.wr F.ORB_TDD_CTL_LEARN_STS (if d1.orbState i = 2 then 1 else 6) i)

/-- LEARN (R121): a write of `ORB_TDD_CTL_i` with `LEARN`. -/
def execLearn (p : Path) (o w : Nat) (s : State) : Out :=
  let w1 := withBits w 9 1 1
  unit o 2 (.next (s.onDev (fun d => d.write p (hit .ORB_TDD_CTL RD.ORB_TDD_CTL o) w1 (Dev.actTddCtl p o w1))))

/-- An entry of a list read round and round. -/
def cyc (l : List Bool) (k : Nat) : Bool := (l[k % max 1 l.length]?).getD false

/-- The classification of symbol `k` of a period (R122): 0 `DL`, 2 `GUARD`, 1 `UL`. -/
def learnType (l : List Bool) (g k : Nat) : Nat :=
  if cyc l k then 0
  else if (upTo (min g l.length)).any (fun j => cyc l (k + l.length - (j + 1) % max 1 l.length)) then 2 else 1

/-- The start of symbol `k` of a subcarrier spacing (R120). -/
def symbolStart (scs k : Nat) : Nat :=
  let n := 7 * 2 ^ scs
  k / n * 61440 + (if k % n = 0 then 0 else symFirst scs + (k % n - 1) * symNext scs)

/-- Segments where the classification changes. -/
def learnSegs : List (Nat × Nat) → Option Nat → List (Nat × Nat)
  | [], _ => []
  | (t, a) :: l, prev => if prev = some t then learnSegs l prev else (t, a) :: learnSegs l (some t)

/-- The power of symbol `k` of half millisecond `h` of a run exceeds the noise floor by `thr` dB (R122). -/
def LearnRun.loud (r : LearnRun) (thr h k : Nat) : Bool :=
  let q := 28 * h + k
  decide (tabGet 0 r.heard q * Config.noiseFloor r.slice r.since * dbAmp (512 * thr) < tabGet 0 r.energy q * 2 ^ 40)

/-- Symbol `k` of a period of `q` half milliseconds is `DL` in the periods `ps` (R122): it is loud in at least 5 % of them. -/
def learnDl (loud : Nat → Nat → Bool) (n q : Nat) (ps : List Nat) (k : Nat) : Bool :=
  let hits := (ps.filter (fun p => loud (p * q + k / n) (k % n))).length
  decide (ps.length ≤ 20 * hits) && decide (0 < hits)

/-- The period and segments that a run gives: the shortest period of R115, in half milliseconds, for which the classification is the
same in every one of its periods within 20 ms (R122). The half milliseconds observed whole are those from `lo` to before `hi`. -/
def learnResult (scs g : Nat) (loud : Nat → Nat → Bool) (lo hi : Nat) : Option (Nat × List (Nat × Nat)) :=
  let n := 7 * 2 ^ scs
  let seen := fun (q : Nat) => (upTo (hi / q)).filter (fun p => decide (lo ≤ p * q))
  let all := fun (q : Nat) => (upTo (q * n)).map (learnDl loud n q (seen q))
  let steady := fun (q : Nat) => (upTo (40 / q)).all (fun w =>
    let ps := (seen q).filter (fun p => p % (40 / q) == w)
    ps.isEmpty || (upTo (q * n)).map (learnDl loud n q ps) == all q)
  match [1, 2, 4, 5, 10, 20, 40].find? steady with
  | none => none
  | some q =>
    let one := all q
    let segs := learnSegs ((upTo (q * n)).map (fun k => (learnType one g k, symbolStart scs k))) none
    if 32 < segs.length then none else some (q * 61440, segs)

/-- A learning result is written to the standby bank (R123). -/
def Dev.bankPut (d : Dev) (i : Nat) (r : Nat × List (Nat × Nat)) : Dev :=
  let b := 1 - d.activeBank i
  (d.wr F.ORB_TDD_PER_PERIOD r.1 i b).each (upTo 32) (fun x k =>
    match r.2[k]? with
    | some (t, a) => (x.wr F.ORB_TDD_SEG_TYPE t i b k).wr F.ORB_TDD_SEG_START a i b k
    | none => (x.wr F.ORB_TDD_SEG_TYPE 3 i b k).wr F.ORB_TDD_SEG_START 0 i b k)

/-- LEARN_RUN_END (R121 to R123): the run's `LEARN_FRAMES` frames have passed. DESIGN CHOICE (log 91): a run goes on to its result where
the orbit leaves *LOCKED* before its end; after the second run of a pair the next is a first one again. -/
def Dev.learnEnd (i : Nat) (d : Dev) : Dev :=
  let o := d.orb i
  let r := o.learning
  let frames := max 1 (d.rd F.ORB_TDD_CTL_LEARN_FRAMES i)
  if d.rd F.ORB_TDD_CTL_LEARN_STS i ≠ 1 ∨ d.now - r.since < frames * 1228800 then d
  else
    let scs := d.rd F.ORB_SLICE_CFG_SCS r.slice
    let lo := r.start % 2457600
    match learnResult scs (d.rd F.ORB_TDD_CTL_LEARN_GUARD i) (r.loud (max 1 (d.rd F.ORB_TDD_CTL_LEARN_THR i)))
        ((lo + 61439) / 61440) ((lo + frames * 1228800) / 61440) with
    | none => (d.setOrb i { o with learned := none }).wr F.ORB_TDD_CTL_LEARN_STS 5 i
    | some r =>
      let d1 := d.bankPut i r
      match o.learned with
      | none => (d1.setOrb i { o with learned := some r }).wr F.ORB_TDD_CTL_LEARN_STS 2 i
      | some q =>
        let same := q == r
        let next := (o.pos / 1228800 + 1) * 1228800 % orbitSpan
        (d1.setOrb i { o with learned := none
                              adopt := if same && d.flag F.ORB_TDD_CTL_AUTO_ADOPT i then some next else none }).wr
          F.ORB_TDD_CTL_LEARN_STS (if same then 3 else 4) i

/-- LEARN_RUN_END (R123). -/
def execLearnRunEnd (o : Nat) (s : State) : Out :=
  unit o 2 (.next (s.onDev (Dev.learnEnd o)))

/-- The standby bank becomes active (R113, R133). -/
def Dev.bankSwap (d : Dev) (i : Nat) : Dev :=
  (d.wr F.ORB_TDD_CTL_ACTIVE_BANK (1 - d.activeBank i) i).patternChanged i

end Sys2Proof.Machine
end

