-- ==== Sys2Proof/Machine/Transits.lean ====
section
/-! DEFINITION. The transit table: writing entries, order, conflicts and the actions (chapter 02, R131 to R145). -/

namespace Sys2Proof.Machine

/-- A due position lies up to 32,767 frames ahead (R135). -/
def inFuture (pos base : Nat) : Bool := decide (ahead pos base ≤ 32767 * 1228800)

/-- The streams that a `GAIN_COMMIT` entry commits (R133). -/
def Dev.gainTargets (d : Dev) (i n : Nat) : List Nat :=
  let t := d.rd F.TRN_ENT2_TARGET i n % 4096
  if t = 4095 then (d.slicesOn i).flatMap d.streamsOf else if t < 2048 ∧ d.has t ∧ d.orbitOf t = i then [t] else []

/-- How many samples before its due position an entry executes first (R127, R298, R342): the largest lead of the streams that
it commits, and the path of an on-board station. -/
def Dev.entryLead (d : Dev) (i n : Nat) : Nat :=
  match d.rd F.TRN_ENT0_ACTION i n with
  | 1 => (d.gainTargets i n).foldl (fun a m => max a ((d.commitLead m + 15) / 16).toNat) 0
  | 2 => let t := d.rd F.TRN_ENT2_TARGET i n % 4096; if t < 8 then d.stnPath t else 0
  | _ => 0

/-- The position less a lead. -/
def before (p lead : Nat) : Nat := (p + orbitSpan - lead % orbitSpan) % orbitSpan

/-- When an entry is taken that is due at `base` and executes `lead` samples earlier (R136): at its due sample, or where that
lies less than 256 samples ahead at the first sample the scheduler can take it, which the spec leaves open within 256
samples. -/
def Dev.takeAt (d : Dev) (i base lead : Nat) : TrnDue × Dev :=
  let pos := d.orbPos i
  let e := before base lead
  if 256 ≤ ahead pos e ∧ !(d.reached i e) then ({ base := base, take := base }, d)
  else
    let v := d.draw
    let first := v.1 % 257
    if !(d.reached i e) ∧ first ≤ ahead pos e then ({ base := base, take := base }, v.2)
    else ({ base := base, take := (pos + first + lead) % orbitSpan, late := decide (first ≠ 0) || decide (e ≠ pos) }, v.2)

/-- An entry that is written into the table with `EN` falls due (R134 to R137). -/
def Dev.trnArm (d : Dev) (i n : Nat) : Dev :=
  let o := d.orb i
  let clear := d.setOrb i { o with due := tabDel o.due n }
  if !(d.flag F.TRN_ENT0_EN i n) then clear
  else
    let base := d.rd F.TRN_ENT1_FRAME i n * 1228800 + d.rd F.TRN_ENT0_SAMPLE i n
    let per := d.rd F.TRN_ENT1_PERIOD i n * 61440
    if per = 0 ∧ !(inFuture o.pos base) then (clear.wr F.TRN_ENT0_EN 0 i n).missCount i n 1
    else
      let nb := if inFuture o.pos base then base else (base + (ahead base o.pos + per - 1) / per * per) % orbitSpan
      let r := d.takeAt i nb (d.entryLead i n)
      let o1 := r.2.orb i
      r.2.setOrb i { o1 with due := tabPut o1.due n r.1 }

/-- What a write of a transit entry's word does (R131, R132, R134, R140): words 1 to 3 are staged, word 0 moves all four. -/
def Dev.actTrnWord (p : Path) (i n k w : Nat) (d : Dev) : Option Dev :=
  if 192 ≤ n then some d
  else if k ≠ 0 then
    let o := d.orb i
    some (d.setOrb i { o with stage := tabPut o.stage (4 * n + k) w })
  else if 1228800 ≤ F.TRN_ENT0_SAMPLE.of w then none
  else if F.TRN_ENT0_ACTION.of w = 5 ∧ F.TRN_ENT0_SAMPLE.of w ≠ 0 then none
  else
    let o := d.orb i
    let st := fun q cur => tabGet cur o.stage (4 * n + q)
    let d1 := (d.putHit p (hit .TRN_ENT0 RD.TRN_ENT0 i n) w).putHit p (hit .TRN_ENT1 RD.TRN_ENT1 i n)
      (st 1 (d.word RD.TRN_ENT1 i n))
    let d2 := (d1.putHit p (hit .TRN_ENT2 RD.TRN_ENT2 i n) (st 2 (d.word RD.TRN_ENT2 i n))).putHit p
      (hit .TRN_ENT3 RD.TRN_ENT3 i n) (st 3 (d.word RD.TRN_ENT3 i n))
    let o2 := d2.orb i
    some ((d2.setOrb i { o2 with stage := tabDel (tabDel (tabDel o2.stage (4 * n + 1)) (4 * n + 2)) (4 * n + 3) }).trnArm i n)

/-- TRN_ENTRY_WRITE (R132): a write of word 0 of entry `n`. -/
def execTrnEntryWrite (p : Path) (o n w : Nat) (s : State) : Out :=
  unit o 2 (unit n 256 (.next (s.onDev (fun d =>
    d.write p (hit .TRN_ENT0 RD.TRN_ENT0 o n) w (Dev.actTrnWord p o n 0 w)))))

/-- What a write of `TRN_CTL_i` does (R164). -/
def Dev.actTrnCtl (p : Path) (i w : Nat) (d : Dev) : Option Dev :=
  let d1 := d.putHit p (hit .TRN_CTL RD.TRN_CTL i) w
  some (if F.TRN_CTL_CLR_CNT.hit w then d1.zero [F.TRN_CNT_CONFLICT, F.TRN_CNT_MISSED, F.TRN_CNT_LATE] i else d1)

/-- TRN_CLR_CNT (R164). -/
def execTrnClrCnt (p : Path) (o w : Nat) (s : State) : Out :=
  let w1 := withBits w 1 1 1
  unit o 2 (.next (s.onDev (fun d => d.write p (hit .TRN_CTL RD.TRN_CTL o) w1 (Dev.actTrnCtl p o w1))))

/-- The class of an action (R142). -/
def trnClass (a : Nat) : Nat :=
  match a with
  | 5 => 1
  | 2 => 3
  | 1 => 5
  | 3 => 6
  | 4 => 7
  | _ => 8

/-- An entry's place in the order of execution (R142, R144): earlier due samples first, then entries moved, in the order in
which they were moved, then class and index. -/
def Dev.trnKey (d : Dev) (i n : Nat) (q : TrnDue) : Nat × Nat × Nat :=
  (orbitSpan - ahead q.take (d.orbPos i),
    match q.moved with
    | some k => (0, k)
    | none => (trnClass (d.rd F.TRN_ENT0_ACTION i n), n))

/-- One place comes before another. -/
def keyBefore (a b : Nat × Nat × Nat) : Bool :=
  decide (a.1 < b.1) || (a.1 == b.1 && (decide (a.2.1 < b.2.1) || (a.2.1 == b.2.1 && decide (a.2.2 < b.2.2))))

/-- An entry has fallen due: its position less its lead has been reached (R104, R127). -/
def Dev.trnDue (d : Dev) (i n : Nat) (q : TrnDue) : Bool := d.reached i (before q.take (d.entryLead i n))

/-- The entry is the next to be taken among those due (R142, R144). -/
def Dev.trnFirst (d : Dev) (i n : Nat) (q : TrnDue) : Bool :=
  (d.orb i).due.all (fun r => r.1 == n || !(d.trnDue i r.1 r.2) || d.rd F.TRN_ENT0_ACTION i r.1 == 0 ||
    decide (8 ≤ d.rd F.TRN_ENT0_ACTION i r.1) || !(keyBefore (d.trnKey i r.1 r.2) (d.trnKey i n q)))

/-- An occurrence is over: a one-shot entry clears `EN`, a periodic one moves to its next due position (R134). -/
def Dev.trnOver (d : Dev) (i n : Nat) (q : TrnDue) : Dev :=
  let per := d.rd F.TRN_ENT1_PERIOD i n * 61440
  let o := d.orb i
  if per = 0 then (d.setOrb i { o with due := tabDel o.due n }).wr F.TRN_ENT0_EN 0 i n
  else
    let nb := (q.base + per) % orbitSpan
    d.setOrb i { o with due := tabPut o.due n { base := nb, take := nb } }

/-- An occurrence that does not execute is counted (R138). -/
def Dev.trnMiss (d : Dev) (i n : Nat) (q : TrnDue) : Dev := (d.trnOver i n q).missCount i n 1

/-- The migration may switch now (R46, R49, R138, R145): outside *FREE* on a TDL frame boundary, inside an eclipse window, on a
symbol boundary, or on any where the old processor has failed. -/
def Dev.migMay (d : Dev) (m phase : Nat) : Bool :=
  let i := d.orbitOf m
  let pos := d.orbPos i
  d.orbState i != 0 && d.sinceFrame == 0 &&
    match phase with
    | 3 => d.inEclipse i pos
    | 4 => isSymbol (d.rd F.ORB_SLICE_CFG_SCS (d.dsliceOf m)) pos
    | 7 | 8 | 9 => true
    | _ => false

/-- An internal transit of an orbit of class `c` or a lower one has fallen due and has yet to execute (R142): a pattern swap,
a pattern edge, a migration switch, a commit, a round start. -/
def Dev.internalDue (d : Dev) (i c : Nat) : Bool :=
  let o := d.orb i
  d.orbState i != 0 &&
    ((decide (1 ≤ c) && o.adopt.any (d.reached i)) ||
     (decide (2 ≤ c) && (d.orbState i == 2 || d.orbState i == 3) && o.gate != d.gateAt i o.pos) ||
     (decide (4 ≤ c) && d.mld.migs.any (fun q => d.orbitOf q.1 == i && d.migMay q.1 q.2.phase)) ||
     (decide (5 ≤ c) && o.jobs.any (fun q => d.reached i q.pos)) ||
     (decide (6 ≤ c) && d.roundOrbit == some i && d.roundDue))

/-- A table entry of a class below `c` has fallen due and has yet to execute (R142). -/
def Dev.entryDue (d : Dev) (i c : Nat) : Bool :=
  d.flag F.TRN_CTL_EN i && (d.orb i).due.any (fun q =>
    let a := d.rd F.TRN_ENT0_ACTION i q.1
    a != 0 && decide (a < 8) && decide (trnClass a < c) && d.trnDue i q.1 q.2)

/-- An internal transit of class `c` waits for others of its sample (R142). -/
def Dev.classWaits (d : Dev) (i c : Nat) : Bool := d.internalDue i (c - 1) || d.entryDue i c

/-- What an entry acts on, for the conflicts of R143: pattern swaps of the orbit, captures by descriptor. -/
def Dev.trnTarget (d : Dev) (i n : Nat) : Option (Nat × Nat) :=
  match d.rd F.TRN_ENT0_ACTION i n with
  | 5 => some (5, 0)
  | 4 => some (4, d.rd F.TRN_ENT3_ARG i n % 16)
  | _ => none

/-- A transit's occurrence is not executed for a conflict (R143). -/
def Dev.trnConflict (d : Dev) (i n : Nat) (q : TrnDue) : Dev := ((d.trnOver i n q).bump F.TRN_CNT_CONFLICT i).raise 0x42

/-- What this sample has served, started afresh at a new sample (R143, R144). -/
def Dev.trnSlot (d : Dev) (i : Nat) : Dev :=
  let o := d.orb i
  if o.slotAt = o.pos then d else d.setOrb i { o with slotAt := o.pos, slotCount := 0, slotDone := [] }

/-- Adds targets to those acted on at this sample. -/
def Dev.slotLog (d : Dev) (i : Nat) (l : List (Nat × Nat)) : Dev :=
  let o := d.orb i
  d.setOrb i { o with slotDone := o.slotDone ++ l }

/-- A `GAIN_COMMIT` entry names a stream of the other orbit (R133). -/
def Dev.otherOrbit (d : Dev) (i n : Nat) : Bool :=
  let t := d.rd F.TRN_ENT2_TARGET i n % 4096
  decide (t < 2048) && d.has t && d.orbitOf t != i

/-- A table entry of one action falls due and is taken (R134 to R144): missed, a capture also while the governor defers (R141)
and a gain commit of the other orbit's stream (R133), in conflict, moved past the fourth of its sample, or executed. -/
def Dev.trnFire (d : Dev) (i n a : Nat) (g : Dev → Dev) : Dev :=
  match tabFind (d.orb i).due n with
  | none => d
  | some q =>
    if d.rd F.TRN_ENT0_ACTION i n ≠ a ∨ !(d.trnDue i n q) then d
    else if d.orbState i = 0 ∨ !(d.flag F.TRN_CTL_EN i) ∨ (a = 4 ∧ d.flag F.BGV_STS_DEFER) ∨ (a = 1 ∧ d.otherOrbit i n) then
      d.trnMiss i n q
    else if !(d.trnFirst i n q) || d.internalDue i (trnClass a) then d
    else
      let d1 := d.trnSlot i
      let o := d1.orb i
      let tgt := if q.moved.isSome then none else d1.trnTarget i n
      if tgt.any (fun t => o.slotDone.contains t) then d1.trnConflict i n q
      else
        let d2 := d1.slotLog i tgt.toList
        if 4 ≤ o.slotCount then
          let o2 := d2.orb i
          let moved : TrnDue := { q with take := (o2.pos + 1) % orbitSpan, late := true, moved := some o2.movedSeq }
          (d2.setOrb i { o2 with due := tabPut o2.due n moved, movedSeq := o2.movedSeq + 1 }).wr F.TRN_STS_SLIP 1 i
        else
          let d3 := (d2.setOrb i { d2.orb i with slotCount := o.slotCount + 1 }).trnOver i n q
          let d4 := if q.late then d3.bump F.TRN_CNT_LATE i else d3
          (g d4).wr F.TRN_STS_LAST_ENTRY n i

/-- A due entry without an action, or with a reserved one, is over without execution (R133, R134). -/
def Dev.trnIdle (d : Dev) (i n : Nat) : Dev :=
  match tabFind (d.orb i).due n with
  | none => d
  | some q =>
    let a := d.rd F.TRN_ENT0_ACTION i n
    if !(d.trnDue i n q) then d
    else if a = 0 then d.trnOver i n q
    else if 8 ≤ a then d.trnMiss i n q
    else d

/-- An entry command. -/
def trnCommand (o n : Nat) (g : Dev → Dev) (s : State) : Out := unit o 2 (unit n 256 (.next (s.onDev g)))

/-- TRANSIT_NONE (R134): an entry with `ACTION` = `NONE`, or a reserved one, falls due. -/
def execTransitNone (o n : Nat) (s : State) : Out := trnCommand o n (fun d => d.trnIdle o n) s

/-- One stream's pending bank is committed, once per sample (R143, R348). -/
def Dev.commitOnce (d : Dev) (i m : Nat) : Dev :=
  if (d.orb i).slotDone.contains (1, m) then d else (d.commit m).slotLog i [(1, m)]

/-- A commit of a stream's banks is named at position `p` (R342): it executes at its own position; one commit where another of
the same stream stands there (R143). -/
def Dev.commitName (d : Dev) (i p : Nat) (tick : Bool) (m : Nat) : Dev :=
  let o := d.orb i
  let x := d.commitExec m p
  if o.jobs.any (fun q => q.pos == x && q.stream == m) then
    d.setOrb i { o with jobs := o.jobs.map (fun q => if q.pos = x ∧ q.stream = m then { q with tick := q.tick || tick } else q) }
  else d.setOrb i { o with jobs := o.jobs ++ [{ pos := x, stream := m, tick := tick }] }

/-- `GAIN_COMMIT` (R133): one stream, or every port stream of the orbit, committed at the entry's due position. -/
def Dev.actGainCommit (i n p : Nat) (d : Dev) : Dev := (d.gainTargets i n).foldl (fun x m => x.commitName i p false m) d

/-- A tick commit has executed, for the boundary that has fallen or, where it was placed ahead, for the next (R524). -/
def Dev.markCommitted (d : Dev) (i q : Nat) : Dev :=
  let e := d.eng
  if (d.orb i).placed.contains (if 2080 ≤ q then q - 2080 else d.dsliceOf q) then
    { d with eng := { e with ahead := e.ahead.filter (fun k => k != q) ++ [q] } }
  else { d with eng := { e with committed := e.committed.filter (fun k => k != q) ++ [q] } }

/-- The tick commit of one port stream (R128, R348, R359, R485, R565): its pending bank, its mute and its alignment. -/
def Dev.streamCommit (d : Dev) (i m : Nat) : Dev :=
  let old := ((upTo 256).filter (fun t => d.act m t != d.pend m t)).foldl (fun f t => tabPut f t (d.act m t)) []
  let d1 := ((((d.setStream m { d.stream m with before := old }).commitOnce i m).muteRelease m)).markCommitted i m
  if (d1.stream m).newAdd.isSome then (d1.alignCommit m).guardCheck [m] else d1

/-- The rest of a donor slice's tick commit (R453, R462, R524). -/
def Dev.sliceCommit (d : Dev) (i n : Nat) : Dev := ((d.surveyCommit n).branchCommit n).markCommitted i (2080 + n)

/-- One commit executes. -/
def Dev.jobRun (d : Dev) (i : Nat) (q : CommitJob) : Dev :=
  if 2080 ≤ q.stream then d.sliceCommit i (q.stream - 2080)
  else if q.tick then d.streamCommit i q.stream
  else d.commitOnce i q.stream

/-- The commits of an orbit that have fallen due execute (R142, R342), unless others of their sample go first. -/
def Dev.jobsRun (d : Dev) (i : Nat) : Dev :=
  let o := d.orb i
  let due := o.jobs.filter (fun q => d.reached i q.pos)
  if due.isEmpty || d.classWaits i 5 then d
  else due.foldl (fun x q => x.jobRun i q) ((d.setOrb i { o with jobs := o.jobs.filter (fun q => !(d.reached i q.pos)) }).trnSlot i)

/-- The tick commit of a donor slice is named at position `p` (R128, R342). -/
def Dev.tickName (d : Dev) (i n p : Nat) : Dev :=
  ((d.streamsOf n).foldl (fun x m => x.commitName i p true m) d).commitName i p true (2080 + n)

/-- A `GAIN_COMMIT` entry falls due: its streams commit at their own positions (R342). -/
def Dev.gainCommit (d : Dev) (i n : Nat) : Dev :=
  match tabFind (d.orb i).due n with
  | none => d
  | some q => (d.trnFire i n 1 (Dev.actGainCommit i n q.take)).jobsRun i

/-- GAIN_COMMIT (R348). -/
def execGainCommit (o n : Nat) (s : State) : Out := trnCommand o n (fun d => d.gainCommit o n) s

/-- The stream position that a remote station's command names for orbit position `p` (R188, R202): that of the port's first port
slice that the orbit times (DESIGN CHOICE, log 98); none without one. -/
def Dev.stationPos (d : Dev) (i port p : Nat) : Option Nat :=
  ((d.portStreamsOf port).find? (fun m => d.orbitOf m == i)).map (fun m =>
    (d.streamPos (d.donorOf m) p / 16 % (2 ^ 40 : Nat)).toNat)

/-- The position, as `STN_CMD` carries it (R200): `TIMED`, `LFN`, `SAMPLE`. -/
def stationTime : Option Nat → List Nat
  | none => List.replicate 10 0
  | some x => [1, 0] ++ toOctets 4 (x / 256) ++ [x % 256, 0, 0, 0]

/-- `FES_CMD` for an entry due at orbit position `p` (R133, R200, R202, R298): an on-board station runs its command slot; a remote one is
sent `STN_CMD` with the slot and the named position. What the slot of a remote station holds the spec leaves open (log 98): a
body of the format of R302. -/
def Dev.actFesCmd (i n p : Nat) (d : Dev) : Dev :=
  let t := d.rd F.TRN_ENT2_TARGET i n % 4096
  let k := d.rd F.TRN_ENT3_ARG i n % 16
  if t < 8 then d.stnExec t k (d.slotBody t k)
  else if t < 520 then
    let v := d.draw
    v.2.stnRemote (t - 8) k (stationTime (d.stationPos i ((t - 8) / 4) p)) (bodyOf v.1)
  else d

/-- A `FES_CMD` entry falls due. -/
def Dev.fesCmd (d : Dev) (i n : Nat) : Dev :=
  match tabFind (d.orb i).due n with
  | none => d
  | some q => d.trnFire i n 2 (Dev.actFesCmd i n q.base)

/-- FES_CMD (R298). -/
def execFesCmd (o n : Nat) (s : State) : Out := trnCommand o n (fun d => d.fesCmd o n) s

/-- HK_INJECT (R133, R626). -/
def execHkInject (o n : Nat) (s : State) : Out :=
  trnCommand o n (fun d => d.trnFire o n 3 (fun x => x.hkInject (x.rd F.TRN_ENT2_TARGET o n % 16))) s

/-- CAPTURE (R419). -/
def execCapture (o n : Nat) (s : State) : Out := trnCommand o n (fun d => d.trnFire o n 4 (fun x => x.captureStart (x.rd F.TRN_ENT3_ARG o n % 16))) s

/-- TDD_PAT_SWAP (R133, R140). -/
def execTddPatSwap (o n : Nat) (s : State) : Out :=
  trnCommand o n (fun d => d.trnFire o n 5 (fun x => x.bankSwap o)) s

/-- MARK (R133). -/
def execMark (o n : Nat) (s : State) : Out :=
  trnCommand o n (fun d => d.trnFire o n 6 (fun x => x.raise 0x41 0 (x.rd F.TRN_ENT3_ARG o n))) s

/-- `IRQ` (R133). -/
def Dev.actIrq (i n : Nat) (d : Dev) : Dev :=
  let a := d.rd F.TRN_ENT3_ARG i n
  let d1 := d.msi (a % 64)
  if bitAt a 8 then d1.wr F.SMP_ALERT_STS_TRANSIT 1 else d1

/-- IRQ (R133). -/
def execIrq (o n : Nat) (s : State) : Out := trnCommand o n (fun d => d.trnFire o n 7 (Dev.actIrq o n)) s

/-- INTERNAL_PATTERN_SWAP (R123, R142, R143): an agreed result becomes active at the frame boundary it waits for; an internal
transit goes first, and is dropped in *FREE*. -/
def Dev.internalSwap (i : Nat) (d : Dev) : Dev :=
  let o := d.orb i
  if !(o.adopt.any (d.reached i)) then d
  else
    let d1 := d.setOrb i { o with adopt := none }
    if d1.orbState i = 0 then d1
    else
      let d2 := d1.trnSlot i
      if (d2.orb i).slotDone.contains (5, 0) then (d2.bump F.TRN_CNT_CONFLICT i).raise 0x42
      else (d2.slotLog i [(5, 0)]).bankSwap i

/-- INTERNAL_PATTERN_SWAP (R123). -/
def execInternalPatternSwap (o : Nat) (s : State) : Out := unit o 2 (.next (s.onDev (Dev.internalSwap o)))

/-- PATTERN_EDGE (R119, R138, R142): the gate takes the type of the segment in force, after the pattern swaps of its sample. -/
def execPatternEdge (o : Nat) (s : State) : Out :=
  unit o 2 (.next (s.onDev (fun d => if d.classWaits o 2 then d else d.gateNow o)))

end Sys2Proof.Machine
end

