-- ==== Sys2Proof/Machine/Bringup.lean ====
section
/-! DEFINITION. What bring-up, the clock supervisor and the power controller share: losses of memory, of lanes and of the
compute die, the three kinds of reset, the orderly stop, the clock-failure safe state (R66 to R73, R695 to R711, R748). -/

namespace Sys2Proof.Machine

/-- A lane whose line clock or supply has failed is in signal fail (R227, R703, R729). -/
def Dev.laneFail (d : Dev) (n : Nat) : Dev :=
  if 2 ≤ d.laneState n then d.setLane n 1 1 else d.pairDecide (d.portOfLane n)

/-- What a descriptor's write-back puts into host memory (R827): octets 0 to 3 with `DONE` and `RESULT`. -/
def Dev.dmaBack (d : Dev) (c res : Nat) : Dev :=
  let x := tabGet {} d.hif.chans c
  let w := leAt x.desc 0 4 % 2 ^ 28 + res % 8 * 2 ^ 28 + 2 ^ 31
  { d with hif := { d.hif with dmaOut := d.hif.dmaOut ++ [(x.addr, toOctets 4 w)] } }

/-- A DMA chain ends with a result other than `OK` (R827): `written` says that the host can be reached for the write-back. -/
def Dev.dmaEnd (d : Dev) (c res : Nat) (written : Bool) : Dev :=
  if !(d.flag F.HIF_DMA_STS_BUSY c) then d
  else
    let d0 := if written then d.dmaBack c res else d
    let d1 : Dev := { d0 with hif := { d0.hif with chans := tabDel d0.hif.chans c } }
    (((d1.wr F.HIF_DMA_STS_BUSY 0 c).wr F.HIF_DMA_STS_RESULT res c).raise 0x164 c res).msi (d1.rd F.HIF_DMA_CTL_IRQ_VEC c)

/-- The descriptor names external SDRAM as source or destination (R826). -/
def descSdram (l : List Nat) : Bool := bits (listAt l 0) 2 2 == 1 || bits (listAt l 0) 4 2 == 1

/-- The registers' side of a loss of the SDRAM contents (R832). -/
def Dev.memGone (d : Dev) : Dev :=
  let d1 := ((d.wr F.HIF_MEM_STS_READY 0).wr F.HIF_MEM_STS_LOST 1).wr F.MLD_STAGE_LEN_LENGTH 0
  let d2 := d1.chn.caps.foldl (fun x q => if q.1 < 16 then (x.wr F.MEA_CAP3_BUSY 0 q.1).wr F.MEA_CAP3_RESULT 1 q.1 else x) d1
  let d3 : Dev := { d2 with chn := { d2.chn with caps := [] }, mld := { d2.mld with usbStaged := false } }
  let d4 := d3.each (upTo 8) (fun x c => if descSdram (tabGet {} x.hif.chans c).desc then x.dmaEnd c 2 true else x)
  d4.raise 0x167

/-- The SDRAM contents are lost (R832), where there were any: the memory domain was on. -/
def State.memLost (s : State) : State :=
  if !s.dev.memOn then s else { s with mem := s.mem.sdLose, dev := s.dev.memGone }

/-- Flash octets from `a` upward whose writing was cut off: each reads as an open value. -/
def State.scramble (a n : Nat) (s : State) : State :=
  let l := (upTo n).map (fun k => Config.free (s.dev.draws + k) % 256)
  { s with
    mem := { s.mem with flash := cellsWrite flashBlank s.mem.flash a l }
    dev := { s.dev with draws := s.dev.draws + n } }

/-- The recorder's page program in progress is cut off (R748, R750); `log` says that the journal can still record it. -/
def State.archCut (log : Bool) (s : State) : State :=
  match s.dev.er.archBusy with
  | [] => s
  | (n, r, b) :: rest =>
    let a := flArchive + 64 * n
    let len := if n % 1024 = 0 then 0x10000 else 64 * ((n, r, b) :: rest).length
    let s1 := if log then s.journal 0x22 a len else s
    (s1.scramble a len).onDev (fun d => { d with er := { d.er with archBusy := [] } })

/-- A user flash operation ends (R850, R865). -/
def Dev.flashEnd (d : Dev) (res : Nat) : Dev :=
  (d.wr F.HIF_FLASH_CTL_BUSY 0).wr F.HIF_FLASH_CTL_RESULT res

/-- A flash job is dropped: what it had begun to write is cut off (R748, R750, R852). -/
def State.jobCut (log : Bool) (res : Nat) (j : FlashJob) (s : State) : State :=
  let r := s.jobRange j
  let s1 := if j.begun && (j.slot || j.op == 1 || j.op == 2) then
      (if log then s.journal 0x22 r.1 r.2 else s).scramble r.1 r.2
    else s
  s1.onDev (fun d =>
    if j.slot then { d with mld := { d.mld with writing := none } } else d.flashEnd res)

/-- Every flash operation in progress or waiting is cut off. -/
def State.flashCut (log : Bool) (res : Nat) (s : State) : State :=
  let s1 := s.archCut log
  let s2 := s1.dev.hif.flashJobs.foldl (fun s j => s.jobCut log res j) s1
  s2.onDev (fun d => { d with hif := { d.hif with flashJobs := [] } })

/-- The registers that a core reset spares: the AO registers, and the level of SAFE_N with the forcing it stands beside. -/
def keepsCore (k : Nat) : Bool := aoOffset (k / 8) || k / 32 * 4 == 0xA00008

/-- Every register of the compute and link dies returns to its reset value, and what those dies hold with it (R707). The
always-on die keeps its own, and the failures of slice and loop processors with the map of logical processors (R370,
R550). -/
def Dev.coreWipe (d : Dev) : Dev :=
  { regs := d.regs.filter (fun q => keepsCore q.1), now := d.now, draws := d.draws,
    er := { d.er with archBusy := [] },
    hif := { cpl := d.hif.cpl, usb := d.hif.usb, usbResp := d.hif.usbResp, usbData := d.hif.usbData,
             msiSent := d.hif.msiSent, smp := d.hif.smp, absentAt := d.hif.absentAt },
    hk := d.hk, clk := d.clk, pwr := d.pwr,
    mld := { lpMap := d.mld.lpMap }, slc := { failed := d.slc.failed }, eng := { failed := d.eng.failed },
    prt := { paused := d.flag F.CLK_STS_SAFE && d.prt.paused, pausedAt := d.prt.pausedAt, lost := d.prt.lost }, faultLow := d.faultLow }

/-- The compute die goes off (R707, R711): its monitors stop, and their states read `NONE` and 0. -/
def Dev.coreOff (d : Dev) : Dev :=
  let d1 := d.coreWipe
  let d2 := ((d1.zero [F.CLK_STS_SAMP_STATE, F.CLK_STS_LREF_OK, F.CLK_BOOT_STS_CORE_ON]).wr F.CLK_MEAS_S_VALID 0)
  ({ d2 with clk := { d2.clk with sampGates := 0, lrefAt := [] } }).hkCoreChange.faultPin

/-- A bit of `EVT_IRQ` that is set and enabled raises the vector when the compute die powers on (R808). -/
def Dev.evtCoreUp (d : Dev) : Dev :=
  if (d.word RD.EVT_IRQ &&& d.rd F.EVT_IRQ_CFG_IRQ_MASK) != 0 then d.msi (d.rd F.EVT_IRQ_CFG_IRQ_VEC) else d

/-- The compute die is on once CC_0 to CC_3 are (R727): its sample clock is watched (R699), the TDL frame grid starts
(R177), and a first power-up after an AO reset is one from off (R721). -/
def Dev.coreUp (d : Dev) : Dev :=
  if d.coreOn || !((upTo 4).all d.domOn) then d
  else
    let d1 := (d.wr F.CLK_BOOT_STS_CORE_ON 1).wr F.CLK_STS_SAMP_STATE 1
    let d2 : Dev := { d1 with lnk := { d1.lnk with grid := d1.now }, clk := { d1.clk with sampGates := 0, sampAt := d1.now, cold := false } }
    let d3 := if d.clk.cold then d2.wr F.CLK_RST_CAUSE_CORE_PWR 1 else d2
    d3.evtCoreUp.hkCoreChange.faultPin

/-- `MLD_SEC` and `DONE_MAP` show what OTP holds (R88, R866). -/
def State.otpShow (s : State) : State :=
  s.onDev (fun d =>
    ((((((d.wr F.MLD_SEC_ROLLBACK s.mem.otp.rollback).wr F.MLD_SEC_KEY1_REVOKED (bits s.mem.otp.revoked 1 1)).wr
      F.MLD_SEC_KEY0_REVOKED (bits s.mem.otp.revoked 0 1)).wr F.MLD_SEC_KEY0_SET (bits s.mem.otp.done 0 1)).wr
      F.MLD_SEC_KEY1_SET (bits s.mem.otp.done 1 1)).wr F.HIF_OTP_CTL_DONE_MAP s.mem.otp.done))

/-- A target of OTP takes its contents and counts as programmed (R853, R854). -/
def Otp.put (o : Otp) (t : Nat) (l : List Nat) : Otp :=
  let o1 := { o with done := o.done ||| 2 ^ t }
  match t with
  | 0 => { o1 with key0 := l }
  | 1 => { o1 with key1 := l }
  | 2 => { o1 with clearKey := l }
  | 3 => { o1 with aoFuse := leAt l 0 4 }
  | _ => o1

/-- The programming of OTP is cut off (R857): the target counts as programmed, and what it holds is open. -/
def State.otpCut (s : State) : State :=
  match s.dev.hif.otpRun with
  | none => s
  | some t =>
    let l := (upTo 32).map (fun k => Config.free (s.dev.draws + k) % 256)
    { s with
      mem := { s.mem with otp := s.mem.otp.put t l }
      dev := { s.dev with draws := s.dev.draws + 32, hif := { s.dev.hif with otpRun := none } } }

/-- What the data registers hold for a target after its read-back (R853): `CLEAR_KEY` reads zero. -/
def otpReadBack (t : Nat) (l : List Nat) : List Nat :=
  match t with
  | 0 | 1 => l
  | 3 => l.take 4
  | 4 => [1]
  | _ => []

/-- OTP programming ends (R854): read back into the data registers, with its result and a record. `bad` says that the
read-back does not match; then what the target holds is open. -/
def State.otpDone (bad : Bool) (s : State) : State :=
  match s.dev.hif.otpRun with
  | none => s
  | some t =>
    let want := (upTo 8).flatMap (fun w => toOctets 4 (s.dev.rd F.HIF_OTP_DATA_DATA w))
    let l := if bad then (upTo 32).map (fun k => Config.free (s.dev.draws + k) % 256) else want
    let back := otpReadBack t l
    let s1 : State := { s with mem := { s.mem with otp := s.mem.otp.put t l } }
    (s1.onDev (fun d =>
      let d0 : Dev := { d with draws := if bad then d.draws + 32 else d.draws, hif := { d.hif with otpRun := none } }
      let d1 := d0.each (upTo 8) (fun x w => x.wr F.HIF_OTP_DATA_DATA (leAt back (4 * w) 4) w)
      (((d1.wr F.HIF_OTP_CTL_BUSY 0).wr F.HIF_OTP_CTL_RESULT (if bad then 3 else 0)).raise
        0x16A 0 (t + 16 * (if bad then 3 else 0))))).otpShow

/-- A mailbox slot enters *DONE* with a result (R847). -/
def Dev.mbDone (d : Dev) (k res : Nat) : Dev :=
  let d1 := (d.wr F.HIF_MB_CTL_STATE 4 k).wr F.HIF_MB_CTL_RESULT res k
  if d1.rd F.HIF_MB_CTL_SLOT_OWNER k = 1 then d1.msi (d1.rd F.HIF_MB_CTL_IRQ_VEC k) else d1

/-- Every *POSTED* or *TAKEN* slot ends `ABORTED` (R847). -/
def Dev.mbAbort (d : Dev) : Dev :=
  d.each (upTo 16) (fun x k => if x.rd F.HIF_MB_CTL_STATE k = 2 ∨ x.rd F.HIF_MB_CTL_STATE k = 3 then x.mbDone k 2 else x)

/-- The deltas' and migrations' state is dropped (R79). -/
def Dev.deltaDrop (d : Dev) : Dev :=
  let d1 := (d.mld.migs.filter (fun q => q.2.phase != 5)).foldl (fun x q => x.migAbort q.1) d
  (({ d1 with mld := { d1.mld with delta := none, checking := if d1.mld.checking = 6 then 0 else d1.mld.checking } }).wr
    F.MLD_REMOULD_STS_PHASE 0).wr F.MLD_REMOULD_STS_STREAMS_PENDING 0

/-- The power switch of a domain opens: what leaves with it (R728, R729). -/
def State.domGone (n : Nat) (s : State) : State :=
  let s1 := if n = 5 then (s.flashCut false 3).memLost else s
  let s2 := s1.onDev (fun d => { d with pwr := { d.pwr with
    good := d.pwr.good.filter (fun k => k != n), gateAfter := d.pwr.gateAfter.filter (fun k => k != n) } })
  s2.onDev (fun d =>
    if n < 4 then (if d.coreOn then d.coreOff else d)
    else if n = 4 then d.donRefresh
    else if 74 ≤ n then d.each (upTo 16) (fun x k => x.laneFail (16 * (n - 74) + k))
    else d)

/-- The safe state ends: the marks of it clear (R695, R697). -/
def Dev.safeMarksOff (d : Dev) : Dev := (d.wr F.CLK_STS_SAFE 0).wr F.FES_SAFE_STS_CLK_SAFE 0

/-- The controller enters *STOPPED* (R695, R748, R751). -/
def Dev.stoppedEntry (d : Dev) (cause : Nat) : Dev :=
  let d1 := (d.safeMarksOff.wr F.CLK_STS_SAFE_CAUSE 0).wr F.PWR_STS_STOP_CAUSE cause
  let d2 : Dev := { d1 with
    pwr := { d1.pwr with stopping := none, stopGating := false, stoppedAt := d1.now, cool := 0, queue := [], gateAfter := [] },
    clk := { d1.clk with permit := false, standing := false } }
  d2.setBoot 10

/-- The orderly stop is over once no domain is on (R748 step 5). -/
def Dev.stopCheck (d : Dev) : Dev :=
  match d.pwr.stopping with
  | some c => if d.pwr.stopGating && d.pwr.good.isEmpty && d.pwr.gateAfter.isEmpty && d.pwr.gating.isEmpty then d.stoppedEntry c else d
  | none => d

/-- The same of the whole state. -/
def State.stopCheck (s : State) : State := s.onDev Dev.stopCheck

/-- The switch of a domain opens 1 µs after its isolation (R728); one that a wake has been asked for since reads *QUEUED*. -/
def Dev.gatesEnd (d : Dev) : Dev :=
  if d.pwr.gating.isEmpty then d
  else
    let ready := d.pwr.gating.filter (fun q => decide (12288 ≤ 100 * (d.now - q.2)))
    let d1 := d.each (ready.map (fun q => q.1)) (fun x n => if x.rd F.PWR_DOM_STATE n = 4 then x.wr F.PWR_DOM_STATE 0 n else x)
    (({ d1 with pwr := { d1.pwr with gating := d1.pwr.gating.filter (fun q => decide (100 * (d.now - q.2) < 12288)) } } : Dev)).stopCheck

/-- The gating of an orderly stop begins (R748 step 4): every domain through the ladder in the reverse of the waking order;
wakes that wait are dropped, a domain that is *WAKING* is gated once it is on, stations are *OFF*. -/
def State.stopGate (s : State) : State :=
  let s1 := (s.otpDone false).onDev (fun d =>
    let d1 := d.stnAllOff
    let waits := (d1.pwr.queue.filter (fun q => q.2)).map (fun q => q.1)
    let d2 := d1.each waits (fun x n => x.wr F.PWR_DOM_STATE (if x.domOn n then 3 else 0) n)
    let waking := (upTo 82).filter (fun n => d2.rd F.PWR_DOM_STATE n == 2)
    let q := d2.pwr.good.reverse
    let d3 := d2.each q (fun x n => x.wr F.PWR_DOM_STATE 1 n)
    { d3 with pwr := { d3.pwr with queue := q.map (fun n => (n, false)), gateAfter := waking, stopGating := true } })
  s1.stopCheck

/-- A page program runs that an orderly stop lets end (R748 step 2). -/
def Dev.pageRuns (d : Dev) : Bool :=
  (match d.er.archBusy with | [] => false | (n, _, _) :: _ => n % 1024 != 0) ||
    d.hif.flashJobs.any (fun j => j.begun && !j.slot && j.op == 1)

/-- Step 2 of the orderly stop: no new program or erase starts, an erase in progress is abandoned, a page program in
progress goes on (R748). A slot write is an erase and many pages, so it is cut off here. -/
def State.stopFlash (s : State) : State :=
  let s1 := match s.dev.er.archBusy with
    | (n, _, _) :: _ => if n % 1024 = 0 then s.archCut true else s
    | [] => s
  let runs := fun (j : FlashJob) => j.begun && !j.slot && decide (j.op ≠ 2)
  let s2 := (s1.dev.hif.flashJobs.filter (fun j => !(runs j))).foldl (fun s j => s.jobCut true 4 j) s1
  s2.onDev (fun d => { d with hif := { d.hif with flashJobs := d.hif.flashJobs.filter runs } })

/-- An orderly stop begins (R748, R79, R794): stations in *TRANSMIT* drop in order, deltas, migrations and a clearing are
abandoned. -/
def State.stopStart (cause : Nat) (s : State) : State :=
  if s.dev.pwr.stopping.isSome || s.dev.boot == 10 then s
  else
    let s1 := s.onDev (fun d =>
      let d1 : Dev := { d with pwr := { d.pwr with stopping := some cause, stopGating := false, stopAt := d.now } }
      let d2 := d1.each (upTo 8) (fun x t => if x.stnState t = 5 then x.leaveTx t 4 else x)
      let d3 := d2.deltaDrop
      if d3.er.clearTo.isSome then
        ({ d3 with er := { d3.er with clearTo := none, clearAborted := true } }).wr F.EVT_CLR_CTL_BUSY 0 |>.owedAbort
      else d3)
    let s2 := s1.stopFlash
    if s2.dev.pageRuns then s2 else s2.stopGate

/-- Every switch of the compute and link dies opens at once; domains in *FAULT* stay there (R729, R750). -/
def Dev.allOpen (d : Dev) : Dev :=
  let d1 := d.each (upTo 82) (fun x n => if x.rd F.PWR_DOM_STATE n = 5 then x else x.wr F.PWR_DOM_STATE 0 n)
  { d1 with pwr := { d1.pwr with good := [], queue := [], gateAfter := [], gating := [] } }

/-- The compute and link dies lose their power and what they hold (R707, R832): the loss of SDRAM is recorded first. -/
def State.coreGone (s : State) : State :=
  (s.memLost.otpCut).onDev (fun d => (if d.coreOn then d.coreOff else d.coreWipe).allOpen)

/-- The waking of the compute die (R731): CC_0 to CC_3, then every healthy loop processor. -/
def Dev.wakeStart (d : Dev) : Dev :=
  let d1 := d.each (upTo 4) (fun x n => x.ladderAsk true n)
  d1.each ((upTo 32).filter (fun k => (tabFind d1.eng.failed k).isNone)) (fun x k => x.ladderAsk true (42 + k))

/-- A core reset (R707): the compute and link dies start again from *CORE_WAKE*. -/
def State.coreRestart (s : State) : State :=
  let lost := s.dev.memOn
  let s1 := (s.flashCut false 3).coreGone
  s1.onDev (fun d => ((if lost then d.wr F.HIF_MEM_STS_LOST 1 else d).setBoot 2).wakeStart)

/-- A core reset from a cause (R721): in *AO_ONLY* and *CLK_WAIT* the compute die is not on, *STOPPED* is left only by a
restart (R751), and an orderly stop goes on; then only the cause is set. -/
def State.coreReset (f : Fld) (s : State) : State :=
  let s1 := s.onDev (fun d => d.wr f 1)
  if s.dev.boot ≤ 1 ∨ s.dev.boot = 10 ∨ s.dev.pwr.stopping.isSome then s1 else s1.coreRestart

/-- An AO reset (R707, R710, R721): every die; the event ring, the flash and OTP stay, the ring only where it is no AO
power-on. `cause` is `CLK_RST_CAUSE` afterwards. -/
def State.aoReset (cause : Nat) (power : Bool) (s : State) : State :=
  let s1 := (s.flashCut false 3).otpCut
  let d := s1.dev
  let owed := !power && (d.er.clearAborted || d.er.clearTo.isSome)
  let now := if power then 0 else d.now
  let er : Recorder :=
    if power then { tRef := now }
    else { ring := d.er.ring, tail := d.er.tail, nextSeq := d.er.nextSeq, clearAborted := owed, tRef := now }
  let clk : Clocks := { resetLow := d.clk.resetLow, bootAt := now }
  let d1 : Dev := { now := now, draws := d.draws, er := er, clk := clk }
  let d2 := (d1.wr F.FES_SAFE_STS_SAFE_N (d.rd F.FES_SAFE_STS_SAFE_N)).putWord
    { RD.CLK_RST_CAUSE with flds := RD.CLK_RST_CAUSE.flds.map (fun f => { f with ty := .rw }) } cause true
  let d3 := if d.boot = 0 then d2 else d2.raise 0x20 0 0
  { s1 with dev := d3, mem := s1.mem.sdLose }

/-- `CLK_RST_CAUSE` after an AO reset other than power-on (R721). -/
def Dev.causeAfter (d : Dev) (bit : Nat) : Nat :=
  let w := d.word RD.CLK_RST_CAUSE
  (w - w % 2) ||| 2 ^ bit

/-- The controller is where the clock-failure safe state may be entered (R695). -/
def Dev.safeAllowed (d : Dev) : Bool :=
  let b := d.boot
  !(b == 0 || b == 1 || b == 2 || b == 10) && d.pwr.stopping.isNone

/-- *APPLY* is entered: the seconds of R710 run. -/
def Dev.clockWait (d : Dev) : Dev := { d with clk := { d.clk with waitAt := d.now } }

/-- The safe state is entered, or gains a cause (R72, R695, R696): `src` is 0 XTAL_A, 1 XTAL_B, 2 SAMPCLK, 3 the master's
command; `why` is 1 a stop, 2 a gate, 3 a command. -/
def Dev.enterSafe (d : Dev) (cause src why : Nat) : Dev :=
  if !d.safeAllowed then d
  else
    let c := if d.flag F.CLK_STS_SAFE then d.rd F.CLK_STS_SAFE_CAUSE ||| cause else cause
    let d1 := (d.wr F.CLK_STS_SAFE 1).wr F.CLK_STS_SAFE_CAUSE c
    let d2 : Dev := { d1 with clk := { d1.clk with permit := false, okAt := none }, prt := { d1.prt with paused := true, pausedAt := if d1.prt.paused then d1.prt.pausedAt else d1.now } }
    let d3 := d2.stnClockSafe
    let d4 := if 5 ≤ d.boot ∧ d.boot ≤ 8 then d3.iso.surveys.foldl (fun x q => x.surveyAbandon q.1) d3 else d3
    let d5 : Dev := if d.boot = 3 ∨ d.boot = 4 then { d4 with mld := { d4.mld with loadAbandoned := true } } else d4
    (d5.raise 0x125 src why).faultPin

/-- Every register of an array returns to its reset value. -/
def Dev.wipeReg (d : Dev) (r : RegD) : Dev :=
  { d with regs := d.regs.filter (fun q =>
      decide (q.1 / 32 * 4 < r.base) || (splitIndex r.dims (q.1 / 32 * 4 - r.base)).isNone) }

/-- A stored field lies in a block that a listed section writes (R72): a field that an image can load, of an owner-lockable
register. `HK_CAL_n` resets only with the always-on die (R639). -/
def sectionField (l : List Nat) (key : Nat) : Bool :=
  let a := key / 32 * 4
  l.contains (sectionOf a) &&
    match lookup a with
    | none => false
    | some h => h.desc.lock && !(mixedReg h.reg) && h.reg != .HK_CAL &&
        h.desc.flds.any (fun f => f.lo == key % 32 && (f.ty == .rw || f.ty == .rwl))

/-- The blocks that the image's sections wrote return to their reset values, whatever a master wrote there since (R72); the
bucket of an event code that had been set is full again (R783). -/
def Dev.wipeSections (d : Dev) (l : List Nat) : Dev :=
  let codes := (upTo 512).filter (fun c => d.rd F.EVT_CODE_BURST c != F.EVT_CODE_BURST.rst c 0 0)
  let d1 : Dev := { d with regs := d.regs.filter (fun q => !(sectionField l q.1)) }
  if l.contains 0xF then d1.each codes (fun x c =>
    ({ x with er := { x.er with tokenAt := tabDel x.er.tokenAt c } } : Dev).wr F.EVT_CODE_STS_TOKENS (x.rd F.EVT_CODE_BURST c) c) else d1

/-- What the plan's streams, cells, orbits and stations show in registers. -/
def planRegs : List RegD :=
  [RD.MLD_PLACE, RD.LCX0, RD.LCX1, RD.LCX2, RD.LCX3, RD.LCX4, RD.LCX5, RD.LCX6, RD.LCX7, RD.LCX8, RD.LCX9, RD.LCX10] ++
  [RD.LCX11, RD.CE_PS_STS, RD.CE_BLD2, RD.CE_BTILE0, RD.CE_BTILE1, RD.TIL_PEND, RD.TIL_ACT, RD.TIL_STREAM, RD.MEA_IN] ++
  [RD.MEA_OUT, RD.MEA_DON, RD.MEA_HDR0, RD.MEA_HDR1, RD.MEA_HDR2, RD.MEA_HDR3, RD.MEA_WATCH_STS, RD.ISO_MAP_DL] ++
  [RD.ISO_MAP_UL, RD.ISO_PS, RD.ISO_BRANCH, RD.SLC_ALIGN_CUR, RD.SLC_UL, RD.SLC_PROT, RD.PRT_RIPPLE, RD.PRT_DOM] ++
  [RD.PRT_CAUSE, RD.PRT_DLOSS_STS, RD.PRT_NR_STS, RD.TRN_ENT0, RD.TRN_ENT1, RD.TRN_ENT2, RD.TRN_ENT3, RD.DON_SMAP] ++
  [RD.FES_REM_STS, RD.BGV_MUTE, RD.MLD_REMOULD_STS]

/-- A full load clears the governor's ladder (R752). -/
def Dev.ladderClear (d : Dev) : Dev :=
  let d1 := (((d.wr F.BGV_STS_DEFER 0).wr F.BGV_STS_DUTY_GRANT 8).wr F.BGV_STS_STAGE 0).wr F.BGV_STS_EXHAUSTED 0
  let d2 := (d1.each (upTo 16) (fun x n => x.wr F.BGV_DSLICE_MULT_GRANT 0 n)).wipeReg RD.BGV_MUTE
  { d2 with pwr := { d2.pwr with actions := [], rel := 0 } }

/-- The lanes and orbits stop, the stations go *OFF*, running captures end. -/
def Dev.planStop (d : Dev) : Dev :=
  let d1 := (d.each ((upTo 128).filter (fun n => d.flag F.LNK_CTL_EN n)) Dev.laneOff).stnAllOff
  let d2 := d1.each (upTo 2) (fun x i => (x.setOrbState i 0 0).wr F.ORB_CTL_EN 0 i)
  let d3 := d2.chn.caps.foldl (fun x q => if q.1 < 16 then (x.wr F.MEA_CAP3_BUSY 0 q.1).wr F.MEA_CAP3_RESULT 3 q.1 else x) d2
  (d3.each (upTo 8) (fun x j => x.wr F.DON_LINK_CFG_EN 0 j)).donRefresh

/-- "Clears every written block" (R72): the plan, the blocks that the image's sections wrote, the stations' channel caches
(R285), and what the blocks held of the plan. Failures of processors, stored survey results, event records and the counters
stay. -/
def Dev.clearPlan (d : Dev) : Dev :=
  let d1 := d.planStop.prtReset.mbAbort.ladderClear
  let d2 := d1.wipeSections d.mld.sections
  let d3 := (planRegs.foldl Dev.wipeReg d2).wr F.MEA_STS_SYNC_PENDING 0
  let d4 := (d3.each (upTo 16) (fun x n => (x.unset F.CE_SLICE_TICK_MULT_EFF n).wr F.CE_BLD3_OVER 0 n 0)).each (upTo 16)
    (fun x n => x.wr F.CE_BLD3_OVER 0 n 1)
  let d5 := (d4.each (upTo 16) (fun x n => if x.flag F.WM_CFG_EN n then x else x.monOff n)).each (upTo 4) Dev.hkMode
  let d6 : Dev := { d5 with
    orbs := [], streams := [], plane := {}, chn := {}, eng := { failed := d5.eng.failed },
    slc := { failed := d5.slc.failed, resAt := d5.slc.resAt },
    iso := { results := d5.iso.results, image := d5.iso.image },
    lnk := { grid := d5.lnk.grid, muxed := d5.lnk.muxed },
    stns := (d5.stns.map (fun (q : Nat × Station) => (q.1, { q.2 with cache := [] }))).filter (fun q => q.2 != {})
    mld := { d5.mld with body := {}, sections := [], plan := {}, entered := false, delta := none, migs := [], permit := false, permitHeld := false,
                         waitOver := false, restart := none, loadAbandoned := false
                         checking := if d5.mld.checking = 6 then 0 else d5.mld.checking } }
  d6.pinRefresh

/-- Restart (R72): every written block cleared and back to *LOAD*, with the slot decision already made. -/
def Dev.restartLoad (d : Dev) : Dev := d.clearPlan.setBoot 3

/-- A load that a clock failure abandoned restarts once REF uses a *QUALIFIED* crystal, SYSPLL is locked and SAMPCLK is
qualified (R72). -/
def Dev.resumeLoad (d : Dev) : Dev :=
  if (d.boot == 3 || d.boot == 4) && d.mld.loadAbandoned && d.refOk && d.sampOk then d.restartLoad else d

/-- *ORBIT_WAIT* is entered (R68, R69, R74): a held permit, or that of hostless operation, is granted, and
`ORBIT_WAIT_LIMIT` runs afresh. -/
def Dev.orbitWait (d : Dev) : Dev :=
  let d1 : Dev := { d with mld := { d.mld with
    permit := d.mld.permit || d.mld.permitHeld || d.flag F.MLD_STS_HOSTLESS, permitHeld := false, waitOver := false, waitAt := d.now } }
  if d.boot = 6 then d1 else d1.setBoot 6

/-- The sequencers resume: the 10 ms of every posted mailbox slot start (R857). -/
def Dev.mailResume (d : Dev) : Dev :=
  { d with hif := { d.hif with postedAt := d.hif.postedAt.map (fun (q : Nat × Nat) => (q.1, d.now)) } }

/-- The safe state ends where all three conditions of R697 hold: after a SAMPCLK cause the donor links restart and the next
SYSREF pulse is armed (R701), and the controller goes back to *ORBIT_WAIT* (R72). -/
def Dev.safeTryEnd (d : Dev) : Dev :=
  if !(d.flag F.CLK_STS_SAFE) || !d.refOk || !d.sampOk || !d.permitted then d.resumeLoad
  else
    let d1 := d.safeMarksOff
    let d2 : Dev := { d1 with
      clk := { d1.clk with permit := false, standing := false, okAt := none }, prt := d1.prtResume }
    let d3 : Dev := if bitAt (d.rd F.CLK_STS_SAFE_CAUSE) 1 then
        (({ d2.relink with don := { d2.relink.don with armed := true } }).wr F.DON_SYSREF_STS_SEEN 0).wr
          F.DON_SYSREF_STS_ALIGNED 0
      else d2
    let d4 := if 5 ≤ d.boot ∧ d.boot ≤ 8 then
        let e := d3.iso.surveys.foldl (fun x q => x.surveyDiscard q.1) d3
        e.orbitWait
      else d3
    (if d.prt.paused then d4.runReleased else d4).mailResume.faultPin.resumeLoad

end Sys2Proof.Machine
end

