-- ==== Sys2Proof/Machine/Clocks.lean ====
section
/-! DEFINITION. The clock supervisor's commands (chapter 12): crystals, the REF multiplexer, SAMPCLK, LREFCLK, permits and resets. -/

namespace Sys2Proof.Machine

/-- The fields of one crystal: 0 XTAL_A, 1 XTAL_B. -/
def xtState (x : Nat) : Fld := if x = 0 then F.CLK_STS_A_STATE else F.CLK_STS_B_STATE
def xtValid (x : Nat) : Fld := if x = 0 then F.CLK_MEAS_A_VALID else F.CLK_MEAS_B_VALID
def xtDev (x : Nat) : Fld := if x = 0 then F.CLK_MEAS_A_DEV else F.CLK_MEAS_B_DEV
def xtTrips (x : Nat) : Fld := if x = 0 then F.CLK_CNT_TRIPS_A else F.CLK_CNT_TRIPS_B
def xtEn (x : Nat) : Fld := if x = 0 then F.CLK_XTAL_CFG_A_EN else F.CLK_XTAL_CFG_B_EN
def xtGates (x : Nat) : Fld := if x = 0 then F.CLK_XTAL_CFG_A_QUAL_GATES else F.CLK_XTAL_CFG_B_QUAL_GATES
def xtTries (x : Nat) : Fld := if x = 0 then F.CLK_XTAL_CFG_A_START_TRIES else F.CLK_XTAL_CFG_B_START_TRIES
def xtWin (x : Nat) : Fld := if x = 0 then F.CLK_XTAL_CFG_A_WIN else F.CLK_XTAL_CFG_B_WIN
def xtReg (x : Nat) : Hit := if x = 0 then hit .CLK_XTAL_CFG_A RD.CLK_XTAL_CFG_A else hit .CLK_XTAL_CFG_B RD.CLK_XTAL_CFG_B

/-- Replaces the supervisor's state. -/
def Dev.setClk (d : Dev) (x : Clocks) : Dev := { d with clk := x }

/-- A crystal's state (R680). -/
def Dev.xt (d : Dev) (x : Nat) : Nat := d.rd (xtState x)

/-- A crystal starts (R681): `fresh` resets the attempt count to 1, a restart adds one. -/
def Dev.xtStart (d : Dev) (x : Nat) (fresh : Bool) : Dev :=
  if !(d.flag (xtEn x)) then d
  else
    let n := if fresh then 1 else tabGet 0 d.clk.tries x + 1
    ((d.wr (xtState x) 1).wr (xtValid x) 0).setClk
      { d.clk with tries := tabPut d.clk.tries x n, gates := tabDel d.clk.gates x, startAt := tabPut d.clk.startAt x d.now }

/-- A cold XTAL_B is started when XTAL_A fails (R683, R687). -/
def Dev.coldStart (d : Dev) : Dev := if d.xt 1 = 0 then d.xtStart 1 true else d

/-- A switch of REF is requested (R691); the hang count starts (R692, R711). -/
def Dev.switchAsk (d : Dev) (t : Nat) : Dev :=
  if d.clk.switchTo.isNone ∧ d.rd F.CLK_STS_REF_SEL = t then d
  else (d.wr F.CLK_STS_SWITCHING 1).setClk { d.clk with switchTo := some t, switchAt := d.now }

/-- The first *QUALIFIED* member of the fallback chain, FIO ÷ 2 at its end (R686). -/
def Dev.chainTop (d : Dev) : Nat := if d.xt 0 = 3 then 0 else if d.xt 1 = 3 then 1 else 2

/-- XTAL_B may end *CLK_WAIT*: XTAL_A is *FAILED* or has `EN` clear (R683). -/
def Dev.waitsForB (d : Dev) : Bool := d.xt 0 == 4 || !(d.flag F.CLK_XTAL_CFG_A_EN)

/-- REF leaves FIO ÷ 2 for a *QUALIFIED* crystal (R683, R688), XTAL_A first. -/
def Dev.refSeek (d : Dev) : Dev :=
  if d.rd F.CLK_STS_REF_SEL ≠ 2 ∨ d.clk.switchTo.isSome ∨ d.boot = 0 then d
  else if d.xt 0 = 3 then d.switchAsk 0
  else if d.xt 1 = 3 ∧ (d.boot ≠ 1 ∨ d.waitsForB) then d.switchAsk 1
  else d

/-- No crystal can end *CLK_WAIT* (R683). -/
def Dev.noSource (d : Dev) : Bool :=
  (upTo 2).all (fun x => !(d.flag (xtEn x)) || d.xt x == 4)

/-- A reference failure (R684, R686): REF moves to the chain's first *QUALIFIED* member, the safe state is entered, and a
standing permit can apply where that member was *QUALIFIED* before (R698). During the reset hold of a forced switch the
next switch waits for its end (R711). -/
def Dev.refFail (d : Dev) (x why : Nat) : Dev :=
  let t := d.chainTop
  let d1 := if d.clk.domainReset || d.clk.switchTo.any (fun q => q != x) then d else d.switchAsk t
  let goal := d1.clk.switchTo.getD 2
  let ok := decide (goal < 2) && d1.sampOk && (!(d.flag F.CLK_STS_SAFE) || d.clk.standing)
  (d1.setClk { d1.clk with standing := ok }).enterSafe 1 x why

/-- A crystal enters *FAILED* (R681, R684, R688, R711): counted and recorded; `was` says that it was *QUALIFIED*. -/
def Dev.xtFail (d : Dev) (x why : Nat) (was : Bool) : Dev :=
  let d1 := ((d.wr (xtState x) 4).bump (xtTrips x)).raise 0x121 x why
  let d2 := if x = 0 then d1.coldStart else d1
  let d3 := if d2.boot = 1 then (if d2.noSource then d2.raise 0x123 else d2.refSeek)
    else if !was && x == 1 && d2.rd F.CLK_STS_REF_SEL == 2 then d2.raise 0x123 else d2
  let d4 := if d3.clk.switchTo = some x ∧ !d3.clk.domainReset then
      (d3.setClk { d3.clk with standing := d3.clk.standing && decide (d3.chainTop < 2) }).switchAsk d3.chainTop
    else d3
  if d4.rd F.CLK_STS_REF_SEL = x then d4.refFail x why else d4

/-- A stop, or a gate outside the window, of a crystal that is judged (R681). -/
def Dev.xtBad (d : Dev) (x why : Nat) : Dev :=
  if d.xt x = 3 then d.xtFail x why true
  else if d.xt x = 2 then
    (if tabGet 0 d.clk.tries x < max 1 (d.rd (xtTries x)) then d.xtStart x false else d.xtFail x why false)
  else d

/-- A crystal's start delay in FIO cycles, 0 ms acting as 1 (R715). -/
def Dev.startDelay (d : Dev) (x : Nat) : Nat :=
  80000 * max 1 (d.rd (if x = 0 then F.CLK_XTAL_CFG_A_START_MS else F.CLK_XTAL_CFG_B_START_MS))

/-- START_MS_EXPIRY (R681): the crystal is judged once its start delay has passed; its first gate begins. -/
def Dev.startMs (x : Nat) (d : Dev) : Dev :=
  if d.xt x = 1 ∧ d.fioPast (tabGet 0 d.clk.startAt x) (d.startDelay x) then
    (d.wr (xtState x) 2).setClk { d.clk with gateAt := tabPut d.clk.gateAt x d.now }
  else d

/-- START_MS_EXPIRY (R681): the start delay of a crystal ends. -/
def execStartMsExpiry (x : Nat) (s : State) : Out := unit x 2 (.next (s.onDev (Dev.startMs x)))

/-- A deviation in ppm against a nominal count, rounded to nearest (R717). -/
def ppm (n nominal : Nat) : Int := divNear (((n : Int) - nominal) * 1000000) nominal

/-- A gate of a crystal counts in the common span of R685, up to 64 of each crystal, while both are *QUALIFIED*. -/
def Dev.spanAdd (d : Dev) (x n : Nat) : Dev :=
  let g := tabGet 0 d.clk.spanGates x
  if d.xt 0 ≠ 3 ∨ d.xt 1 ≠ 3 then d.setClk { d.clk with spanGates := [], spanSum := [] }
  else if 64 ≤ g then d
  else d.setClk { d.clk with spanGates := tabPut d.clk.spanGates x (g + 1),
                             spanSum := tabSet 0 d.clk.spanSum x (tabGet 0 d.clk.spanSum x + n) }

/-- XTAL_GATE (R682): a gate of 4,096 FIO cycles counted `n` cycles. -/
def Dev.xtalGate (x n : Nat) (d0 : Dev) : Dev :=
  if (d0.xt x ≠ 2 ∧ d0.xt x ≠ 3) ∨ !(d0.fioPast (tabGet 0 d0.clk.gateAt x) 4096) then d0
  else
    let d := (d0.setClk { d0.clk with gateAt := tabPut d0.clk.gateAt x d0.now }).spanAdd x n
    let d1 := (d.wrS (xtDev x) (clampInt (-8388608) 8388607 (ppm n 2048))).wr (xtValid x) 1
    let ok := decide (absI ((n : Int) - 2048) ≤ (2048 * max 50 (d.rd (xtWin x)) / 1000 : Nat))
    if !ok then d1.xtBad x 2
    else if d.xt x = 3 then d1
    else
      let g := tabGet 0 d1.clk.gates x + 1
      let d2 := d1.setClk { d1.clk with gates := tabPut d1.clk.gates x g }
      if g < max 1 (d.rd (xtGates x)) then d2 else ((d2.wr (xtState x) 3).raise 0x120 x).refSeek

/-- XTAL_GATE (R682). -/
def execXtalGate (x n : Nat) (s : State) : Out := unit x 2 (.next (s.onDev (Dev.xtalGate x n)))

/-- XTAL_STOP (R682): no edge of a crystal within 8 FIO cycles. -/
def execXtalStop (x : Nat) (s : State) : Out := unit x 2 (.next (s.onDev (fun d => d.xtBad x 1)))

/-- XCHK_SPAN (R685): the two crystals' counts over a common span of 64 gates are compared, and the next span begins. -/
def Dev.xchk (d : Dev) : Dev :=
  let lim := 4 * d.rd F.CLK_MON_CFG_XCHK_PPM
  if d.xt 0 ≠ 3 ∨ d.xt 1 ≠ 3 ∨ tabGet 0 d.clk.spanGates 0 < 64 ∨ tabGet 0 d.clk.spanGates 1 < 64 then d
  else
    let dif := absI (((tabGet 0 d.clk.spanSum 0 : Nat) : Int) - ((tabGet 0 d.clk.spanSum 1 : Nat) : Int))
    let out := decide (lim ≠ 0) && decide ((lim : Int) * 131072 < dif * 1000000)
    let d1 := d.setClk { d.clk with excursion := out, spanGates := [], spanSum := [] }
    if out && !d.clk.excursion then (d1.bump F.CLK_CNT2_XCHK).raise 0x122 else d1

/-- XCHK_SPAN (R685). -/
def execXchkSpan (s : State) : Out := .next (s.onDev Dev.xchk)

/-- REF takes a new input (R691, R694): counted, the housekeeping clock follows it, SYSPLL relocks with its outputs
gated, and SAMPCLK's gates start again. -/
def Dev.refMoved (d : Dev) (t : Nat) : Dev :=
  let d1 := (d.wr F.CLK_STS_SWITCHING 0).setClk { d.clk with switchTo := none }
  if d1.rd F.CLK_STS_REF_SEL = t then d1
  else
    let d2 := (d1.wr F.CLK_STS_REF_SEL t).bump F.CLK_CNT2_SWITCHES
    (d2.setClk { d2.clk with pllLocking := true, sampGates := 0, sampAt := d2.now }).hkClockSwitch

/-- REF_SWITCH_DONE (R691). -/
def Dev.switchDone (d : Dev) : Dev :=
  match d.clk.switchTo with
  | none => d
  | some t => if d.clk.domainReset then d else (d.refMoved t).refSeek

/-- REF_SWITCH_DONE (R691): the multiplexer completes a glitch-free switch. -/
def execRefSwitchDone (s : State) : Out := .next (s.onDev Dev.switchDone)

/-- The host is lost (R693, R825): the USB4 link retrains, and every running DMA chain ends. -/
def Dev.hostLost (d : Dev) (st : Nat) : Dev :=
  let was := d.rd F.HIF_LINK_STS_STATE
  let d1 := (d.wr F.HIF_LINK_STS_PCIE_UP 0).wr F.HIF_LINK_STS_STATE st
  let d2 := d1.each (upTo 8) (fun x c => x.dmaEnd c 6 false)
  if was = st then d2 else d2.raise 0x162 0 st

/-- The hang timeout has passed since the switch request: `HANG_CYC` SIO cycles, or 2,441 FIO cycles for each after an SIO
failure (R692, R704). -/
def Dev.hung (d : Dev) : Bool :=
  let n := max 2 (d.rd F.CLK_MON_CFG_HANG_CYC)
  if d.flag F.CLK_STS_SIO_FAIL then d.fioPast d.clk.switchAt (2441 * n) else d.sioPast d.clk.switchAt n

/-- Steps 1 and 2 of a forced switch, and what the domain reset does (R692, R693). -/
def State.hangExpiry (s : State) : State :=
  if s.dev.clk.switchTo.isNone || s.dev.clk.domainReset || !s.dev.hung then s
  else
    let s1 := if s.dev.memOn then (s.flashCut false 2).memLost else s
    s1.onDev (fun d =>
      let d1 := (d.setClk { d.clk with domainReset := true, holdAt := d.now }).wr F.CLK_RST_CAUSE_DOMAIN 1
      let d2 : Dev := { d1 with hif := { d1.hif with jrnRecovered := d1.hif.jrnRecovered && !d1.memOn } }
      let d3 := d2.each (upTo 8) (fun x t => x.setStn t { x.stn t with reading := none })
      if d3.coreOn && d3.rd F.HIF_LINK_STS_STATE != 0 then d3.hostLost 1 else d3)

/-- REF_HANG_EXPIRY (R692): a hung switch is forced. -/
def execRefHangExpiry (s : State) : Out := .next s.hangExpiry

/-- DOMAIN_RESET_RELEASE (R692): 64 cycles of the new input release the reset; it may be FIO ÷ 2, as fast as R676 accepts. -/
def State.resetRelease (s : State) : State :=
  match s.dev.clk.switchTo with
  | none => s
  | some t =>
    if !s.dev.clk.domainReset || !(s.dev.fioPast s.dev.clk.holdAt 128) then s
    else
      let s1 := s.onDev (fun d =>
        let d1 := d.setClk { d.clk with domainReset := false }
        let d2 := ((d1.refMoved t).bump F.CLK_CNT_FORCED).raise 0x124 0 t
        if decide (t < 2) && d2.xt t != 3 then d2.switchAsk d2.chainTop else d2.refSeek)
      if s1.dev.memOn then s1.journalRecover else s1

/-- DOMAIN_RESET_RELEASE (R692). -/
def execDomainResetRelease (s : State) : Out := .next s.resetRelease

/-- SYSPLL_LOCK (R694): SYSPLL's outputs are ungated; *CLK_WAIT* ends on a *QUALIFIED* crystal (R683, R710), and a safe state
may end (R697). -/
def Dev.pllLock (d : Dev) : Dev :=
  if !d.clk.pllLocking || d.clk.domainReset then d
  else
    let d1 := d.setClk { d.clk with pllLocking := false }
    if d1.boot = 1 then (if d1.refOk then (d1.setBoot 2).wakeStart else d1) else d1.safeTryEnd

/-- SYSPLL_LOCK (R694). -/
def execSyspllLock (s : State) : Out := .next (s.onDev Dev.pllLock)

/-- SAFE_STATE_END (R697). -/
def execSafeStateEnd (s : State) : Out := .next (s.onDev Dev.safeTryEnd)

/-- The owner's permit (R698): ignored without a safe state, refused and recorded before its conditions hold. -/
def Dev.permitAsk (d : Dev) : Dev :=
  if !(d.flag F.CLK_STS_SAFE) then d
  else if d.refOk && d.sampOk then (d.setClk { d.clk with permit := true }).safeTryEnd
  else (d.bump F.CLK_CNT2_PERMIT_REFUSED).raise 0x128 0 1

/-- A commanded switch (R689, R698): refused where its target is not *QUALIFIED* or a switch or the safe state is in
progress, nothing where REF is on it already; else it enters the safe state with its own permit. -/
def Dev.switchCmd (d : Dev) : Dev :=
  let t := d.rd F.CLK_CTL_SWITCH_TO
  if 2 ≤ t ∨ d.xt t ≠ 3 ∨ d.clk.switchTo.isSome ∨ d.clk.pllLocking ∨ d.flag F.CLK_STS_SAFE then d
  else if d.rd F.CLK_STS_REF_SEL = t then d
  else
    let d1 := (d.switchAsk t).enterSafe 1 3 3
    d1.setClk { d1.clk with permit := d1.flag F.CLK_STS_SAFE }

/-- What a write of `CLK_CTL` does (R713): its fields, then its actions. -/
def Dev.actClkCtl (p : Path) (w : Nat) (d : Dev) : Option Dev :=
  let d0 := d.putHit p (hit .CLK_CTL RD.CLK_CTL) w
  let d1 := if F.CLK_CTL_CLR_CNT.hit w then d0.zero [F.CLK_CNT_TRIPS_A, F.CLK_CNT_TRIPS_B, F.CLK_CNT_TRIPS_S,
    F.CLK_CNT_FORCED, F.CLK_CNT2_SWITCHES, F.CLK_CNT2_PERMIT_REFUSED, F.CLK_CNT2_XCHK] else d0
  let d2 := if F.CLK_CTL_RETRY_A.hit w ∧ d1.xt 0 = 4 then d1.xtStart 0 true else d1
  let d3 := if F.CLK_CTL_RETRY_B.hit w ∧ d2.xt 1 = 4 then d2.xtStart 1 true else d2
  let d4 := if F.CLK_CTL_PERMIT.hit w then d3.permitAsk else d3
  some (if F.CLK_CTL_SWITCH.hit w then d4.switchCmd else d4)

/-- A write of `CLK_CTL`. -/
def clkCtlWrite (p : Path) (w : Nat) (s : State) : Out :=
  .next (s.onDev (fun d => d.write p (hit .CLK_CTL RD.CLK_CTL) w (Dev.actClkCtl p w)))

/-- PERMIT (R698). -/
def execPermit (p : Path) (w : Nat) (s : State) : Out := clkCtlWrite p (withBits w 6 1 1) s

/-- SWITCH (R689): `t` is `SWITCH_TO`. -/
def execSwitch (p : Path) (t w : Nat) (s : State) : Out :=
  unit t 4 (clkCtlWrite p (withBits (withBits w 8 2 t) 7 1 1) s)

/-- RETRY_A (R681). -/
def execRetryA (p : Path) (w : Nat) (s : State) : Out := clkCtlWrite p (withBits w 10 1 1) s

/-- RETRY_B (R681). -/
def execRetryB (p : Path) (w : Nat) (s : State) : Out := clkCtlWrite p (withBits w 11 1 1) s

/-- CLK_CLR_CNT (R713). -/
def execClkClrCnt (p : Path) (w : Nat) (s : State) : Out := clkCtlWrite p (withBits w 0 1 1) s

/-- AUTO_PERMIT_EXPIRY (R698): in hostless operation the sequencer grants the permit once the first two conditions of R697 have
held for `AUTO_PERMIT` × 10 ms. -/
def Dev.autoPermit (d : Dev) : Dev :=
  let held := d.clk.okAt.any (fun t => decide (1228800 * d.rd F.CLK_MON_CFG_AUTO_PERMIT ≤ d.now - t))
  if d.flag F.MLD_STS_HOSTLESS && d.flag F.CLK_STS_SAFE && d.refOk && d.sampOk && held then
    (d.setClk { d.clk with permit := true }).safeTryEnd
  else d

/-- AUTO_PERMIT_EXPIRY (R698). -/
def execAutoPermitExpiry (s : State) : Out := .next (s.onDev Dev.autoPermit)

/-- A crystal goes *OFF*: a switch to it is given up for the chain's next member (R681, R711). -/
def Dev.xtOff (d : Dev) (x : Nat) : Dev :=
  let d1 := (d.wr (xtState x) 0).wr (xtValid x) 0
  let d2 := if d1.clk.switchTo = some x ∧ !d1.clk.domainReset then d1.switchAsk d1.chainTop else d1
  if d2.boot = 1 then
    (let d3 := if x = 0 then d2.coldStart else d2
     if d3.noSource then d3.raise 0x123 else d3.refSeek)
  else d2

/-- `EN` of a crystal is set: its start is demanded in *CLK_WAIT*, and later where R683 or R687 demands it. -/
def Dev.xtOn (d : Dev) (x : Nat) : Dev :=
  if d.xt x = 0 ∧ (d.boot = 1 ∨ (d.boot ≠ 0 ∧ (x = 0 ∨ !(d.flag F.CLK_CTL_B_COLD) ∨ d.xt 0 = 4))) then d.xtStart x true
  else d

/-- What a write of `CLK_XTAL_CFG_A` or `_B` does (R690, R715). -/
def Dev.actXtalCfg (p : Path) (x w : Nat) (d : Dev) : Option Dev :=
  let on := bitAt w 31
  let was := d.flag (xtEn x)
  if !on && was && d.rd F.CLK_STS_REF_SEL == x then none
  else
    let d1 := if d.xt x = 0 then d.putHit p (xtReg x) w
      else ((d.wr (xtEn x) (b2n on)).wr (xtGates x) (bits w 12 4)).wr (xtWin x) (bits w 0 8)
    some (if on && !was then d1.xtOn x else if !on && was then d1.xtOff x else d1)

/-- XTAL_CFG_WRITE (R715). -/
def execXtalCfgWrite (p : Path) (x w : Nat) (s : State) : Out :=
  unit x 2 (.next (s.onDev (fun d => d.write p (xtReg x) w (Dev.actXtalCfg p x w))))

/-- A SAMPCLK trip (R699, R700, R110): `why` is 1 a stop, 2 a gate. -/
def Dev.sampTrip (d : Dev) (why : Nat) : Dev :=
  let d1 := (d.wr F.CLK_STS_SAMP_STATE 3).bump F.CLK_CNT_TRIPS_S
  ((d1.setClk { d1.clk with sampGates := 0, standing := false }).orbitClockFail).enterSafe 2 2 why

/-- SAMPCLK_GATE (R699): a gate counted `n` cycles over 40,960 REF cycles. -/
def Dev.sampGate (n : Nat) (d0 : Dev) : Dev :=
  let st := d0.rd F.CLK_STS_SAMP_STATE
  if !d0.coreOn || !d0.refQualified || st == 0 || st == 3 || !(d0.refPast d0.clk.sampAt 40960) then d0
  else
    let d := d0.setClk { d0.clk with sampAt := d0.now }
    let d1 := (d.wrS F.CLK_MEAS_S_DEV (clampInt (-8388608) 8388607 (ppm n 251658))).wr F.CLK_MEAS_S_VALID 1
    let ok := decide (absI ((n : Int) - 251658) * 1000000 ≤ (max 20 (d.rd F.CLK_MON_CFG_SAMP_WIN) * 251658 : Nat))
    if !ok then (if st = 2 then d1.sampTrip 2 else d1.setClk { d1.clk with sampGates := 0 })
    else if st = 2 then d1
    else
      let d2 := d1.setClk { d1.clk with sampGates := d1.clk.sampGates + 1 }
      if d2.clk.sampGates < 4 then d2 else (d2.wr F.CLK_STS_SAMP_STATE 2).safeTryEnd

/-- SAMPCLK_GATE (R699). -/
def execSampclkGate (n : Nat) (s : State) : Out := .next (s.onDev (Dev.sampGate n))

/-- SAMPCLK_STOP (R699). -/
def Dev.sampStop (d : Dev) : Dev :=
  if !d.coreOn then d
  else if d.rd F.CLK_STS_SAMP_STATE = 2 then d.sampTrip 1
  else d.setClk { d.clk with sampGates := 0 }

/-- SAMPCLK_STOP (R699): no edge within 8 FIO cycles. -/
def execSampclkStop (s : State) : Out := .next (s.onDev Dev.sampStop)

/-- SAMPCLK_RETURN (R699): edges return. -/
def execSampclkReturn (s : State) : Out :=
  .next (s.onDev (fun d => if d.coreOn && d.rd F.CLK_STS_SAMP_STATE == 3 then
    (d.wr F.CLK_STS_SAMP_STATE 1).setClk { d.clk with sampAt := d.now } else d))

/-- LREF_GATE (R703): a gate of LREFCLK_j over 40,960 REF cycles counted `n` cycles, nominally 160,000, within ± 200 ppm; none
is a stop, which no gate delays. Judged while its link die is powered. -/
def Dev.lrefGate (j : Nat) (n : Option Nat) (d0 : Dev) : Dev :=
  let m := d0.rd F.CLK_STS_LREF_OK
  let ok := n.any (fun k => decide (absI ((k : Int) - 160000) ≤ 32))
  let d := if n.isSome then d0.setClk { d0.clk with lrefAt := tabPut d0.clk.lrefAt j d0.now } else d0
  if !(d0.linkDieOn (j / 2)) || !d0.coreOn || (n.isSome && !(d0.refPast (tabGet 0 d0.clk.lrefAt j) 40960)) then d0
  else if ok then d.wr F.CLK_STS_LREF_OK (m ||| 2 ^ j)
  else if !(bitAt m j) then d
  else ((d.wr F.CLK_STS_LREF_OK (m - 2 ^ j)).each (upTo 32) (fun x k => x.laneFail (32 * j + k))).raise 0x126 j

/-- LREF_GATE (R703). -/
def execLrefGate (j : Nat) (n : Option Nat) (s : State) : Out := unit j 4 (.next (s.onDev (Dev.lrefGate j n)))

/-- CLK_SAMP_WAIT (R710): a second in *APPLY* without a qualified SAMPCLK, and every second after it. -/
def Dev.sampWait (d : Dev) : Dev :=
  if d.boot = 4 ∧ d.rd F.CLK_STS_SAMP_STATE ≠ 2 ∧ 122880000 ≤ d.now - d.clk.waitAt then
    (d.setClk { d.clk with waitAt := d.now }).raise 0x127
  else d

/-- CLK_SAMP_WAIT (R710). -/
def execClkSampWait (s : State) : Out := .next (s.onDev Dev.sampWait)

/-- AO_POWER_GOOD (R710, R721). -/
def execAoPowerGood (s : State) : Out := .next (s.aoReset (if s.dev.clk.resetLow then 3 else 1) true)

/-- RESET_N_ASSERT (R708): RESET_N has been low for 1 µs. -/
def State.resetLow (s : State) : State :=
  if s.dev.clk.resetLow then s
  else (s.onDev (fun d => d.setClk { d.clk with resetLow := true })).aoReset (s.dev.causeAfter 1) false

/-- RESET_N_ASSERT (R708). -/
def execResetNAssert (s : State) : Out := .next s.resetLow

/-- RESET_N_RELEASE (R708). -/
def execResetNRelease (s : State) : Out :=
  .next (s.onDev (fun d => d.setClk { d.clk with resetLow := false, bootAt := d.now }))

/-- The AO fuse word's clock settings (R679, R855). -/
def Dev.fuseClocks (d : Dev) (w : Nat) : Dev :=
  if !(bitAt w 31) then d
  else
    (((((d.wr F.CLK_XTAL_CFG_A_EN (bits w 0 1)).wr F.CLK_XTAL_CFG_A_BYPASS (bits w 1 1)).wr F.CLK_XTAL_CFG_A_START_MS
      (bits w 2 8)).wr F.CLK_XTAL_CFG_B_EN (bits w 10 1)).wr F.CLK_XTAL_CFG_B_BYPASS (bits w 11 1)).wr
      F.CLK_XTAL_CFG_B_START_MS (bits w 12 8)

/-- CLK_WAIT_ENTRY (R66, R679, R683, R710): FIO has run 8,192 cycles; the fuse word is read and the crystals are started. -/
def State.clkWait (s : State) : State :=
  if s.dev.boot ≠ 0 ∨ s.dev.clk.resetLow ∨ !(s.dev.fioPast s.dev.clk.bootAt 8192) then s
  else
    s.onDev (fun d =>
      let d1 := (d.fuseClocks s.mem.otp.aoFuse).setBoot 1
      let d2 := d1.xtStart 0 true
      let d3 := if !(d2.flag F.CLK_CTL_B_COLD) || !(d2.flag F.CLK_XTAL_CFG_A_EN) then d2.xtStart 1 true else d2
      if d3.noSource then d3.raise 0x123 else d3)

/-- CLK_WAIT_ENTRY (R710). -/
def execClkWaitEntry (s : State) : Out := .next s.clkWait

/-- AO_WATCHDOG (R704): no FIO edge in 2 SIO cycles. -/
def execAoWatchdog (s : State) : Out := .next (s.aoReset (s.dev.causeAfter 4) false)

/-- SIO_FAIL (R704): no SIO edge in 8,192 FIO cycles. -/
def execSioFail (s : State) : Out :=
  .next (s.onDev (fun d => if d.flag F.CLK_STS_SIO_FAIL then d else (d.wr F.CLK_STS_SIO_FAIL 1).raise 0x128 0 2))

/-- After a core reset the supervisor applies R686 afresh (R709): a switch in progress is abandoned; REF stays where that
input is *QUALIFIED*, else a new switch starts. -/
def Dev.clkAfresh (d : Dev) : Dev :=
  let d1 := (d.wr F.CLK_STS_SWITCHING 0).setClk { d.clk with switchTo := none, domainReset := false }
  let r := d1.rd F.CLK_STS_REF_SEL
  if d.boot ≤ 1 ∨ d.boot = 10 ∨ d.pwr.stopping.isSome then d
  else if r < 2 then (if d1.xt r = 3 then d1 else d1.switchAsk d1.chainTop)
  else d1.refSeek

/-- What a write of `CLK_RST_CTL` does (R709, R720): `CHIP` or `CORE` with the key, else ignored and recorded. -/
def State.rstCtl (w : Nat) (s : State) : State :=
  if F.CLK_RST_CTL_KEY.of w ≠ 0x5A ∨ bits w 0 2 = 0 then s.onDev (fun d => d.raise 0x128 0 3)
  else if bitAt w 1 then s.aoReset (s.dev.causeAfter 2) false
  else (s.coreReset F.CLK_RST_CAUSE_CORE_SW).onDev Dev.clkAfresh

/-- A write of `CLK_RST_CTL`: judged, completed, then acted on, since a reset takes the completion's register with it. -/
def rstWrite (p : Path) (w : Nat) (s : State) : State :=
  let h := hit .CLK_RST_CTL RD.CLK_RST_CTL
  let st := s.dev.judge h p w
  if st ≠ 0 then s.onDev (fun d => d.fail p h.addr st)
  else (s.rstCtl w).onDev (fun d => d.complete 0)

/-- CHIP_RESET (R709). -/
def execChipReset (p : Path) (w : Nat) (s : State) : Out := .next (rstWrite p (withBits w 1 1 1) s)

/-- CORE_RESET (R709). -/
def execCoreReset (p : Path) (w : Nat) (s : State) : Out := .next (rstWrite p (withBits w 0 1 1) s)

end Sys2Proof.Machine
end

