-- ==== Sys2Proof/Machine/Flash.lean ====
section
/-! DEFINITION. The masters' flash operations and the programming of OTP (chapter 15, R849, R850, R853, R854). -/

namespace Sys2Proof.Machine

/-- A register write whose effect reaches beyond the block: judged and completed as `Dev.write` does it, then acted on. -/
def State.write (s : State) (p : Path) (h : Hit) (w : Nat) (act : State → Option State) (rej : Dev → Dev := id) : State :=
  let st := s.dev.judge h p w
  if st ≠ 0 then s.onDev (fun d => d.fail p h.addr st)
  else
    match act s with
    | some s1 => s1.onDev (fun d => d.complete 0)
    | none => s.onDev (fun d => (rej d).fail p h.addr 4)

/-- A user operation lies where it may (R850): a read within the device, a program within a page of the user region, an
erase at a sector of it. -/
def flashFits (op a len : Nat) : Bool :=
  match op with
  | 1 => decide (flUser ≤ a) && decide (a % 256 + len ≤ 256)
  | 2 => decide (flUser ≤ a) && a % 65536 == 0
  | _ => decide (a + len ≤ 2 ^ 26)

/-- The octets of the flash buffer (R865). -/
def Dev.flashBuf (d : Dev) : List Nat := (upTo 64).flatMap (fun w => toOctets 4 (d.rd F.HIF_FLASH_BUF_DATA w))

/-- Puts octets into the flash buffer from its start. -/
def Dev.flashBufPut (d : Dev) (l : List Nat) : Dev :=
  let n := l ++ d.flashBuf.drop l.length
  d.each (upTo 64) (fun x w => x.wr F.HIF_FLASH_BUF_DATA (leAt n (4 * w) 4) w)

/-- `GO` of `HIF_FLASH_CTL` (R849, R850, R748): ended at once, or queued. -/
def State.flashGo (s : State) : State :=
  let d := s.dev
  let op := d.rd F.HIF_FLASH_CTL_OP % 3
  let a := d.rd F.HIF_FLASH_ADDR_ADDR
  let len := d.rd F.HIF_FLASH_CTL_LEN_M1 + 1
  if !d.memOn then s.onDev (fun x => x.wr F.HIF_FLASH_CTL_RESULT 3)
  else if !(flashFits op a len) then s.onDev (fun x => x.wr F.HIF_FLASH_CTL_RESULT 1)
  else if op ≠ 0 ∧ d.pwr.stopping.isSome then s.onDev (fun x => x.wr F.HIF_FLASH_CTL_RESULT 4)
  else
    let j : FlashJob := { op := op, addr := a, len := len, data := d.flashBuf.take len }
    (s.onDev (fun x => ({ x with hif := { x.hif with flashJobs := x.hif.flashJobs ++ [j] } }).wr
      F.HIF_FLASH_CTL_BUSY 1)).flashKick

/-- What a write of `HIF_FLASH_CTL` does (R865). -/
def State.actFlashCtl (p : Path) (w : Nat) (s : State) : Option State :=
  let busy := s.dev.flag F.HIF_FLASH_CTL_BUSY
  let s1 := s.onDev (fun d => d.putHit p (hit .HIF_FLASH_CTL RD.HIF_FLASH_CTL) w)
  some (if F.HIF_FLASH_CTL_GO.hit w && !busy then s1.flashGo else s1)

/-- A `GO` with one operation code. -/
def flashCommand (op : Nat) (p : Path) (w : Nat) (s : State) : Out :=
  let w1 := withBits (withBits w 24 2 op) 31 1 1
  .next (s.write p (hit .HIF_FLASH_CTL RD.HIF_FLASH_CTL) w1 (State.actFlashCtl p w1))

/-- FLASH_READ (R850). -/
def execFlashRead (p : Path) (w : Nat) (s : State) : Out := flashCommand 0 p w s

/-- FLASH_PROGRAM (R850). -/
def execFlashProgram (p : Path) (w : Nat) (s : State) : Out := flashCommand 1 p w s

/-- FLASH_ERASE (R850). -/
def execFlashErase (p : Path) (w : Nat) (s : State) : Out := flashCommand 2 p w s

/-- The user operation that runs ends (R849, R850, R852): `bad` says that the device failed it; then what a program or an
erase leaves is open. -/
def State.flashJobDone (bad : Bool) (s : State) : State :=
  match s.dev.hif.flashJobs with
  | [] => s
  | j :: rest =>
    if j.slot || !j.begun then s
    else
      let r := s.jobRange j
      let s0 := s.onDev (fun d => { d with hif := { d.hif with flashJobs := rest } })
      let s1 :=
        if bad then
          (if j.op = 0 then s0 else s0.scramble r.1 r.2).onDev (fun d => (d.flashEnd 2).raise 0x168 0 j.addr)
        else if j.op = 1 then
          (({ s0 with mem := s0.mem.flProgram j.addr j.data } : State).journal 0x21 r.1 r.2).onDev (fun d => d.flashEnd 0)
        else if j.op = 2 then
          (({ s0 with mem := s0.mem.flErase j.addr 0x10000 } : State).journal 0x21 r.1 r.2).onDev (fun d => d.flashEnd 0)
        else
          s0.onDev (fun d => (d.flashBufPut (s.mem.flRead j.addr j.len)).flashEnd 0)
      s1.flashKick

/-- FLASH_OP_DONE (R849): a flash operation completes with its result. -/
def execFlashOpDone (bad : Bool) (s : State) : Out := .next (s.flashJobDone bad)

/-- `GO` of `HIF_OTP_CTL` (R854): with another key ignored and recorded; else refused with a result, or begun. -/
def State.otpGo (w : Nat) (s : State) : State :=
  let d := s.dev
  let t := d.rd F.HIF_OTP_CTL_TARGET
  let refuse := fun (r : Nat) => s.onDev (fun x => (x.wr F.HIF_OTP_CTL_RESULT r).raise 0x16A 0 (t + 16 * r))
  if F.HIF_OTP_CTL_KEY.of w ≠ 0xC3 then
    s.onDev (fun x => let v := x.draw; v.2.raise 0x16A 0 (t + 16 * (v.1 % 8)))
  else if d.flag F.HIF_OTP_CTL_BUSY then s
  else if 5 ≤ t ∨ bitAt s.mem.otp.done t then refuse 1
  else if bitAt s.mem.otp.done 4 then refuse 2
  else if t < 3 ∧ (upTo 8).all (fun k => d.rd F.HIF_OTP_DATA_DATA k == 0) then refuse 4
  else s.onDev (fun x => ({ x with hif := { x.hif with otpRun := some t } }).wr F.HIF_OTP_CTL_BUSY 1)

/-- What a write of `HIF_OTP_CTL` does (R854, R866). -/
def State.actOtpCtl (p : Path) (w : Nat) (s : State) : Option State :=
  let s1 := if s.dev.flag F.HIF_OTP_CTL_BUSY then s
    else s.onDev (fun d => d.putHit p (hit .HIF_OTP_CTL RD.HIF_OTP_CTL) w)
  some (if F.HIF_OTP_CTL_GO.hit w then s1.otpGo w else s1)

/-- OTP_GO (R854). -/
def execOtpGo (p : Path) (w : Nat) (s : State) : Out :=
  let w1 := withBits w 31 1 1
  .next (s.write p (hit .HIF_OTP_CTL RD.HIF_OTP_CTL) w1 (State.actOtpCtl p w1))

/-- OTP_PROG_DONE (R854): programming ends; `bad` says that the read-back does not match. -/
def execOtpProgDone (bad : Bool) (s : State) : Out := .next (s.otpDone bad)

end Sys2Proof.Machine
end

