-- ==== Sys2Proof/Machine/Power.lean ====
section
/-! DEFINITION. The power controller's commands (chapter 13): the wake ladder, domains, stops and restarts, the ageing monitors. -/

namespace Sys2Proof.Machine

/-- Replaces the power controller's state. -/
def Dev.setPwr (d : Dev) (x : Power) : Dev := { d with pwr := x }

/-- What one ladder step takes from the head of the queue within `room`, in 0.25 A (R732, R733). -/
def ladderTake : Nat → List (Nat × Bool) → List (Nat × Bool)
  | _, [] => []
  | room, (n, w) :: t => if wakeStep n ≤ room then (n, w) :: ladderTake (room - wakeStep n) t else []

/-- The ladder executes one request (R728): a wake closes the switch, a gate isolates the domain, whose switch opens 1 µs later. -/
def State.ladderDo (s : State) (q : Nat × Bool) : State :=
  if q.2 then s.onDev (fun d => (d.wr F.PWR_DOM_STATE 2 q.1).setPwr { d.pwr with wakeAt := tabPut d.pwr.wakeAt q.1 d.now })
  else (s.domGone q.1).onDev (fun d => (d.wr F.PWR_DOM_STATE 4 q.1).setPwr { d.pwr with gating := tabPut d.pwr.gating q.1 d.now })

/-- `GAP_US` has passed since the ladder's last step, never less than 20 µs (R732). -/
def Dev.ladderDue (d : Dev) : Bool :=
  d.pwr.stepAt.all (fun t => decide (12288 * max 20 (d.rd F.PWR_LADDER_GAP_US) ≤ 100 * (d.now - t)))

/-- LADDER_STEP (R732, R733); in *CORE_WAKE* the ladder holds while REF is on no *QUALIFIED* source (R73). -/
def State.ladderStep (s : State) : State :=
  if s.dev.boot = 2 ∧ s.dev.pwr.stopping.isNone ∧ !s.dev.refOk then s
  else
    let l := ladderTake (min 60 (s.dev.rd F.PWR_LADDER_MAX_A)) s.dev.pwr.queue
    if l.isEmpty || !s.dev.ladderDue then s
    else
      let s1 := s.onDev (fun d => (d.setPwr { d.pwr with queue := d.pwr.queue.drop l.length, stepAt := some d.now }).bump F.PWR_LADDER_CNT_STEPS)
      (l.foldl State.ladderDo s1).stopCheck

/-- LADDER_STEP (R732). -/
def execLadderStep (s : State) : Out := .next s.ladderStep

/-- DOMAIN_SUPPLY_GOOD (R728): isolation is released; a gate that waited for it is queued (R733). What the domain brings:
the compute die, donor links, journal recovery (R852), lanes. -/
def State.supplyGood (n : Nat) (s : State) : State :=
  if s.dev.rd F.PWR_DOM_STATE n ≠ 2 then s
  else
    let s1 := s.onDev (fun d =>
      let waits := d.pwr.gateAfter.contains n
      let l := if 74 ≤ n ∧ !(d.linkDieOn ((n - 74) / 4)) then [2 * ((n - 74) / 4), 2 * ((n - 74) / 4) + 1] else []
      let d0 : Dev := { d with clk := { d.clk with lrefAt := l.foldl (fun t j => tabPut t j d.now) d.clk.lrefAt } }
      let d1 := (d0.wr F.PWR_DOM_STATE 3 n).setPwr { d.pwr with
        good := d.pwr.good.filter (fun k => k != n) ++ [n], gateAfter := d.pwr.gateAfter.filter (fun k => k != n) }
      let d2 := if n < 4 then d1.coreUp else if n = 4 then d1.donRefresh
        else if 74 ≤ n then d1.each (upTo 16) (fun x k => x.pairDecide (x.portOfLane (16 * (n - 74) + k))) else d1
      if waits then d2.ladderAsk false n else d2)
    (if n = 5 then s1.journalRecover.flashKick else s1).stopCheck

/-- DOMAIN_SUPPLY_GOOD (R728). -/
def execDomainSupplyGood (n : Nat) (s : State) : Out := unit n 82 (.next (s.supplyGood n))

/-- A domain's switch is opened after a fault, and it is named (R729). -/
def Dev.domFault (d : Dev) (n cause : Nat) : Dev :=
  let d1 := ((d.wr F.PWR_DOM_STATE 5 n).wr F.PWR_DOM_CAUSE cause n).raise 0x140 n cause
  d1.setPwr { d1.pwr with queue := d1.pwr.queue.filter (fun q => q.1 != n) }

/-- A domain can fault in this way (R729): an overcurrent of a closed switch; a supply not good 10 µs after the switch closed; a supply
lost while the domain is *ON*. -/
def Dev.canFault (d : Dev) (n cause : Nat) : Bool :=
  let waking := d.rd F.PWR_DOM_STATE n == 2
  match cause with
  | 1 => waking || d.domOn n
  | 2 => waking && decide (12288 ≤ 10 * (d.now - tabGet 0 d.pwr.wakeAt n + 1))
  | 3 => d.domOn n
  | _ => false

/-- DOMAIN_FAULT (R729): `cause` is that of `PWR_DOM_n`. -/
def State.domainFault (n cause : Nat) (s : State) : State :=
  if !(s.dev.canFault n cause) then s
  else
    let s1 := s.onDev (fun d => d.domFault n cause)
    if n < 4 then
      let s2 := (if s1.dev.coreOn then s1.flashCut s1.dev.memOn 4 else s1).stopStart 3
      ((s2.domGone n).onDev (fun d => (d.wr F.PWR_DOM_STATE 5 n).setPwr
        { d.pwr with queue := d.pwr.queue.filter (fun q => q.1 != n) })).stopCheck
    else
      let s2 := s1.domGone n
      (s2.onDev (fun d =>
        if 6 ≤ n ∧ n < 42 then d.spFail (n - 6) 4
        else if 42 ≤ n ∧ n < 74 then d.lpFail (n - 42) 4
        else d)).stopCheck

/-- DOMAIN_FAULT (R729). -/
def execDomainFault (n cause : Nat) (s : State) : Out := unit n 82 (.next (s.domainFault n cause))

/-- `RETRY` of a domain (R730): once per AO reset, of DON, MEM and the link dies, in *FAULT*. -/
def Dev.pwrRetry (d : Dev) (n : Nat) : Dev :=
  if (n = 4 ∨ n = 5 ∨ 74 ≤ n) ∧ d.rd F.PWR_DOM_STATE n = 5 ∧ !(d.pwr.retried.contains n) then
    ((d.setPwr { d.pwr with retried := d.pwr.retried ++ [n] }).wr F.PWR_DOM_STATE 0 n).ladderAsk true n
  else d

/-- What a write of `PWR_DOM_n` does (R759). -/
def Dev.actPwrDom (n w : Nat) (d : Dev) : Option Dev := some (if F.PWR_DOM_RETRY.hit w then d.pwrRetry n else d)

/-- PWR_RETRY (R730). -/
def execPwrRetry (p : Path) (n w : Nat) (s : State) : Out :=
  let w1 := withBits w 31 1 1
  unit n 82 (.next (s.onDev (fun d => d.write p (hit .PWR_DOM RD.PWR_DOM n) w1 (Dev.actPwrDom n w1))))

/-- A domain that is on has had nothing to do for so many samples (R731). -/
def Dev.idleFor (d : Dev) (n len : Nat) : Bool := (tabFind d.pwr.idleAt n).any (fun t => decide (len ≤ d.now - t))

/-- SP_GATE_TIMER (R731): 1 ms after a slice processor was left without a stream. -/
def Dev.spGate (n : Nat) (d : Dev) : Dev :=
  if !(d.idleFor (6 + n) 122880) || (d.slc.takeover.bind (fun t => t.target)) == some n then d
  else d.ladderAsk false (6 + n)

/-- SP_GATE_TIMER (R731). -/
def execSpGateTimer (n : Nat) (s : State) : Out := unit n 36 (.next (s.onDev (Dev.spGate n)))

/-- LINK_QUARTER_IDLE (R731): all lanes of quarter `q` of the link dies, 0 to 7, have been disabled for 1 s. -/
def Dev.quarterIdle (q : Nat) (d : Dev) : Dev :=
  if !(d.idleFor (74 + q) 122880000) then d else d.ladderAsk false (74 + q)

/-- LINK_QUARTER_IDLE (R731). -/
def execLinkQuarterIdle (q : Nat) (s : State) : Out := unit q 8 (.next (s.onDev (Dev.quarterIdle q)))

/-- SHUTDOWN_PROGRAM_END (R748 step 3): the page program completes, or is abandoned after 4 ms; the journal records which,
and gating starts. -/
def State.programEnd (done : Bool) (s : State) : State :=
  if s.dev.pwr.stopping.isNone || s.dev.pwr.stopGating then s
  else if done then (if s.dev.er.archBusy.isEmpty then s.flashJobDone false else s.archiveProgramDone true true).stopGate
  else if s.dev.now - s.dev.pwr.stopAt < 491520 then s
  else (s.flashCut true 4).stopGate

/-- SHUTDOWN_PROGRAM_END (R748). -/
def execShutdownProgramEnd (done : Bool) (s : State) : Out := .next (s.programEnd done)

/-- THERMAL_TRIP (R750): a comparator fires; every switch opens at once, a flash write is cut off. -/
def State.trip (s : State) : State :=
  let mark := fun (d : Dev) => ((d.wr F.THM_STS_TRIP 1).bump F.THM_CNT_SHUTDOWNS).raise 0x146
  if s.dev.clk.resetLow then s
  else if s.dev.boot = 10 then s.onDev (fun d => (mark d).wr F.PWR_STS_STOP_CAUSE 2)
  else
    let s1 := (s.flashCut false 3).onDev (fun d =>
      let d1 := mark d
      if d1.er.clearTo.isSome then
        ({ d1 with er := { d1.er with clearTo := none } }).wr F.EVT_CLR_CTL_BUSY 0 |>.raise 9
      else d1)
    s1.coreGone.onDev (fun d => d.stoppedEntry 2)

/-- THERMAL_TRIP (R750). -/
def execThermalTrip (s : State) : Out := .next s.trip

/-- The conditions of a restart (R751). -/
def Dev.cooled (d : Dev) : Bool :=
  decide (122880000 * max 1 (d.rd F.PWR_CTL_COOL_S) ≤ d.now - d.pwr.stoppedAt) && decide (3 ≤ d.pwr.cool)

/-- The restart that leaves *STOPPED* (R707, R751). -/
def State.restart (s : State) : State :=
  let cause := s.dev.rd F.PWR_STS_STOP_CAUSE
  let s1 := (s.onDev (fun d =>
    let d1 := ((d.wr F.CLK_RST_CAUSE_THERMAL 1).zero [F.THM_STS_SHUTDOWN, F.THM_STS_TRIP]).wr F.THM_STS_STEPS
      (if cause = 1 ∨ cause = 2 then min 63 (d.rd F.THM_THROTTLE_CFG_RESTART_STEPS) else 0)
    d1.setPwr { d1.pwr with shutdown := {}, throttleAt := d1.now })).coreRestart
  s1.onDev Dev.clkAfresh

/-- `RESTART` (R751, R755). -/
def State.restartAsk (s : State) : State :=
  if s.dev.boot ≠ 10 then s
  else if s.dev.cooled then s.restart
  else s.onDev (fun d => d.bump F.PWR_STS_RESTART_REFUSED)

/-- Every counter of the power chapter clears (R754). -/
def Dev.pwrClear (d : Dev) : Dev :=
  d.zero [F.PWR_STS_RESTART_REFUSED, F.PWR_LADDER_CNT_STEPS, F.PWR_LADDER_CNT_MERGED, F.PWR_LADDER_CNT_URGENT,
    F.THM_CNT_SHUTDOWNS, F.THM_CNT_THROTTLES, F.THM_CNT_WARNS, F.THM_CNT_SUSPECTS, F.BGV_CNT_DEFERRED, F.BGV_CNT_ACTIONS]

/-- What a write of `PWR_CTL` does (R754). -/
def State.actPwrCtl (p : Path) (w : Nat) (s : State) : Option State :=
  let s1 := s.onDev (fun d => d.putHit p (hit .PWR_CTL RD.PWR_CTL) w)
  let s2 := if F.PWR_CTL_CLR_CNT.hit w then s1.onDev Dev.pwrClear else s1
  some (if F.PWR_CTL_RESTART.hit w then s2.restartAsk else s2)

/-- A write of `PWR_CTL`. -/
def pwrCtlWrite (p : Path) (w : Nat) (s : State) : Out :=
  .next (s.write p (hit .PWR_CTL RD.PWR_CTL) w (State.actPwrCtl p w))

/-- RESTART (R751). -/
def execRestart (p : Path) (w : Nat) (s : State) : Out := pwrCtlWrite p (withBits w 1 1 1) s

/-- PWR_CLR_CNT (R754). -/
def execPwrClrCnt (p : Path) (w : Nat) (s : State) : Out := pwrCtlWrite p (withBits w 0 1 1) s

/-- AUTO_RESTART (R751): after a thermal stop, up to `AUTO_MAX` times since the last AO reset. -/
def State.autoRestart (s : State) : State :=
  let d := s.dev
  if d.boot == 10 && d.flag F.PWR_CTL_AUTO_RESTART && d.rd F.PWR_STS_STOP_CAUSE == 1 &&
      decide (d.rd F.PWR_STS_AUTO_DONE < d.rd F.PWR_CTL_AUTO_MAX) && d.cooled then
    s.restart.onDev (fun x => x.bump F.PWR_STS_AUTO_DONE)
  else s

/-- AUTO_RESTART (R751). -/
def execAutoRestart (s : State) : Out := .next s.autoRestart

/-- The die of an ageing monitor is powered (R896, R897). -/
def Dev.agePowered (d : Dev) (n : Nat) : Bool :=
  if n = 4 then d.linkDieOn 0 else if n = 5 then d.linkDieOn 1 else if n = 6 then true else d.coreOn

/-- A measurement of monitor `n` is due: its die is powered, and it is the first, or `PERIOD_H` hours of FIO after the last
(R896, R899: 0 acts as 1). -/
def Dev.ageDue (d : Dev) (n : Nat) : Bool :=
  d.agePowered n && (tabFind d.pwr.agedAt n).all (fun t => d.fioPast t (288000000000 * max 1 (d.rd F.THM_AGE_CFG_PERIOD_H)))

/-- AGE_MEASURE (R896, R897): monitor `n` measures a slowdown, in 0.01 %. -/
def Dev.ageMeasure (n : Nat) (slow : Int) (d : Dev) : Dev :=
  if !(d.ageDue n) then d
  else
    let v := satSigned 16 slow
    let d0 : Dev := { d with pwr := { d.pwr with agedAt := tabPut d.pwr.agedAt n d.now } }
    let d1 := (d0.wrS F.THM_AGE_SLOW v n).wr F.THM_AGE_VALID 1 n
    if v < (d.rd F.THM_AGE_CFG_AGE_LIM : Int) then d1
    else
      let d2 := d1.wr F.THM_AGE_WARN 1 n
      if d2.flag F.THM_AGE_CFG_IRQ_EN then d2.msi (d2.rd F.THM_AGE_CFG_IRQ_VEC) else d2

/-- AGE_MEASURE (R896). -/
def execAgeMeasure (n : Nat) (slow : Int) (s : State) : Out := unit n 8 (.next (s.onDev (Dev.ageMeasure n slow)))

end Sys2Proof.Machine
end

