-- ==== Sys2Proof/Machine/Thermal.lean ====
section
/-! DEFINITION. Thermal sensors, their cross-check, the thermal levels and throttle steps (chapter 13, R735 to R741). -/

namespace Sys2Proof.Machine

/-- Where the regular sequences hold sensor `n`'s result: converter and entry (R623). -/
def tsEntry (n : Nat) : Nat × Nat := if n < 24 then (n / 8, n % 8) else (3, n - 24)

/-- The die of sensor `n` is powered (R736, R737). -/
def Dev.tsPowered (d : Dev) (n : Nat) : Bool :=
  if n < 24 then d.coreOn else if n < 26 then d.linkDieOn 0 else if n < 28 then d.linkDieOn 1 else true

/-- A sensor's own reading of this round in 1/16 °C (R735); none where its result is not valid. -/
def Dev.tsOwn (d : Dev) (n : Nat) : Option Int :=
  let e := tsEntry n
  if d.flag F.HK_REG_RES_VALID e.1 e.2 then
    some (clampInt (-32768) 32767 (divNear ((d.rd F.HK_REG_RES_CODE e.1 e.2 : Int) - 28800) 8 + 400 + Config.thermalTrim n))
  else none

/-- The neighbours of a sensor (R736). -/
def tsNear (n : Nat) : List Nat :=
  if n < 24 then
    (if 6 ≤ n then [n - 6] else []) ++ (if n < 18 then [n + 6] else []) ++ (if n % 6 = 0 then [] else [n - 1]) ++
      (if n % 6 = 5 then [] else [n + 1])
  else if n % 2 = 0 then [n + 1] else [n - 1]

/-- A sensor's cross-check state. -/
def Dev.sensor (d : Dev) (n : Nat) : Sensor := tabGet {} d.pwr.sensors n

/-- A sensor is suspect (R763). -/
def Dev.suspect (d : Dev) (n : Nat) : Bool := bitAt (d.rd F.THM_SUSPECT_SUSPECT) n

/-- A sensor's reading for its neighbours' sake: its own, or its previous effective reading where that is not valid. -/
def Dev.tsVal (d : Dev) (n : Nat) : Int := (d.tsOwn n).getD (d.rdS F.THM_TS_EFFECTIVE n)

/-- Twice the median of a list: the middle reading, or the mean of the two in the middle. -/
def median2 (l : List Int) : Option Int :=
  let s := l.mergeSort (fun a b => decide (a ≤ b))
  if s.length < 2 then none
  else if s.length % 2 = 1 then (s[s.length / 2]?).map (fun x => 2 * x)
  else match s[s.length / 2 - 1]?, s[s.length / 2]? with
    | some a, some b => some (a + b)
    | _, _ => none

/-- Twice the reference of a sensor (R737, R738). -/
def Dev.tsRef (d : Dev) (n : Nat) : Option Int :=
  if n < 24 then median2 (((tsNear n).filter (fun k => !(d.suspect k))).map d.tsVal)
  else (tsNear n).head?.bind (fun k => (d.tsOwn k).map (fun x => 2 * x))

/-- The sensor lies farther than `lim`, in 1/32 °C, from its reference; `none` where it cannot be told. -/
def Dev.tsFar (d : Dev) (n : Nat) (lim : Int) : Option Bool :=
  match d.tsOwn n, d.tsRef n with
  | some x, some r => some (decide (lim < absI (2 * x - r)))
  | _, _ => none

/-- Of the two sensors of a small die, this one is the one to suspect: the cooler (R737). -/
def Dev.tsCooler (d : Dev) (n : Nat) : Bool :=
  decide (24 ≤ n) && (tsNear n).all (fun k => decide (d.tsVal n < d.tsVal k) || (d.tsVal n == d.tsVal k && decide (n < k)))

/-- What one round makes of a sensor's cross-check: its state and whether it is suspect (R737, R738). -/
def Dev.sensorRound (d : Dev) (n : Nat) : Sensor × Bool :=
  let x := d.sensor n
  let was := d.suspect n
  if !(d.tsPowered n) then ({ mute := x.mute }, was)
  else
    let missed := if (d.tsOwn n).isNone then x.missed + 1 else 0
    let gone := decide (3 < missed)
    let pairBusy := decide (24 ≤ n) && (tsNear n).any d.suspect
    let far := if was || pairBusy then 0 else if d.tsFar n 256 = some true then x.far + 1 else 0
    let near := if was ∧ d.tsFar n 128 = some false then x.near + 1 else 0
    let susp := gone || (decide (3 ≤ far) && (decide (n < 24) || d.tsCooler n))
    let back := was && !gone && decide (max 1 (d.rd F.THM_THR_READMIT) ≤ near)
    ({ far := if susp then 0 else far, near := if back then 0 else near, missed := min missed 255,
       mute := (x.mute || gone) && !back }, if back then false else was || susp)

/-- One sensor's cross-check result is taken, with the record of a change. -/
def Dev.sensorTake (d : Dev) (n : Nat) (r : Sensor × Bool) : Dev :=
  let m := d.rd F.THM_SUSPECT_SUSPECT
  let d1 := d.setPwr { d.pwr with sensors := tabSet {} d.pwr.sensors n r.1 }
  if r.2 && !(bitAt m n) then
    ((d1.wr F.THM_SUSPECT_SUSPECT (m + 2 ^ n)).bump F.THM_CNT_SUSPECTS).raise 0x141 n
  else if !r.2 && bitAt m n then (d1.wr F.THM_SUSPECT_SUSPECT (m - 2 ^ n)).raise 0x142 n
  else d1

/-- More than four compute die sensors are suspect (R739). -/
def Dev.checkLost (d : Dev) : Bool := decide (4 < countBelow 24 d.suspect)

/-- A sensor's effective reading (R738, R739). -/
def Dev.tsEffective (d : Dev) (n : Nat) : Int :=
  let own := d.tsVal n
  if d.suspect n && ((d.sensor n).mute || !(decide (n < 24) && d.checkLost)) then
    match (tsNear n).map d.tsVal with
    | [] => own
    | x :: t => t.foldl max x
  else own

/-- The round's cross-check, effective readings and T_hot (R737 to R739). -/
def Dev.sensorsRound (d : Dev) : Dev :=
  let rs := (upTo 30).map (fun n => (n, d.sensorRound n))
  let d1 := rs.foldl (fun x p => x.sensorTake p.1 p.2) d
  let off := d1.checkLost
  let d2 := (if off && !(d.flag F.THM_STS_CHECK_OFF) then d1.raise 0x143 else d1).wr F.THM_STS_CHECK_OFF (b2n off)
  let on := (upTo 30).filter d2.tsPowered
  let es := on.map (fun n => (n, d2.tsEffective n))
  let d3 := d2.each on (fun x n =>
    match d2.tsOwn n with
    | some v => x.wrS F.THM_TS_RAW v n
    | none => x)
  let d4 := es.foldl (fun (x : Dev) (p : Nat × Int) => x.wrS F.THM_TS_EFFECTIVE p.2 p.1) d3
  let hot := es.foldl (fun (b : Option (Nat × Int)) p =>
    match b with
    | none => some p
    | some q => if q.2 < p.2 then some p else some q) none
  match hot with
  | none => d4
  | some p => (d4.wrS F.THM_STS_T_HOT p.2).wr F.THM_STS_HOT_SENSOR p.1

/-- A level's counts after a round (R740); thresholds in °C. -/
def levelRound (l : Level) (t : Int) (thr hyst : Int) : Level :=
  { above := if 16 * thr < t then min 3 (l.above + 1) else 0, under := if t < 16 * (thr - hyst) then min 3 (l.under + 1) else 0 }

/-- `PERIOD` of the throttle steps runs from now (R741). -/
def Dev.throttleMark (d : Dev) : Dev := d.setPwr { d.pwr with throttleAt := d.now }

/-- A throttle step is taken, up to `MAX_STEPS` (R741). -/
def Dev.stepTake (d : Dev) : Dev :=
  let n := d.rd F.THM_STS_STEPS
  if min 63 (d.rd F.THM_THROTTLE_CFG_MAX_STEPS) ≤ n then d else (d.wr F.THM_STS_STEPS (n + 1)).raise 0x148 0 (n + 1)

/-- A throttle step is returned (R741). -/
def Dev.stepBack (d : Dev) : Dev :=
  let n := d.rd F.THM_STS_STEPS
  if n = 0 then d else (d.wr F.THM_STS_STEPS (n - 1)).raise 0x148 0 (n - 1)

/-- WARN and THROTTLE after a round (R740, R741). -/
def Dev.warmLevels (d : Dev) (t : Int) : Dev :=
  let d0 := d.setPwr { d.pwr with
    warn := levelRound d.pwr.warn t (min 95 (d.rd F.THM_THR_WARN)) 3
    throttle := levelRound d.pwr.throttle t (min 105 (d.rd F.THM_THR_THROTTLE)) 4 }
  let d1 := if !(d0.flag F.THM_STS_WARN) ∧ d0.pwr.warn.above = 3 then
      ((d0.wr F.THM_STS_WARN 1).bump F.THM_CNT_WARNS).raise 0x144
    else if d0.flag F.THM_STS_WARN ∧ d0.pwr.warn.under = 3 then d0.wr F.THM_STS_WARN 0 else d0
  if !(d1.flag F.THM_STS_THROTTLE) ∧ d1.pwr.throttle.above = 3 then
    let d2 := (d1.throttleMark.wr F.THM_STS_THROTTLE 1).bump F.THM_CNT_THROTTLES
    (if d2.rd F.THM_STS_STEPS = 0 then d2.stepTake else d2).faultPin
  else if d1.flag F.THM_STS_THROTTLE ∧ d1.pwr.throttle.under = 3 then (d1.throttleMark.wr F.THM_STS_THROTTLE 0).faultPin
  else d1

/-- The rounds of *STOPPED* in which the always-on die's sensors read below 105 °C (R751). -/
def Dev.coolRound (d : Dev) : Dev :=
  if d.boot ≠ 10 then d
  else
    let ok := d.rdS F.THM_TS_EFFECTIVE 28 < 1680 && d.rdS F.THM_TS_EFFECTIVE 29 < 1680
    d.setPwr { d.pwr with cool := if ok then min 3 (d.pwr.cool + 1) else 0 }

/-- No converter has a system entry of its regular run still to convert: the round's readings are in (R625, R742). -/
def Dev.roundRead (d : Dev) : Bool :=
  (upTo 4).all (fun k => (match (d.conv k).reg with | some l => l.all (fun q => decide (10 ≤ q.1)) | none => true) &&
    !((d.conv k).waitRound && d.flag F.HK_SEQ_STS_REG_WAIT k))

/-- THERMAL_EVAL (R740): once a round, when its readings are in, its sensors and levels; SHUTDOWN begins the orderly stop (R748). -/
def State.thermalEval (s : State) : State :=
  if !s.dev.pwr.evalOwed || !s.dev.roundRead then s
  else
  let s1 := s.onDev (fun d =>
    let d1 := (d.setPwr { d.pwr with evalOwed := false }).sensorsRound
    (d1.warmLevels (d1.rdS F.THM_STS_T_HOT)).coolRound)
  let d := s1.dev
  if d.boot = 10 ∨ d.pwr.stopping.isSome then s1
  else
    let l := levelRound d.pwr.shutdown (d.rdS F.THM_STS_T_HOT) (min 115 (d.rd F.THM_THR_SHUTDOWN)) 10
    let s2 := s1.onDev (fun x => x.setPwr { x.pwr with shutdown := l })
    if l.above = 3 ∧ !(d.flag F.THM_STS_SHUTDOWN) then
      (s2.onDev (fun x => (((x.wr F.THM_STS_SHUTDOWN 1).bump F.THM_CNT_SHUTDOWNS).raise 0x145).faultPin)).stopStart 1
    else s2

/-- THERMAL_EVAL (R740). -/
def execThermalEval (s : State) : Out := .next s.thermalEval

/-- THROTTLE_STEP (R741): a `PERIOD` has passed since the crossing, the release or the last step. -/
def Dev.throttleStep (d : Dev) : Dev :=
  if d.now - d.pwr.throttleAt < 12288000 * max 1 (d.rd F.THM_THROTTLE_CFG_PERIOD) then d
  else if d.flag F.THM_STS_THROTTLE then d.throttleMark.stepTake else d.throttleMark.stepBack

/-- THROTTLE_STEP (R741). -/
def execThrottleStep (s : State) : Out := .next (s.onDev Dev.throttleStep)

end Sys2Proof.Machine
end

