-- ==== Sys2Proof/Machine/Governor.lean ====
section
/-! DEFINITION. The budget governor (chapter 13, R742 to R747) and the life count (R898). Powers are in units of 0.1 nW, the
power of one pJ in each round of 10 ms. -/

namespace Sys2Proof.Machine

/-- 2^(2^i / 320) in units of 2^-64, for i from 0 to 8. -/
def pow2Tab : List Nat := [
  18486744594849062048, 18526831854422468400, 18607267341624611194, 18769187480415049499, 19097267098590300770,
  19770730768400532067, 21189744572521466218, 24340624733262758999, 32117646888694579733]

/-- The product of the entries that the bits of `r` select, in units of 2^-64. -/
def pow2Mul : List Nat → Nat → Nat → Nat
  | [], _, acc => acc
  | c :: t, r, acc => pow2Mul t (r / 2) (if r % 2 = 1 then acc * c / 2 ^ 64 else acc)

/-- `a` × 2^(x / 320). -/
def pow2Scale (a : Nat) (x : Int) : Nat :=
  let q := x / 320
  let m := a * pow2Mul pow2Tab (x % 320).toNat (2 ^ 64)
  if 0 ≤ q then m * 2 ^ q.toNat / 2 ^ 64 else m / 2 ^ (64 + (-q).toNat)

/-- A quarter of a watt. -/
def quarterW : Nat := 2500000000

/-- The weight of an activity class (R771). -/
def Dev.weight (d : Dev) (k : Nat) : Nat := d.rd F.BGV_WEIGHT_WEIGHT k

/-- The power of counts of the eight classes (R742). -/
def Dev.countsPower (d : Dev) (l : Tab Nat) : Int := sumBelow 8 (fun k => (d.weight k * tabGet 0 l k : Nat))

/-- The counts n_k of a round (R743): lane-microseconds of the lane-samples, and kbit of the bits. -/
def Activity.round (a : Activity) : Tab Nat :=
  let c := a.counts
  tabSet 0 (tabSet 0 c 5 (tabGet 0 c 5 * 100 / 12288)) 6 (tabGet 0 c 6 / 8000)

/-- The part of a round's counts that a port slice made. -/
def Activity.ofSlice (a : Activity) (key : Nat) : Tab Nat := (upTo 8).map (fun k => (k, tabGet 0 a.slices (8 * key + k)))

/-- The highest effective reading of the compute die, T_c (R742). -/
def Dev.tCore (d : Dev) : Int := (upTo 24).foldl (fun a n => max a (d.rdS F.THM_TS_EFFECTIVE n)) (d.rdS F.THM_TS_EFFECTIVE 0)

/-- P_static (R742). -/
def Dev.pStatic (d : Dev) : Int :=
  let sps := countBelow 36 (fun n => d.domOn (6 + n))
  let lps := countBelow 32 (fun n => d.domOn (42 + n))
  let links := countBelow 2 d.linkDieOn
  let base := d.rd F.BGV_STATIC_CC * quarterW + links * d.rd F.BGV_STATIC_LINK * quarterW +
    (sps * d.rd F.BGV_STATIC_SP + lps * d.rd F.BGV_STATIC_LP) * 100000000
  pow2Scale base (d.tCore - 1360)

/-- P_meas (R725, R742). -/
def Dev.pMeas (d : Dev) : Int :=
  sumBelow 8 (fun r => if d.flag F.PWR_RAIL_I_VALID r then
    (d.rd F.PWR_RAIL_I_CURRENT r * d.rd F.PWR_RAIL_MV r * 10000 : Nat) else 0) +
  (d.rd F.BGV_BUDGET_UNSENSED_W * quarterW : Nat)

/-- The budget B in force (R742). -/
def Dev.budgetNow (d : Dev) : Int :=
  (min 620 (d.rd F.BGV_BUDGET_BUDGET_W) * quarterW : Nat) -
    (d.rd F.THM_STS_STEPS * max 1 (d.rd F.THM_THROTTLE_CFG_STEP_W) * quarterW : Nat)

/-- A power in 1/16 W (R769). -/
def sixteenths (x : Int) : Int := divNear x 625000000

/-- The next lower level of the granted duty, and the next higher (R744). -/
def dutyDown (g : Nat) : Nat := g / 2
def dutyUp (g : Nat) : Nat := if g = 0 then 1 else min 8 (2 * g)

/-- The donor slices whose granted multiplier can still rise (R521, R744). -/
def Dev.tickRoom (d : Dev) : List Nat :=
  (upTo 16).filter (fun n => d.declared n && decide (d.rd F.BGV_DSLICE_MULT_GRANT n < 3) &&
    multFit (d.orb (d.donor n).orbit).base (d.rd F.BGV_DSLICE_MULT_GRANT n + 1) == d.rd F.BGV_DSLICE_MULT_GRANT n + 1)

/-- The donor slice whose multiplier rises next: lowest `PRIO`, then the higher index (R744). -/
def Dev.tickNext (d : Dev) : Option Nat :=
  d.tickRoom.foldl (fun b n =>
    match b with
    | none => some n
    | some k => if d.rd F.BGV_DSLICE_PRIO k < d.rd F.BGV_DSLICE_PRIO n then some k else some n) none

/-- The port slices that may be budget-muted, by downlink stream (R745). -/
def Dev.muteRoom (d : Dev) : List Nat :=
  ((d.portStreams.map sliceKey).eraseDups).filter (fun k =>
    decide ((d.portSlice k).prio < 15) && !(d.underSurvey k) && !(d.underSurvey (k + 8)) && !(d.budgetMuted k) &&
    !(d.budgetMuted (k + 8)))

/-- The port slice to mute next (R36): lowest priority, then the higher port number, then the higher port-slice number. -/
def Dev.muteNext (d : Dev) : Option Nat :=
  d.muteRoom.foldl (fun b k =>
    match b with
    | none => some k
    | some q => if (d.portSlice q).prio < (d.portSlice k).prio then some q
      else if (d.portSlice k).prio < (d.portSlice q).prio then some k
      else if k < q then some q else some k) none

/-- The ladder's next action (R744). -/
def Dev.nextAction (d : Dev) : Option BgvAction :=
  if !(d.flag F.BGV_STS_DEFER) then some .defer
  else if d.rd F.BGV_STS_DUTY_GRANT ≠ 0 then some .weave
  else match d.tickNext with
    | some n => some (.tick n)
    | none => d.muteNext.map .mute

/-- What an action removes from P_model, from the last round's counts (R744): `start` is the part as the round began. -/
def Dev.saving (d start : Dev) (a : Activity) (x : BgvAction) : Int :=
  match x with
  | .defer => d.countsPower a.defer
  | .weave =>
    let g := d.rd F.BGV_STS_DUTY_GRANT
    sumBelow 16 (fun n =>
      let st := min 8 (d.rd F.ISO_WEAVE_DUTY_SET n)
      let e0 := start.duty n
      if e0 = 0 then 0 else ((d.weight 2 * tabGet 0 a.weave n * (min st g - min st (dutyDown g)) / e0 : Nat) : Int))
  | .tick n =>
    let m0 := start.rd F.CE_SLICE_TICK_MULT_EFF n
    let m := max (d.rd F.CE_SLICE_TICK_MULT_SET n) (d.rd F.BGV_DSLICE_MULT_GRANT n)
    let m1 := max m (d.rd F.BGV_DSLICE_MULT_GRANT n + 1)
    let p := d.weight 3 * tabGet 0 a.updates n * 2 ^ m0
    (p / 2 ^ m : Nat) - (p / 2 ^ m1 : Nat)
  | .mute k => d.countsPower (a.ofSlice k)

/-- `STAGE` follows the actions in force (R768). -/
def Dev.showStage (d : Dev) : Dev :=
  let st := d.pwr.actions.foldl (fun a q => max a (match q.1 with | .defer => 0 | .weave => 1 | .tick _ => 2 | .mute _ => 3)) 0
  d.wr F.BGV_STS_STAGE st

/-- Marks one port slice's streams, or takes their marks. -/
def Dev.muteMark (d : Dev) (k : Nat) (on : Bool) : Dev :=
  d.each [k, k + 8] (fun x m =>
    let w := x.rd F.BGV_MUTE_MUTE (m / 32)
    if on then (if x.has m then x.wr F.BGV_MUTE_MUTE (w ||| 2 ^ (m % 32)) (m / 32) else x)
    else x.wr F.BGV_MUTE_MUTE (w - (w &&& 2 ^ (m % 32))) (m / 32))

/-- An action is taken (R744, R745). -/
def Dev.takeAction (d : Dev) (x : BgvAction) (save : Int) : Dev :=
  let d1 := match x with
    | .defer => d.wr F.BGV_STS_DEFER 1
    | .weave => d.wr F.BGV_STS_DUTY_GRANT (dutyDown (d.rd F.BGV_STS_DUTY_GRANT))
    | .tick n => d.wr F.BGV_DSLICE_MULT_GRANT (d.rd F.BGV_DSLICE_MULT_GRANT n + 1) n
    | .mute k => d.muteMark k true
  ((d1.setPwr { d1.pwr with actions := (x, save) :: d1.pwr.actions }).bump F.BGV_CNT_ACTIONS).showStage

/-- The last action is undone (R744, R745): a mute's tiles soft-start. -/
def Dev.undoAction (d : Dev) : Dev :=
  match d.pwr.actions with
  | [] => d
  | (x, _) :: t =>
    let d1 := match x with
      | .defer => d.wr F.BGV_STS_DEFER 0
      | .weave => d.wr F.BGV_STS_DUTY_GRANT (dutyUp (d.rd F.BGV_STS_DUTY_GRANT))
      | .tick n => d.wr F.BGV_DSLICE_MULT_GRANT (d.rd F.BGV_DSLICE_MULT_GRANT n - 1) n
      | .mute k => ((d.muteMark k false).pairOf k).foldl Dev.softStart (d.muteMark k false)
    (d1.setPwr { d1.pwr with actions := t }).showStage

/-- The actions of a round while the estimate lies above the budget (R746), at most `n`; with what the estimate becomes. -/
def Dev.takeActions (start : Dev) (a : Activity) (b : Int) : Nat → Int → Dev → Int × Dev
  | 0, p, d => (p, d)
  | n + 1, p, d =>
    if p ≤ b then (p, d)
    else
      match d.nextAction with
      | none => (p, d)
      | some x =>
        let sv := d.saving start a x
        Dev.takeActions start a b n (p - sv) (d.takeAction x sv)

/-- One round's decision (R746, R747, R752, R766). -/
def Dev.governorAct (d : Dev) (a : Activity) (p b : Int) : Dev :=
  let margin : Int := (d.rd F.BGV_BUDGET_REL_MARGIN * quarterW : Nat)
  if !(d.flag F.BGV_CTL_EN) then
    (if d.flag F.CLK_STS_SAFE then d else d.undoAction).setPwr { (if d.flag F.CLK_STS_SAFE then d else d.undoAction).pwr with rel := 0 }
  else if b < p then
    let r := Dev.takeActions d a b 256 p (d.setPwr { d.pwr with rel := 0 })
    let out := decide (b < r.1)
    let d1 := r.2.wr F.BGV_STS_EXHAUSTED (b2n out)
    if out && !(d.flag F.BGV_STS_EXHAUSTED) then d1.raise 0x147 else d1
  else
    let d0 := d.wr F.BGV_STS_EXHAUSTED 0
    match d0.pwr.actions with
    | [] => d0.setPwr { d0.pwr with rel := 0 }
    | (_, cost) :: _ =>
      if p + cost ≤ b - margin then
        let n := d0.pwr.rel + 1
        if max 1 (d.rd F.BGV_BUDGET_REL_ROUNDS) ≤ n ∧ !(d.flag F.CLK_STS_SAFE) then
          (d0.setPwr { d0.pwr with rel := 0 }).undoAction
        else d0.setPwr { d0.pwr with rel := min n 63 }
      else d0.setPwr { d0.pwr with rel := 0 }

/-- A round adds to the life count (R898). -/
def Dev.lifeRound (d : Dev) : Dev :=
  let n := d.pwr.life + pow2Scale (2 ^ 32) (2 * (d.rdS F.THM_STS_T_HOT - 1360))
  (d.setPwr { d.pwr with life := n }).wr F.THM_LIFE_HOURS (satNat 32 (n / (22500 * 2 ^ 32)))

/-- GOVERNOR_ROUND (R742, R746): once a round, after its readings and their evaluation, on the round's activity; idle while the compute
die is off. -/
def Dev.governorRound (dev : Dev) : Dev :=
  let a := dev.pwr.act
  let d := dev.setPwr { dev.pwr with governOwed := false, act := {} }
  let d0 := d.lifeRound
  if !dev.pwr.governOwed || dev.pwr.evalOwed then dev
  else if !d0.coreOn then d0
  else
    let model := d0.countsPower a.round + d0.pStatic
    let meas := d0.pMeas
    let c := d0.pwr.corr + divNear (meas - model - d0.pwr.corr) (2 ^ d0.rd F.BGV_CTL_CORR_SHIFT)
    let p := model + c
    let b := d0.budgetNow
    let d1 := (((d0.setPwr { d0.pwr with corr := c }).wr F.BGV_EST_P_EST (clampInt 0 65535 (sixteenths p)).toNat).wr
      F.BGV_EST_B_NOW (clampInt 0 65535 (sixteenths b)).toNat).wr F.BGV_MEAS_P_MEAS (clampInt 0 65535 (sixteenths meas)).toNat
    (d1.wrS F.BGV_MEAS_CORR (satSigned 16 (sixteenths c))).governorAct a p b

/-- GOVERNOR_ROUND (R746). -/
def execGovernorRound (s : State) : Out := .next (s.onDev Dev.governorRound)

/-- An action of a removed port slice or donor slice leaves the ladder (R752). -/
def Dev.ladderDrop (d : Dev) (keep : BgvAction → Bool) : Dev :=
  (d.setPwr { d.pwr with actions := d.pwr.actions.filter (fun q => keep q.1) }).showStage

end Sys2Proof.Machine
end

