-- ==== Sys2Proof/Machine/LoopUnits.lean ====
section
/-! DEFINITION. The loop engine's work on its 32 processors: units, order, deadlines, reservations, load and completion (R520 to R530, R557, R563). -/

namespace Sys2Proof.Machine

/-- Samples to the next tick boundary of a donor slice. -/
def Dev.tickLeft (d : Dev) (n : Nat) : Nat := d.tickLen n - d.sinceTick n

/-- The deadline guard in samples; values below 4 act as 4 (R555). -/
def Dev.tickGuard (d : Dev) : Nat := 256 * max 4 (d.rd F.CE_TIMING_GUARD)

/-- Samples to the deadline of a donor slice's tick (R525): `GUARD` before the next boundary, or 256 samples before the earliest of the
tick commits for that boundary executes. -/
def Dev.deadlineIn (d : Dev) (n : Nat) : Int :=
  let g := d.tickLeft n
  let pos := (d.orbPos (d.donor n).orbit + g) % orbitSpan
  let at' : Int := g + ahead pos (d.commitPos n g)
  (d.streamsOf n).foldl (fun a m => min a ((16 * at' - d.commitLead m) / 16 - 256)) ((g : Int) - d.tickGuard)

/-- The tick of a donor slice and direction takes work: it began while the engine ran, and its deadline is to come (R525, R551). -/
def Dev.tickOpen (d : Dev) (n r : Nat) : Bool :=
  let lt := d.loopTick n r
  lt.live && !lt.closed && decide (0 < d.deadlineIn n)

/-- The tile samples' outputs of the boundary have arrived at a tap. -/
def Dev.outputIn (d : Dev) (m tap : Nat) : Bool :=
  let c := d.chain m tap
  let n := d.donorOf m
  c.ready.isNone && c.gaveAt.any (fun x => decide (d.tickNow n ≤ x + d.tickLen n / 2))

/-- A stream's units may start: both outputs of the boundary have arrived, which they have after 30 µs if they arrive at all (R524), and
the slice has taken the coefficient bank that is due (R540). -/
def Dev.inputsIn (d : Dev) (m : Nat) : Bool :=
  let n := d.donorOf m
  (decide (3687 ≤ d.sinceTick n) || (d.outputIn m 0 && d.outputIn m 1)) && !(d.eng.coefDue.contains n)

/-- The reservation of a building loop in samples (R526): its evaluation at 8 cycles a tile, and reselections at 12 (R520), of which it
allows as many as its last tick made (DESIGN CHOICE, log 102: the spec does not say how many). A processor runs 8 cycles in a sample. -/
def Dev.reserved (d : Dev) (n r : Nat) : Nat := (2048 + 12 * (d.loopTick n r).reserve + 7) / 8

/-- The unit is held by a processor. -/
def Dev.unitHeld (d : Dev) (u : LoopUnit) : Bool := d.eng.procs.any (fun q => q.2.unit == u)

/-- Samples that a stream's tile updates and a slice loop take (R520). -/
def tilesTime : Nat := 384
def sliceTime : Nat := 2

/-- The units of a donor slice and direction that wait for a processor (R524, R526). -/
def Dev.unitsOf (d : Dev) (n r : Nat) : List LoopUnit :=
  let lt := d.loopTick n r
  let ms := d.streamsIn n r
  if !(d.tickOpen n r) || ms.isEmpty then []
  else
    let fits := decide ((tilesTime + d.reserved n r : Nat) ≤ d.deadlineIn n)
    let tiles := (ms.filter (fun m => !(lt.settled m) && !lt.evaluated && fits && d.inputsIn m)).map LoopUnit.tiles
    let slices := (ms.filter (fun m => !(lt.sliced.contains m) && !(lt.unsliced.contains m) && d.inputsIn m)).map LoopUnit.slice
    (tiles ++ (if ms.all lt.settled && !lt.evaluated then [LoopUnit.building n r] else []) ++ slices).filter (fun u => !(d.unitHeld u))

/-- A unit's place in the order of R526: the earliest deadline, then the highest muting priority, then the lower port number. DEDUCED
(log 102): a building loop goes before every other unit of its deadline; of one port and priority, tile updates before slice loops and
the lower stream number first. -/
def Dev.unitKey (d : Dev) (u : LoopUnit) : Nat :=
  let dl := (d.deadlineIn (d.unitSlice u).1).toNat
  let low := fun (m kind : Nat) => 2 ^ 30 + (63 - (d.portSlice m).prio % 64) * 2 ^ 23 + portOf m * 2 ^ 13 + kind * 2 ^ 12 + m
  dl * 2 ^ 31 + match u with
    | .building n r => 2 * n + r
    | .tiles m => low m 0
    | .slice m => low m 1

/-- The first unit of a list in that order. -/
def Dev.unitFirst (d : Dev) : List LoopUnit → Option LoopUnit
  | [] => none
  | u :: l => some (l.foldl (fun a b => if d.unitKey b < d.unitKey a then b else a) u)

/-- A loop processor can take work: healthy, powered, holding no unit (R526, R550). -/
def Dev.procIdle (d : Dev) (lp : Nat) : Bool :=
  (tabFind d.eng.failed lp).isNone && (tabFind d.eng.procs lp).isNone && d.domOn (42 + lp)

/-- Idle processors take the units that wait, first in order first (R526). -/
def Dev.unitsTake (d : Dev) : List Nat → List LoopUnit → Dev
  | [], _ => d
  | lp :: lps, us =>
    match d.unitFirst us with
    | none => d
    | some u =>
      let d1 : Dev := { d with eng := { d.eng with procs := tabPut d.eng.procs lp { unit := u, since := d.now } } }
      d1.unitsTake lps (us.filter (fun v => v != u))

/-- Donor slices and directions whose ticks are under way. -/
def Dev.liveTicks (d : Dev) : List (Nat × Nat) :=
  (d.eng.ticks.filter (fun q => q.2.live && !q.2.closed)).map (fun q => (q.1 / 2, q.1 % 2))

/-- One sample of the loop engine (R526): tile updates that would leave a building loop less than its reservation are abandoned, and idle
processors take units. -/
def Dev.loopsTick (d : Dev) : Dev :=
  let l := d.liveTicks
  if l.isEmpty then d
  else
    let d1 := l.foldl (fun (x : Dev) q =>
      let lt := x.loopTick q.1 q.2
      let late := (x.streamsIn q.1 q.2).filter (fun m => !(lt.settled m))
      if late.isEmpty || lt.evaluated || decide ((x.reserved q.1 q.2 : Int) < x.deadlineIn q.1) then x
      else x.tilesLate q.1 q.2 late) d
    d1.unitsTake ((upTo 32).filter d1.procIdle) (l.flatMap (fun q => d1.unitsOf q.1 q.2))

/-- The unit that completes was held for at least `time` samples before its deadline: the processor that holds it. -/
def Dev.unitReady (d : Dev) (u : LoopUnit) (time : Nat) : Option Nat :=
  let k := d.unitSlice u
  if !(d.tickOpen k.1 k.2) then none
  else (d.eng.procs.find? (fun q => q.2.unit == u && decide (time ≤ d.now - q.2.since))).map (fun q => q.1)

/-- A processor is done with a unit of `c` cycles (R520, R557). -/
def Dev.unitEnd (d : Dev) (lp c : Nat) (u : LoopUnit) : Dev :=
  let i := (d.donor (d.unitSlice u).1).orbit
  let d1 := d.procFree lp
  { d1 with eng := { d1.eng with cycles := tabPut d1.eng.cycles i (tabGet 0 d1.eng.cycles i + c) } }

/-- TILE_UPDATE (R520, R523, R524): the tile updates that a processor holds complete. -/
def Dev.tilesDone (m : Nat) (d : Dev) : Dev :=
  match d.unitReady (.tiles m) tilesTime with
  | none => d
  | some lp =>
    let n := d.donorOf m
    let d1 := d.tally 3 256
    let d2 : Dev := { d1 with pwr := { d1.pwr with act := { d1.pwr.act with updates := tabSet 0 d1.pwr.act.updates n (tabGet 0 d1.pwr.act.updates n + 256) } } }
    (d2.tileUpdate m).unitEnd lp 3072 (.tiles m)

/-- TILE_UPDATE (R523). -/
def execTileUpdate (m : Nat) (s : State) : Out := unit m 2048 (.next (s.onDev (Dev.tilesDone m)))

/-- SLICE_LOOP (R497, R520): the slice loop that a processor holds completes. -/
def Dev.sliceDone (m : Nat) (d : Dev) : Dev :=
  match d.unitReady (.slice m) sliceTime with
  | none => d
  | some lp => (d.sliceLoop m).unitEnd lp 16 (.slice m)

/-- SLICE_LOOP (R497). -/
def execSliceLoop (m : Nat) (s : State) : Out := unit m 2048 (.next (s.onDev (Dev.sliceDone m)))

/-- BUILDING_LOOP (R520, R524): the building loop that a processor holds completes, once it has had the time of its evaluation and of
the reselections that it makes. -/
def Dev.buildingDone (n r : Nat) (d : Dev) : Dev :=
  match d.unitReady (.building n r) 256 with
  | none => d
  | some lp =>
    let d1 := d.buildingLoop n r
    let c := 2048 + 12 * (d1.loopTick n r).resel
    if (d.unitReady (.building n r) ((c + 7) / 8)).isNone then d else d1.unitEnd lp c (.building n r)

/-- BUILDING_LOOP (R524). -/
def execBuildingLoop (n r : Nat) (s : State) : Out :=
  unit n 16 (unit r 2 (.next (s.onDev (Dev.buildingDone n r))))

/-- A tick commit of the slice's streams has been named and has yet to execute. -/
def Dev.commitsOpen (d : Dev) (n : Nat) : Bool :=
  (d.orb (d.donor n).orbit).jobs.any (fun q => q.tick && decide (q.stream < 2080) && d.dsliceOf q.stream == n)

/-- GAIN_RELEASE (R524): the checked gains go to the pending banks once the tick commit of the boundary has executed for every stream
of the slice, before the deadline. -/
def Dev.gainRelease (n r : Nat) (d : Dev) : Dev :=
  let lt := d.loopTick n r
  if !(d.tickOpen n r) || !lt.evaluated || lt.released || !(d.eng.committed.contains (2080 + n)) || d.commitsOpen n then d
  else d.releaseGains n r

/-- GAIN_RELEASE (R524). -/
def execGainRelease (n r : Nat) (s : State) : Out :=
  unit n 16 (unit r 2 (.next (s.onDev (Dev.gainRelease n r))))

/-- The deadline of an orbit's base tick has come and has not been taken (R528). -/
def Dev.beatDue (d : Dev) (i : Nat) : Bool :=
  let o := d.orb i
  o.ticks == 2 && !(d.eng.beats.contains i) &&
    decide (max 1 o.base ≤ posFrom o.tickFrom o.pos % max 1 o.base + d.tickGuard)

/-- What the window of an orbit's base tick shows at its end (R557, R563): the share of it that the orbit's units took, and the time for
which each processor was busy. -/
def Dev.loadTake (d : Dev) (i : Nat) : Dev :=
  let used := d.loadShare i (tabGet 0 d.eng.cycles i)
  let d1 := if d.rd F.CE_LOAD_PEAK i < used then d.wr F.CE_LOAD_PEAK used i else d
  let win := d1.loadWindow i / 10
  d1.each ((upTo 32).filter (fun k => (tabFind d1.eng.failed k).isNone)) (fun x k =>
    x.wr F.CE_LP_STS_UTIL (min 100 (tabGet 0 x.eng.busy (2 * k + i) * 100 / max 1 win)) k)

/-- The counts of a base tick start afresh at its boundary. -/
def Dev.loadStart (d : Dev) (i : Nat) : Dev :=
  { d with eng := { d.eng with
      busy := d.eng.busy.filter (fun q => q.1 % 2 != i % 2), cycles := tabDel d.eng.cycles i
      beats := d.eng.beats.filter (fun q => q != i), tickFault := d.eng.tickFault.filter (fun q => q != i) } }

end Sys2Proof.Machine
end

