-- ==== Sys2Proof/Machine/Meters.lean ====
section
/-! DEFINITION. What is measured at the taps at each tile sample: chains, correlators, the tail watch, 1 ms blocks and captures (chapters 06, 07 and 10); and the datapath's run. -/

namespace Sys2Proof.Machine

/-- The reference position of the tile sample of a donor slice that passes the synthesis input now (R342, R397): that of a gain commit
that acts on it. Its gain stage was 8 slice samples before. -/
def Dev.tileRef (d : Dev) (n : Nat) (up : Bool) : Nat :=
  let p : Int := 16 * (d.orbPos (d.donor n).orbit : Int) - 128 * d.scale n + d.tileLead n up
  (p / 16 % (orbitSpan : Int)).toNat

/-- The offset of a reference position in its loop tick (R128, R397). -/
def Dev.tickOffset (d : Dev) (n ref : Nat) : Nat :=
  let x : Int := posFrom (d.orb (d.donor n).orbit).tickFrom ref
  let y : Int := if 2 * x < (orbitSpan : Int) then x else x - (orbitSpan : Int)
  (y % (max 1 (d.tickLen n) : Nat)).toNat

/-- A position lies at or after another, within half the span. -/
def atOrAfter (pos ref : Nat) : Bool := decide (2 * posFrom pos ref < orbitSpan)

/-! ## Chains (R396 to R416) -/

/-- A station of the slice retunes or calibrates (R416): an on-board one of the donor slice, or one of the stream's remote. -/
def Dev.retuning (d : Dev) (n m : Nat) : Bool :=
  (upTo 8).any (fun s => d.rd F.FES_CTL_SLICE s == n && (d.rd F.FES_STS_STATE s == 2 || d.rd F.FES_STS_STATE s == 3)) ||
    (decide (m < 2048) && !(tabGet {} d.lnk.ports (portOf m)).tuning.isEmpty)

/-- One tile sample of a chain (R397, R403, R413): at a tick boundary the chain forms its output, then a restart that is due clears it,
then the tile sample joins its sub-interval. -/
def Dev.chainTake (d : Dev) (n m tap ref : Nat) (newTick : Bool) (restart : Option Nat) (row : Row) (fading : List Nat) : Dev :=
  let off := d.tickOffset n ref
  let tick := max 1 (d.tickLen n)
  let c := d.chain m tap
  let z := c.close
  let at' := posFrom off ref
  let c1 : ChainRun := if newTick then
      { z with ready := some { z.output (stampOf (d.donor n).orbit (lessDelay c.effH c.preset tick at')) with made := d.now } } else c
  let c2 := match restart with
    | some skip => c1.clear (d.preset m) (d.effH m) skip
    | none => c1
  let k := ((off + 1) * 2 ^ c2.effH - 1) / tick
  let first := decide (off < k * tick / 2 ^ c2.effH + 128 * d.scale n)
  d.setChain m tap (c2.take k first row.bad (d.retuning n m) (row.smp.map Cx.power) fading row.sat)

/-- The tiles of a stream that cross-fade at a tile sample (R350, R406). -/
def Dev.fadingAt (d : Dev) (m x : Nat) : List Nat :=
  let st := d.stream m
  if st.fadeAt ≤ x ∧ x < st.fadeAt + 16 then st.fadeFrom.map (fun q => q.1) else []

/-- The chains of a stream restart during its migration's shadow, which lasts until they have settled (R45, R413). -/
def Dev.shadowAgain (d : Dev) (m : Nat) : Dev :=
  match tabFind d.mld.migs m with
  | some g => if g.phase = 2 ∨ g.phase = 8 then
      { d with mld := { d.mld with migs := tabPut d.mld.migs m { g with since := d.now } } } else d
  | none => d

/-- One tile sample of both taps of a stream; a restart whose position has come is taken (R409, R413). -/
def Dev.chainsTake (d : Dev) (n x m ref : Nat) (newTick : Bool) : Dev :=
  let st := d.stream m
  let go := match st.restart with
    | some (none, k) => some k
    | some (some p, k) => if atOrAfter p ref then some k else none
    | none => none
  let d1 := d.chainTake n m 0 ref newTick go (d.ps m).inTap []
  let d2 := if d.hasTap m 1 then d1.chainTake n m 1 ref newTick go (d.ps m).outTap (d.fadingAt m x) else d1
  if go.isSome then (d2.setStream m { d2.stream m with restart := none }).shadowAgain m else d2

/-- Running captures of a stream take the tile sample (R419 to R421). -/
def Dev.capturesTake (d : Dev) (m ref : Nat) : Dev :=
  d.each ((d.chn.caps.map (fun q => q.1)).filter (fun c => d.rd F.MEA_CAP0_STREAM c == m)) (fun x c =>
    match tabFind x.chn.caps c with
    | none => x
    | some r =>
      if !(atOrAfter r.start ref) || x.captureFull c r || x.captureCut c r then x
      else
        let row := if x.rd F.MEA_CAP0_TAP c = 0 then (x.ps m).inTap else (x.ps m).outTap
        let lo := x.rd F.MEA_CAP0_FIRST_TILE c
        let l := (upTo (x.rd F.MEA_CAP0_LAST_TILE c + 1 - lo)).map (fun k =>
          let s := row.at (lo + k)
          (ofSigned 24 s.i.v, ofSigned 24 s.q.v, b2n row.bad + 2 * b2n (row.sat.contains (lo + k))))
        let stamp := r.stamp.getD (stampOf (x.orbitOf m) ref)
        { x with chn := { x.chn with caps := tabPut x.chn.caps c { r with stamp := some stamp, rows := l :: r.rows } } })

/-! ## Correlators (R442 to R445, R453) -/

/-- One of the rows that a delay covers is missing or invalid. -/
def rowsBad (rows : List Row) (u by16 : Nat) : Bool :=
  let whole := by16 / (2048 * u)
  (upTo (if by16 % (2048 * u) = 0 then 1 else 8)).any (fun k => ((rows[whole + k]?).map Row.bad).getD true)

/-- The three lags of a correlator, in 1/16 sample (R442): the nominal delay, and half a tile sample less and more. -/
def lagsOf (centre : Int) (u : Nat) : List Nat :=
  [(centre - 1024 * u).toNat, centre.toNat, (centre + 1024 * u).toNat]

/-- One tile sample joins a block (R442, R444): `y`, and the reference at the three lags. -/
def Corr.step (c : Corr) (y : Cx) (rs : List Cx) : Corr :=
  { c with
    lags := List.zipWith (fun q r => (q.1 + y.i.v * r.i.v + y.q.v * r.q.v, q.2.1 + y.q.v * r.i.v - y.i.v * r.q.v, q.2.2 + r.power)) c.lags rs
    y2 := c.y2 + y.power, used := c.used + 1 }

/-- A code period ends: the block closes, or goes on (R445). One that has taken no tile sample has not begun. -/
def Corr.period (c : Corr) (sin : Nat) (thr centre : Int) (u most : Nat) : Corr :=
  if c.used = 0 then { c with periods := 0 }
  else match c.result sin thr centre u (decide (most ≤ c.periods + 1)) with
    | some o => { done := some o }
    | none => { c with periods := c.periods + 1 }

/-- A tile sample of a donor slice lies in the usable window of its chip (R443). -/
def Dev.usable (d : Dev) (n x : Nat) : Bool :=
  let w := d.weave n
  let chip := 16 * 2 ^ w.chip
  decide ((x + chip * (w.late + 1) - w.late) % chip < d.rd F.ISO_WEAVE_WIDTH n)

/-- The rows that a cell's correlator delays (R442, R444): the port's gained tiles, or the combined sum of the donor slice. -/
def Dev.corrRefs (d : Dev) (n m : Nat) : List Row :=
  if dirOf m = 0 then (d.ps m).gained else (d.ps (2049 + 2 * n)).refs

/-- The tile sample counts for a cell of a stream (R442, R443, R444, R461): valid in both, in a segment of the direction, and in the
downlink of a running weave within the usable window. `y` is the tap observed. -/
def Dev.corrCounts (d : Dev) (n x m ref : Nat) (y : Row) : Bool :=
  !y.bad && d.inSegment n (dirOf m == 1) ref && (dirOf m == 1 || (d.inRound m).isSome || ((d.weave n).on && d.usable n x)) &&
    !((lagsOf (d.nominal m) (d.scale n)).any (rowsBad (d.corrRefs n m) (d.scale n)))

/-- One tile sample of one correlator, and the end of the code period that it may bring. -/
def Dev.corrNext (d : Dev) (n x m t : Nat) (y : Row) (counts : Bool) (c : Corr) : Corr :=
  let u := d.scale n
  let refs := d.corrRefs n m
  let c1 := if counts then c.step (y.at t) ((lagsOf (d.nominal m) u).map (fun k => delayed refs u k t)) else c
  if (x + 1) % (4096 * 2 ^ (d.weave n).chip) ≠ 0 then c1
  else
    let most := if (d.inRound m).isSome then c1.periods + 2 else max 1 (d.rd F.ISO_HOLD_CFG_BLOCK_MAX)
    c1.period (d.corrSin m) d.detThr (d.nominal m) u most

/-- The cell updates of a stream at a tile sample (R743): one per tile; those of the downlink by donor slice too (R744). -/
def Dev.cellActs (d : Dev) (n m : Nat) : Dev :=
  let d1 := d.tallySlice (sliceKey m) 2 256
  if dirOf m = 0 then
    { d1 with pwr := { d1.pwr with act := { d1.pwr.act with weave := tabSet 0 d1.pwr.act.weave n (tabGet 0 d1.pwr.act.weave n + 256) } } }
  else d1

/-- The cells of a port stream take a tile sample (R442 to R448). A hold discards the blocks under way; its beginning is kept. -/
def Dev.cellsTake (d : Dev) (n x m ref : Nat) : Dev :=
  let held := d.cellHeld m (d.far m)
  let since := (tabFind d.iso.heldAt m).getD d.now
  let d1 : Dev := { d with iso := { d.iso with heldAt := if held then tabPut d.iso.heldAt m since else tabDel d.iso.heldAt m } }
  if d.far m || (held && (d.inRound m).isNone) then d1.dropBlocks m
  else
    let y := if dirOf m = 0 then (d.ps (2048 + 2 * n)).inTap else (d.ps m).inTap
    let ok := d.corrCounts n x m ref y
    let d2 := d1.each (upTo 256) (fun z t => z.setCorr m t (d.corrNext n x m t y ok (z.corr m t)))
    if ok then d2.cellActs n m else d2

/-- The residual correlators of a donor slice's branches take a tile sample of the donor OUT tap (R453). -/
def Dev.residualsTake (d : Dev) (n x ref : Nat) : Dev :=
  d.eachBranch (fun z i t b =>
    if i ≠ n ∨ (z.rd F.ISO_BRANCH_STATE n t b ≠ 1 ∧ z.rd F.ISO_BRANCH_STATE n t b ≠ 2) then z
    else match z.streamAt 0 (z.rd F.ISO_BRANCH_PORT n t b) n with
      | none => z
      | some m =>
        let k := branchKey n t b
        let y := (z.ps (2048 + 2 * n)).outTap
        let ok := z.corrCounts n x m ref y
        let c := z.corrNext n x m t y ok (tabGet {} z.iso.residuals k)
        let z1 : Dev := { z with iso := { z.iso with residuals := tabSet {} z.iso.residuals k c } }
        if ok then z1.tally 2 1 else z1)

/-! ## Tail watch and 1 ms blocks (R568, R574, R580, R586) -/

/-- The level of a mean of |I|² + |Q|² (R394), for `sum` over `n` tile samples. -/
def levelOf (sum n : Nat) : Nat := readingCode (sum * 2 ^ 32 / max 1 n : Nat)

/-- The fast detector of a port stream takes a tile sample of the gain stage's output (R568, R570); windows lie on the TDL frame grid.
`edge` says that a pattern edge lies between it and the one before. -/
def Dev.fastTake (d : Dev) (x m : Nat) (edge : Bool) : Dev :=
  let win := 4 * 2 ^ d.rd F.PRT_FT_CFG_FT_WIN
  let row := (d.ps m).outTap
  let a0 := d.fastAccOf m
  let a : FastAcc := if x % win = 0 then { done := a0.done } else a0
  let b : FastAcc := { a with
    seen := a.seen + 1
    bad := a.bad || row.bad || (edge && x % win != 0) || d.flag F.SLC_PROT_MUTE m
    acc := addSums a.acc (row.smp.map Cx.power)
    faded := a.faded ++ (d.fadingAt m x).filter (fun t => !(a.faded.contains t)) }
  let c : FastAcc := if (x + 1) % win ≠ 0 then b
    else { b with done := (upTo 256).foldl (fun q t =>
      tabPut q t (dbOf (levelOf ((b.acc[t]?).getD 0) win), b.bad || b.seen != win || b.faded.contains t)) [] }
  d.setPrt { d.prt with fastAcc := tabSet {} d.prt.fastAcc m c }

/-- A 1 ms block takes a tile sample, after the one that ended where a new millisecond begins (R580, R586). -/
def PowerBlock.take (b : PowerBlock) (newMs counts : Bool) (row : Row) : PowerBlock :=
  let b1 : PowerBlock := if newMs then { done := some (if b.seen = 0 then none else some (levelOf b.sum b.seen)) } else b
  if counts then { b1 with seen := b1.seen + 1, sum := b1.sum + (row.smp.map Cx.power).foldl (· + ·) 0 } else b1

/-- The ripple of a tick's sums as a code (R574): 20 log10 of the ratio; 0x8001 below −127.996 dB and for a numerator of zero, 0x8000
where no tile sample was valid. -/
def SlowAcc.code (a : SlowAcc) : Nat :=
  let num := a.re.natAbs ^ 2 + a.im.natAbs ^ 2
  if a.seen = 0 then 0x8000 else if num = 0 then 0x8001 else dbCode (some (dbRatio num (a.den ^ 2)))

/-- The slow watch of a port stream takes a tile sample of the donor tap's `rows`, newest first (R574). -/
def Dev.slowTake (d : Dev) (n m ref : Nat) (newTick : Bool) (rows : List Row) : Dev :=
  let a0 := tabGet {} d.prt.slowAcc m
  let a : SlowAcc := if newTick then { done := some a0.code } else a0
  let u := d.scale n
  let lag := (d.loopDelay m).toNat
  let y := rows.headD { bad := true }
  let b : SlowAcc :=
    if !(d.slowCovers m) || y.bad || rowsBad rows u lag || !(d.inSegment n (dirOf m == 1) ref) then a
    else (upTo 256).foldl (fun (s : SlowAcc) t =>
      let p := y.at t
      let q := interpolated rows u lag t
      let r := cisTurn (((t : Int) - 128) * lag) (4096 * u)
      let re := p.i.v * q.i.v + p.q.v * q.q.v
      let im := p.q.v * q.i.v - p.i.v * q.q.v
      { s with re := s.re + divNear (re * r.1 - im * r.2) (2 ^ 40), im := s.im + divNear (re * r.2 + im * r.1) (2 ^ 40)
               den := s.den + p.power }) { a with seen := a.seen + 1 }
  d.setPrt { d.prt with slowAcc := tabSet {} d.prt.slowAcc m b }

/-- The meters of a port stream take tile sample `x`. -/
def Dev.portMeters (d : Dev) (n r x m ref : Nat) (newTick newMs edge : Bool) : Dev :=
  let rows := (d.ps (2048 + 2 * n + r)).refs
  let d1 := ((d.fastTake x m edge).cellsTake n x m ref).slowTake n m ref newTick rows
  let b := (tabGet {} d1.prt.outBlk m).take newMs true (d1.ps m).outTap
  d1.setPrt { d1.prt with outBlk := tabSet {} d1.prt.outBlk m b }

/-- Everything that is measured in one direction of a donor slice takes tile sample `x`. -/
def Dev.metersOf (d : Dev) (n x r : Nat) : Dev :=
  let ref := d.tileRef n (r == 1)
  let q := tabGet {} d.plane.clocks (2 * n + r)
  let c : TileClock := { off := d.tickOffset n ref, ms := ref / 122880, gate := if (d.donor n).tdd then d.segmentAt n ref else 0 }
  let ticks := (d.orb (d.donor n).orbit).ticks == 2
  let newTick := ticks && decide (c.off < q.off)
  let ports := d.streamsIn n r
  let own := 2048 + 2 * n + r
  let all := ports ++ [own].filter d.has
  let d1 : Dev := { d with plane := { d.plane with clocks := tabSet {} d.plane.clocks (2 * n + r) c } }
  let d2 := if ticks then d1.each all (fun z m => z.chainsTake n x m ref newTick) else d1
  let d3 := d2.each ports (fun z m => z.portMeters n r x m ref newTick (c.ms != q.ms) (c.gate != q.gate))
  let d4 := if r = 0 ∧ (d.donor n).dlEn then
      let b := (tabGet {} d3.prt.donorBlk n).take (c.ms != q.ms) (d.inSegment n false ref) (d3.ps own).inTap
      (d3.setPrt { d3.prt with donorBlk := tabSet {} d3.prt.donorBlk n b }).residualsTake n x ref
    else d3
  d4.each all (fun z m => z.capturesTake m ref)

/-- Tile sample `x` of a donor slice at the meters. -/
def Dev.planeMeters (d : Dev) (n x : Nat) : Dev := (d.metersOf n x 0).metersOf n x 1

/-! ## The run of the datapath -/

/-- What the donor streams and the ring do at an analysis instant of a donor slice (R743): a transfer counts as the ring's load does
(R39). -/
def Dev.analysisActs (d : Dev) (n : Nat) : Dev := if (d.donor n).dlEn then (d.tally 1 256).tally 4 256 else d

/-- The tile samples of a donor slice's port streams through their gain stages (R743); a budget-muted one has stopped (R745). -/
def Dev.gainActs (d : Dev) (n : Nat) : Dev :=
  d.each ((d.streamsOf n).filter (fun m => !(d.budgetMuted m))) (fun x m => x.tallySlice (sliceKey m) 0 256)

/-- What a donor uplink's synthesis and the partial sums on the ring do (R743, R39). -/
def Dev.synthesisActs (d : Dev) (n : Nat) : Dev :=
  let own := 2049 + 2 * n
  let sps := (((d.streamsOf n).filter (fun m => dirOf m == 1)).map d.spOf).eraseDups
  let far := sps.filter (fun p => !(d.has own) || p != d.spOf own)
  (if (d.donor n).ulEn then d.tally 1 256 else d).tally 4 (256 * far.length)

/-- The activity of one sample in the lanes and on the donor links (R743): two half lane-samples of each enabled lane at 25.78125 Gbit/s
and one at 10.3125, and the bits of each donor link in *DATA*, 33 for each converter pair and slice sample (R265). -/
def Dev.sampleActs (d : Dev) : Dev :=
  let lanes := d.countField F.LNK_CTL_EN 128 (fun v => v == 1)
  let fast := if lanes = 0 then 0 else countBelow 128 (fun n => d.flag F.LNK_CTL_EN n && d.flag F.LNK_CTL_RATE n)
  let links := (upTo 8).filter (fun j => d.rd F.DON_LINK_STS_STATE j == 4)
  let bits := links.foldl (fun a j => a + 264 * d.rd F.DON_LINK_CFG_M_PAIRS j / 2 ^ d.rd F.DON_LINK_CFG_RATE j) 0
  let d1 := if lanes = 0 then d else d.tally 5 (lanes + fast)
  if bits = 0 then d1 else d1.tally 6 bits

/-- One slice sample of a donor slice and of its port slices (R335, R336, R340). -/
def Dev.planeSlice (d : Dev) (n : Nat) : Dev :=
  let u := d.scale n
  let g := d.gridNow
  if g % u ≠ 0 then d
  else
    let k := g / u
    let d1 := d.donorIngress n k
    let d2 := if k % 128 = 0 then (d1.planeAnalysis n).analysisActs n else d1
    let d3 := if k % 128 = 4 then (d2.planeGain n (k / 128)).gainActs n else d2
    let d4 := if k % 128 = 12 then ((d3.planeSynthesis n).planeMeters n (k / 128)).synthesisActs n else d3
    (d4.each ((d4.streamsOf n).filter (fun m => dirOf m == 0)) (fun z m => z.downEgress n k m)).upEgress n k

/-- The slice map that a port's frames follow carries a stream (R186). -/
def Dev.mapCarries (d : Dev) (m : Nat) : Bool :=
  match (tabGet {} d.lnk.ports (portOf m)).map with
  | some q => q.2.any (fun s => s.num == m % 8 && (if dirOf m = 0 then s.dl else s.ul))
  | none => false

/-- A TDL frame boundary: a takeover's banks may have filled (R376), and one frame fewer of invalid output is to pass (R48, R194,
R372), on the streams that the grid times and whose frames reach a lane; an uplink port stream counts received frames instead. -/
def Dev.planeFrame (d : Dev) : Dev :=
  let filled := match d.slc.takeover with
    | some t => d.rd F.SLC_TAKEOVER_STEP == 3 && d.banksFilled t
    | none => false
  (if filled then d.wr F.SLC_TAKEOVER_STEP 4 else d).each ((d.streams.map (fun q => q.1)).filter (fun m => decide (2048 ≤ m) || (dirOf m == 0 && d.mapCarries m))) (fun x m =>
    let st := x.stream m
    if st.fill = 0 then x else x.setStream m { st with fill := st.fill - 1 })

/-- One sample of 122.88 MHz in the datapath. -/
def Dev.planeTick (d : Dev) : Dev :=
  let ns := (upTo 16).filter d.declared
  let d1 := d.each ns Dev.planeSlice
  let links := (upTo 4).filter (fun j => ns.any (fun n => d1.flag F.DON_SMAP_TX_VALID n && d1.rd F.DON_SMAP_TX_LINK n == j &&
    d1.gridNow % (16 * d1.scale n) == 15 * d1.scale n))
  let d2 := d1.each links (fun x j => x.donorEgress (j + 4))
  (if d2.gridNow % 256 = 0 then d2.planeFrame else d2).sampleActs

end Sys2Proof.Machine
end

