-- ==== Sys2Proof/Machine/MgmtBus.lean ====
section
/-! DEFINITION. The management buses of modules and PHYs (R233 to R237, R242, R259). -/

namespace Sys2Proof.Machine

/-- A transaction for lane `n` on its bus (R234, R259): where the lane sits behind a switch whose last selection on the bus was another
one, the select byte goes first; then the accesses of the lane's device. -/
def Dev.busRun (d : Dev) (n : Nat) (l : List BusAccess) : Dev :=
  let b := n / 32
  let a := d.rd F.LNK_MGMT_MUX_ADDR n
  let c := d.rd F.LNK_MGMT_MUX_CH n
  if a = 0 ∨ tabFind d.lnk.muxed b = some (a, c) then
    { d with lnk := { d.lnk with accesses := tabPut d.lnk.accesses b l } }
  else
    { d with lnk := { d.lnk with muxed := tabPut d.lnk.muxed b (a, c)
                                 accesses := tabPut d.lnk.accesses b ({ dev := a, write := true, data := [2 ^ c] } :: l) } }

/-- What a poll of a lane reads (R235, R259): bytes 96, 97 and 110 of address 0x51 of a module, or byte `POLL_REG` of a PHY. -/
def Dev.pollReads (d : Dev) (n : Nat) (l : List Nat) : List BusAccess :=
  if d.rd F.LNK_MGMT_KIND n = 1 then
    [{ dev := 0x51, reg := some 96, data := l.take 2 }, { dev := 0x51, reg := some 110, data := (l.drop 2).take 1 }]
  else [{ dev := d.rd F.LNK_MGMT_DEV_ADDR n, reg := some (d.rd F.LNK_MGMT_POLL_REG n), data := l.take 1 }]

/-- The poll of lane `n` is due (R235, R237, R241): its period has passed, and no host transaction waits for the bus. -/
def Dev.pollDue (d : Dev) (n : Nat) : Bool :=
  let b := n / 32
  let ms := d.rd F.LNK_MGB_CFG_POLL_MS b
  d.flag F.LNK_MGB_CFG_EN b && !(d.flag F.LNK_MGB_XFER_BUSY b) && ms != 0 &&
    match (d.ll n).polledAt with
    | some t => decide (122880 * ms ≤ d.now - t)
    | none => true

/-- MGB_POLL (R235, R236): a managed lane's device is polled; `ack` says that it answered, with these octets: bytes 96, 97
and 110 of a module, or the polled byte of a PHY. A changed status is recorded. -/
def Dev.mgbPoll (n : Nat) (ack : Bool) (l : List Nat) (d : Dev) : Dev :=
  let kind := d.rd F.LNK_MGMT_KIND n
  if !(kind == 1 || kind == 2) || !(d.pollDue n) then d
  else
    let old := d.word RD.LNK_MGMT_STS n
    let da := (d.busRun n (d.pollReads n (if ack then l else []))).setLl n { d.ll n with polledAt := some d.now }
    let d0 := da.wr F.LNK_MGMT_STS_PRESENT (b2n ack) n
    let d1 :=
      if !ack then d0
      else if kind = 1 then
        ((d0.wr F.LNK_MGMT_STS_TEMP (256 * (listAt l 0 % 256) + listAt l 1 % 256) n).wr F.LNK_MGMT_STS_RX_LOS
          (bits (listAt l 2) 1 1) n).wr F.LNK_MGMT_STS_TX_FAULT (bits (listAt l 2) 2 1) n
      else d0.wr F.LNK_MGMT_STS_RAW (listAt l 0) n
    if d1.word RD.LNK_MGMT_STS n = old then d1 else d1.raise 0x64 n (d1.word RD.LNK_MGMT_STS n)

/-- MGB_POLL (R235). -/
def execMgbPoll (n : Nat) (ack : Bool) (l : List Nat) (s : State) : Out := unit n 128 (.next (s.onDev (Dev.mgbPoll n ack l)))

/-- What a write of `LNK_MGB_XFER_b` does (R237, R242): `GO` starts a transaction that waits for the bus; a lane that the
part lacks is answered at once; a `GO` while one waits or runs starts none. -/
def Dev.actXfer (p : Path) (b w : Nat) (d : Dev) : Option Dev :=
  let busy := d.flag F.LNK_MGB_XFER_BUSY b
  let d1 := d.putHit p (hit .LNK_MGB_XFER RD.LNK_MGB_XFER b) w
  some (
    if !(F.LNK_MGB_XFER_GO.hit w) || busy then d1
    else if d1.laneAbsent (32 * b + d1.rd F.LNK_MGB_XFER_LANE_IDX b) then d1.wr F.LNK_MGB_XFER_RESULT 3 b
    else { d1.wr F.LNK_MGB_XFER_BUSY 1 b with lnk := { d1.lnk with xferAt := tabPut d1.lnk.xferAt b d1.now } })

/-- MGB_XFER (R242). -/
def execMgbXfer (p : Path) (b w : Nat) (s : State) : Out :=
  let w1 := withBits w 31 1 1
  unit b 4 (.next (s.onDev (fun d => d.write p (hit .LNK_MGB_XFER RD.LNK_MGB_XFER b) w1 (Dev.actXfer p b w1))))

/-- The host transaction of a bus runs on it (R234, R242), with the octets that it carries. -/
def Dev.xferRun (d : Dev) (b : Nat) (data : List Nat) : Dev :=
  d.busRun (32 * b + d.rd F.LNK_MGB_XFER_LANE_IDX b)
    [{ dev := d.rd F.LNK_MGB_XFER_DEV b, write := d.flag F.LNK_MGB_XFER_WRITE b, reg := some (d.rd F.LNK_MGB_XFER_REG b), data := data }]

/-- A host transaction ends with a result (R242). -/
def Dev.xferEnd (d : Dev) (b r : Nat) : Dev := (d.wr F.LNK_MGB_XFER_BUSY 0 b).wr F.LNK_MGB_XFER_RESULT r b

/-- MGB_XFER_DONE (R234, R242): the transaction completes, acknowledged or not; a write carries the data register's octets, a read
brings data. -/
def Dev.xferDone (b : Nat) (ack : Bool) (data : Nat) (d : Dev) : Dev :=
  if !(d.flag F.LNK_MGB_XFER_BUSY b) || !(d.flag F.LNK_MGB_CFG_EN b) then d
  else
    let len := d.rd F.LNK_MGB_XFER_LEN_M1 b + 1
    let out := d.flag F.LNK_MGB_XFER_WRITE b
    let d1 := (d.xferRun b (if out then toOctets len (d.rd F.LNK_MGB_DATA_DATA b) else if ack then toOctets len data else [])).xferEnd b
      (b2n (!ack))
    if ack && !out then d1.wr F.LNK_MGB_DATA_DATA (data % 2 ^ (8 * len)) b else d1

/-- MGB_XFER_DONE (R237). -/
def execMgbXferDone (b : Nat) (ack : Bool) (data : Nat) (s : State) : Out :=
  unit b 4 (.next (s.onDev (Dev.xferDone b ack data)))

/-- MGB_TIMEOUT (R233): clock stretching beyond 10 ms ends the transaction. -/
def Dev.xferTimeout (b : Nat) (d : Dev) : Dev :=
  if d.flag F.LNK_MGB_XFER_BUSY b && decide (1228800 < d.now - tabGet 0 d.lnk.xferAt b) then (d.xferRun b []).xferEnd b 2 else d

/-- MGB_TIMEOUT (R233). -/
def execMgbTimeout (b : Nat) (s : State) : Out := unit b 4 (.next (s.onDev (Dev.xferTimeout b)))

end Sys2Proof.Machine
end

