-- ==== Sys2Proof/Machine/RegActs.lean ====
section
/-! DEFINITION. What a master's write does to each register of the part's blocks: the action of the register's own rules, or its field types alone (R15 to R17). -/

namespace Sys2Proof.Machine

/-- A bit of `EVT_IRQ` that is set and becomes enabled raises the vector (R808). -/
def Dev.actEvtIrqCfg (p : Path) (w : Nat) (d : Dev) : Option Dev :=
  let old := d.word RD.EVT_IRQ &&& d.rd F.EVT_IRQ_CFG_IRQ_MASK
  let d1 := d.putHit p (hit .EVT_IRQ_CFG RD.EVT_IRQ_CFG) w
  let new := d1.word RD.EVT_IRQ &&& d1.rd F.EVT_IRQ_CFG_IRQ_MASK
  some (if (new ||| old) != old && d1.coreOn then d1.msi (d1.rd F.EVT_IRQ_CFG_IRQ_VEC) else d1)

/-- What a write of a threshold word of `CE_BAND_c_g` does (R513): refused where an axis would not rise strictly. -/
def Dev.actCeBand (p : Path) (h : Hit) (w : Nat) (d : Dev) : Option Dev :=
  let d1 := d.putHit p h w
  let c := h.i
  let g := h.j
  if d1.rdS F.CE_BAND0_MTHR_0 c g < d1.rdS F.CE_BAND0_MTHR_1 c g ∧ d1.rdS F.CE_BAND0_MTHR_1 c g < d1.rdS F.CE_BAND1_MTHR_2 c g ∧
      d1.rdS F.CE_BAND2_LTHR_0 c g < d1.rdS F.CE_BAND2_LTHR_1 c g ∧
      d1.rdS F.CE_BAND2_LTHR_1 c g < d1.rdS F.CE_BAND3_LTHR_2 c g then some d1
  else none

/-- One half of a written word holds a gain: fitted to its range and counted (R22, R23). -/
def Dev.actGainHalf (p : Path) (h : Hit) (w lo : Nat) (d : Dev) : Option Dev :=
  let g := bits w lo 16
  some ((d.putHit p h (withBits w lo 16 (gainFit g))).bumpBy (b2n (gainOut g)) F.TIL_RANGE_CNT_COUNT)

/-- What a write of an operator set-point word does (R23, R519); nothing for a stream that does not exist. -/
def Dev.actOpset (p : Path) (h : Hit) (w : Nat) (d : Dev) : Option Dev :=
  if !(d.has (h.i / 128)) then some d
  else
    let lo := bits w 0 16
    let hi := bits w 16 16
    some ((d.putHit p h (gainFit lo + 65536 * gainFit hi)).bumpBy (b2n (gainOut lo) + b2n (gainOut hi)) F.TIL_RANGE_CNT_COUNT)

/-- What a write of `LNK_GLB_CFG` does (R240): an `ETHERTYPE` below 0x0600 is ignored. -/
def Dev.actLnkGlb (p : Path) (w : Nat) (d : Dev) : Option Dev :=
  let h := hit .LNK_GLB_CFG RD.LNK_GLB_CFG
  some (d.putHit p h (if F.LNK_GLB_CFG_ETHERTYPE.of w < 0x600 then
    withBits w F.LNK_GLB_CFG_ETHERTYPE.lo 16 (d.rd F.LNK_GLB_CFG_ETHERTYPE) else w))

/-- What a write of an entry of the MSI-X table does: an unmasked vector sends its pending message (R824). -/
def Dev.actMsix (p : Path) (h : Hit) (w : Nat) (d : Dev) : Option Dev :=
  let v := h.i
  let d1 := d.putHit p h w
  some (if d1.flag F.HIF_MSIX_CTRL_MASK v || !(bitAt (d1.rd F.HIF_PBA_PEND (v / 32)) (v % 32)) then d1
    else (d1.wr F.HIF_PBA_PEND (withBits (d1.rd F.HIF_PBA_PEND (v / 32)) (v % 32) 1 0) (v / 32)).msi v)

/-- What a write of a mailbox request word does (R846): refused while the request stands, from *POSTED* to *DONE*. -/
def Dev.actMbReq (p : Path) (h : Hit) (w : Nat) (d : Dev) : Option Dev :=
  if 2 ≤ d.rd F.HIF_MB_CTL_STATE h.i then none else some (d.putHit p h w)

/-- What a write of `DON_PATH_d` does (R99, R214): the remote guards of the donor slice's port slices follow. -/
def Dev.actDonPath (p : Path) (h : Hit) (w : Nat) (d : Dev) : Option Dev :=
  let d1 := d.putHit p h w
  some (d1.guardCheck (d1.streamsOf h.i)).faultPin

/-- Every counter of the host chapter clears (R859). -/
def Dev.hifClear (d : Dev) : Dev :=
  (d.zero [F.HIF_ACC_STS_COUNT, F.HIF_MEM_ECC_CE, F.HIF_MEM_ECC_UE]).each (upTo 8) (fun x c => x.wr F.HIF_DMA_STS_DONE_CNT 0 c)

/-- What a write of `HIF_CTL` does (R859). -/
def Dev.actHifCtl (p : Path) (w : Nat) (d : Dev) : Option Dev :=
  let d1 := d.putHit p (hit .HIF_CTL RD.HIF_CTL) w
  some (if F.HIF_CTL_CLR_CNT.hit w then d1.hifClear else d1)

/-- What a write that reaches a register does, by the register's own rules; `none` where they refuse it. -/
def Dev.actReg (p : Path) (h : Hit) (w : Nat) (d : Dev) : Option Dev :=
  match h.reg with
  | .MEA_CTL => d.actMeaCtl p w
  | .MEA_PRESET => d.actMeaPreset p h.i w
  | .MEA_WATCH0 | .MEA_WATCH1 => d.actMeaWatch p h w
  | .MEA_CAP0 | .MEA_CAP1 | .MEA_CAP2 => d.actMeaCap p h w
  | .MEA_CAP3 => d.actMeaCap3 h.i w
  | .CLK_CTL => d.actClkCtl p w
  | .CLK_XTAL_CFG_A => d.actXtalCfg p 0 w
  | .CLK_XTAL_CFG_B => d.actXtalCfg p 1 w
  | .TIL_PEND => d.actPend h.i w
  | .TIL_STREAM => d.actTilStream p h.i w
  | .TIL_CTL => d.actTilCtl p w
  | .SLC_DSLICE => d.actSlcDslice p h.i w
  | .SLC_ALIGN_TGT => d.actSlcAlign p h.i w
  | .SLC_CTL => d.actSlcCtl p w
  | .DON_CTL => d.actDonCtl p w
  | .DON_LINK_CFG => d.actDonLink p h.i w
  | .DON_PATH => d.actDonPath p h w
  | .CE_CTL => d.actCeCtl p w
  | .CE_BAND0 | .CE_BAND1 | .CE_BAND2 | .CE_BAND3 => d.actCeBand p h w
  | .CE_REGION => d.actGainHalf p h w 16
  | .CE_PS1 => d.actGainHalf p h w 0
  | .CE_OPSET => d.actOpset p h w
  | .LCX0 => d.actLcx0 p h.i w
  | .HK_GO => d.actHkGo w
  | .HK_CAL_CTL => d.actHkCal p w
  | .HK_CTL => d.actHkCtl p w
  | .HK_CFG => d.actHkCfg p h.i w
  | .HK_TIMER => d.actHkTimer p h.i w
  | .HK_REG => d.actHkEntry p false h.i h.j w
  | .HK_INJ => d.actHkEntry p true h.i h.j w
  | .HK_FILT => d.actHkFilt p h.i h.j w
  | .HK_IRQ_CFG => d.actHkIrqCfg p w
  | .WM_CFG => d.actWmCfg p h.i w
  | .WM_THR => d.actWmThr p h.i w
  | .ISO_CTL => d.actIsoCtl p w
  | .ISO_CANC_CFG => d.actIsoCancCfg p w
  | .LNK_CTL => d.actLnkCtl p h.i w
  | .LNK_GLB_CFG => d.actLnkGlb p w
  | .LNK_MSG_CTL => d.actMsgCtl h.i w
  | .LNK_PROT => d.actProt p h.i w
  | .LNK_MGB_XFER => d.actXfer p h.i w
  | .ORB_CTL => d.actOrbCtl p h.i w
  | .ORB_CELL => d.actOrbCell p h.i w
  | .ORB_SLICE_CFG => d.actSliceCfg p h.i w
  | .ORB_TDD_PER | .ORB_TDD_SEG => d.actTddBank p h h.i h.j w
  | .ORB_TDD_CTL => d.actTddCtl p h.i w
  | .TRN_ENT0 => d.actTrnWord p h.i h.j 0 w
  | .TRN_ENT1 => d.actTrnWord p h.i h.j 1 w
  | .TRN_ENT2 => d.actTrnWord p h.i h.j 2 w
  | .TRN_ENT3 => d.actTrnWord p h.i h.j 3 w
  | .TRN_CTL => d.actTrnCtl p h.i w
  | .PWR_DOM => d.actPwrDom h.i w
  | .PRT_REENABLE => d.actPrtReenable p w
  | .PRT_CTL => d.actPrtCtl p w
  | .PRT_FAULT_MASK | .PRT_FAULT_STS => some (d.putHit p h w).faultPin
  | .EVT_CODE => d.actEvtCode p h.i w
  | .EVT_ARCH_RD_HI => d.actArchRd p w
  | .EVT_CAL_LO => some { d with er := { d.er with calStageLo := w % 2 ^ 32 } }
  | .EVT_CAL_HI => d.actCalHi w
  | .EVT_CTL => d.actEvtCtl p w
  | .EVT_IRQ_CFG => d.actEvtIrqCfg p w
  | .FES_CTL => d.actFesCtl p h.i w
  | .FES_GLB_CTL => d.actFesGlb p w
  | .FES_CACHE_CTL => d.actCacheCtl p h.i w
  | .HIF_CTL => d.actHifCtl p w
  | .HIF_MSIX_CTRL => d.actMsix p h w
  | .HIF_MB_REQ => d.actMbReq p h w
  | _ => some (d.putHit p h w)

end Sys2Proof.Machine
end

