-- ==== Sys2Proof/Machine/Image.lean ====
section
/-! DEFINITION. The mould image: its header, sections and signature, the checks of R61 and the limits of R41 (chapter 01). -/

namespace Sys2Proof.Machine

/-- One entry of an image's section table (R53). -/
structure Sect where
  ty : Nat
  critical : Bool
  off : Nat
  len : Nat
  crc : Nat

/-- Entry `k` of the section table (R53). -/
def sectOf (l : List Nat) (k : Nat) : Sect :=
  let b := 0x40 + 16 * k
  ⟨leAt l b 2, bitAt (leAt l (b + 2) 2) 0, leAt l (b + 4) 4, leAt l (b + 8) 4, leAt l (b + 12) 4⟩

/-- Fields of the image header (R52). -/
def imgKind (l : List Nat) : Nat := leAt l 0x06 2
def imgLen (l : List Nat) : Nat := leAt l 0x08 4
def imgVersion (l : List Nat) : Nat := leAt l 0x0C 4
def imgConfig (l : List Nat) : Nat := leAt l 0x13 1
def imgCount (l : List Nat) : Nat := leAt l 0x14 2
def imgFlags (l : List Nat) : Nat := leAt l 0x16 2
def imgBase (l : List Nat) : Nat := leAt l 0x18 4
def imgScope (l : List Nat) : Nat := leAt l 0x1C 2
def imgSeq (l : List Nat) : Nat := leAt l 0x1E 2
def imgSecLevel (l : List Nat) : Nat := leAt l 0x28 1

/-- The section table (R53). -/
def imgSects (l : List Nat) : List Sect := (upTo (imgCount l)).map (sectOf l)

/-- The image carries a section of a type. -/
def imgHas (l : List Nat) (ty : Nat) : Bool := (imgSects l).any (fun s => s.ty == ty)

/-- The signer's key as the signature block holds it: X followed by Y (R56). -/
def imgKeyOctets (l : List Nat) : List Nat := (l.drop (imgLen l - 128)).take 64

/-- `LENGTH` (R51 to R54, R62): a length out of bounds, a section out of bounds, or a type named twice. -/
def imgLengthOk (l : List Nat) : Bool :=
  let n := imgLen l
  let ss := imgSects l
  decide (0x40 + 16 * imgCount l + 128 ≤ n) && decide (n ≤ 0x800000) && n % 64 == 0 && decide (1 ≤ imgCount l) &&
    decide (imgCount l ≤ 64) &&
    ss.all (fun s => s.off % 64 == 0 && decide (0x40 + 16 * imgCount l ≤ s.off) && decide (s.off + s.len ≤ n - 128)) &&
    decide ((ss.map (fun s => s.ty)).Nodup)

/-- The table index of the first entry that meets a test. -/
def sectIndex (l : List Nat) (p : Sect → Bool) : Option Nat := firstBelow (imgCount l) (fun k => p (sectOf l k))

/-- A known section type (R55). -/
def sectKnown (ty : Nat) : Bool := decide (1 ≤ ty) && decide (ty ≤ 0x10)

/-- The key slots that hold the signer's digest (R57). -/
def imgKeySlots (o : Otp) (l : List Nat) : List Nat :=
  let h := sha256 (imgKeyOctets l)
  (if bitAt o.done 0 && o.key0 == h then [0] else []) ++ (if bitAt o.done 1 && o.key1 == h then [1] else [])

/-- The key slot that signed an accepted image (R57, R88). -/
def imgSigner (o : Otp) (l : List Nat) : Option Nat := (imgKeySlots o l).find? (fun k => !(bitAt o.revoked k))

/-- The code of step 7 of R61, 0 where it passes (R57, R60). -/
def imgKeyErr (o : Otp) (l : List Nat) : Nat :=
  if !(bitAt o.done 0) && !(bitAt o.done 1) then 0x10
  else if (imgSigner o l).isSome then 0
  else if (imgKeySlots o l).isEmpty then 7 else 8

/-- The ECDSA check of step 8 of R61 (R56). -/
def imgSigned (l : List Nat) : Bool :=
  let n := imgLen l
  ecdsaOk (sha256 (l.take (n - 64))) (fromBe ((l.drop (n - 128)).take 32), fromBe ((l.drop (n - 96)).take 32))
    (fromBe ((l.drop (n - 64)).take 32)) (fromBe ((l.drop (n - 32)).take 32))

/-- What a check is for: a full load, a slot write, a delta. -/
inductive CheckFor where
  | load | slot | delta
  deriving DecidableEq, Repr

/-- The section types that a delta may carry, by its kind (chapter 01, Live re-moulding). -/
def deltaTypes (kind : Nat) : List Nat := if kind = 1 then [2, 3, 4, 6, 0xA] else [2, 3, 5, 0xA]

/-- The code of step 10 of R61, 0 where it passes (R65, R75): a delta follows the active image and stays in its scope. An
image of the other kind than the command asks for is refused with `SCOPE`. -/
def Dev.imgDeltaErr (d : Dev) (why : CheckFor) (l : List Nat) : Nat :=
  let k := imgKind l
  if (why = .delta) ≠ (k ≠ 0) then 0x0C
  else if k = 0 then 0
  else if imgBase l ≠ d.rd F.MLD_IMG_VER_VERSION ∨ imgSeq l ≠ d.rd F.MLD_STS_DELTAS + 1 then 0x0B
  else if (if k = 1 then 128 else 16) ≤ imgScope l then 0x0C
  else if (imgSects l).any (fun s => sectKnown s.ty && !((deltaTypes k).contains s.ty)) then 0x0C
  else 0

/-- The code that a read which fails within step `k` of R61 ends the check with (R61, R834). Step 7's own code is
`UNPROVISIONED` where neither key slot is set. -/
def stepCode (o : Otp) (staged : Bool) (k : Nat) : Nat :=
  if !staged then 0x0F
  else
    match k with
    | 2 => 1
    | 3 => 2
    | 4 => 3
    | 5 => 4
    | 6 => 5
    | 7 => if !(bitAt o.done 0) && !(bitAt o.done 1) then 0x10 else 7
    | 8 => 9
    | 9 => 0x0A
    | 10 => 0x0B
    | _ => 0x0D

/-- Steps 1 to 10 of R61: the code of the first that fails, with the section it names; `none` where all pass. `staged` is
the value of `MLD_STAGE_LEN` for a staged image; `bad` the step in which a read was uncorrectable and, in step 6, the
table index of the section in check. -/
def Dev.imgCheck (d : Dev) (o : Otp) (why : CheckFor) (staged : Option Nat) (bad : Option (Nat × Nat)) (l : List Nat) :
    Option (Nat × Nat) :=
  let step := fun (k : Nat) (e : Option (Nat × Nat)) =>
    match bad with
    | some q => if q.1 = k then some (stepCode o staged.isSome k, if k = 6 then q.2 else 0) else e
    | none => e
  let code := fun (c : Nat) => if c = 0 then none else some (c, 0)
  (match staged with
    | some n => if n = 0 ∨ 0x800000 < n ∨ n % 64 ≠ 0 then some (0x11, 0) else none
    | none => none) <|>
  step 2 (if leAt l 0 4 ≠ 0x55424E4D ∨ leAt l 4 2 ≠ 1 ∨ 2 < imgKind l then some (1, 0) else none) <|>
  step 3 (if leAt l 0x3C 4 ≠ crc32c (takeFill 0x3C l) then some (2, 0) else none) <|>
  step 4 (if leAt l 0x10 2 ≠ 0x4128 ∨ d.rd F.GLB_REV_COMPUTE_STEP < leAt l 0x12 1 then some (3, 0) else none) <|>
  step 5 (if staged.isSome ∧ staged ≠ some (imgLen l) ∨ !(imgLengthOk l) then some (4, 0)
    else (sectIndex l (fun s => s.critical && !(sectKnown s.ty))).map (fun k => (6, k))) <|>
  step 6 ((sectIndex l (fun s => crc32c ((l.drop s.off).take s.len) != s.crc)).map (fun k => (5, k))) <|>
  step 7 (code (imgKeyErr o l)) <|>
  step 8 (if imgSigned l then none else some (9, 0)) <|>
  step 9 (if imgSecLevel l < o.rollback then some (0x0A, 0) else none) <|>
  step 10 (code (d.imgDeltaErr why l))

/-- A donor slice of a plan. -/
def planDonor (p : Plan) (n : Nat) : DonorSlice := tabGet {} p.donors n

/-- The streams of a plan with their donor slices (R34, R37): port streams, then donor streams. -/
def planStreams (p : Plan) : List (Nat × Nat) :=
  p.ports.flatMap (fun q => q.slices.flatMap (fun s =>
    let dn := planDonor p s.donor
    (if dn.dlEn && s.dlEn then [(streamOf q.port 0 s.num, s.donor)] else []) ++
      (if dn.ulEn && s.ulEn then [(streamOf q.port 1 s.num, s.donor)] else []))) ++
  p.donors.flatMap (fun x =>
    (if x.2.dlEn then [(2048 + 2 * x.1, x.1)] else []) ++ (if x.2.ulEn then [(2048 + 2 * x.1 + 1, x.1)] else []))

/-- The limits of R5, R7, R33 and R36 on a port. -/
def portOk (cfg : Nat) (p : Plan) (q : PortDecl) : Bool :=
  let load := fun (dir : Nat) =>
    ((planStreams { p with ports := [q] }).filter (fun m => decide (m.1 < 2048) && dirOf m.1 == dir)).foldl
      (fun a m => a + unitsOf (planDonor p m.2).rate) 0
  let cap := if q.rate10 then 24 else 64
  decide (q.port < (if cfg = 0 then 128 else 64)) && (!q.pair || cfg == 1) && q.lane == q.port &&
    q.second == (if q.pair then some (q.port + 64) else none) && decide (q.stations ≤ 4) &&
    decide (q.slices.length ≤ 8) && decide ((q.slices.map (fun s => s.num)).Nodup) &&
    decide ((q.slices.map (fun s => s.donor)).Nodup) &&
    q.slices.all (fun s => decide (s.num < 8) && (tabFind p.donors s.donor).isSome && decide (s.prio < 16)) &&
    decide (load 0 ≤ cap) && decide (load 1 ≤ cap)

/-- The word that an image gives a register, else its reset value. -/
def imgReg (regs : Tab Nat) (r : RegD) (i : Nat) : Nat :=
  match tabFind regs (r.base + strideSum r.dims [i]) with
  | some w => w
  | none => r.flds.foldl (fun a f => a + f.rst i 0 0 * 2 ^ f.lo) 0

/-- The limits of R264 to R267 on one enabled donor link. -/
def donLinkOk (p : Plan) (j w : Nat) : Bool :=
  let pairs := F.DON_LINK_CFG_M_PAIRS.of w
  let lanes := 2 ^ F.DON_LINK_CFG_L_CODE.of w
  let samples := 2 ^ F.DON_LINK_CFG_S_CODE.of w
  let rate := F.DON_LINK_CFG_RATE.of w
  let kbps := 2 * pairs * 16 * 122880 * 66
  let lemc := 64 * 2 ^ F.DON_LINK_CFG_E_CODE.of w * lanes * 2 ^ rate
  let use : List (Nat × Nat) := p.donors.filterMap (fun x =>
    if j < 4 then (if x.2.dlEn && x.2.rxLink == some j then some (x.2.rxPair, x.2.rate) else none)
    else if x.2.ulEn && x.2.txLink == some j then some (x.2.txPair, x.2.rate) else none)
  decide (1 ≤ pairs) && decide (pairs ≤ 8) && decide (samples ≤ 4) &&
    4 * pairs * samples % lanes == 0 && decide (4 * pairs * samples / lanes ≤ 64) && decide (lanes ≤ 4 * pairs * samples) &&
    decide (1500000 * 64 * lanes * 2 ^ rate ≤ kbps) && decide (kbps ≤ 24750000 * 64 * lanes * 2 ^ rate) &&
    lemc % pairs == 0 && [16, 32, 64, 128, 256, 512, 1024, 2048, 4096].contains (lemc / pairs) &&
    decide (F.DON_LINK_CFG_FIRST_LANE.of w + lanes ≤ 16) &&
    use.all (fun q => q.2 == rate && decide (q.1 < pairs)) && decide ((use.map (fun (q : Nat × Nat) => q.1)).Nodup)

/-- The logical lanes of an enabled donor link (R268). -/
def donLanes (w : Nat) : List Nat :=
  (upTo (2 ^ F.DON_LINK_CFG_L_CODE.of w)).map (fun k => F.DON_LINK_CFG_FIRST_LANE.of w + k)

/-- The limits of R264 to R267 on the donor interface. -/
def donorsOk (p : Plan) (regs : Tab Nat) : Bool :=
  let word := imgReg regs RD.DON_LINK_CFG
  let on := (upTo 8).filter (fun j => F.DON_LINK_CFG_EN.hit (word j))
  let lanes := fun (l : List Nat) => l.flatMap (fun j => donLanes (word j))
  on.all (fun j => donLinkOk p j (word j)) && decide ((lanes (on.filter (fun j => decide (j < 4)))).Nodup) &&
    decide ((lanes (on.filter (fun j => decide (4 ≤ j)))).Nodup) &&
    p.donors.all (fun x =>
      (!x.2.dlEn || (match x.2.rxLink with | some j => decide (j < 4) && on.contains j | none => false)) &&
      (!x.2.ulEn || (match x.2.txLink with | some j => decide (4 ≤ j) && on.contains j | none => false)))

/-- The limits on transit entries that an image loads (R134, R140). -/
def trnOk (regs : Tab Nat) : Bool :=
  (upTo 2).all (fun i => (upTo 256).all (fun n =>
    match tabFind regs (RD.TRN_ENT0.base + strideSum RD.TRN_ENT0.dims [i, n]) with
    | some w => decide (F.TRN_ENT0_SAMPLE.of w < 1228800) && (F.TRN_ENT0_ACTION.of w != 5 || F.TRN_ENT0_SAMPLE.of w == 0)
    | none => true))

/-- The limits of R38 and R39 on streams as they stand on physical processors. A stream that migrates is listed at both of
its places. -/
def loadOk (p : Plan) (phys : List (Nat × Nat)) : Bool :=
  let ms := planStreams p
  let rateOf := fun (n : Nat) => unitsOf (planDonor p n).rate
  let units := fun (m : Nat) => (ms.find? (fun q => q.1 == m)).elim 0 (fun q => rateOf q.2)
  let on := fun (sp : Nat) => (phys.filter (fun q => q.2 == sp)).map (fun q => q.1)
  let ring := (p.donors.filter (fun x => x.2.dlEn)).foldl (fun a x => a + rateOf x.1) 0 +
    p.donors.foldl (fun a x =>
      let sps := ((phys.filter (fun q => decide (q.1 < 2048) && dirOf q.1 == 1 && ms.contains (q.1, x.1))).map
        (fun q => q.2)).eraseDups
      a + (sps.filter (fun sp => !(phys.contains (2048 + 2 * x.1 + 1, sp)))).length * rateOf x.1) 0
  (upTo 36).all (fun sp =>
    decide (((on sp).filter (fun m => decide (m < 2048))).foldl (fun (a m : Nat) => a + units m) 0 ≤ 512) &&
      decide (((on sp).filter (fun m => decide (2048 ≤ m))).length ≤ 1)) && decide (ring ≤ 512)

/-- Step 11 of R61, the semantic limits of R41: R5, R7, R31, R33, R36, R38 to R40, R93, R134, R140 and R264 to R267. `phys`
lists the streams with the processors that hold them. The spec names no error for a value outside the ranges of R31;
DESIGN CHOICE (log 77): it is `CONFIG` too. -/
def planOk (cfg : Nat) (p : Plan) (places phys : List (Nat × Nat)) (regs : Tab Nat) : Bool :=
  let ms := planStreams p
  decide (cfg ≤ 2) && tabSortedFrom 0 p.donors &&
    p.donors.all (fun (x : Nat × DonorSlice) => decide (x.1 < 16) && decide (x.2.rate < 4) && decide (x.2.centreKhz ≤ 8000000) && decide (x.2.orbit < 2) &&
      (!x.2.tdd || F.ORB_CTL_SRC.of (imgReg regs RD.ORB_CTL x.2.orbit) != 0)) &&
    decide ((p.ports.map (fun q => q.port)).Nodup) && p.ports.all (portOk cfg p) &&
    decide ((places.map (fun q => q.1)).Nodup) && places.all (fun q => decide (q.2 < 32) && ms.any (fun m => m.1 == q.1)) &&
    ms.all (fun m => places.any (fun q => q.1 == m.1)) && loadOk p phys && donorsOk p regs && trnOk regs

/-- Register words laid over others. -/
def overlay (a b : Tab Nat) : Tab Nat := b.foldl (fun t q => tabPut t q.1 q.2) a

/-- The plan in force with a delta's declaration in its scope (R75): a port delta replaces its port, a slice delta its
donor slice and the port slices that carry it. -/
def deltaPlan (kind scope : Nat) (old new : Plan) : Plan :=
  if kind = 1 then { old with ports := old.ports.filter (fun q => q.port != scope) ++ new.ports }
  else
    let donors := match tabFind new.donors scope with
      | some x => tabPut old.donors scope x
      | none => tabDel old.donors scope
    let ports := old.ports.map (fun q =>
      let add := (new.ports.filter (fun r => r.port == q.port)).flatMap (fun r => r.slices)
      { q with slices := q.slices.filter (fun s => s.donor != scope) ++ add })
    { donors := donors, ports := ports }

/-- A delta's declaration lies within its scope (R75). -/
def deltaWithin (kind scope : Nat) (old new : Plan) : Bool :=
  if kind = 1 then new.donors.isEmpty && new.ports.all (fun q => q.port == scope)
  else new.donors.all (fun x => x.1 == scope) &&
    new.ports.all (fun q => old.ports.any (fun r => r.port == q.port) && q.slices.all (fun s => s.donor == scope))

/-- What an image's sections bring (R54): nothing of a section that the table does not hold. Without `LANE_PLAN`, lanes take
the reset values of R243 and no pair is protected; without `ORBIT_CFG`, a full image enables both orbits on `INTERNAL`
(chapter 02). -/
def imgBody (l : List Nat) (b : ImageBody) : ImageBody :=
  let regs := b.regs.filter (fun q => imgHas l (sectionOf q.1))
  let orbits := if imgKind l = 0 && !(imgHas l 7) then
      [(RD.ORB_CTL.base, 2 ^ F.ORB_CTL_EN.lo), (RD.ORB_CTL.base + 0x100, 2 ^ F.ORB_CTL_EN.lo)] else []
  let lane := fun (q : PortDecl) => if imgHas l 4 then q else { q with pair := false, rate10 := true, eth := false, second := none }
  { b with
    plan := if imgHas l 2 then { b.plan with ports := b.plan.ports.map lane } else {}
    places := if imgHas l 3 then b.places else []
    regs := orbits.foldl (fun t q => tabPut t q.1 q.2) regs
    channels := if imgHas l 6 then b.channels else [] }

/-- The streams of a plan that lie in a delta's scope. -/
def scopeStreams (kind scope : Nat) (p : Plan) : List Nat :=
  ((planStreams p).filter (fun m =>
    if kind = 1 then decide (m.1 < 2048) && portOf m.1 == scope else m.2 == scope)).map (fun m => m.1)

/-- A placement of a delta's `PLACEMENT` lies outside its scope (R75): of a stream of another port or donor slice. A stream
that exists nowhere lies in no scope, and breaks R40 instead. -/
def placeOut (kind scope : Nat) (p : Plan) (m : Nat) : Bool :=
  if kind = 1 then decide (2048 ≤ m) || portOf m != scope
  else if 2048 ≤ m then (m - 2048) / 2 != scope
  else (planStreams p).any (fun q => q.1 == m && q.2 != scope)

/-- A register word of a delta lies outside its scope (R75): `LANE_PLAN` reaches the lanes of its port, `OPERATOR_GAINS` the
streams in scope, `DONOR_CFG` its donor slice's paths and the links that no other donor slice uses, `SLICE_PLAN` its donor
slice's alignment. The on-board stations belong to no port. -/
def wordOut (kind scope : Nat) (p : Plan) (q : Nat × Nat) : Bool :=
  match lookup q.1 with
  | none => false
  | some h =>
    let own := fun (m : Nat) => (planStreams p).any (fun v => v.1 == m && (if kind = 1 then portOf m == scope else v.2 == scope))
    let pair := p.ports.any (fun v => v.port == scope && v.pair)
    match sectionOf q.1 with
    | 4 => decide (0x1800 ≤ q.1 % 0x2000) || !(h.i == scope || (pair && h.i == scope + 64))
    | 5 =>
      match h.reg with
      | .DON_PATH => h.i != scope
      | .DON_LINK_CFG => p.donors.any (fun x => x.1 != scope && (x.2.rxLink == some h.i || x.2.txLink == some h.i))
      | _ => true
    | 0xA => !(own (h.i / 128))
    | 2 =>
      match h.reg with
      | .SLC_DSLICE | .SLC_ALIGN_TGT => kind == 1 || h.i != scope
      | .TIL_STREAM => !(own h.i)
      | _ => true
    | _ => true

/-- What a delta makes of the active image's contents (R40, R75). Without a `PLACEMENT` section the streams keep the places
they have; DESIGN CHOICE (log 79): so a delta that adds or removes a stream and carries none ends with `CONFIG`. -/
def deltaBody (l : List Nat) (old new : ImageBody) : ImageBody :=
  let k := imgKind l
  let sc := imgScope l
  let plan := if imgHas l 2 then deltaPlan k sc old.plan new.plan else old.plan
  let inScope := scopeStreams k sc plan ++ scopeStreams k sc old.plan
  { old with
    plan := plan
    places := if imgHas l 3 then old.places.filter (fun q => !(inScope.contains q.1)) ++ new.places else old.places
    regs := new.regs, channels := new.channels }

/-- The processor that a logical processor names (R40). -/
def Dev.spOfLp (d : Dev) (k : Nat) : Nat := (tabFind d.mld.lpMap k).getD k

/-- Logical processors that streams use and whose processor has failed take the lowest healthy processor that none names
(R40, R371). -/
def Dev.remapLps (d : Dev) (used : List Nat) : Dev :=
  d.each used (fun x k =>
    if !(x.spFailed (x.spOfLp k)) then x
    else
      match (upTo 36).find? (fun n => !(x.spFailed n) && !((upTo 32).any (fun j => x.spOfLp j == n))) with
      | some n => { x with mld := { x.mld with lpMap := tabPut x.mld.lpMap k n } }
      | none => x)

/-- The logical processor that a placement names for a stream. -/
def lpIn (places : List (Nat × Nat)) (m : Nat) : Nat := ((places.find? (fun v => v.1 == m)).map (fun v => v.2)).getD 0

/-- The processor that a delta gives a stream in its scope (R40): what `PLACEMENT` names; without one, a stream stays on its
processor while that is healthy. -/
def Dev.deltaSp (d : Dev) (placed : Bool) (places : List (Nat × Nat)) (m : Nat) : Nat :=
  if !placed && d.has m && !(d.spFailed (d.spOf m)) then d.spOf m else d.spOfLp (lpIn places m)

/-- Migrating streams at their other place: the target before the switch, the old processor until the release (R44). -/
def Dev.migPlaces (d : Dev) : List (Nat × Nat) :=
  d.mld.migs.map (fun q => (q.1, if q.2.phase = 5 then q.2.oldSp else d.rd F.MLD_PLACE_SHADOW_SP q.1))

/-- Streams on physical processors once a delta has been applied (R38): those in its scope `now` as it places them, the
others where they are. -/
def Dev.deltaPhys (d : Dev) (placed : Bool) (b : ImageBody) (now : List Nat) : List (Nat × Nat) :=
  let d0 := d.remapLps (now.map (lpIn b.places)).eraseDups
  (planStreams b.plan).map (fun q => (q.1, if now.contains q.1 then d0.deltaSp placed b.places q.1 else d.spOf q.1)) ++ d.migPlaces

/-- Step 11 of R61 with an image's contents, for a full image and for a delta: the code, 0 where it passes. A full image
must contain sections 1 to 3 (R54). -/
def Dev.imgLimits (d : Dev) (l : List Nat) (body : ImageBody) : Nat :=
  if imgKind l = 0 then
    let d0 := d.remapLps (body.places.map (fun q => q.2)).eraseDups
    let phys := body.places.map (fun q => (q.1, d0.spOfLp q.2))
    if (imgHas l 1 && imgHas l 2 && imgHas l 3) && planOk (imgConfig l) body.plan body.places phys body.regs then 0 else 0x0D
  else
    let k := imgKind l
    let b := deltaBody l d.mld.body body
    let now := scopeStreams k (imgScope l) b.plan
    if !(deltaWithin k (imgScope l) d.mld.body.plan body.plan) ∨ body.places.any (fun q => placeOut k (imgScope l) b.plan q.1) ∨
        body.regs.any (wordOut k (imgScope l) b.plan) ∨ !body.channels.isEmpty then 0x0C
    else if planOk d.mld.config b.plan b.places (d.deltaPhys (imgHas l 3) b now) (overlay d.mld.body.regs body.regs) then 0
    else 0x0D

end Sys2Proof.Machine
end

