-- ==== Sys2Proof/Machine/Remould.lean ====
section
/-! DEFINITION. Placing streams, migrations of one stream (R40 to R49) and live re-moulding by deltas (R75 to R79). -/

namespace Sys2Proof.Machine

/-- A stream comes into existence on a processor (R34, R37, R40): its placement, its loop contexts, its chains. -/
def Dev.placeStream (d : Dev) (sp epoch m : Nat) : Dev :=
  let n := ((planStreams d.mld.plan).find? (fun q => q.1 == m)).elim 0 (fun q => q.2)
  let d1 := ((((d.wr F.MLD_PLACE_VALID 1 m).wr F.MLD_PLACE_SP sp m).wr F.MLD_PLACE_RATE (d.donor n).rate m).wr
    F.MLD_PLACE_DONOR_SLICE n m).wr F.MLD_PLACE_EPOCH epoch m
  let d2 := if m < 2048 then d1.each (upTo 256) (fun x t => x.wr F.LCX0_EN 1 (256 * m + t)) else d1
  (d2.chainStart m none 0).showH m

/-- Streams placed on a failed processor that nothing replaces stay fenced (R371, R588). -/
def Dev.fenceLost (d : Dev) (ms : List Nat) : Dev :=
  let bad := ms.filter (fun m => d.spFailed (d.spOf m))
  let d1 := d.each bad (Dev.setInvalid · true)
  d1.each (bad.map d1.spOf).eraseDups (fun x sp => x.spNoTarget sp (bad.filter (fun m => x.spOf m == sp)))

/-- The donor map of a slice as the image gives it (R315). -/
def Dev.showMap (d : Dev) (n : Nat) : Dev :=
  let x := d.donor n
  let rx := if x.dlEn then x.rxLink else none
  let tx := if x.ulEn then x.txLink else none
  let d1 := ((d.wr F.DON_SMAP_RX_VALID (b2n rx.isSome) n).wr F.DON_SMAP_RX_LINK (rx.getD 0) n).wr F.DON_SMAP_RX_PAIR
    (if rx.isSome then x.rxPair else 0) n
  ((d1.wr F.DON_SMAP_TX_VALID (b2n tx.isSome) n).wr F.DON_SMAP_TX_LINK (tx.getD 4 - 4) n).wr F.DON_SMAP_TX_PAIR
    (if tx.isSome then x.txPair else 0) n

/-- The lanes of a declared port (R36). -/
def portLanes (q : PortDecl) : List Nat := if q.pair then [q.port, q.port + 64] else [q.port]

/-- The lanes of a declared port take their mode and are enabled (R169, R215). -/
def Dev.lanesUp (d : Dev) (q : PortDecl) : Dev :=
  d.each (portLanes q) (fun x n => ((x.wr F.LNK_CTL_RATE (b2n (!q.rate10)) n).wr F.LNK_CTL_CARRIAGE (b2n q.eth) n).laneOn n)

/-- The bits of a word that a section can load: those of fields that a write stores. -/
def loadBits (r : RegD) (w : Nat) : Nat :=
  r.flds.foldl (fun a f =>
    match f.ty with
    | .rw | .rwl => a + f.of w * 2 ^ f.lo
    | .ro | .wo | .w1s | .w1c => a) 0

/-- A section loads one register (R55): an owner-lockable one, by the register's own rules; pattern banks and coefficient
sets are loaded whole. -/
def Dev.loadReg (d : Dev) (q : Nat × Nat) : Dev :=
  match lookup q.1 with
  | none => d
  | some h =>
    if !h.desc.lock || mixedReg h.reg then d
    else
      let v := loadBits h.desc q.2
      match h.reg with
      | .ORB_TDD_PER | .ORB_TDD_SEG => d.putWord h.desc v true h.i h.j h.k
      | _ => (d.actReg .bar0 h v).getD d

/-- The register words of an image or a delta are loaded: transit entries last, word 0 after the words it moves (R132). -/
def Dev.loadRegs (d : Dev) (regs : Tab Nat) : Dev :=
  let isEnt := fun (q : Nat × Nat) =>
    decide (RD.TRN_ENT0.base ≤ q.1) && decide (q.1 < RD.TRN_ENT0.base + 0x2000) && q.1 % 16 == 0
  let d1 := (regs.filter (fun q => !(isEnt q))).foldl Dev.loadReg d
  (regs.filter isEnt).foldl Dev.loadReg d1

/-- Station caches are filled from the image (R285): up to 32 entries each, checked as `LOAD` checks them. -/
def Dev.cacheFill (d : Dev) (l : List (Nat × List Nat)) : Dev :=
  d.each (upTo 8) (fun x t =>
    (((l.filter (fun q => q.1 == t)).take 32).foldl
      (fun (y : Nat × Dev) q => (y.1 + 1, (y.2.cacheStore t y.1 (leAt q.2 0 2) q.2).2)) (0, x)).2)

/-- Registers of an array whose indices meet a test return to their reset value. -/
def Dev.wipeWhere (d : Dev) (r : RegD) (p : List Nat → Bool) : Dev :=
  { d with regs := d.regs.filter (fun q =>
      decide (q.1 / 32 * 4 < r.base) ||
        match splitIndex r.dims (q.1 / 32 * 4 - r.base) with
        | some l => !(p l)
        | none => true) }

/-- Register arrays of a port stream with an entry per tile, per pair of tiles, and per stream. -/
def tileRegs : List RegD :=
  [RD.LCX0, RD.LCX1, RD.LCX2, RD.LCX3, RD.LCX4, RD.LCX5, RD.LCX6, RD.LCX7, RD.LCX8, RD.LCX9, RD.LCX10, RD.LCX11, RD.MEA_IN,
    RD.MEA_OUT]
def tilePairRegs : List RegD := [RD.TIL_PEND, RD.TIL_ACT]
def streamRegs : List RegD :=
  [RD.TIL_STREAM, RD.ISO_PS, RD.SLC_UL, RD.SLC_CLIP, RD.PRT_RIPPLE, RD.CE_PS_STS, RD.MEA_HDR0, RD.MEA_HDR1, RD.MEA_HDR2,
    RD.MEA_HDR3, RD.MLD_PLACE]

/-- A stream leaves (R77): its entries, contexts, cells, causes and results with it. -/
def Dev.dropStream (d : Dev) (m : Nat) : Dev :=
  let d0 := match tabFind d.mld.migs m with
    | some g => if g.phase = 5 then { d with mld := { d.mld with migs := tabDel d.mld.migs m } } else d.migEnd m
    | none => d
  let p := portOf m
  let n := d0.donorOf m
  let d1 := if m < 2048 then d0.prtForget m else d0
  let d2 := tileRegs.foldl (fun x r => x.wipeWhere r (fun l => decide (m < 2048) && listAt l 0 / 256 == m)) d1
  let d3 := tilePairRegs.foldl (fun x r => x.wipeWhere r (fun l => decide (m < 2048) && listAt l 0 / 128 == m)) d2
  let d4 := streamRegs.foldl (fun x r => x.wipeWhere r (fun l => listAt l 0 == m)) d3
  let map := if dirOf m = 0 then RD.ISO_MAP_DL else RD.ISO_MAP_UL
  let d5 := if m < 2048 then d4.wipeWhere map (fun l => listAt l 0 == p && listAt l 1 == n)
    else d4.wipeWhere RD.MEA_DON (fun l => listAt l 0 + 2048 == m)
  { d5 with
    slc := { d5.slc with takeover := d5.slc.takeover.map (fun t => { t with streams := t.streams.filter (fun k => k != m) }) }
    lnk := { d5.lnk with guard := d5.lnk.guard.filter (fun k => k != sliceKey m || (decide (m < 2048) && d5.has (mateOf m))) }
    streams := tabDel d5.streams m
    plane := { d5.plane with streams := tabDel d5.plane.streams m }
    eng := { d5.eng with
      tiles := d5.eng.tiles.filter (fun q => q.1 / 256 != m)
      procs := d5.eng.procs.filter (fun q => q.2.unit != .tiles m && q.2.unit != .slice m) }
    chn := { d5.chn with
      chains := tabDel (tabDel d5.chn.chains (2 * m)) (2 * m + 1)
      sync := (d5.chn.sync.map (fun (q : Nat × List Nat) => (q.1, q.2.filter (fun k => k != m)))).filter
                           (fun q => !q.2.isEmpty) }
    iso := { d5.iso with
      cells := d5.iso.cells.filter (fun q => decide (2048 ≤ m) || q.1 / 256 != m)
      corrs := d5.iso.corrs.filter (fun q => q.1 / 256 != m)
      heldAt := tabDel d5.iso.heldAt m
      waiting := d5.iso.waiting.filter (fun k => k != m)
      surveys := d5.iso.surveys.map (fun (q : Nat × Survey) => (q.1, { q.2 with streams := q.2.streams.filter (fun k => k != m) })) } }

/-! Migrations. -/

/-- Replaces a stream's migration. -/
def Dev.setMig (d : Dev) (m : Nat) (x : Mig) : Dev := { d with mld := { d.mld with migs := tabPut d.mld.migs m x } }

/-- An error report (R74, R83): the code with its section, and a record. DESIGN CHOICE (log 80): an error that names no
section writes 0 to `SECTION`. -/
def Dev.mldErr (d : Dev) (code sect : Nat) : Dev :=
  (((d.wr F.MLD_ERR_NEW 1).wr F.MLD_ERR_CODE code).wr F.MLD_ERR_SECTION sect).raise 0x24

/-- A migration is accepted (step 1 of R44): the new placement is written in shadow. -/
def Dev.migAccept (d : Dev) (m sp : Nat) : Dev :=
  (((d.setMig m { phase := 1 }).wr F.MLD_PLACE_SHADOW 1 m).wr F.MLD_PLACE_SHADOW_SP sp m).ladderAsk true (6 + sp)

/-- Every stream with the processors that hold it (R38): a migrating one stands at two, and the streams of a takeover that
has yet to write the placements stand at its target. -/
def Dev.physPlaces (d : Dev) : List (Nat × Nat) :=
  let taken := match d.slc.takeover with
    | some t => if d.rd F.SLC_TAKEOVER_STEP = 2 then t.streams.map (fun m => (m, t.target.getD 36)) else []
    | none => []
  d.allStreams.map (fun m => (m, d.spOf m)) ++ d.migPlaces ++ taken

/-- The limits of R38 and R39 hold with one more stream on a processor. -/
def Dev.spRoom (d : Dev) (m sp : Nat) : Bool := loadOk d.mld.plan ((m, sp) :: d.physPlaces)

/-- MIGRATION_REQUEST (R44): refused while the stream migrates, and where the placement would break a limit. -/
def Dev.migRequest (m sp : Nat) (d : Dev) : Dev :=
  if (tabFind d.mld.migs m).isSome then d.mldErr 0x0E 0
  else if !(d.has m) ∨ d.spFailed sp ∨ d.spOf m = sp ∨ !(d.spRoom m sp) then d.mldErr 0x0D 0
  else d.migAccept m sp

/-- MIGRATION_REQUEST (R44): stream `m` is to move to processor `sp`. -/
def execMigrationRequest (m sp : Nat) (s : State) : Out :=
  unit m 2080 (unit sp 36 (.next (s.onDev (Dev.migRequest m sp))))

/-- `MLD_REMOULD_STS` follows a delta (R87). -/
def Dev.deltaShow (d : Dev) : Dev :=
  match d.mld.delta with
  | none => d
  | some x =>
    let open' := d.mld.migs.filter (fun q => q.2.phase != 5 && x.move.any (fun v => v.1 == q.1))
    let left := (if x.built then 0 else x.build.length) + open'.length
    let phase := if open'.any (fun q => decide (q.2.phase ≤ 2)) then 1 else if left ≠ 0 then 2 else 3
    (d.wr F.MLD_REMOULD_STS_PHASE phase).wr F.MLD_REMOULD_STS_STREAMS_PENDING left

/-- MIG_SHADOW_START (R45): the target processor, once on, starts on the same input. -/
def Dev.migStart (m : Nat) (d : Dev) : Dev :=
  match tabFind d.mld.migs m with
  | some g =>
    if (g.phase = 1 ∨ g.phase = 7) ∧ d.domOn (6 + d.rd F.MLD_PLACE_SHADOW_SP m) then
      (d.setMig m { g with phase := g.phase + 1, since := d.now }).deltaShow
    else d
  | none => d

/-- MIG_SHADOW_START (R45). -/
def execMigShadowStart (m : Nat) (s : State) : Out := unit m 2080 (.next (s.onDev (Dev.migStart m)))

/-- How long a shadow lasts in samples (R45, R399, R400): 4 TDL frames, or the settling time of the stream's preset at its effective H. -/
def Dev.shadowTime (d : Dev) (m : Nat) : Nat :=
  let h := d.effH m
  max 1024 ((spanNum h (presetK (d.preset m)) + 2 ^ h - 1) / 2 ^ h * d.tickLen (d.dsliceOf m))

/-- MIG_SHADOW_END (R45, R46): the shadow has settled; a switch boundary is sought. -/
def Dev.migSettled (m : Nat) (d : Dev) : Dev :=
  match tabFind d.mld.migs m with
  | some g => if (g.phase = 2 ∨ g.phase = 8) ∧ d.shadowTime m ≤ d.now - g.since then
      (d.setMig m { g with phase := g.phase + 1, since := d.now }).deltaShow else d
  | none => d

/-- MIG_SHADOW_END (R46). -/
def execMigShadowEnd (m : Nat) (s : State) : Out := unit m 2080 (.next (s.onDev (Dev.migSettled m)))

/-- MIG_WAIT_EXPIRY (R46): `MIG_WAIT` after the end of the shadow, a symbol boundary will do. -/
def Dev.migWaited (m : Nat) (d : Dev) : Dev :=
  match tabFind d.mld.migs m with
  | some g => if g.phase = 3 ∧ 122880 * d.mld.body.migWaitMs ≤ d.now - g.since then (d.setMig m { g with phase := 4 }).deltaShow else d
  | none => d

/-- MIG_WAIT_EXPIRY (R46). -/
def execMigWaitExpiry (m : Nat) (s : State) : Out := unit m 2080 (.next (s.onDev (Dev.migWaited m)))

/-- MIG_SWITCH (R47, R43): consumers accept only the new epoch; `stale` results of the old one are discarded. A shadow that
has not settled passes invalid blocks. -/
def Dev.migSwitch (m stale : Nat) (d : Dev) : Dev :=
  match tabFind d.mld.migs m with
  | some g =>
    if !(d.migMay m g.phase) || d.classWaits (d.orbitOf m) 4 then d
    else
      let old := d.spOf m
      let d1 := ((d.wr F.MLD_PLACE_SP (d.rd F.MLD_PLACE_SHADOW_SP m) m).nextEpoch m).bumpBy stale F.MLD_DISCARD_CNT_COUNT
      let d2 := if g.phase = 7 ∨ g.phase = 8 then d1.setInvalid true m else d1
      (d2.setMig m { phase := 5, oldSp := old }).deltaShow
  | none => d

/-- MIG_SWITCH (R47). -/
def execMigSwitch (m stale : Nat) (s : State) : Out := unit m 2080 (.next (s.onDev (Dev.migSwitch m stale)))

/-- MIG_RELEASE (R47): the old placement is released and the shadow mark clears. -/
def Dev.migRelease (m : Nat) (d : Dev) : Dev :=
  match tabFind d.mld.migs m with
  | some g =>
    if g.phase = 5 then
      let d1 : Dev := { d with mld := { d.mld with migs := tabDel d.mld.migs m } }
      let d2 := (d1.wr F.MLD_PLACE_SHADOW 0 m).wr F.MLD_PLACE_SHADOW_SP 0 m
      (if d2.spFailed (d2.spOf m) then d2 else d2.setInvalid false m).deltaSettle
    else d
  | none => d

/-- MIG_RELEASE (R47). -/
def execMigRelease (m : Nat) (s : State) : Out := unit m 2080 (.next (s.onDev (Dev.migRelease m)))

/-! Deltas. -/

/-- What an image declares of a stream: its donor slice, with that slice, the port slice and the mode of its port. -/
structure StreamDecl where
  slice : Nat
  donor : DonorSlice
  num : PortSlice
  mode : Nat × Bool × Bool × Bool × Nat
  deriving DecidableEq

/-- The declaration of a stream in a plan. -/
def streamDecl (p : Plan) (m : Nat) : StreamDecl :=
  let n := ((planStreams p).find? (fun q => q.1 == m)).elim 0 (fun q => q.2)
  let q : PortDecl := if m < 2048 then (p.ports.find? (fun q => q.port == portOf m)).getD {} else {}
  { slice := n, donor := planDonor p n, num := (q.slices.find? (fun r => r.num == m % 8)).getD {}
    mode := (q.port, q.pair, q.rate10, q.eth, q.stations) }

/-- The ports that a delta touches (R78). -/
def deltaPorts (x : Delta) (old new : Plan) : List Nat :=
  if x.slice then
    ((old.ports ++ new.ports).filter (fun q => q.slices.any (fun r => r.donor == x.scope))).map (fun q => q.port) |>.eraseDups
  else [x.scope]

/-- A protected pair of a port that the delta touches is switching (R78). -/
def Dev.deltaHeld (d : Dev) (x : Delta) : Bool :=
  (deltaPorts x d.mld.plan x.body.plan).any (fun p => (d.lp p).pend.isSome)

/-- The governor forgets what a delta removed (R752). -/
def Dev.governorForget (d : Dev) (gone : List Nat) : Dev :=
  let keys := (((gone.filter (fun m => decide (m < 2048))).map sliceKey).eraseDups).filter
    (fun k => !(d.has k) && !(d.has (k + 8)))
  let slices := (upTo 16).filter (fun n => !(d.declared n))
  let d1 := d.ladderDrop (fun a =>
    match a with
    | .mute k => !(keys.contains k)
    | .tick n => !(slices.contains n)
    | _ => true)
  (d1.each keys (fun x k => x.muteMark k false)).each slices (fun x n => x.wr F.BGV_DSLICE_MULT_GRANT 0 n)

/-- The surveys of the streams that a delta affects (R77, R467), those apart whose only change is their place: one that runs
on the same donor slice starts again with them. -/
def Dev.deltaSurvey (d : Dev) (l : List Nat) : Dev :=
  let ns := ((l.filter (fun m => decide (m < 2048))).map d.donorOf).eraseDups
  d.each ns (fun x n =>
    let ms := l.filter (fun m => decide (m < 2048) && x.donorOf m == n)
    match x.survey n with
    | some sv => x.setSurvey n { streams := sv.streams.filter (fun m => !(ms.contains m)) ++ ms }
    | none => x.surveyStart ms)

/-- A delta touched a port slice since the full load (R466). -/
def Dev.touch (d : Dev) (tag : Nat) (m : Nat) : Dev :=
  { d with iso := { d.iso with touched := tabPut d.iso.touched (sliceKey m) tag } }

/-- Results of an old epoch that were under way when `n` streams changed epoch are discarded (R43); how many is open (log
81). -/
def Dev.discardOld (d : Dev) : Nat → Dev
  | 0 => d
  | n + 1 =>
    let r := d.draw
    (r.2.bumpBy r.1 F.MLD_DISCARD_CNT_COUNT).discardOld n

/-- Step 2 and 3 of R77: what changed is removed, created and rebuilt, and surveyed. DESIGN CHOICE (log 82): `DELTAS` keeps
the low 8 bits of the count. -/
def Dev.deltaBuild (d : Dev) (x : Delta) : Dev :=
  let old := d.mld.plan
  let new := x.body.plan
  let ports := deltaPorts x old new
  let epochs := x.build.map (fun m => (m, if d.has m then (d.rd F.MLD_PLACE_EPOCH m + 1) % 256 else 0))
  let stale := (x.build.filter d.has).length
  let d1 := d.each x.drop Dev.dropStream
  let body : ImageBody := { x.body with regs := overlay d.mld.body.regs x.body.regs }
  let d2 : Dev := { d1 with mld := { d1.mld with plan := new, body := body } }
  let d3 := epochs.foldl (fun (y : Dev) q =>
    (y.placeStream (d.deltaSp x.placed body.places q.1) q.2 q.1).setFill q.1) (d2.discardOld stale)
  let d4 := ((d3.each x.build (fun y m => y.ladderAsk true (6 + y.spOf m))).fenceLost x.build).governorForget x.drop
  let d5 := ((d4.each (upTo 16) Dev.showMap).loadRegs x.body.regs).cacheFill x.body.channels
  let modeOf := fun (p : Plan) (k : Nat) => (streamDecl p (16 * k)).mode
  let d6 := d5.each (ports.filter (fun k => modeOf old k != modeOf new k)) (fun y k =>
    let off := (old.ports.filter (fun q => q.port == k)).flatMap portLanes
    let y1 := y.each off Dev.laneOff
    match new.ports.find? (fun q => q.port == k) with
    | some q => y1.lanesUp q
    | none => y1)
  let d7 := d6.each (ports.filter (fun k => d6.portActive k)) Dev.offerMap
  let lost := (upTo 16).filter (fun n => x.build.any (fun m => d7.dsliceOf m == n))
  let d8 := d7.each lost (fun y n => if y.donorLinkUp n then y else y.donorLost n true)
  let d9 := d8.each (x.build.filter (fun m => decide (m < 2048))) (fun y m =>
    if (y.donor (y.donorOf m)).tdd && y.orbState (y.orbitOf m) == 4 then y.setCause 2 m else y)
  let d10 := (d9.wr F.MLD_STS_DELTAS (d9.rd F.MLD_STS_DELTAS + 1)).each (x.drop ++ x.build) (Dev.touch · x.tag)
  let d11 : Dev := { d10 with mld := { d10.mld with delta := some { x with built := true } } }
  let kept := x.now.filter (fun m => !(x.build.contains m) && !(x.move.any (fun q => q.1 == m)))
  let ms := if x.build.isEmpty && x.drop.isEmpty then [] else x.build ++ kept
  (((d11.deltaSurvey ms).each (upTo 16) Dev.alignRefresh).guardCheck ms).deltaShow.deltaSettle.faultPin

/-- A delta goes on where no pair of its ports is switching (R77, R78). One whose moves have started is not held again, but
its rebuilding waits. -/
def Dev.deltaGo (d : Dev) : Dev :=
  match d.mld.delta with
  | none => d
  | some x => if x.built || x.held || d.deltaHeld x then d else d.deltaBuild x

/-- No orbit has tick boundaries, so that no transit will come. -/
def Dev.noTransit (d : Dev) : Bool := (upTo 2).all (fun i => (d.orb i).ticks != 2)

/-- The moves of a delta start (R77): each stream whose only change is its place migrates. -/
def Dev.deltaMoves (d : Dev) : Dev :=
  match d.mld.delta with
  | none => d
  | some x => (x.move.foldl (fun (y : Dev) q => y.migAccept q.1 q.2) d).deltaShow

/-- A delta that has passed its checks (R75 to R78): streams to build, to remove and to move are named; the moves start, and
the rest waits for the next transit; all of it waits while a protected pair of its ports is switching. Refused where a
stream of it migrates. -/
def Dev.deltaStart (l : List Nat) (body : ImageBody) (d : Dev) : Dev :=
  let k := imgKind l
  let sc := imgScope l
  let b := deltaBody l d.mld.body body
  let placed := imgHas l 3
  let was := scopeStreams k sc d.mld.plan
  let now := scopeStreams k sc b.plan
  if (was ++ now).any (fun m => (tabFind d.mld.migs m).isSome) then d.mldErr 0x0E 0
  else
    let d0 := d.remapLps (now.map (lpIn b.places)).eraseDups
    let fresh := now.filter (fun m =>
      !(was.contains m) || streamDecl d.mld.plan m != streamDecl b.plan m || d.spFailed (d.spOf m))
    let gone := was.filter (fun m => !(now.contains m) || fresh.contains m)
    let move := (now.filter (fun m => !(fresh.contains m) && d0.spOf m != d0.deltaSp placed b.places m)).map
      (fun m => (m, d0.deltaSp placed b.places m))
    let x : Delta := { slice := k == 2, scope := sc, body := b, placed := placed, now := now, build := fresh, drop := gone
                       move := move, tag := fromBe (sha256 l) }
    let held := d0.deltaHeld x
    let secs := (imgSects l).map (fun s => s.ty)
    let d1 : Dev := { d0 with mld := { d0.mld with
      delta := some { x with held := held }, sections := (d0.mld.sections ++ secs).eraseDups } }
    let d2 := ((d1.wr F.MLD_REMOULD_STS_INDEX sc).wr F.MLD_REMOULD_STS_KIND (b2n x.slice))
    if held then d2.deltaShow
    else
      let d3 := d2.deltaMoves
      if d3.noTransit then d3.deltaGo else d3

/-- DELTA_RESUME (R78): the switch of the protected pair has completed. -/
def Dev.deltaResume (d : Dev) : Dev :=
  match d.mld.delta with
  | some x =>
    if x.held && !(d.deltaHeld x) then
      let d1 := ({ d with mld := { d.mld with delta := some { x with held := false } } } : Dev).deltaMoves
      if d1.noTransit then d1.deltaGo else d1
    else d
  | none => d

/-- DELTA_RESUME (R78). -/
def execDeltaResume (s : State) : Out := .next (s.onDev Dev.deltaResume)

end Sys2Proof.Machine
end

