-- ==== Sys2Proof/Machine/Mould.lean ====
section
/-! DEFINITION. The mould loader: the slot directory, the commands of `MLD_CTL`, and bring-up from *CORE_WAKE* to *SERVICE* (chapter 01, R59 to R74). -/

namespace Sys2Proof.Machine

/-- What a copy of the slot directory holds (R63). -/
structure SlotDir where
  seq : Nat := 0
  preferred : Nat := 0
  trial : Nat := 0
  left : Nat := 0

/-- A copy of the directory, where its CRC is good (R63). PRESUMED layout: sequence number in octets 0 to 3, then
`PREFERRED`, `TRIAL`, `TRIAL_LEFT`, a zero octet, and the CRC-32C of octets 0 to 7. -/
def Mem.dirCopy (m : Mem) (k : Nat) : Option SlotDir :=
  let l := m.flRead (flDirectory + 0x8000 * k) 12
  if crcGood l then some ⟨leAt l 0 4, listAt l 4 % 2, listAt l 5 % 2, listAt l 6 % 4⟩ else none

/-- The newest good copy with its place, or none (R63). DESIGN CHOICE (log 84): of two with equal sequence numbers, copy 0. -/
def Mem.dirBest (m : Mem) : Option (Nat × SlotDir) :=
  match m.dirCopy 0, m.dirCopy 1 with
  | some a, some b => if a.seq < b.seq then some (1, b) else some (0, a)
  | some a, none => some (0, a)
  | none, some b => some (1, b)
  | none, none => none

/-- The directory in force: without a good copy, slot A without a trial (R63). -/
def Mem.dir (m : Mem) : SlotDir :=
  match m.dirBest with
  | some q => q.2
  | none => {}

/-- A directory copy is written over the other one, its sequence number raised (R63, R65), with its journal entries where
the journal is in use (R852). -/
def State.dirPut (x : SlotDir) (s : State) : State :=
  let k := match s.mem.dirBest with
    | some q => 1 - q.1
    | none => 0
  let a := flDirectory + 0x8000 * k
  let body := toOctets 4 (s.mem.dir.seq + 1) ++ [x.preferred, x.trial, x.left, 0]
  let log := s.dev.memOn && s.dev.hif.jrnRecovered
  let s1 := if log then s.journal 0x12 a 0x8000 else s
  let s2 : State := { s1 with mem := s1.mem.flErase a 0x8000 }
  if log then (s2.journal 0x21 a 0x8000).progJ a (withCrc body) else { s2 with mem := s2.mem.flProgram a (withCrc body) }

/-- The choice of a slot at boot (R63): the slot to load, after the trial's accounting. -/
def State.chooseSlot (s : State) : Nat × State :=
  let x := s.mem.dir
  let r : Nat × State :=
    if x.trial = 0 then (x.preferred, s)
    else if x.left = 0 then
      let first := 1 - x.preferred
      (first, (s.onDev (fun d => d.raise 0x21)).dirPut { x with preferred := first, trial := 0 })
    else (x.preferred, s.dirPut { x with left := x.left - 1 })
  (r.1, r.2.onDev (fun d => d.wr F.MLD_STS_TRIAL_LEFT r.2.mem.dir.left))

/-- *LOAD* reads from a source (R66, R83): `again` says that the other slot may be tried. -/
def Dev.loadBegin (d : Dev) (src : Nat) (again : Bool) : Dev :=
  let d1 := if d.boot = 3 then d else d.setBoot 3
  { d1 with mld := { d1.mld with source := src, fallback := again, loadAbandoned := false } }

/-- *LOAD* begins at a command (R82): the command is in progress until *APPLY* is done. -/
def Dev.loadAsked (d : Dev) (src : Nat) (again : Bool) : Dev :=
  let d1 := d.loadBegin src again
  { d1 with mld := { d1.mld with commanded := true } }

/-- The source of a staged image (R83). -/
def Dev.stagedSource (d : Dev) : Nat := if d.mld.usbStaged then 3 else 2

/-- The octets that an image load or check reads (R50, R85, R86): of a slot, as many as its header says. -/
def State.imageOctets (src : Nat) (s : State) : List Nat :=
  if src < 2 then
    let a := flSlot src
    let n := if leAt (s.mem.flRead a 4) 0 4 = 0x55424E4D then leAt (s.mem.flRead (a + 8) 4) 0 4 else 0
    s.mem.flRead a (max 0x40 (min n 0x800000))
  else if s.dev.memReady then
    s.mem.sdRead (64 * s.dev.rd F.MLD_STAGE_ADDR_ADDR64) (max 0x40 (min (s.dev.rd F.MLD_STAGE_LEN_LENGTH) 0x800000))
  else List.replicate 0x40 0

/-- `MLD_STAGE_LEN` for a staged source. -/
def Dev.stagedLen (d : Dev) (src : Nat) : Option Nat := if src < 2 then none else some (d.rd F.MLD_STAGE_LEN_LENGTH)

/-- *HALT* is entered (R63, R66, R74, R831): SDRAM is woken, the permit is cleared. -/
def Dev.halt (d : Dev) : Dev :=
  let d1 : Dev := { d with mld := { d.mld with permit := false, permitHeld := false, fallback := false, commanded := false } }
  (d1.ladderAsk true 5).setBoot 9

/-- A load fails (R63): the error is reported; a first slot is followed by the other, else *HALT*. -/
def Dev.loadFail (d : Dev) (code sect : Nat) : Dev :=
  let d1 := (d.wr F.MLD_ERR_SOURCE d.mld.source).mldErr code sect
  if d1.mld.fallback && decide (d1.mld.source < 2) then
    let d2 := (d1.raise 0x22 0 (d1.word RD.MLD_ERR)).bump F.MLD_BOOT_CNT_SLOT_FALLBACKS
    { d2 with mld := { d2.mld with source := 1 - d2.mld.source, fallback := false } }
  else d1.halt

/-- The domains that *APPLY* wakes (R731): donor interface, memory, processors that hold a stream, link-die quarters with a
declared lane. -/
def Dev.applyWakes (d : Dev) : Dev :=
  let d1 := (d.ladderAsk true 4).ladderAsk true 5
  let sps := (d1.allStreams.map d1.spOf).eraseDups.filter (fun n => !(d1.spFailed n))
  let quarters := (d1.mld.plan.ports.flatMap (fun q => (portLanes q).map laneDomain)).eraseDups
  (d1.each sps (fun x n => x.ladderAsk true (6 + n))).each quarters (fun x n => x.ladderAsk true n)

/-- A load passes (R62, R66, R82 to R90): the image becomes the active one and the controller enters *APPLY*. -/
def State.loadPass (l : List Nat) (body : ImageBody) (s : State) : State :=
  let src := s.dev.mld.source
  let x := s.mem.dir
  let trial := decide (src < 2) && x.preferred == src && x.trial == 1
  s.onDev (fun d =>
    let d1 := (((((d.wr F.MLD_IMG_VER_VERSION (imgVersion l)).wr F.MLD_STS_HOSTLESS (bits (imgFlags l) 0 1)).wr
      F.MLD_STS_TRIAL (b2n trial)).wr F.MLD_STS_ACTIVE_SLOT (b2n (src == 1))).wr F.MLD_STS_DELTAS 0).wr
      F.MLD_SEC_KEY_USED ((imgSigner s.mem.otp l).getD 0)
    let d2 := (d1.wr F.MLD_DISCARD_CNT_COUNT 0).bump F.MLD_BOOT_CNT_FULL_LOADS
    let d3 : Dev := { d2 with
      mld := { d2.mld with activeSource := src, config := imgConfig l, flags := imgFlags l, secLevel := imgSecLevel l,
                           body := body, plan := body.plan, fallback := false
                           sections := (imgSects l).map (fun s => s.ty) }
      iso := { d2.iso with image := fromBe (sha256 l), touched := [] } }
    let d4 := d3.remapLps (body.places.map (fun q => q.2)).eraseDups
    let d5 := body.places.foldl (fun (y : Dev) q => y.placeStream (y.spOfLp q.2) 0 q.1) d4
    (((d5.setBoot 4).clockWait).applyWakes).fenceLost (body.places.map (fun q => q.1)))

/-- The slot that is not active (R65). DESIGN CHOICE (log 85): of an image loaded from staging neither slot is active; as
`ACTIVE_SLOT` then reads 0 (R82), slot B counts as the one that is not. -/
def Dev.otherSlot (d : Dev) : Nat := 1 - d.rd F.MLD_STS_ACTIVE_SLOT

/-- The flash controller is to program an image into the slot that is not active (R65). -/
def State.slotWrite (l : List Nat) (s : State) : State :=
  let k := s.dev.otherSlot
  let n := imgLen l
  let j : FlashJob := { op := 1, addr := flSlot k, len := n, slot := true }
  (s.onDev (fun d => { d with
    mld := { d.mld with checking := 0, writing := some (k, l.take n) }
    hif := { d.hif with flashJobs := d.hif.flashJobs ++ [j] } })).flashKick

/-- A staged image is refused: its source, the error, and nothing else (R74). -/
def Dev.stagedRefuse (d : Dev) (code sect : Nat) : Dev :=
  (({ d with mld := { d.mld with checking := 0 } }).wr F.MLD_ERR_SOURCE d.stagedSource).mldErr code sect

/-- No orderly stop runs (R748): bring-up may go on. -/
def Dev.bringupGoes (d : Dev) : Bool := d.pwr.stopping.isNone

/-- The reads of a staged image count as SDRAM traffic (R743). -/
def State.readCounted (src : Nat) (s : State) : State :=
  if src < 2 then s else s.onDev (fun d => d.tally 7 (d.rd F.MLD_STAGE_LEN_LENGTH))

/-- IMAGE_LOAD_DONE (R61 to R63): the image that *LOAD*, `WRITE_SLOT` or `REMOULD` reads has been read and checked. `body` is
what its sections say; `bad` names the step in which a read was uncorrectable, its address of a staged image, and in step 6
the table index of the section in check. -/
def State.imageLoadDone (body : ImageBody) (bad : Option (Nat × Nat × Nat)) (s : State) : State :=
  let loading := s.dev.boot == 3 && !s.dev.mld.loadAbandoned
  if (!loading && s.dev.mld.checking == 0) || !s.dev.bringupGoes then s
  else
    let src := if loading then s.dev.mld.source else s.dev.stagedSource
    let s0 := s.readCounted src
    let s1 := match bad with
      | some q => if src < 2 then s0 else s0.onDev (fun d => d.memUe q.2.1)
      | none => s0
    let d := s1.dev
    let l := s1.imageOctets src
    let cut := bad.map (fun q => (q.1, q.2.2))
    let why := if loading then CheckFor.load else if d.mld.checking = 6 then CheckFor.delta else CheckFor.slot
    let res : Option (Nat × Nat) :=
      match d.imgCheck s1.mem.otp why (d.stagedLen src) cut l with
      | some e => some e
      | none =>
        let c := if cut.map (fun q => q.1) = some 11 then stepCode s1.mem.otp (decide (2 ≤ src)) 11
          else d.imgLimits l (imgBody l body)
        if c = 0 then none else some (c, 0)
    match res with
    | some e => s1.onDev (fun d => if loading then d.loadFail e.1 e.2 else d.stagedRefuse e.1 e.2)
    | none =>
      if loading then s1.loadPass l (imgBody l body)
      else if d.mld.checking = 6 then
        s1.onDev (fun d => if d.boot = 8 then ({ d with mld := { d.mld with checking := 0 } }).deltaStart l (imgBody l body)
          else d.stagedRefuse 0x0E 0)
      else s1.slotWrite l

/-- IMAGE_LOAD_DONE (R61). -/
def execImageLoadDone (body : ImageBody) (bad : Option (Nat × Nat × Nat)) (s : State) : Out := .next (s.imageLoadDone body bad)

/-- SLOT_PROGRAM_DONE (R65): the program of a slot has been read back, or has failed. -/
def State.slotDone (ok : Bool) (s : State) : State :=
  match s.dev.hif.flashJobs, s.dev.mld.writing with
  | j :: rest, some w =>
    if !j.slot || !j.begun then s
    else
      let r := s.jobRange j
      let s0 := s.onDev (fun d => { d with hif := { d.hif with flashJobs := rest }, mld := { d.mld with writing := none } })
      let s1 :=
        if ok then
          let m := (s0.mem.flErase r.1 r.2).flProgram r.1 w.2
          let s2 := ({ s0 with mem := m } : State).journal 0x21 r.1 r.2
          (s2.dirPut { preferred := w.1, trial := 1, left := 3 }).onDev (fun d => d.wr F.MLD_STS_TRIAL 0)
        else (s0.scramble r.1 r.2).onDev (fun d => d.raise 0x168 0 r.1)
      s1.flashKick
  | _, _ => s

/-- SLOT_PROGRAM_DONE (R65). -/
def execSlotProgramDone (ok : Bool) (s : State) : Out := .next (s.slotDone ok)

/-- A full image is confirmed (R59, R64): where its trial is in force, the trial ends, and the fuses follow. DESIGN CHOICE
(log 86): a `SEC_LEVEL` above the 64 of R52 is no error of R61, and raises the count to itself. -/
def State.confirmImage (s : State) : State :=
  let d := s.dev
  let x := s.mem.dir
  if !(d.flag F.MLD_STS_TRIAL) || x.trial ≠ 1 || x.preferred ≠ d.mld.activeSource then s
  else
    let s1 := (s.dirPut { x with trial := 0 }).onDev (fun d => d.wr F.MLD_STS_TRIAL 0)
    let o := s1.mem.otp
    let revoke := d.rd F.MLD_SEC_KEY_USED == 1 && bitAt d.mld.flags 3
    let o1 := { o with rollback := max o.rollback d.mld.secLevel, revoked := if revoke then o.revoked ||| 1 else o.revoked }
    ({ s1 with mem := { s1.mem with otp := o1 } } : State).otpShow

/-- A command is refused (R74). -/
def State.refuse (code : Nat) (s : State) : State := s.onDev (fun d => d.mldErr code 0)

/-- `LOAD_FLASH` (R74, R81): from *HALT*, the directory's choice with its fallback, or the slot named. -/
def State.loadFlash (s : State) : State :=
  let d := s.dev
  if d.boot ≠ 9 ∨ d.cmdBusy then s.refuse 0x0E
  else if d.flag F.MLD_CTL_USE_PREFERRED then
    let r := s.chooseSlot
    r.2.onDev (fun d => d.loadAsked r.1 true)
  else s.onDev (fun d => d.loadAsked (d.rd F.MLD_CTL_SLOT) false)

/-- Full mute and restart from a source (R72): once the next transit comes, or at once where none will. A delta is abandoned
(R79). -/
def State.restartFrom (src : Nat) (s : State) : State :=
  if s.dev.noTransit then
    s.onDev (fun d => (d.restartLoad).loadAsked src (decide (src < 2)))
  else s.onDev (fun d => let x := d.deltaDrop; { x with mld := { x.mld with restart := some src } })

/-- A restart that waits is made (R72). -/
def Dev.restartRun (d : Dev) : Dev :=
  match d.mld.restart with
  | some src => d.restartLoad.loadAsked src (decide (src < 2))
  | none => d

/-- Another command that a load does not end is in progress: a slot write, or a restart that waits. -/
def Dev.loadBlocked (d : Dev) : Bool := d.mld.checking == 3 || d.mld.writing.isSome || d.mld.restart.isSome

/-- `LOAD_STAGED` (R72, R79). -/
def State.loadStaged (s : State) : State :=
  let d := s.dev
  if d.loadBlocked || decide (d.boot < 5) || d.boot == 10 then s.refuse 0x0E
  else if d.boot = 9 then s.onDev (fun d => d.loadAsked d.stagedSource false)
  else s.restartFrom d.stagedSource

/-- `RELOAD` (R72, R79): in *HALT* as at boot, else from the preferred slot with the slot decision already made. -/
def State.reload (s : State) : State :=
  let d := s.dev
  if d.loadBlocked || decide (d.boot < 5) || d.boot == 10 then s.refuse 0x0E
  else if d.boot = 9 then
    let r := s.chooseSlot
    r.2.onDev (fun d => d.loadAsked r.1 true)
  else s.restartFrom s.mem.dir.preferred

/-- `WRITE_SLOT` (R65, R74): steps 1 to 10 of R61 at once; the sections are then read. -/
def State.writeSlot (s : State) : State :=
  let d := s.dev
  if d.boot < 5 ∨ d.boot = 10 ∨ !(d.flag F.HIF_MEM_STS_READY) ∨ d.cmdBusy then s.refuse 0x0E
  else
    match d.imgCheck s.mem.otp .slot (d.stagedLen 2) none (s.imageOctets 2) with
    | some e => s.onDev (fun d => d.stagedRefuse e.1 e.2)
    | none => s.onDev (fun d => { d with mld := { d.mld with checking := 3 } })

/-- `CONFIRM` (R64, R74). -/
def State.confirm (s : State) : State := if s.dev.boot = 8 then s.confirmImage else s.refuse 0x0E

/-- `REMOULD` (R74, R75): steps 1 to 10 of R61 at once; the sections are then read. -/
def State.remould (s : State) : State :=
  let d := s.dev
  if d.boot ≠ 8 ∨ d.cmdBusy then s.refuse 0x0E
  else
    match d.imgCheck s.mem.otp .delta (d.stagedLen 2) none (s.imageOctets 2) with
    | some e => s.onDev (fun d => d.stagedRefuse e.1 e.2)
    | none => s.onDev (fun d => { d with mld := { d.mld with checking := 6 } })

/-- `ABORT` (R49, R74): a delta that has not been built and every migration before its switch are abandoned; else `BUSY`. -/
def Dev.mldAbort (d : Dev) : Dev :=
  let early := d.mld.migs.filter (fun q => q.2.phase != 5)
  let unbuilt := d.mld.checking == 6 || (match d.mld.delta with | some x => !x.built | none => false)
  if d.mld.delta.isNone && d.mld.migs.isEmpty && d.mld.checking != 6 then d
  else if unbuilt then d.deltaDrop
  else if early.isEmpty then d.mldErr 0x0E 0
  else (early.foldl (fun (x : Dev) q => x.migAbort q.1) d).deltaShow.deltaSettle

/-- `GO` (R68, R74): the permit is granted in *ORBIT_WAIT*, held before it, else nothing happens. -/
def Dev.mldGo (d : Dev) : Dev :=
  if 2 ≤ d.boot ∧ d.boot ≤ 5 then { d with mld := { d.mld with permitHeld := true } }
  else if d.boot = 6 then { d with mld := { d.mld with permit := true } }
  else d

/-- The commands of `MLD_CTL.CMD` (R81). -/
def State.mldCmd (cmd : Nat) (s : State) : State :=
  match cmd with
  | 1 => s.loadFlash
  | 2 => s.loadStaged
  | 3 => s.writeSlot
  | 4 => s.reload
  | 5 => s.confirm
  | 6 => s.remould
  | 7 => s.onDev Dev.mldAbort
  | 8 => s.onDev Dev.mldGo
  | _ => s

/-- What a write of `MLD_CTL` does (R81): the fields are stored, then the command acts; a reserved one does nothing. -/
def State.actMldCtl (p : Path) (w : Nat) (s : State) : Option State :=
  some ((s.onDev (fun d => d.putHit p (hit .MLD_CTL RD.MLD_CTL) w)).mldCmd (F.MLD_CTL_CMD.of w))

/-- A write of `MLD_CTL` with one command. -/
def mldCommand (cmd : Nat) (p : Path) (w : Nat) (s : State) : Out :=
  let w1 := withBits w 0 4 cmd
  .next (s.write p (hit .MLD_CTL RD.MLD_CTL) w1 (State.actMldCtl p w1))

/-- LOAD_FLASH (R74). -/
def execLoadFlash (p : Path) (w : Nat) (s : State) : Out := mldCommand 1 p w s

/-- LOAD_STAGED (R72). -/
def execLoadStaged (p : Path) (w : Nat) (s : State) : Out := mldCommand 2 p w s

/-- WRITE_SLOT (R65). -/
def execWriteSlot (p : Path) (w : Nat) (s : State) : Out := mldCommand 3 p w s

/-- RELOAD (R72). -/
def execReload (p : Path) (w : Nat) (s : State) : Out := mldCommand 4 p w s

/-- CONFIRM (R64). -/
def execConfirm (p : Path) (w : Nat) (s : State) : Out := mldCommand 5 p w s

/-- REMOULD (R75). -/
def execRemould (p : Path) (w : Nat) (s : State) : Out := mldCommand 6 p w s

/-- ABORT (R49). -/
def execAbort (p : Path) (w : Nat) (s : State) : Out := mldCommand 7 p w s

/-- GO (R68). -/
def execGo (p : Path) (w : Nat) (s : State) : Out := mldCommand 8 p w s

/-- CMD_RESERVED (R81): a `CMD` of 9 to 15; other values of the operand name no reserved command and act as 15. -/
def execCmdReserved (p : Path) (cmd w : Nat) (s : State) : Out := mldCommand (if 9 ≤ cmd ∧ cmd ≤ 15 then cmd else 15) p w s

/-- CORE_WAKE_DONE (R63, R66, R73): the compute die is powered and OTP read; a slot is chosen and *LOAD* begins. -/
def State.coreWakeDone (s : State) : State :=
  let d := s.dev
  if d.boot ≠ 2 ∨ !d.coreOn ∨ !d.refOk ∨ !d.bringupGoes then s
  else
    let fuse := s.mem.otp.aoFuse
    let s1 := s.otpShow.onDev (fun x => x.wr F.HIF_MEM_STS_RATE (if bitAt fuse 31 then bits fuse 20 2 else 0))
    let r := s1.chooseSlot
    r.2.onDev (fun x => x.loadBegin r.1 true)

/-- CORE_WAKE_DONE (R66). -/
def execCoreWakeDone (s : State) : Out := .next s.coreWakeDone

/-- Every section has been written into its block (R66): registers, donor map, lanes, caches; coefficient sets stand in both
banks (R539). -/
def Dev.applyAll (d : Dev) : Dev :=
  let b := d.mld.body
  let d0 : Dev := { d with mld := { d.mld with commanded := false } }
  let d1 := (d0.each (upTo 16) Dev.showMap).loadRegs b.regs
  let d2 := d1.coefCommit
  let d3 := ({ d2 with eng := { d2.eng with coefWait := [], coefOld := [], coefDue := [] } }).wr F.CE_STS_COEF_PENDING 0
  let d4 := (d3.each (upTo 2) (fun x i => (x.tickLengthChange i).patternChanged i)).cacheFill b.channels
  let d5 := (d4.mld.plan.ports.foldl Dev.lanesUp d4).each (d4.allStreams) Dev.showH
  let d6 := d5.each ((upTo 16).filter (fun n => d5.declared n && !(d5.donorLinkUp n))) (fun x n => x.donorLost n true)
  ((d6.each (upTo 16) Dev.alignRefresh).setBoot 5)

/-- APPLY_DONE (R66). -/
def Dev.applyDone (d : Dev) : Dev :=
  if d.boot ≠ 4 ∨ !d.bringupGoes ∨ d.mld.loadAbandoned ∨ d.rd F.CLK_STS_SAMP_STATE ≠ 2 then d else d.applyAll

/-- APPLY_DONE (R66). -/
def execApplyDone (s : State) : Out := .next (s.onDev Dev.applyDone)

/-- LINK_UP_DONE (R66): lanes and donor link are up, or their limits have expired. -/
def Dev.linkUpDone (d : Dev) : Dev := if d.boot ≠ 5 ∨ !d.bringupGoes ∨ d.flag F.CLK_STS_SAFE then d else d.orbitWait

/-- LINK_UP_DONE (R66). -/
def execLinkUpDone (s : State) : Out := .next (s.onDev Dev.linkUpDone)

/-- The orbits that declared slices need are *LOCKED* (R66). -/
def Dev.orbitsLocked (d : Dev) : Bool := (upTo 2).all (fun i => (d.slicesOn i).isEmpty || d.orbState i == 2)

/-- *SURVEY* is entered (R66 to R70, R462): every port stream is surveyed; slices that may not be yet wait. -/
def Dev.surveyEnter (d : Dev) : Dev :=
  let d0 : Dev := { d with mld := { d.mld with entered := true } }
  let d1 := ((d0.setBoot 7).stnSurveyEntry).surveyStart d.portStreams
  let ns := d1.iso.surveys.map (fun q => q.1)
  (d1.each (ns.filter (fun n => !(d1.surveyAllowed n) || d1.rd F.ORB_STS_STATE (d1.donor n).orbit != 2))
    Dev.surveyAbandon).surveysOver

/-- ORBIT_WAIT_DONE (R66, R68, R69). -/
def Dev.orbitWaitDone (d : Dev) : Dev :=
  if d.boot ≠ 6 ∨ !d.bringupGoes ∨ d.flag F.CLK_STS_SAFE ∨ !d.mld.permit ∨ !(d.orbitsLocked || d.mld.waitOver) then d else d.surveyEnter

/-- ORBIT_WAIT_DONE (R68). -/
def execOrbitWaitDone (s : State) : Out := .next (s.onDev Dev.orbitWaitDone)

/-- ORBIT_WAIT_LIMIT_EXPIRY (R69): `ORBIT_WAIT_LIMIT` has passed in *ORBIT_WAIT*. -/
def Dev.orbitWaitLimit (d : Dev) : Dev :=
  if d.boot ≠ 6 ∨ d.now - d.mld.waitAt < 122880 * d.mld.body.orbitWaitMs then d else ({ d with mld := { d.mld with waitOver := true } }).orbitWaitDone

/-- ORBIT_WAIT_LIMIT_EXPIRY (R69). -/
def execOrbitWaitLimitExpiry (s : State) : Out := .next (s.onDev Dev.orbitWaitLimit)

/-- *SERVICE* has lasted for `CONFIRM_TIME` without interruption (R64). -/
def Dev.confirmDue (d : Dev) : Bool :=
  d.boot == 8 && !(d.flag F.CLK_STS_SAFE) && decide (122880000 * d.mld.body.confirmTime ≤ d.now - d.mld.stateAt)

/-- CONFIRM_TIME_EXPIRY (R64): with `AUTO_CONFIRM`, an uninterrupted *SERVICE* confirms the image. -/
def execConfirmTimeExpiry (s : State) : Out :=
  .next (if s.dev.confirmDue ∧ bitAt s.dev.mld.flags 1 then s.confirmImage else s)

end Sys2Proof.Machine
end

