-- ==== Sys2Proof/Machine/Ticks.lean ====
section
/-! DEFINITION. Loop ticks: the tick commit, the deadline, and the sample tick that passes while no command waits (chapters 02 and 09). -/

namespace Sys2Proof.Machine

/-- The tick commit of a donor slice may be named: the first of its commits is due (R342). -/
def Dev.tickNear (d : Dev) (i n p : Nat) : Bool :=
  d.reached i p || (d.streamsOf n).any (fun m => d.reached i (d.commitExec m p))

/-- The commits of an orbit that are due execute; where the rest of a slice's tick commit is among them, a restart and a delta
that wait for a transit go with it (R72, R77, R79). -/
def Dev.commitsRun (d : Dev) (i : Nat) : Dev :=
  let tick := (d.orb i).jobs.any (fun q => decide (2080 ≤ q.stream) && d.reached i q.pos)
  let d1 := d.jobsRun i
  if tick && !(d.classWaits i 5) then (d1.restartRun).deltaGo else d1

/-- TICK_COMMIT (R128 to R130, R138, R342): the tick commits of an orbit that are due are named, and those of their streams whose
position has been reached execute; in *FREE* they are dropped. -/
def Dev.tickCommit (i : Nat) (d : Dev) : Dev :=
  let o := d.orb i
  let due := o.commitAt.filter (fun q => d.tickNear i q.1 q.2)
  let d1 := d.setOrb i { o with commitAt := o.commitAt.filter (fun q => !(d.tickNear i q.1 q.2)) }
  if d1.orbState i = 0 then d1
  else (due.foldl (fun x q => x.tickName i q.1 q.2) d1).commitsRun i

/-- TICK_COMMIT (R128) of orbit `i`. -/
def execTickCommit (o : Nat) (s : State) : Out := unit o 2 (.next (s.onDev (Dev.tickCommit o)))

/-- TICK_DEADLINE (R525, R528, R529): where the deadline of a tick of the orbit's slices has passed, its unfinished work is abandoned;
at the deadline of the base tick the load is taken, and the heartbeat is issued where every building loop has released. -/
def Dev.tickDeadline (i : Nat) (d : Dev) : Dev :=
  let d1 := d.each ((d.slicesOn i).filter (fun n => decide (d.deadlineIn n ≤ 0))) Dev.deadlineOf
  if !(d1.beatDue i) then d1
  else
    let d2 := d1.loadTake i
    let d3 : Dev := { d2 with eng := { d2.eng with beats := d2.eng.beats ++ [i] } }
    if d3.heartbeatDue i then d3.heartbeat i else d3

/-- TICK_DEADLINE (R525). -/
def execTickDeadline (o : Nat) (s : State) : Out := unit o 2 (.next (s.onDev (Dev.tickDeadline o)))

/-- A base tick boundary of an orbit falls (R128, R521, R524): the slices due in it take a new tick. Boundaries are counted
afresh every eighth base tick. -/
def Dev.baseBoundary (d : Dev) (i k : Nat) : Dev :=
  let o := d.orb i
  let o1 := if k = 0 then { o with tickFrom := o.pos } else o
  let d1 : Dev := (d.setOrb i { o1 with ticks := 2, tick := k })
  let d2 := d1.loadStart i
  d2.tickStartOf i (d2.dueSlices i)

/-- One count of an orbit (R27, R104): its position, and the tick boundary that may fall on it. -/
def Dev.orbCount (d : Dev) (i : Nat) : Dev :=
  let o := d.orb i
  let d1 := d.setOrb i { o with pos := (o.pos + 1) % orbitSpan }
  if o.ticks = 1 then (if d1.reached i o.tickFrom then d1.baseBoundary i 0 else d1)
  else if o.ticks = 2 then
    (if posFrom o.tickFrom (d1.orbPos i) % max 1 o.base = 0 then d1.baseBoundary i ((o.tick + 1) % 8) else d1.commitsPlace i)
  else d1

/-- Samples times frequency units that make one count (R101, R153). -/
def freqSpan : Int := 1024000000000

/-- One sample of an orbit (R101, R102): nominally one count, with the frequency estimate's and the slew's counts skipped
or repeated. DESIGN CHOICE (log 92): the estimate is applied in *LOCKED*, *HOLDOVER* and *LOST*, and not in *FREE* and
*ACQUIRE*, where the counter runs free. -/
def Dev.orbSample (d : Dev) (i : Nat) : Dev :=
  let o := d.orb i
  let st := d.orbState i
  let acc : Int := if 2 ≤ st then o.acc + d.rdS F.ORB_FREQ_FREQ i else o.acc
  let f : Int := if freqSpan ≤ acc then 1 else if acc ≤ -freqSpan then -1 else 0
  let slews := (st == 2 || st == 3) && o.slew != 0 && decide (4096 ≤ o.slewGap)
  let q : Int := if slews then (if 0 < o.slew then 1 else -1) else 0
  let d1 := d.setOrb i { o with acc := acc - f * freqSpan, slew := o.slew - q
                                slewGap := if slews then 0 else min 4096 (o.slewGap + 1) }
  d1.each (upTo (1 + f + q).toNat) (fun x _ => x.orbCount i)

/-- A slice processor that holds no stream, or a link-die quarter none of whose lanes is enabled (R731). -/
def Dev.domIdle (d : Dev) (n : Nat) : Bool :=
  if 74 ≤ n then (upTo 16).all (fun k => !(d.flag F.LNK_CTL_EN (16 * (n - 74) + k)))
  else decide (6 ≤ n) && decide (n < 42) && (d.streamsAt (n - 6)).isEmpty && !(d.migHolds (n - 6))

/-- Since when each domain that is on has had nothing to do (R731). -/
def Dev.idleWatch (d : Dev) : Dev :=
  let l := (d.pwr.good.filter d.domIdle).map (fun n => (n, (tabFind d.pwr.idleAt n).getD d.now))
  { d with pwr := { d.pwr with idleAt := l } }

/-- Since when the host has been absent (R820). -/
def Dev.hostWatch (d : Dev) : Dev :=
  let gone := if d.hostAbsent then some (d.hif.absentAt.getD d.now) else none
  if gone = d.hif.absentAt then d else { d with hif := { d.hif with absentAt := gone } }

/-- How long the first two conditions of R697 have held in a safe state (R698). -/
def Dev.permitWatch (d : Dev) : Dev :=
  let held := if d.flag F.CLK_STS_SAFE && d.refOk && d.sampOk then some (d.clk.okAt.getD d.now) else none
  if held = d.clk.okAt then d else { d with clk := { d.clk with okAt := held } }

/-- One sample of 122.88 MHz passes (R29): the sample count, and while the compute die is on both orbits, the datapath and the
loop engine; transit entries with a reserved action that fall due are over (R133), and commits that fall due execute (R342). -/
def Dev.sampleTick (d : Dev) : Dev :=
  let d0 : Dev := { d with now := d.now + 1 }
  let d1 := d0.permitWatch.hostWatch.gatesEnd.idleWatch
  if !d1.coreOn then d1
  else
    (d1.each (upTo 2) (fun x i =>
      let y := (x.orbSample i).commitsRun i
      y.each ((y.orb i).due.map (fun q => q.1)) (fun z n => if 8 ≤ z.rd F.TRN_ENT0_ACTION i n then z.trnIdle i n else z))).planeTick.loopsTick

end Sys2Proof.Machine
end

