-- ==== Sys2Proof/Machine/Masters.lean ====
section
/-! DEFINITION. The masters' accesses to BAR0 (R11 to R16, R813 to R822): reads, writes, ownership, the mailbox slots, the side-band port's registers. -/

namespace Sys2Proof.Machine

/-! Ownership. -/

/-- The block whose `OWNER` register this is, by the numbers of R864. -/
def ownerBlock (r : Reg) : Option Nat :=
  match r with
  | .MLD_OWNER => some 0
  | .ORB_OWNER => some 1
  | .LNK_OWNER => some 2
  | .DON_OWNER => some 3
  | .FES_OWNER => some 4
  | .SLC_OWNER => some 5
  | .TIL_OWNER => some 6
  | .MEA_OWNER => some 7
  | .ISO_OWNER => some 8
  | .CE_OWNER => some 9
  | .PRT_OWNER => some 10
  | .HK_OWNER => some 11
  | .CLK_OWNER => some 12
  | .PWR_OWNER => some 13
  | .EVT_OWNER => some 14
  | .HIF_OWNER => some 15
  | _ => none

/-- The `OWNER` register of a block. -/
def ownerHit (b : Nat) : Hit :=
  match b with
  | 0 => hit .MLD_OWNER RD.MLD_OWNER
  | 1 => hit .ORB_OWNER RD.ORB_OWNER
  | 2 => hit .LNK_OWNER RD.LNK_OWNER
  | 3 => hit .DON_OWNER RD.DON_OWNER
  | 4 => hit .FES_OWNER RD.FES_OWNER
  | 5 => hit .SLC_OWNER RD.SLC_OWNER
  | 6 => hit .TIL_OWNER RD.TIL_OWNER
  | 7 => hit .MEA_OWNER RD.MEA_OWNER
  | 8 => hit .ISO_OWNER RD.ISO_OWNER
  | 9 => hit .CE_OWNER RD.CE_OWNER
  | 10 => hit .PRT_OWNER RD.PRT_OWNER
  | 11 => hit .HK_OWNER RD.HK_OWNER
  | 12 => hit .CLK_OWNER RD.CLK_OWNER
  | 13 => hit .PWR_OWNER RD.PWR_OWNER
  | 14 => hit .EVT_OWNER RD.EVT_OWNER
  | _ => hit .HIF_OWNER RD.HIF_OWNER

/-- The judgement of R816: the status, and the owner afterwards, of a write of `v` by master `x` over owner `prev`. -/
def ownJudge (prev x v : Nat) : Nat × Nat :=
  if prev = 0 then (if v = x then (0, x) else if v = 0 then (0, 0) else (4, 0))
  else if prev = x then (if v = 3 then (4, prev) else (0, v))
  else (3, prev)

/-- The path of the other master in the same cycle (R817). -/
def otherPath (p : Path) : Path :=
  match p with
  | .smp => .bar0
  | .bar0 | .bar2 | .dma | .usb => .smp

/-- A change of owner is recorded (R819, R856), and a claim by the host raises its alert (R870). -/
def Dev.ownerNote (d : Dev) (ix old new x conflict : Nat) : Dev :=
  if new = old then d
  else
    let d1 := d.raise 0x160 ix (new + 4 * old + 16 * conflict)
    if old = 0 ∧ new = 1 ∧ x = 1 then d1.wr F.SMP_ALERT_STS_CLAIM 1 else d1

/-- A refused `OWNER` write is recorded (R819). -/
def Dev.ownerReject (d : Dev) (ix v x : Nat) : Dev := d.raise 0x161 ix (v + 4 * x)

/-- One master's judged write of a block's `OWNER` register takes effect, its `CLAIM_CONFLICT` bit with it (R15, R80). -/
def Dev.ownerApply (d : Dev) (b x w conflict : Nat) : Dev :=
  let old := d.ownerOf b
  let new := (ownJudge old x (w % 4)).2
  let d1 := if bitAt w 8 then d.wr (conflictFld b) 0 else d
  let d2 := if conflict = 1 then d1.wr (conflictFld b) 1 else d1
  (d2.wr (ownerFld b) new).ownerNote b old new x conflict

/-- A write of word `w` to the `OWNER` register of block `b` (R816 to R819); `other` is the word that the other master
writes there in the same cycle. -/
def Dev.ownerWrite (p : Path) (b w : Nat) (other : Option Nat) (d : Dev) : Dev :=
  let h := ownerHit b
  let x := masterOf p
  let q := otherPath p
  let st := d.judge h p w
  if st ≠ 0 then d.fail p h.addr st
  else
    let mine := (ownJudge (d.ownerOf b) x (w % 4)).1
    match other with
    | none =>
      if mine = 0 then (d.ownerApply b x w 0).complete 0 else (d.ownerReject b (w % 4) x).fail p h.addr mine
    | some w2 =>
      let theirs := (ownJudge (d.ownerOf b) (3 - x) (w2 % 4)).1
      if mine = 0 ∧ theirs = 0 then
        if x = 2 then
          let d1 := d.ownerApply b 2 w 1
          ((d1.ownerReject b (w2 % 4) 1).logFault q h.addr 3).complete 0
        else
          let d1 := d.ownerApply b 2 w2 1
          (d1.ownerReject b (w % 4) 1).fail p h.addr 3
      else
        let d1 := if theirs = 0 then d.ownerApply b (3 - x) w2 0 else (d.ownerReject b (w2 % 4) (3 - x)).logFault q h.addr theirs
        if mine = 0 then (d1.ownerApply b x w 0).complete 0 else (d1.ownerReject b (w % 4) x).fail p h.addr mine

/-! Mailbox slots. -/

/-- A slot's state follows its owner (R846): claimed it opens, released it is free. -/
def Dev.slotState (d : Dev) (k old new : Nat) : Dev :=
  if old = 0 ∧ new ≠ 0 then d.wr F.HIF_MB_CTL_STATE 1 k else if new = 0 then d.wr F.HIF_MB_CTL_STATE 0 k else d

/-- The status of a write of `HIF_MB_CTL_k` (R816, R846, R847, R902). -/
def Dev.slotJudge (d : Dev) (p : Path) (k w : Nat) : Nat :=
  let h := hit .HIF_MB_CTL RD.HIF_MB_CTL k
  let old := d.rd F.HIF_MB_CTL_SLOT_OWNER k
  let v := F.HIF_MB_CTL_SLOT_OWNER.of w
  let own := (ownJudge old (masterOf p) v).1
  let st := d.rd F.HIF_MB_CTL_STATE k
  if d.judge h p 0 = 1 then 1
  else if own ≠ 0 then own
  else if old ≠ 0 ∧ v = 0 ∧ (st = 2 ∨ st = 3) then 4
  else d.judge h p w

/-- A write of `HIF_MB_CTL_k` (R816, R846, R868): the owner and the vector, then `POST`, then `ACK`. -/
def Dev.slotWrite (p : Path) (k w : Nat) (d : Dev) : Dev :=
  let h := hit .HIF_MB_CTL RD.HIF_MB_CTL k
  let old := d.rd F.HIF_MB_CTL_SLOT_OWNER k
  let v := F.HIF_MB_CTL_SLOT_OWNER.of w
  let st := d.slotJudge p k w
  if st = 1 then d.fail p h.addr 1
  else if st ≠ 0 then
    (if v ≠ old ∨ (ownJudge old (masterOf p) v).1 ≠ 0 then d.ownerReject (16 + k) v (masterOf p) else d).fail p h.addr st
  else
    let d1 := if d.governor h = masterOf p then d.wr F.HIF_MB_CTL_IRQ_VEC (F.HIF_MB_CTL_IRQ_VEC.of w) k else d
    let d2 := ((d1.wr F.HIF_MB_CTL_SLOT_OWNER v k).slotState k old v).ownerNote (16 + k) old v (masterOf p) 0
    let d3 := if F.HIF_MB_CTL_POST.hit w ∧ d2.rd F.HIF_MB_CTL_STATE k = 1 then
        { d2.wr F.HIF_MB_CTL_STATE 2 k with hif := { d2.hif with postedAt := tabPut d2.hif.postedAt k d2.now } }
      else d2
    let d4 := if F.HIF_MB_CTL_ACK.hit w ∧ d3.rd F.HIF_MB_CTL_STATE k = 4 then d3.wr F.HIF_MB_CTL_STATE 1 k else d3
    d4.complete 0

/-- OWNER_WRITE (R816): a write of the `OWNER` of block `b`, or of the `SLOT_OWNER` of mailbox slot `b − 16`. -/
def execOwnerWrite (p : Path) (b w : Nat) (other : Option Nat) (s : State) : Out :=
  unit b 32 (.next (s.onDev (fun d => if b < 16 then d.ownerWrite p b w other else d.slotWrite p (b - 16) w)))

/-- MB_POST (R846). -/
def execMbPost (p : Path) (k w : Nat) (s : State) : Out :=
  unit k 16 (.next (s.onDev (Dev.slotWrite p k (withBits w 4 1 1))))

/-- MB_ACK (R846). -/
def execMbAck (p : Path) (k w : Nat) (s : State) : Out :=
  unit k 16 (.next (s.onDev (Dev.slotWrite p k (withBits w 5 1 1))))

/-- MB_RELEASE (R847): `SLOT_OWNER` is written 0. -/
def execMbRelease (p : Path) (k w : Nat) (s : State) : Out :=
  unit k 16 (.next (s.onDev (Dev.slotWrite p k (withBits w 0 2 0))))

/-- The service sequencers run: not in the clock-failure safe state (R857). -/
def Dev.sequencersRun (d : Dev) : Bool := d.coreOn && !(d.flag F.CLK_STS_SAFE)

/-- MB_ACCEPT (R846): a sequencer takes a posted request. -/
def execMbAccept (k : Nat) (s : State) : Out :=
  unit k 16 (.next (s.onDev (fun d =>
    if d.rd F.HIF_MB_CTL_STATE k = 2 ∧ d.sequencersRun then d.wr F.HIF_MB_CTL_STATE 3 k else d)))

/-- MB_POST_TIMEOUT (R846): none has accepted within 10 ms. -/
def Dev.mbTimeout (k : Nat) (d : Dev) : Dev :=
  if d.rd F.HIF_MB_CTL_STATE k = 2 ∧ d.sequencersRun ∧ 1228800 ≤ d.now - tabGet 0 d.hif.postedAt k then d.mbDone k 1 else d

/-- MB_POST_TIMEOUT (R846). -/
def execMbPostTimeout (k : Nat) (s : State) : Out := unit k 16 (.next (s.onDev (Dev.mbTimeout k)))

/-- MB_RESPONSE (R847): the sequencer writes the response words and ends the request, `DONE` or `REFUSED`. -/
def execMbResponse (k : Nat) (refused : Bool) (l : List Nat) (s : State) : Out :=
  unit k 16 (.next (s.onDev (fun d =>
    if d.rd F.HIF_MB_CTL_STATE k = 3 ∧ d.sequencersRun then
      (d.each (upTo 8) (fun x j => x.wr F.HIF_MB_RSP_DATA (listAt l j) k j)).mbDone k (if refused then 3 else 0)
    else d)))

/-- HOST_HOLD_EXPIRY (R820, R857): what the host owns is released; a mailbox slot in *POSTED* or *TAKEN* completes first. -/
def Dev.hostHold (d : Dev) : Dev :=
  let gone := d.hif.absentAt.any (fun t => decide (12288000 * max 1 (d.rd F.HIF_CTL_HOST_HOLD) ≤ d.now - t))
  if !d.hostAbsent || !gone then d
  else
    let d1 := d.each ((upTo 16).filter (fun b => d.ownerOf b == 1)) (fun x b => (x.wr (ownerFld b) 0).ownerNote b 1 0 0 0)
    d1.each ((upTo 16).filter (fun k => d1.rd F.HIF_MB_CTL_SLOT_OWNER k == 1 && d1.rd F.HIF_MB_CTL_STATE k != 2 &&
      d1.rd F.HIF_MB_CTL_STATE k != 3))
      (fun x k => ((x.wr F.HIF_MB_CTL_SLOT_OWNER 0 k).wr F.HIF_MB_CTL_STATE 0 k).ownerNote (16 + k) 1 0 0 0)

/-- HOST_HOLD_EXPIRY (R820). -/
def execHostHoldExpiry (s : State) : Out := .next (s.onDev Dev.hostHold)

/-! The side-band port's registers. -/

/-- `TAKE` (R821): every block and mailbox slot of the host goes to the side-band port. -/
def Dev.smpTake (d : Dev) : Dev :=
  let bs := (upTo 16).filter (fun b => d.ownerOf b == 1)
  let d1 := d.each bs (fun x b => (x.wr (ownerFld b) 2).ownerNote b 1 2 2 0)
  let d2 := d1.each ((upTo 16).filter (fun k => d1.rd F.HIF_MB_CTL_SLOT_OWNER k == 1))
    (fun x k => (x.wr F.HIF_MB_CTL_SLOT_OWNER 2 k).ownerNote (16 + k) 1 2 2 0)
  d2.raise 0x16D 0 (bs.foldl (fun a b => a + 2 ^ b) 0)

/-- What a write of `SMP_CTL` does (R869). -/
def Dev.actSmpCtl (w : Nat) (d : Dev) : Option Dev :=
  let d1 := if F.SMP_CTL_CLR_CNT.hit w then
    d.zero [F.SMP_CNT_CRC_ERR, F.SMP_CNT_FRAME_ERR, F.SMP_CNT_PENDING, F.SMP_CNT_DUP] else d
  some (if F.SMP_CTL_TAKE.hit w then d1.smpTake else d1)

/-- A write of `SMP_CTL` with a bit set. -/
def smpCtlWrite (p : Path) (w : Nat) (s : State) : Out :=
  .next (s.onDev (fun d => d.write p (hit .SMP_CTL RD.SMP_CTL) w (Dev.actSmpCtl w)))

/-- SMP_TAKE (R821). -/
def execSmpTake (p : Path) (w : Nat) (s : State) : Out := smpCtlWrite p (withBits w 1 1 1) s

/-- SMP_CLR_CNT (R869). -/
def execSmpClrCnt (p : Path) (w : Nat) (s : State) : Out := smpCtlWrite p (withBits w 0 1 1) s

/-- HIF_CLR_CNT (R859). -/
def execHifClrCnt (p : Path) (w : Nat) (s : State) : Out :=
  let w1 := withBits w 0 1 1
  .next (s.onDev (fun d => d.write p (hit .HIF_CTL RD.HIF_CTL) w1 (Dev.actHifCtl p w1)))

/-! DMA channels' registers. -/

/-- A chain starts at `HIF_DMA_DESC_c` (R827); `desc` is the descriptor that stands there in host memory. -/
def Dev.dmaStart (d : Dev) (c : Nat) (desc : List Nat) : Dev :=
  if d.flag F.HIF_DMA_STS_BUSY c then d
  else
    let a := 32 * d.rd F.HIF_DMA_DESC_LO_DESC_LO c + 2 ^ 32 * d.rd F.HIF_DMA_DESC_HI_DESC_HI c
    ({ d with hif := { d.hif with chans := tabPut d.hif.chans c { addr := a, desc := takeFill 32 desc } } }).wr
      F.HIF_DMA_STS_BUSY 1 c

/-- `ABORT` (R827): the chain ends once its burst in flight has completed. -/
def Dev.dmaAbort (d : Dev) (c : Nat) : Dev :=
  if !(d.flag F.HIF_DMA_STS_BUSY c) then d
  else { d with hif := { d.hif with chans := tabPut d.hif.chans c { tabGet {} d.hif.chans c with aborting := true } } }

/-- What a write of `HIF_DMA_CTL_c` does (R867). -/
def Dev.actDmaCtl (p : Path) (c w : Nat) (desc : List Nat) (d : Dev) : Option Dev :=
  let d1 := d.putHit p (hit .HIF_DMA_CTL RD.HIF_DMA_CTL c) w
  let d2 := if F.HIF_DMA_CTL_ABORT.hit w then d1.dmaAbort c else d1
  some (if F.HIF_DMA_CTL_RUN.hit w then d2.dmaStart c desc else d2)

/-- DMA_RUN (R827): `desc` is what host memory holds at the first descriptor's address. -/
def execDmaRun (p : Path) (c w : Nat) (desc : List Nat) (s : State) : Out :=
  let w1 := withBits w 0 1 1
  unit c 8 (.next (s.onDev (fun d =>
    d.write p (hit .HIF_DMA_CTL RD.HIF_DMA_CTL c) w1 (Dev.actDmaCtl p c w1 desc))))

/-- DMA_ABORT (R827). -/
def execDmaAbort (p : Path) (c w : Nat) (s : State) : Out :=
  let w1 := withBits (withBits w 0 1 0) 1 1 1
  unit c 8 (.next (s.onDev (fun d =>
    d.write p (hit .HIF_DMA_CTL RD.HIF_DMA_CTL c) w1 (Dev.actDmaCtl p c w1 []))))

/-- A write of `HIF_DMA_CTL_c` that does not say what host memory holds: the descriptor is open. -/
def Dev.actDmaOpen (p : Path) (c w : Nat) (d : Dev) : Option Dev :=
  let l := (upTo 32).map (fun k => Config.free (d.draws + k) % 256)
  if F.HIF_DMA_CTL_RUN.hit w && !(d.flag F.HIF_DMA_STS_BUSY c) then
    ({ d with draws := d.draws + 32 } : Dev).actDmaCtl p c w l
  else d.actDmaCtl p c w []

/-! Accesses. -/

/-- What a write that reaches a register does, wherever its effect lies; `none` where the register's rules refuse it. -/
def State.actReg (p : Path) (h : Hit) (w : Nat) (s : State) : Option State :=
  match h.reg with
  | .MLD_CTL => s.actMldCtl p w
  | .PWR_CTL => s.actPwrCtl p w
  | .HIF_FLASH_CTL => s.actFlashCtl p w
  | .HIF_OTP_CTL => s.actOtpCtl p w
  | .EVT_CLR_CTL => (s.dev.actClrCtl s.mem.otp w).map (fun d => { s with dev := d })
  | .HIF_DMA_CTL => (s.dev.actDmaOpen p h.i w).map (fun d => { s with dev := d })
  | .SMP_CTL => (s.dev.actSmpCtl w).map (fun d => { s with dev := d })
  | _ => (s.dev.actReg p h w).map (fun d => { s with dev := d })

/-- A rejected pending-gain write is counted (R392). -/
def rejCount (r : Reg) (d : Dev) : Dev :=
  match r with
  | .TIL_PEND => d.bump F.TIL_REJECT_CNT_COUNT
  | _ => d

/-- W1C bits that a write clears while hardware sets them in the same cycle stay set (R17). -/
def Dev.hardSet (h : Hit) (w hw : Nat) (d : Dev) : Dev :=
  let d1 := h.desc.flds.foldl (fun x f =>
    match f.ty with
    | .w1c => x.wr f (x.rd f h.i h.j h.k ||| (f.of w &&& f.of hw)) h.i h.j h.k
    | .rw | .ro | .wo | .w1s | .rwl => x) d
  if h.reg = .PRT_FAULT_STS then d1.faultPin else d1

/-- A 32-bit write of one register (R11, R12, R15): to an unassigned offset it is discarded. `hw` holds the W1C bits that
hardware sets in the same cycle (R17). -/
def State.write32 (p : Path) (a w : Nat) (s : State) (hw : Nat := 0) : State :=
  match lookup a with
  | none => s.onDev (fun d => if d.domainOff a then d.fail p a 1 else d.complete 0)
  | some h =>
    match h.reg, ownerBlock h.reg with
    | _, some b => s.onDev (Dev.ownerWrite p b w none)
    | .HIF_MB_CTL, _ => s.onDev (Dev.slotWrite p h.i w)
    | .CLK_RST_CTL, _ => rstWrite p w s
    | _, _ => s.write p h w (fun s => (s.actReg p h w).map (fun t => t.onDev (Dev.hardSet h w hw))) (rejCount h.reg)

/-- A read of `_LO` latches its `_HI` partner, which follows it (R155, R799, R800, R803). -/
def latches (r : Reg) : Bool :=
  match r with
  | .EVT_HEAD_LO | .EVT_TAIL_LO | .EVT_TIME_LO | .EVT_ARCH_STS_LO | .ORB_POS_LO => true
  | _ => false

/-- What a read does beside giving its value: a latch, and the side-band port's error record armed again (R856). -/
def Dev.readActs (d : Dev) (h : Hit) : Dev :=
  let d1 :=
    if latches h.reg then
      match lookup (h.addr + 4) with
      | some g => g.desc.flds.foldl (fun x f => x.wr f (f.of (d.hiOf h.reg h.i)) g.i g.j g.k) d
      | none => d
    else d
  if h.reg = .SMP_CNT then { d1 with hif := { d1.hif with smp := { d1.hif.smp with errArmed := true } } } else d1

/-- A 32-bit read of one register (R11, R12, R15): an unassigned offset reads zero. -/
def Dev.read32 (p : Path) (a : Nat) (d : Dev) : Dev :=
  if d.domainOff a then d.fail p a 1
  else
    match lookup a with
    | none => d.complete 0
    | some h => (d.readActs h).complete 0 (d.view h)

/-- Two registers read one after the other, lower address first (R13): the first status other than `OK` stands. -/
def Dev.read64 (p : Path) (a : Nat) (d : Dev) : Dev :=
  let d1 := d.read32 p a
  let d2 := d1.read32 p (a + 4)
  let st := if d1.hif.cpl.status ≠ 0 then d1.hif.cpl.status else d2.hif.cpl.status
  d2.complete st (d1.hif.cpl.data + 2 ^ 32 * d2.hif.cpl.data)

/-- Two registers written one after the other, lower address first (R13). -/
def State.write64 (p : Path) (a w : Nat) (s : State) (hw : Nat := 0) : State :=
  let s1 := s.write32 p a (w % 2 ^ 32) (hw % 2 ^ 32)
  let s2 := s1.write32 p (a + 4) (w / 2 ^ 32 % 2 ^ 32) (hw / 2 ^ 32 % 2 ^ 32)
  if s1.dev.hif.cpl.status ≠ 0 then s2.onDev (fun d => d.complete s1.dev.hif.cpl.status) else s2

/-- A write of `len` octets at `a` (R13, R14, R815): `whole` says that every byte is enabled. -/
def State.masterWrite (p : Path) (a len : Nat) (whole : Bool) (w : Nat) (s : State) (hw : Nat := 0) : State :=
  if !whole || a % 4 != 0 || !(len == 4 || len == 8) then s.onDev (fun d => d.fail p a 2)
  else if len = 4 then s.write32 p a (w % 2 ^ 32) (hw % 2 ^ 32) else s.write64 p a w hw

/-- A read of `len` octets at `a` (R13, R815): over PCIe partial bytes return whole registers; elsewhere the address must
be aligned. -/
def Dev.masterRead (p : Path) (a len : Nat) (d : Dev) : Dev :=
  let span := if p = .bar0 then a % 4 + len else len
  let base := a / 4 * 4
  if p ≠ .bar0 ∧ (a % 4 ≠ 0 ∨ !(len == 4 || len == 8)) then d.fail p a 2
  else if 8 < span then d.fail p a 2
  else if span ≤ 4 then d.read32 p base else d.read64 p base

/-- REGISTER_WRITE (R15): a master writes a register; `whole` says that every byte of the `len` is enabled (R14), `hw`
which W1C bits hardware sets in the same cycle (R17). -/
def execRegisterWrite (p : Path) (a len : Nat) (whole : Bool) (w hw : Nat) (s : State) : Out :=
  .next (s.masterWrite p a len whole w hw)

/-- REGISTER_READ (R815): a master reads `len` octets. -/
def execRegisterRead (p : Path) (a len : Nat) (s : State) : Out := .next (s.onDev (Dev.masterRead p a len))

/-- The `_LO` registers that latch, in the order of their offsets: those of the recorder, then one for each orbit. -/
def latchAddr (k : Nat) : Nat :=
  match k with
  | 0 => RD.EVT_HEAD_LO.base
  | 1 => RD.EVT_TAIL_LO.base
  | 2 => RD.EVT_TIME_LO.base
  | 3 => RD.EVT_ARCH_STS_LO.base
  | 4 => RD.ORB_POS_LO.base
  | _ => RD.ORB_POS_LO.base + 0x100

/-- LATCHING_READ (R155): a 32-bit read of the `k`-th `_LO` register. -/
def execLatchingRead (p : Path) (k : Nat) (s : State) : Out := unit k 6 (.next (s.onDev (Dev.read32 p (latchAddr k))))

end Sys2Proof.Machine
end

