-- ==== Sys2Proof/Machine/HostPort.lean ====
section
/-! DEFINITION. The host link, external SDRAM, the DMA channels, the USB 2.0 recovery function and the side-band port
(R824 to R845). -/

namespace Sys2Proof.Machine

/-! External SDRAM. -/

/-- The first byte of the system area (R830): the top 64 MiB of usable capacity. -/
def Dev.sysArea (d : Dev) : Nat := d.rd F.HIF_MEM_STS_SIZE_MB * 2 ^ 20 - 2 ^ 26

/-- The status of a master's access to `n` bytes of SDRAM (R829 to R831, R833). -/
def Dev.sdStatus (d : Dev) (a n : Nat) (write : Bool) : Nat :=
  if !d.memReady then 9
  else if !(d.memFits a n) then 2
  else if write ∧ d.sysArea < a + n then 2
  else 0

/-- A read of SDRAM corrected an error at an address (R834): written back, counted and recorded. -/
def Dev.memCe (d : Dev) (a : Nat) : Dev := (d.bump F.HIF_MEM_ECC_CE).raise 0x165 0 a

/-- What an inline ECC check found (R829, R834): 0 nothing, 1 a corrected error, else an uncorrectable one. -/
def Dev.memEcc (d : Dev) (ecc a : Nat) : Dev := if ecc = 0 then d else if ecc = 1 then d.memCe a else d.memUe a

/-- SDRAM bytes are written by a path other than the recovery function. -/
def State.sdPut (a : Nat) (l : List Nat) (s : State) : State :=
  { s with mem := s.mem.sdWrite a l, dev := ({ s.dev with mld := { s.dev.mld with usbStaged := false } } : Dev).tally 7 l.length }

/-- MEM_READY (R831): the SDRAM is usable; `cap` codes its capacity per channel, 1, 2, 4 or 8 GiB (R828), of which 7/8
are usable (R829). -/
def execMemReady (cap : Nat) (s : State) : Out :=
  unit cap 4 (.next (s.onDev (fun d =>
    if !d.memOn || d.flag F.HIF_MEM_STS_READY || d.clk.domainReset then d
    else (d.wr F.HIF_MEM_STS_SIZE_MB (1792 * 2 ^ cap)).wr F.HIF_MEM_STS_READY 1)))

/-- The scrubber's pace is up (R835): a pass over every line of usable capacity takes `SCRUB_H` hours. -/
def Dev.scrubDue (d : Dev) : Bool :=
  decide (3600 * 122880000 * max 1 (d.rd F.HIF_MEM_CFG_SCRUB_H) ≤ (d.now - d.hif.scrubbedAt + 1) * (d.rd F.HIF_MEM_STS_SIZE_MB * 2 ^ 14))

/-- The next line of the scrubber (R835), in address order, after the last one the first again. -/
def Dev.scrubStep (ecc : Nat) (d : Dev) : Dev :=
  if !(d.flag F.HIF_MEM_CFG_SCRUB_EN) || !d.memReady || d.flag F.BGV_STS_DEFER || !d.scrubDue then d
  else
    let lines := d.rd F.HIF_MEM_STS_SIZE_MB * 2 ^ 14
    let n := d.hif.scrubAt
    let d1 : Dev := { d with hif := { d.hif with scrubAt := if lines ≤ n + 1 then 0 else n + 1, scrubbedAt := d.now } }
    (d1.memEcc ecc (64 * n)).tallyDefer (if ecc = 1 then 128 else 64)

/-- SCRUB_STEP (R835): the scrubber reads its next line, corrects it and writes it back. -/
def execScrubStep (ecc : Nat) (s : State) : Out := unit ecc 3 (.next (s.onDev (Dev.scrubStep ecc)))

/-- A PCIe access through BAR2 (R833, R815): `x` is the offset, `ecc` what a read finds, at SDRAM address `at0`. -/
def State.bar2 (x len : Nat) (write : Bool) (data : List Nat) (ecc at0 : Nat) (s : State) : State :=
  let a := s.dev.rd F.HIF_BAR2_BASE_BASE_MB * 2 ^ 20 + x
  let st := s.dev.sdStatus a len write
  if st ≠ 0 then s.onDev (fun d => d.fail .bar2 x st)
  else if write then (s.sdPut a (takeFill len data)).onDev (fun d => d.complete 0)
  else if ecc = 2 then s.onDev (fun d => (d.memUe at0).fail .bar2 x 9)
  else s.onDev (fun d => ((d.memEcc ecc at0).tally 7 len).complete 0 (fromOctets (s.mem.sdRead a len)))

/-- BAR2_ACCESS (R833). -/
def execBar2Access (x len : Nat) (write : Bool) (data : List Nat) (ecc at0 : Nat) (s : State) : Out :=
  unit x (2 ^ 30) (unit ecc 3 (.next (s.bar2 x len write data ecc at0)))

/-! The host link. -/

/-- HOST_LINK_CHANGE (R856, R860): the USB4 link enters a state; PCIe is up in the last of them only (R825). -/
def execHostLinkChange (st gen : Nat) (lanes2 d3hot : Bool) (s : State) : Out :=
  unit st 5 (unit gen 4 (.next (s.onDev (fun d =>
    if !d.coreOn then d
    else
      let d1 := ((d.wr F.HIF_LINK_STS_GEN gen).wr F.HIF_LINK_STS_LANES2 (b2n lanes2)).wr F.HIF_LINK_STS_D3HOT (b2n d3hot)
      if st ≠ 4 ∧ d.flag F.HIF_LINK_STS_PCIE_UP then d1.hostLost st
      else
        let d2 := (d1.wr F.HIF_LINK_STS_PCIE_UP (b2n (st == 4))).wr F.HIF_LINK_STS_STATE st
        if st = d.rd F.HIF_LINK_STS_STATE then d2 else d2.raise 0x162 0 st))))

/-- PCIE_LINK_DOWN (R825): the PCIe link goes down and every running DMA chain ends; `st` is where the USB4 link is
left. -/
def execPcieLinkDown (st : Nat) (s : State) : Out :=
  unit st 4 (.next (s.onDev (fun d => if d.coreOn && d.flag F.HIF_LINK_STS_PCIE_UP then d.hostLost st else d)))

/-! DMA channels. -/

/-- Reads `n` consecutive registers through a DMA channel (R827): the octets, and the first status other than `OK`. -/
def Dev.dmaRegRead (a : Nat) : Nat → Dev → List Nat × Nat × Dev
  | 0, d => ([], 0, d)
  | n + 1, d =>
    let d1 := d.read32 .dma a
    if d1.hif.cpl.status ≠ 0 then ([], d1.hif.cpl.status, d1)
    else
      let r := d1.dmaRegRead (a + 4) n
      (toOctets 4 d1.hif.cpl.data ++ r.1, r.2)

/-- Writes consecutive registers through a DMA channel (R827): the first status other than `OK` ends it. -/
def State.dmaRegWrite (l : List Nat) (a : Nat) : Nat → State → Nat × State
  | 0, s => (0, s)
  | n + 1, s =>
    let s1 := s.write32 .dma a (leAt l 0 4)
    if s1.dev.hif.cpl.status ≠ 0 then (s1.dev.hif.cpl.status, s1) else s1.dmaRegWrite (l.drop 4) (a + 4) n

/-- The spaces and addresses of a descriptor (R826). -/
structure DmaDesc where
  srcSpace : Nat
  dstSpace : Nat
  len : Nat
  src : Nat
  dst : Nat
  next : Nat
  irq : Bool
  last : Bool

/-- The descriptor that 32 octets spell (R826). -/
def dmaDesc (l : List Nat) : DmaDesc :=
  { srcSpace := bits (leAt l 0 4) 2 2, dstSpace := bits (leAt l 0 4) 4 2, len := leAt l 4 4, src := leAt l 8 8,
    dst := leAt l 16 8, next := leAt l 24 8, irq := bitAt (leAt l 0 4) 0, last := bitAt (leAt l 0 4) 1 }

/-- `BAD_DESC` (R827). -/
def badDesc (x : DmaDesc) : Bool :=
  x.srcSpace == 3 || x.dstSpace == 3 || (x.srcSpace == 0 && x.dstSpace == 0) || (x.srcSpace == 2 && x.dstSpace == 2) ||
    decide (x.len < 4) || decide (2 ^ 24 < x.len) || x.len % 4 != 0 || (x.srcSpace == 2 && x.src % 4 != 0) ||
    (x.dstSpace == 2 && x.dst % 4 != 0)

/-- How many bytes of SDRAM from an address upward a descriptor may reach (R827, R830). -/
def Dev.dmaReach (d : Dev) (space a : Nat) (write : Bool) : Nat :=
  if space ≠ 1 then 2 ^ 24
  else if !d.memReady then 0
  else (if write then d.sysArea else d.rd F.HIF_MEM_STS_SIZE_MB * 2 ^ 20) - a

/-- The result with which a descriptor's data ends before any register access (R827), and how many bytes move. `err` is 1
where the host failed, 2 where an SDRAM read met an uncorrectable error; `moved` bytes moved where it did not complete. -/
def Dev.dmaJudge (d : Dev) (c : Nat) (x : DmaDesc) (moved err : Nat) : Nat × Nat :=
  let reach := min (d.dmaReach x.srcSpace x.src false) (d.dmaReach x.dstSpace x.dst true)
  let r :=
    if (tabGet {} d.hif.chans c).aborting then 5
    else if reach < x.len then 2
    else if err = 1 ∧ (x.srcSpace = 0 ∨ x.dstSpace = 0) then 1
    else if err = 2 ∧ x.srcSpace = 1 then 2
    else 0
  (r, if r = 0 then x.len else min moved (min x.len reach) / 4 * 4)

/-- The data of a descriptor moves (R826, R827): `n` bytes, `host` what host memory holds at the source. The result is 0, or 3
where a register access ended other than `OK`. -/
def State.dmaMove (x : DmaDesc) (n : Nat) (host : List Nat) (s : State) : Nat × State :=
  let r : List Nat × Nat × Dev :=
    if x.srcSpace = 0 then (takeFill n host, 0, s.dev)
    else if x.srcSpace = 1 then (s.mem.sdRead x.src n, 0, s.dev.tally 7 n)
    else s.dev.dmaRegRead x.src (n / 4)
  let s1 : State := { s with dev := r.2.2 }
  if x.dstSpace = 0 then
    (if r.2.1 = 0 then 0 else 3,
     s1.onDev (fun d => { d with hif := { d.hif with dmaOut := d.hif.dmaOut ++ [(x.dst, r.1)] } }))
  else if x.dstSpace = 1 then (if r.2.1 = 0 then 0 else 3, s1.sdPut x.dst r.1)
  else
    let q := s1.dmaRegWrite r.1 x.dst (n / 4)
    (if q.1 = 0 then 0 else 3, q.2)

/-- A descriptor that ended `OK` is written back, and the chain goes on at the next one, whose octets are `next`, or ends
(R827). -/
def Dev.dmaOk (d : Dev) (c : Nat) (x : DmaDesc) (next : List Nat) : Dev :=
  let d1 := ((d.dmaBack c 0).bumpWrap F.HIF_DMA_STS_DONE_CNT c).wr F.HIF_DMA_STS_RESULT 0 c
  let d2 := if x.irq then d1.msi (d1.rd F.HIF_DMA_CTL_IRQ_VEC c) else d1
  if x.last then
    ({ d2 with hif := { d2.hif with chans := tabDel d2.hif.chans c } }).wr F.HIF_DMA_STS_BUSY 0 c
  else { d2 with hif := { d2.hif with chans := tabPut d2.hif.chans c { addr := x.next, desc := takeFill 32 next } } }

/-- The descriptor that a channel runs comes to its end (R827). -/
def State.dmaDone (c : Nat) (host : List Nat) (moved err at0 : Nat) (next : List Nat) (s : State) : State :=
  let s0 := s.onDev (fun d => { d with hif := { d.hif with dmaOut := [] } })
  if !(s.dev.flag F.HIF_DMA_STS_BUSY c) then s
  else
    let x := dmaDesc (tabGet {} s.dev.hif.chans c).desc
    if badDesc x then s0.onDev (fun d => d.dmaEnd c 4 true)
    else
      let j := s.dev.dmaJudge c x moved err
      let s1 := if j.1 = 2 ∧ err = 2 ∧ x.srcSpace = 1 then s0.onDev (fun d => d.memUe at0) else s0
      let m := s1.dmaMove x j.2 host
      let r := if j.1 ≠ 0 then j.1 else m.1
      m.2.onDev (fun d => if r ≠ 0 then d.dmaEnd c r true else if d.flag F.HIF_DMA_STS_BUSY c then d.dmaOk c x next else d)

/-- DMA_DESCRIPTOR_DONE (R827). -/
def execDmaDescriptorDone (c : Nat) (host : List Nat) (moved err at0 : Nat) (next : List Nat) (s : State) : Out :=
  unit c 8 (unit err 3 (.next (s.dmaDone c host moved err at0 next)))

/-! The USB 2.0 recovery function. -/

/-- USB_CONFIGURE (R836, R860): the recovery function is detached, attached or configured; it runs while REF uses a
*QUALIFIED* crystal. -/
def execUsbConfigure (st : Nat) (s : State) : Out :=
  unit st 3 (.next (s.onDev (fun d =>
    if st ≠ 0 ∧ !d.refQualified then d
    else
      let d1 : Dev := { d with hif := { d.hif with usb := st } }
      if (st = 2) = (d.hif.usb = 2) then d1 else d1.raise 0x16C)))

/-- The recovery function takes a command (R836, R837): it is configured, it runs, and the command's `MAGIC` is right. -/
def Dev.usbTakes (d : Dev) (magic : Nat) : Bool :=
  d.hif.usb == 2 && d.refQualified && !d.clk.resetLow && magic == 0x5552

/-- The recovery function's response (R837). -/
def Dev.usbRespond (d : Dev) (st tag op data count : Nat) : Dev :=
  { d with hif := { d.hif with usbResp := [st % 256, tag % 256, op % 256, 0] ++ toOctets 8 data ++ toOctets 4 count } }

/-- The response to a register access, from its completion. -/
def Dev.usbReply (d : Dev) (tag op len : Nat) (data : Bool) : Dev :=
  let c := d.hif.cpl
  d.usbRespond c.status tag op (if data then c.data else 0) (if c.status = 0 then len else 0)

/-- USB_READ (R837). -/
def execUsbRead (magic tag a len : Nat) (s : State) : Out :=
  .next (if s.dev.usbTakes magic then s.onDev (fun d => (d.masterRead .usb a len).usbReply tag 1 len true) else s)

/-- USB_WRITE (R837). -/
def execUsbWrite (magic tag a len w : Nat) (s : State) : Out :=
  .next (if s.dev.usbTakes magic then (s.masterWrite .usb a len true w).onDev (fun d => d.usbReply tag 2 len false) else s)

/-- The status of a recovery command on SDRAM (R837): its length, then the access. -/
def Dev.usbMemStatus (d : Dev) (a len : Nat) (write : Bool) : Nat :=
  if len % 64 ≠ 0 ∨ 2 ^ 23 < len then 2 else d.sdStatus (64 * a) len write

/-- USB_MEM_WRITE (R837): bytes from EP2 OUT go into SDRAM. -/
def execUsbMemWrite (magic tag a len : Nat) (data : List Nat) (s : State) : Out :=
  .next (
    if s.dev.usbTakes magic then
      let st := s.dev.usbMemStatus a len true
      if st = 0 then
        (({ s with mem := s.mem.sdWrite (64 * a) (takeFill len data) } : State)).onDev (fun d =>
          (({ d with mld := { d.mld with usbStaged := true } } : Dev).tally 7 len).usbRespond 0 tag 3 0 len)
      else s.onDev (fun d => d.usbRespond st tag 3 0 0)
    else s)

/-- The bytes that the recovery function sends on EP2 IN. -/
def Dev.usbSend (d : Dev) (l : List Nat) : Dev := { d with hif := { d.hif with usbData := l } }

/-- USB_MEM_READ (R837): SDRAM bytes go to EP2 IN; `ecc` is what the read finds, at SDRAM address `at0` (R834). -/
def execUsbMemRead (magic tag a len ecc at0 : Nat) (s : State) : Out :=
  unit ecc 3 (.next (
    if s.dev.usbTakes magic then
      let st := s.dev.usbMemStatus a len false
      if st ≠ 0 then s.onDev (fun d => (d.usbSend []).usbRespond st tag 4 0 0)
      else if ecc = 2 then s.onDev (fun d => ((d.memUe at0).usbSend []).usbRespond 9 tag 4 0 0)
      else s.onDev (fun d => (((d.memEcc ecc at0).tally 7 len).usbSend (s.mem.sdRead (64 * a) len)).usbRespond 0 tag 4 0 len)
    else s))

/-- The 64 octets of a record, from the ring or else the archive; zeros where neither holds it (R838). -/
def State.recordOf (q : Nat) (arch : List (Nat × Rec)) (s : State) : List Nat :=
  match (if s.dev.er.tail ≤ q then tabFind s.dev.er.ring q else none) with
  | some r => recOctets r
  | none =>
    match arch.find? (fun p => p.2.seq == q) with
    | some p => recOctets p.2
    | none => List.replicate 64 0

/-- USB_EVT_READ (R837, R838): `len` records from the `SEQ` in `DATA` upward go to EP2 IN. -/
def execUsbEvtRead (magic tag len data : Nat) (s : State) : Out :=
  .next (
    if s.dev.usbTakes magic then
      if len = 0 ∨ 2048 < len then s.onDev (fun d => (d.usbSend []).usbRespond 2 tag 5 0 0)
      else
        let arch := if s.dev.memOn then s.mem.archive else []
        let l := (upTo len).flatMap (fun k => s.recordOf (data % 2 ^ 48 + k) arch)
        s.onDev (fun d => (d.usbSend l).usbRespond 0 tag 5 0 (64 * len))
    else s)

/-- USB_BAD_OP (R837): an operation that the table does not list. -/
def execUsbBadOp (magic tag op : Nat) (s : State) : Out :=
  .next (
    if s.dev.usbTakes magic && !(decide (1 ≤ op) && decide (op ≤ 5)) then s.onDev (fun d => d.usbRespond 8 tag op 0 0)
    else s)

/-! The side-band management port. -/

/-- The block with its side-band request state replaced. -/
def Dev.setSmp (d : Dev) (x : Smp) : Dev := { d with hif := { d.hif with smp := x } }

/-- The sixteen octets of a response (R840, R841). -/
def Dev.smpFrame (d : Dev) (st seq op data : Nat) : List Nat :=
  let l := [st % 256, seq % 256, op % 256, (d.alertSts &&& d.word RD.SMP_ALERT_MASK) % 256, 0, 0] ++ toOctets 8 data ++ [0]
  l ++ [crc8 l]

/-- A damaged frame is counted, and the first since `SMP_CNT` was last read is recorded (R844, R856). -/
def Dev.smpDamaged (d : Dev) (f : Fld) (st seq : Nat) : Dev :=
  let d1 := d.bump f
  let d2 := if d.hif.smp.errArmed then d1.raise 0x16B else d1
  d2.setSmp { d2.hif.smp with instead := some (st, seq), errArmed := false }

/-- A frame of the side-band port (R840 to R844): the response to the request before goes out while it comes in; when it
is good, its request begins to execute. -/
def Dev.smpTakes (l : List Nat) (d : Dev) : Dev :=
  let x := d.hif.smp
  if d.clk.resetLow then d
  else
    match x.running with
    | some (op, seq, _, _) => (d.setSmp { x with sent := d.smpFrame 5 seq op 0 }).bump F.SMP_CNT_PENDING
    | none =>
      let out :=
        match x.instead with
        | some (st, seq) => d.smpFrame st seq x.op 0
        | none => d.smpFrame x.status x.seq x.op x.data
      let d1 := d.setSmp { x with sent := out, instead := none }
      let req := l.take 15
      if l.length ≠ 16 then d1.smpDamaged F.SMP_CNT_FRAME_ERR 7 x.seq
      else if crc8 req ≠ listAt l 15 then d1.smpDamaged F.SMP_CNT_CRC_ERR 6 (listAt l 1)
      else if req = x.lastReq then d1.bump F.SMP_CNT_DUP
      else if listAt l 0 = 0 then d1
      else d1.setSmp { d1.hif.smp with
        running := some (listAt l 0, listAt l 1, leAt l 2 4, leAt l 6 8), result := none, lastReq := req }

/-- SMP_FRAME (R840). -/
def execSmpFrame (l : List Nat) (s : State) : Out := .next (s.onDev (Dev.smpTakes l))

/-- SMP_NOP (R842): no operation; the stored response stands. -/
def execSmpNop (s : State) : Out := .next s

/-- What an executed request ended with. -/
def Dev.smpResult (d : Dev) (st data : Nat) : Dev :=
  if d.hif.smp.running.isSome then d.setSmp { d.hif.smp with result := some (st, data) } else d

/-- A register operation ended: its completion is the result; only a read returns data (R840). -/
def Dev.smpEnd (d : Dev) (read : Bool) : Dev :=
  d.smpResult d.hif.cpl.status (if read then d.hif.cpl.data else 0)

/-- The request that runs is executed, where it is of the operation named (R842, R843): `g` takes its address and data. -/
def State.smpOp (op : Nat) (g : Nat → Nat → State → State) (s : State) : State :=
  match s.dev.hif.smp.running, s.dev.hif.smp.result with
  | some (o, _, a, w), none => if o = op then g a w s else s
  | _, _ => s

/-- SMP_READ32 (R842). -/
def execSmpRead32 (s : State) : Out :=
  .next (s.smpOp 1 (fun a _ s => s.onDev (fun d => (d.masterRead .smp a 4).smpEnd true)))

/-- SMP_READ64 (R842, R13). -/
def execSmpRead64 (s : State) : Out :=
  .next (s.smpOp 2 (fun a _ s => s.onDev (fun d => (d.masterRead .smp a 8).smpEnd true)))

/-- SMP_WRITE32 (R842): the word is octets 6 to 9 of the frame. -/
def execSmpWrite32 (s : State) : Out :=
  .next (s.smpOp 3 (fun a w s => (s.masterWrite .smp a 4 true w).onDev (fun d => d.smpEnd false)))

/-- SMP_WRITE64 (R842, R13). -/
def execSmpWrite64 (s : State) : Out :=
  .next (s.smpOp 4 (fun a w s => (s.masterWrite .smp a 8 true w).onDev (fun d => d.smpEnd false)))

/-- SMP_MEM_READ64 (R842, R834): `ecc` is what the read of 8 bytes finds. -/
def execSmpMemRead64 (ecc : Nat) (s : State) : Out :=
  unit ecc 3 (.next (s.smpOp 5 (fun a _ s => s.onDev (fun d =>
    let st := d.sdStatus (8 * a) 8 false
    if st ≠ 0 then d.smpResult st 0
    else if ecc = 2 then (d.memUe (8 * a)).smpResult 9 0
    else ((d.memEcc ecc (8 * a)).tally 7 8).smpResult 0 (leAt (s.mem.sdRead (8 * a) 8) 0 8)))))

/-- SMP_MEM_WRITE64 (R842, R830). -/
def execSmpMemWrite64 (s : State) : Out :=
  .next (s.smpOp 6 (fun a w s =>
    let st := s.dev.sdStatus (8 * a) 8 true
    if st ≠ 0 then s.onDev (fun d => d.smpResult st 0)
    else (s.sdPut (8 * a) (toOctets 8 w)).onDev (fun d => d.smpResult 0 0)))

/-- SMP_BAD_OP (R842): the request's operation is one that the table does not list. -/
def execSmpBadOp (s : State) : Out :=
  .next (match s.dev.hif.smp.running with
    | some (op, _, _, _) => if 7 ≤ op then s.onDev (fun d => d.smpResult 8 0) else s
    | none => s)

/-- SMP_REQUEST_DONE (R843): the response of an executed request is stored. -/
def execSmpRequestDone (s : State) : Out :=
  .next (s.onDev (fun d =>
    let x := d.hif.smp
    match x.running, x.result with
    | some (op, seq, _, _), some (st, data) =>
      d.setSmp { x with status := st, seq := seq, op := op, data := data, running := none, result := none }
    | _, _ => d))

end Sys2Proof.Machine
end

