-- ==== Sys2Proof/Machine/Dispatch.lean ====
section
/-! DEFINITION. One arm per command: a direct call of its meaning. -/

namespace Sys2Proof.Machine

def exec (i : Instr) (s : State) : Host.Outcome State Fault Refusal :=
  match i with
  | .registerWrite p a len whole w hw => Sys2Proof.Machine.execRegisterWrite p a len whole w hw s
  | .latchingRead p k => Sys2Proof.Machine.execLatchingRead p k s
  | .ownerWrite p b w other => Sys2Proof.Machine.execOwnerWrite p b w other s
  | .loadFlash p w => Sys2Proof.Machine.execLoadFlash p w s
  | .loadStaged p w => Sys2Proof.Machine.execLoadStaged p w s
  | .writeSlot p w => Sys2Proof.Machine.execWriteSlot p w s
  | .reload p w => Sys2Proof.Machine.execReload p w s
  | .confirm p w => Sys2Proof.Machine.execConfirm p w s
  | .remould p w => Sys2Proof.Machine.execRemould p w s
  | .abort p w => Sys2Proof.Machine.execAbort p w s
  | .go p w => Sys2Proof.Machine.execGo p w s
  | .cmdReserved p cmd w => Sys2Proof.Machine.execCmdReserved p cmd w s
  | .imageLoadDone body bad => Sys2Proof.Machine.execImageLoadDone body bad s
  | .slotProgramDone ok => Sys2Proof.Machine.execSlotProgramDone ok s
  | .migrationRequest m sp => Sys2Proof.Machine.execMigrationRequest m sp s
  | .migShadowStart m => Sys2Proof.Machine.execMigShadowStart m s
  | .migShadowEnd m => Sys2Proof.Machine.execMigShadowEnd m s
  | .migSwitch m stale => Sys2Proof.Machine.execMigSwitch m stale s
  | .migRelease m => Sys2Proof.Machine.execMigRelease m s
  | .orbMeasurement o cells => Sys2Proof.Machine.execOrbMeasurement o cells s
  | .measurementMissing o => Sys2Proof.Machine.execMeasurementMissing o s
  | .holdLimitExpiry o => Sys2Proof.Machine.execHoldLimitExpiry o s
  | .uncLimitExceeded o => Sys2Proof.Machine.execUncLimitExceeded o s
  | .orbitMuteEnd o => Sys2Proof.Machine.execOrbitMuteEnd o s
  | .orbCtlWrite p o w => Sys2Proof.Machine.execOrbCtlWrite p o w s
  | .reacquire p o w => Sys2Proof.Machine.execReacquire p o w s
  | .orbClrCnt p o w => Sys2Proof.Machine.execOrbClrCnt p o w s
  | .orbPinEdge falling => Sys2Proof.Machine.execOrbPinEdge falling s
  | .learn p o w => Sys2Proof.Machine.execLearn p o w s
  | .learnRunEnd o => Sys2Proof.Machine.execLearnRunEnd o s
  | .internalPatternSwap o => Sys2Proof.Machine.execInternalPatternSwap o s
  | .trnEntryWrite p o n w => Sys2Proof.Machine.execTrnEntryWrite p o n w s
  | .trnClrCnt p o w => Sys2Proof.Machine.execTrnClrCnt p o w s
  | .patternEdge o => Sys2Proof.Machine.execPatternEdge o s
  | .tickCommit o => Sys2Proof.Machine.execTickCommit o s
  | .gainCommit o n => Sys2Proof.Machine.execGainCommit o n s
  | .transitNone o n => Sys2Proof.Machine.execTransitNone o n s
  | .fesCmd o n => Sys2Proof.Machine.execFesCmd o n s
  | .hkInject o n => Sys2Proof.Machine.execHkInject o n s
  | .capture o n => Sys2Proof.Machine.execCapture o n s
  | .tddPatSwap o n => Sys2Proof.Machine.execTddPatSwap o n s
  | .mark o n => Sys2Proof.Machine.execMark o n s
  | .irq o n => Sys2Proof.Machine.execIrq o n s
  | .laneEnableWrite p n w => Sys2Proof.Machine.execLaneEnableWrite p n w s
  | .laneRestart p n w => Sys2Proof.Machine.execLaneRestart p n w s
  | .lnkClrCnt p n w => Sys2Proof.Machine.execLnkClrCnt p n w s
  | .signalLoss n => Sys2Proof.Machine.execSignalLoss n s
  | .blockLock n => Sys2Proof.Machine.execBlockLock n s
  | .blockLockLoss n => Sys2Proof.Machine.execBlockLockLoss n s
  | .tdlFrameRx n f => Sys2Proof.Machine.execTdlFrameRx n f s
  | .frameMissing n => Sys2Proof.Machine.execFrameMissing n s
  | .noFrameTimeout n => Sys2Proof.Machine.execNoFrameTimeout n s
  | .helloRx p => Sys2Proof.Machine.execHelloRx p s
  | .capsRx p => Sys2Proof.Machine.execCapsRx p s
  | .sliceAckRx p => Sys2Proof.Machine.execSliceAckRx p s
  | .mapIdSwitch p => Sys2Proof.Machine.execMapIdSwitch p s
  | .stnRspRx p => Sys2Proof.Machine.execStnRspRx p s
  | .alarmRx p => Sys2Proof.Machine.execAlarmRx p s
  | .readRspRx p => Sys2Proof.Machine.execReadRspRx p s
  | .writeRspRx p => Sys2Proof.Machine.execWriteRspRx p s
  | .vendorRx p => Sys2Proof.Machine.execVendorRx p s
  | .heartbeatRx p => Sys2Proof.Machine.execHeartbeatRx p s
  | .latUpdateRx p => Sys2Proof.Machine.execLatUpdateRx p s
  | .helloTx p => Sys2Proof.Machine.execHelloTx p s
  | .heartbeatTx p => Sys2Proof.Machine.execHeartbeatTx p s
  | .resendTimeout p => Sys2Proof.Machine.execResendTimeout p s
  | .hbLimitExpiry p => Sys2Proof.Machine.execHbLimitExpiry p s
  | .tddEdgeSend p q up opens pos => Sys2Proof.Machine.execTddEdgeSend p q up opens pos s
  | .lnkMsgSend p n w => Sys2Proof.Machine.execLnkMsgSend p n w s
  | .protReqWrite p k w => Sys2Proof.Machine.execProtReqWrite p k w s
  | .pairSwitchApply k => Sys2Proof.Machine.execPairSwitchApply k s
  | .mgbPoll n ack l => Sys2Proof.Machine.execMgbPoll n ack l s
  | .mgbXfer p b w => Sys2Proof.Machine.execMgbXfer p b w s
  | .mgbXferDone b ack data => Sys2Proof.Machine.execMgbXferDone b ack data s
  | .donShLock j => Sys2Proof.Machine.execDonShLock j s
  | .donEmbLock j => Sys2Proof.Machine.execDonEmbLock j s
  | .donDataEntry j l => Sys2Proof.Machine.execDonDataEntry j l s
  | .donLockLoss j lost sh l => Sys2Proof.Machine.execDonLockLoss j lost sh l s
  | .donLate j a => Sys2Proof.Machine.execDonLate j a s
  | .donTxDataEntry j => Sys2Proof.Machine.execDonTxDataEntry j s
  | .sysrefPulse h => Sys2Proof.Machine.execSysrefPulse h s
  | .sysrefArm p w => Sys2Proof.Machine.execSysrefArm p w s
  | .relink p w => Sys2Proof.Machine.execRelink p w s
  | .donClrCnt p w => Sys2Proof.Machine.execDonClrCnt p w s
  | .donLinkCfgWrite p j w => Sys2Proof.Machine.execDonLinkCfgWrite p j w s
  | .fesEnWrite p t w => Sys2Proof.Machine.execFesEnWrite p t w s
  | .fesRun p t w => Sys2Proof.Machine.execFesRun p t w s
  | .stnNop t k => Sys2Proof.Machine.execStnNop t k s
  | .stnTune t k ch keep => Sys2Proof.Machine.execStnTune t k ch keep s
  | .stnTxOn t k => Sys2Proof.Machine.execStnTxOn t k s
  | .stnTxOff t k => Sys2Proof.Machine.execStnTxOff t k s
  | .stnRenew t k => Sys2Proof.Machine.execStnRenew t k s
  | .stnRxSet t k rxen lna => Sys2Proof.Machine.execStnRxSet t k rxen lna s
  | .stnPinSet t k mask v => Sys2Proof.Machine.execStnPinSet t k mask v s
  | .stnCalibrate t k w keep => Sys2Proof.Machine.execStnCalibrate t k w keep s
  | .stnSpiWrite t k len l => Sys2Proof.Machine.execStnSpiWrite t k len l s
  | .stnSpiRead t k wlen rlen l => Sys2Proof.Machine.execStnSpiRead t k wlen rlen l s
  | .stnBadOpcode t k op => Sys2Proof.Machine.execStnBadOpcode t k op s
  | .lockPoll t data => Sys2Proof.Machine.execLockPoll t data s
  | .maxOnExpiry t => Sys2Proof.Machine.execMaxOnExpiry t s
  | .paDelayExpiry t => Sys2Proof.Machine.execPaDelayExpiry t s
  | .stationPinEdge t e => Sys2Proof.Machine.execStationPinEdge t e s
  | .fesAlmActive t high held => Sys2Proof.Machine.execFesAlmActive t high held s
  | .fesAlmLockoutEnd t => Sys2Proof.Machine.execFesAlmLockoutEnd t s
  | .faultClr p t w => Sys2Proof.Machine.execFaultClr p t w s
  | .almRearm p t w => Sys2Proof.Machine.execAlmRearm p t w s
  | .cacheLoad p t w => Sys2Proof.Machine.execCacheLoad p t w s
  | .cacheLoadDone t ue => Sys2Proof.Machine.execCacheLoadDone t ue s
  | .remRenew q => Sys2Proof.Machine.execRemRenew q s
  | .fesClrCnt p w => Sys2Proof.Machine.execFesClrCnt p w s
  | .pendingGainWrite p k w => Sys2Proof.Machine.execPendingGainWrite p k w s
  | .tilCommitWrite p m w => Sys2Proof.Machine.execTilCommitWrite p m w s
  | .tilManualWrite p m w => Sys2Proof.Machine.execTilManualWrite p m w s
  | .fadeEnd m => Sys2Proof.Machine.execFadeEnd m s
  | .tilClrCnt p w => Sys2Proof.Machine.execTilClrCnt p w s
  | .realign p n w => Sys2Proof.Machine.execRealign p n w s
  | .residueMismatch m u sp => Sys2Proof.Machine.execResidueMismatch m u sp s
  | .spWatchdogExpiry sp => Sys2Proof.Machine.execSpWatchdogExpiry sp s
  | .slcTestFail p w => Sys2Proof.Machine.execSlcTestFail p w s
  | .slcClrCnt p w => Sys2Proof.Machine.execSlcClrCnt p w s
  | .spFailure sp cause sends => Sys2Proof.Machine.execSpFailure sp cause sends s
  | .spTakeoverSwitch stale => Sys2Proof.Machine.execSpTakeoverSwitch stale s
  | .fastTailWindow m t => Sys2Proof.Machine.execFastTailWindow m t s
  | .ftHoldoffExpiry m => Sys2Proof.Machine.execFtHoldoffExpiry m s
  | .chainOutput m tap => Sys2Proof.Machine.execChainOutput m tap s
  | .decSyncEdge falling held => Sys2Proof.Machine.execDecSyncEdge falling held s
  | .meaSync p w => Sys2Proof.Machine.execMeaSync p w s
  | .syncResetExec n => Sys2Proof.Machine.execSyncResetExec n s
  | .meaSwap p m w => Sys2Proof.Machine.execMeaSwap p m w s
  | .swapExec m => Sys2Proof.Machine.execSwapExec m s
  | .captureStart p c w => Sys2Proof.Machine.execCaptureStart p c w s
  | .captureDone c ue => Sys2Proof.Machine.execCaptureDone c ue s
  | .meaWatchWrite p e word w => Sys2Proof.Machine.execMeaWatchWrite p e word w s
  | .meaClrCnt p w => Sys2Proof.Machine.execMeaClrCnt p w s
  | .weavePeriodBoundary n => Sys2Proof.Machine.execWeavePeriodBoundary n s
  | .isoBlockClose m t => Sys2Proof.Machine.execIsoBlockClose m t s
  | .cancBlockClose n t b => Sys2Proof.Machine.execCancBlockClose n t b s
  | .isoSurvey p w => Sys2Proof.Machine.execIsoSurvey p w s
  | .isoAbort p w => Sys2Proof.Machine.execIsoAbort p w s
  | .isoForget p w => Sys2Proof.Machine.execIsoForget p w s
  | .isoClrCnt p w => Sys2Proof.Machine.execIsoClrCnt p w s
  | .cancDisable p w => Sys2Proof.Machine.execCancDisable p w s
  | .surveyPrepEnd n => Sys2Proof.Machine.execSurveyPrepEnd n s
  | .surveyRoundEnd n => Sys2Proof.Machine.execSurveyRoundEnd n s
  | .tileUpdate m => Sys2Proof.Machine.execTileUpdate m s
  | .buildingLoop n r => Sys2Proof.Machine.execBuildingLoop n r s
  | .gainRelease n r => Sys2Proof.Machine.execGainRelease n r s
  | .sliceLoop m => Sys2Proof.Machine.execSliceLoop m s
  | .tickDeadline o => Sys2Proof.Machine.execTickDeadline o s
  | .tickLengthChange o => Sys2Proof.Machine.execTickLengthChange o s
  | .coefCommit p w => Sys2Proof.Machine.execCoefCommit p w s
  | .coefCommitApply n => Sys2Proof.Machine.execCoefCommitApply n s
  | .lpWatchdogExpiry lp => Sys2Proof.Machine.execLpWatchdogExpiry lp s
  | .lpFailure lp cause => Sys2Proof.Machine.execLpFailure lp cause s
  | .ceTestFail p w => Sys2Proof.Machine.execCeTestFail p w s
  | .ceClrCnt p w => Sys2Proof.Machine.execCeClrCnt p w s
  | .ceRunWrite p w => Sys2Proof.Machine.execCeRunWrite p w s
  | .lcxEnWrite p id w => Sys2Proof.Machine.execLcxEnWrite p id w s
  | .cutHoldExpiry m => Sys2Proof.Machine.execCutHoldExpiry m s
  | .cutFallStep m => Sys2Proof.Machine.execCutFallStep m s
  | .slowTailTick n r => Sys2Proof.Machine.execSlowTailTick n r s
  | .prtReenable p w => Sys2Proof.Machine.execPrtReenable p w s
  | .dlossBlock n => Sys2Proof.Machine.execDlossBlock n s
  | .noiseRiseEval n => Sys2Proof.Machine.execNoiseRiseEval n s
  | .olBlock m => Sys2Proof.Machine.execOlBlock m s
  | .prtClrCnt p w => Sys2Proof.Machine.execPrtClrCnt p w s
  | .hkTimerExpiry k => Sys2Proof.Machine.execHkTimerExpiry k s
  | .hkTrigEdge p falling => Sys2Proof.Machine.execHkTrigEdge p falling s
  | .regGo p m => Sys2Proof.Machine.execRegGo p m s
  | .injGo p m => Sys2Proof.Machine.execInjGo p m s
  | .conversionDone k raw => Sys2Proof.Machine.execConversionDone k raw s
  | .hkCalZero p w => Sys2Proof.Machine.execHkCalZero p w s
  | .hkCalFull p w => Sys2Proof.Machine.execHkCalFull p w s
  | .hkClrCnt p w => Sys2Proof.Machine.execHkClrCnt p w s
  | .wmEnable p n w => Sys2Proof.Machine.execWmEnable p n w s
  | .wmThrWrite p n w => Sys2Proof.Machine.execWmThrWrite p n w s
  | .wmBlankEnd n hi hiH lo loH => Sys2Proof.Machine.execWmBlankEnd n hi hiH lo loH s
  | .wmCrossing n hi lo => Sys2Proof.Machine.execWmCrossing n hi lo s
  | .wmLockoutEnd n => Sys2Proof.Machine.execWmLockoutEnd n s
  | .wmRearm p n w => Sys2Proof.Machine.execWmRearm p n w s
  | .startMsExpiry x => Sys2Proof.Machine.execStartMsExpiry x s
  | .xtalGate x n => Sys2Proof.Machine.execXtalGate x n s
  | .xtalStop x => Sys2Proof.Machine.execXtalStop x s
  | .permit p w => Sys2Proof.Machine.execPermit p w s
  | .switch p t w => Sys2Proof.Machine.execSwitch p t w s
  | .retryA p w => Sys2Proof.Machine.execRetryA p w s
  | .retryB p w => Sys2Proof.Machine.execRetryB p w s
  | .xtalCfgWrite p x w => Sys2Proof.Machine.execXtalCfgWrite p x w s
  | .clkClrCnt p w => Sys2Proof.Machine.execClkClrCnt p w s
  | .sampclkGate n => Sys2Proof.Machine.execSampclkGate n s
  | .lrefGate j n => Sys2Proof.Machine.execLrefGate j n s
  | .chipReset p w => Sys2Proof.Machine.execChipReset p w s
  | .coreReset p w => Sys2Proof.Machine.execCoreReset p w s
  | .domainSupplyGood n => Sys2Proof.Machine.execDomainSupplyGood n s
  | .domainFault n cause => Sys2Proof.Machine.execDomainFault n cause s
  | .pwrRetry p n w => Sys2Proof.Machine.execPwrRetry p n w s
  | .shutdownProgramEnd done => Sys2Proof.Machine.execShutdownProgramEnd done s
  | .restart p w => Sys2Proof.Machine.execRestart p w s
  | .pwrClrCnt p w => Sys2Proof.Machine.execPwrClrCnt p w s
  | .governorRound => Sys2Proof.Machine.execGovernorRound s
  | .eventRaise code index arg => Sys2Proof.Machine.execEventRaise code index arg s
  | .tokenRefill code => Sys2Proof.Machine.execTokenRefill code s
  | .evtCodeWrite p c w => Sys2Proof.Machine.execEvtCodeWrite p c w s
  | .timeResume readable => Sys2Proof.Machine.execTimeResume readable s
  | .archiveProgramDone eraseOk progOk => Sys2Proof.Machine.execArchiveProgramDone eraseOk progOk s
  | .archRead p w => Sys2Proof.Machine.execArchRead p w s
  | .archReadDone bad => Sys2Proof.Machine.execArchReadDone bad s
  | .calendarSet p w => Sys2Proof.Machine.execCalendarSet p w s
  | .nonceReq p w => Sys2Proof.Machine.execNonceReq p w s
  | .clearGo p w => Sys2Proof.Machine.execClearGo p w s
  | .evtClrCnt p w => Sys2Proof.Machine.execEvtClrCnt p w s
  | .bar2Access x len write data ecc at0 => Sys2Proof.Machine.execBar2Access x len write data ecc at0 s
  | .hostLinkChange st gen lanes2 d3hot => Sys2Proof.Machine.execHostLinkChange st gen lanes2 d3hot s
  | .pcieLinkDown st => Sys2Proof.Machine.execPcieLinkDown st s
  | .smpTake p w => Sys2Proof.Machine.execSmpTake p w s
  | .dmaRun p c w desc => Sys2Proof.Machine.execDmaRun p c w desc s
  | .dmaAbort p c w => Sys2Proof.Machine.execDmaAbort p c w s
  | .dmaDescriptorDone c host moved err at0 next => Sys2Proof.Machine.execDmaDescriptorDone c host moved err at0 next s
  | .memReady cap => Sys2Proof.Machine.execMemReady cap s
  | .scrubStep ecc => Sys2Proof.Machine.execScrubStep ecc s
  | .hifClrCnt p w => Sys2Proof.Machine.execHifClrCnt p w s
  | .usbConfigure st => Sys2Proof.Machine.execUsbConfigure st s
  | .usbRead magic tag a len => Sys2Proof.Machine.execUsbRead magic tag a len s
  | .usbWrite magic tag a len w => Sys2Proof.Machine.execUsbWrite magic tag a len w s
  | .usbMemWrite magic tag a len data => Sys2Proof.Machine.execUsbMemWrite magic tag a len data s
  | .usbMemRead magic tag a len ecc at0 => Sys2Proof.Machine.execUsbMemRead magic tag a len ecc at0 s
  | .usbEvtRead magic tag len data => Sys2Proof.Machine.execUsbEvtRead magic tag len data s
  | .usbBadOp magic tag op => Sys2Proof.Machine.execUsbBadOp magic tag op s
  | .smpFrame l => Sys2Proof.Machine.execSmpFrame l s
  | .smpMemRead64 ecc => Sys2Proof.Machine.execSmpMemRead64 ecc s
  | .smpClrCnt p w => Sys2Proof.Machine.execSmpClrCnt p w s
  | .mbPost p k w => Sys2Proof.Machine.execMbPost p k w s
  | .mbAccept k => Sys2Proof.Machine.execMbAccept k s
  | .mbPostTimeout k => Sys2Proof.Machine.execMbPostTimeout k s
  | .mbResponse k refused l => Sys2Proof.Machine.execMbResponse k refused l s
  | .mbAck p k w => Sys2Proof.Machine.execMbAck p k w s
  | .mbRelease p k w => Sys2Proof.Machine.execMbRelease p k w s
  | .flashRead p w => Sys2Proof.Machine.execFlashRead p w s
  | .flashProgram p w => Sys2Proof.Machine.execFlashProgram p w s
  | .flashErase p w => Sys2Proof.Machine.execFlashErase p w s
  | .flashOpDone bad => Sys2Proof.Machine.execFlashOpDone bad s
  | .otpGo p w => Sys2Proof.Machine.execOtpGo p w s
  | .otpProgDone bad => Sys2Proof.Machine.execOtpProgDone bad s
  | .registerRead p a len => Sys2Proof.Machine.execRegisterRead p a len s
  | .spiReadDone t data => Sys2Proof.Machine.execSpiReadDone t data s
  | .migWaitExpiry m => Sys2Proof.Machine.execMigWaitExpiry m s
  | .incompatibleTimeout p => Sys2Proof.Machine.execIncompatibleTimeout p s
  | .wtrExpiry k => Sys2Proof.Machine.execWtrExpiry k s
  | .signalDegradeClear n => Sys2Proof.Machine.execSignalDegradeClear n s
  | .mgbTimeout b => Sys2Proof.Machine.execMgbTimeout b s
  | .hopTimeExpiry t => Sys2Proof.Machine.execHopTimeExpiry t s
  | .txWaitLimitExpiry t => Sys2Proof.Machine.execTxWaitLimitExpiry t s
  | .fesAlmStuck t => Sys2Proof.Machine.execFesAlmStuck t s
  | .branchReassign n t => Sys2Proof.Machine.execBranchReassign n t s
  | .branchReleaseExpiry n t b => Sys2Proof.Machine.execBranchReleaseExpiry n t b s
  | .isoHoldLimitExpiry m t => Sys2Proof.Machine.execIsoHoldLimitExpiry m t s
  | .resurveyTimer n => Sys2Proof.Machine.execResurveyTimer n s
  | .nrCureExpiry n => Sys2Proof.Machine.execNrCureExpiry n s
  | .nrRetryExpiry n => Sys2Proof.Machine.execNrRetryExpiry n s
  | .olRetryExpiry m => Sys2Proof.Machine.execOlRetryExpiry m s
  | .staleMuteExpiry m => Sys2Proof.Machine.execStaleMuteExpiry m s
  | .wmStuckExpiry n => Sys2Proof.Machine.execWmStuckExpiry n s
  | .xchkSpan => Sys2Proof.Machine.execXchkSpan s
  | .spGateTimer n => Sys2Proof.Machine.execSpGateTimer n s
  | .linkQuarterIdle q => Sys2Proof.Machine.execLinkQuarterIdle q s
  | .ageMeasure n slow => Sys2Proof.Machine.execAgeMeasure n slow s
  | .coreWakeDone => Sys2Proof.Machine.execCoreWakeDone s
  | .applyDone => Sys2Proof.Machine.execApplyDone s
  | .linkUpDone => Sys2Proof.Machine.execLinkUpDone s
  | .orbitWaitDone => Sys2Proof.Machine.execOrbitWaitDone s
  | .orbitWaitLimitExpiry => Sys2Proof.Machine.execOrbitWaitLimitExpiry s
  | .confirmTimeExpiry => Sys2Proof.Machine.execConfirmTimeExpiry s
  | .deltaResume => Sys2Proof.Machine.execDeltaResume s
  | .tdlFrameTx => Sys2Proof.Machine.execTdlFrameTx s
  | .safeNAssert => Sys2Proof.Machine.execSafeNAssert s
  | .safeNRelease => Sys2Proof.Machine.execSafeNRelease s
  | .takeoverPlacementDone => Sys2Proof.Machine.execTakeoverPlacementDone s
  | .surveyRetryTimer => Sys2Proof.Machine.execSurveyRetryTimer s
  | .hkRoundStart => Sys2Proof.Machine.execHkRoundStart s
  | .aoPowerGood => Sys2Proof.Machine.execAoPowerGood s
  | .resetNAssert => Sys2Proof.Machine.execResetNAssert s
  | .resetNRelease => Sys2Proof.Machine.execResetNRelease s
  | .clkWaitEntry => Sys2Proof.Machine.execClkWaitEntry s
  | .refSwitchDone => Sys2Proof.Machine.execRefSwitchDone s
  | .refHangExpiry => Sys2Proof.Machine.execRefHangExpiry s
  | .domainResetRelease => Sys2Proof.Machine.execDomainResetRelease s
  | .syspllLock => Sys2Proof.Machine.execSyspllLock s
  | .safeStateEnd => Sys2Proof.Machine.execSafeStateEnd s
  | .autoPermitExpiry => Sys2Proof.Machine.execAutoPermitExpiry s
  | .sampclkStop => Sys2Proof.Machine.execSampclkStop s
  | .clkSampWait => Sys2Proof.Machine.execClkSampWait s
  | .aoWatchdog => Sys2Proof.Machine.execAoWatchdog s
  | .sioFail => Sys2Proof.Machine.execSioFail s
  | .ladderStep => Sys2Proof.Machine.execLadderStep s
  | .thermalEval => Sys2Proof.Machine.execThermalEval s
  | .throttleStep => Sys2Proof.Machine.execThrottleStep s
  | .thermalTrip => Sys2Proof.Machine.execThermalTrip s
  | .autoRestart => Sys2Proof.Machine.execAutoRestart s
  | .ringWrite => Sys2Proof.Machine.execRingWrite s
  | .archiveReread => Sys2Proof.Machine.execArchiveReread s
  | .anchorWrite => Sys2Proof.Machine.execAnchorWrite s
  | .archiveProgram => Sys2Proof.Machine.execArchiveProgram s
  | .nonceExpiry => Sys2Proof.Machine.execNonceExpiry s
  | .clearDone => Sys2Proof.Machine.execClearDone s
  | .hostHoldExpiry => Sys2Proof.Machine.execHostHoldExpiry s
  | .smpNop => Sys2Proof.Machine.execSmpNop s
  | .smpRead32 => Sys2Proof.Machine.execSmpRead32 s
  | .smpRead64 => Sys2Proof.Machine.execSmpRead64 s
  | .smpWrite32 => Sys2Proof.Machine.execSmpWrite32 s
  | .smpWrite64 => Sys2Proof.Machine.execSmpWrite64 s
  | .smpMemWrite64 => Sys2Proof.Machine.execSmpMemWrite64 s
  | .smpBadOp => Sys2Proof.Machine.execSmpBadOp s
  | .smpRequestDone => Sys2Proof.Machine.execSmpRequestDone s
  | .sampclkReturn => Sys2Proof.Machine.execSampclkReturn s

end Sys2Proof.Machine
end

