-- ==== Sys2Proof/WellFormed.lean ====
section
/-! DEFINITION. Which commands a sender can form: the units they name exist, and their words and octets fit. -/

namespace Sys2Proof

/-- A list of octets. -/
def octetsOk (l : List Nat) : Bool := l.all (fun x => decide (x < 256))

/-- The command names units that the part has (R7, R29 to R36), and its words, octets and fields are as wide as the
spec gives them. -/
def Instr.wellFormed : Instr → Bool
  | .registerWrite _ a _ _ w hw => decide (a < 2 ^ 32) && decide (w < 2 ^ 64) && decide (hw < 2 ^ 64)
  | .latchingRead _ k => decide (k < 6)
  | .ownerWrite _ b w _ => decide (b < 32) && decide (w < 2 ^ 32)
  | .loadFlash _ w => decide (w < 2 ^ 32)
  | .loadStaged _ w => decide (w < 2 ^ 32)
  | .writeSlot _ w => decide (w < 2 ^ 32)
  | .reload _ w => decide (w < 2 ^ 32)
  | .confirm _ w => decide (w < 2 ^ 32)
  | .remould _ w => decide (w < 2 ^ 32)
  | .abort _ w => decide (w < 2 ^ 32)
  | .go _ w => decide (w < 2 ^ 32)
  | .cmdReserved _ cmd w => decide (w < 2 ^ 32) && (decide (9 ≤ cmd) && decide (cmd < 16))
  | .coreWakeDone => true
  | .imageLoadDone _ _ => true
  | .slotProgramDone _ => true
  | .applyDone => true
  | .linkUpDone => true
  | .orbitWaitDone => true
  | .orbitWaitLimitExpiry => true
  | .confirmTimeExpiry => true
  | .deltaResume => true
  | .migrationRequest m sp => decide (m < 2080) && decide (sp < 36)
  | .migShadowStart m => decide (m < 2080)
  | .migShadowEnd m => decide (m < 2080)
  | .migWaitExpiry m => decide (m < 2080)
  | .migSwitch m _ => decide (m < 2080)
  | .migRelease m => decide (m < 2080)
  | .orbMeasurement o _ => decide (o < 2)
  | .measurementMissing o => decide (o < 2)
  | .holdLimitExpiry o => decide (o < 2)
  | .uncLimitExceeded o => decide (o < 2)
  | .orbitMuteEnd o => decide (o < 2)
  | .orbCtlWrite _ o w => decide (o < 2) && decide (w < 2 ^ 32)
  | .reacquire _ o w => decide (o < 2) && decide (w < 2 ^ 32)
  | .orbClrCnt _ o w => decide (o < 2) && decide (w < 2 ^ 32)
  | .orbPinEdge _ => true
  | .learn _ o w => decide (o < 2) && decide (w < 2 ^ 32)
  | .learnRunEnd o => decide (o < 2)
  | .internalPatternSwap o => decide (o < 2)
  | .trnEntryWrite _ o n w => decide (o < 2) && decide (n < 256) && decide (w < 2 ^ 32)
  | .trnClrCnt _ o w => decide (o < 2) && decide (w < 2 ^ 32)
  | .patternEdge o => decide (o < 2)
  | .tickCommit o => decide (o < 2)
  | .gainCommit o n => decide (o < 2) && decide (n < 256)
  | .transitNone o n => decide (o < 2) && decide (n < 256)
  | .fesCmd o n => decide (o < 2) && decide (n < 256)
  | .hkInject o n => decide (o < 2) && decide (n < 256)
  | .capture o n => decide (o < 2) && decide (n < 256)
  | .tddPatSwap o n => decide (o < 2) && decide (n < 256)
  | .mark o n => decide (o < 2) && decide (n < 256)
  | .irq o n => decide (o < 2) && decide (n < 256)
  | .laneEnableWrite _ n w => decide (n < 128) && decide (w < 2 ^ 32)
  | .laneRestart _ n w => decide (n < 128) && decide (w < 2 ^ 32)
  | .lnkClrCnt _ n w => decide (n < 128) && decide (w < 2 ^ 32)
  | .signalLoss n => decide (n < 128)
  | .blockLock n => decide (n < 128)
  | .blockLockLoss n => decide (n < 128)
  | .tdlFrameTx => true
  | .tdlFrameRx n _ => decide (n < 128)
  | .frameMissing n => decide (n < 128)
  | .noFrameTimeout n => decide (n < 128)
  | .helloRx p => decide (p < 128)
  | .capsRx p => decide (p < 128)
  | .sliceAckRx p => decide (p < 128)
  | .mapIdSwitch p => decide (p < 128)
  | .stnRspRx p => decide (p < 128)
  | .alarmRx p => decide (p < 128)
  | .readRspRx p => decide (p < 128)
  | .writeRspRx p => decide (p < 128)
  | .vendorRx p => decide (p < 128)
  | .heartbeatRx p => decide (p < 128)
  | .latUpdateRx p => decide (p < 128)
  | .helloTx p => decide (p < 128)
  | .heartbeatTx p => decide (p < 128)
  | .resendTimeout p => decide (p < 128)
  | .hbLimitExpiry p => decide (p < 128)
  | .incompatibleTimeout p => decide (p < 128)
  | .tddEdgeSend p q _ _ _ => decide (p < 128) && decide (q < 8)
  | .lnkMsgSend _ n w => decide (n < 128) && decide (w < 2 ^ 32)
  | .protReqWrite _ k w => decide (k < 64) && decide (w < 2 ^ 32)
  | .pairSwitchApply k => decide (k < 64)
  | .wtrExpiry k => decide (k < 64)
  | .signalDegradeClear n => decide (n < 128)
  | .mgbPoll n _ _ => decide (n < 128)
  | .mgbXfer _ b w => decide (b < 4) && decide (w < 2 ^ 32)
  | .mgbXferDone b _ _ => decide (b < 4)
  | .mgbTimeout b => decide (b < 4)
  | .donShLock j => decide (j < 4)
  | .donEmbLock j => decide (j < 4)
  | .donDataEntry j _ => decide (j < 4)
  | .donLockLoss j _ _ _ => decide (j < 4)
  | .donLate j _ => decide (j < 4)
  | .donTxDataEntry j => decide (j < 8)
  | .sysrefPulse _ => true
  | .sysrefArm _ w => decide (w < 2 ^ 32)
  | .relink _ w => decide (w < 2 ^ 32)
  | .donClrCnt _ w => decide (w < 2 ^ 32)
  | .donLinkCfgWrite _ j w => decide (j < 8) && decide (w < 2 ^ 32)
  | .fesEnWrite _ t w => decide (t < 8) && decide (w < 2 ^ 32)
  | .fesRun _ t w => decide (t < 8) && decide (w < 2 ^ 32)
  | .stnNop t k => decide (t < 8) && decide (k < 16)
  | .stnTune t k ch _ => decide (t < 8) && decide (k < 16) && decide (ch < 2 ^ 16)
  | .stnTxOn t k => decide (t < 8) && decide (k < 16)
  | .stnTxOff t k => decide (t < 8) && decide (k < 16)
  | .stnRenew t k => decide (t < 8) && decide (k < 16)
  | .stnRxSet t k _ _ => decide (t < 8) && decide (k < 16)
  | .stnPinSet t k _ _ => decide (t < 8) && decide (k < 16)
  | .stnCalibrate t k w _ => decide (t < 8) && decide (k < 16) && decide (w < 2 ^ 32)
  | .stnSpiWrite t k _ l => decide (t < 8) && decide (k < 16) && octetsOk l
  | .stnSpiRead t k _ _ l => decide (t < 8) && decide (k < 16) && octetsOk l
  | .stnBadOpcode t k op => decide (t < 8) && decide (k < 16) && decide (op < 256) && decide (10 ≤ op)
  | .hopTimeExpiry t => decide (t < 8)
  | .lockPoll t _ => decide (t < 8)
  | .txWaitLimitExpiry t => decide (t < 8)
  | .maxOnExpiry t => decide (t < 8)
  | .paDelayExpiry t => decide (t < 8)
  | .stationPinEdge t e => decide (t < 8) && decide (e < 8)
  | .fesAlmActive t _ _ => decide (t < 8)
  | .fesAlmStuck t => decide (t < 8)
  | .fesAlmLockoutEnd t => decide (t < 8)
  | .faultClr _ t w => decide (t < 8) && decide (w < 2 ^ 32)
  | .almRearm _ t w => decide (t < 8) && decide (w < 2 ^ 32)
  | .safeNAssert => true
  | .safeNRelease => true
  | .cacheLoad _ t w => decide (t < 8) && decide (w < 2 ^ 32)
  | .cacheLoadDone t _ => decide (t < 8)
  | .remRenew q => decide (q < 512)
  | .fesClrCnt _ w => decide (w < 2 ^ 32)
  | .pendingGainWrite _ k w => decide (k < 262144) && decide (w < 2 ^ 32)
  | .tilCommitWrite _ m w => decide (m < 2048) && decide (w < 2 ^ 32)
  | .tilManualWrite _ m w => decide (m < 2048) && decide (w < 2 ^ 32)
  | .fadeEnd m => decide (m < 2048)
  | .tilClrCnt _ w => decide (w < 2 ^ 32)
  | .realign _ n w => decide (n < 16) && decide (w < 2 ^ 32)
  | .residueMismatch m u sp => decide (m < 2080) && decide (u < 10) && decide (sp < 36)
  | .spWatchdogExpiry sp => decide (sp < 36)
  | .slcTestFail _ w => decide (w < 2 ^ 32)
  | .slcClrCnt _ w => decide (w < 2 ^ 32)
  | .spFailure sp _ _ => decide (sp < 36)
  | .takeoverPlacementDone => true
  | .spTakeoverSwitch _ => true
  | .fastTailWindow m t => decide (m < 2048) && decide (t < 256)
  | .ftHoldoffExpiry m => decide (m < 2048)
  | .chainOutput m tap => decide (m < 2080) && decide (tap < 2)
  | .decSyncEdge _ _ => true
  | .meaSync _ w => decide (w < 2 ^ 32)
  | .syncResetExec n => decide (n < 16)
  | .meaSwap _ m w => decide (m < 2080) && decide (w < 2 ^ 32)
  | .swapExec m => decide (m < 2080)
  | .captureStart _ c w => decide (c < 16) && decide (w < 2 ^ 32)
  | .captureDone c _ => decide (c < 16)
  | .meaWatchWrite _ e word w => decide (e < 256) && decide (word < 2) && decide (w < 2 ^ 32)
  | .meaClrCnt _ w => decide (w < 2 ^ 32)
  | .weavePeriodBoundary n => decide (n < 16)
  | .isoBlockClose m t => decide (m < 2048) && decide (t < 256)
  | .cancBlockClose n t b => decide (n < 16) && decide (t < 256) && decide (b < 4)
  | .branchReassign n t => decide (n < 16) && decide (t < 256)
  | .branchReleaseExpiry n t b => decide (n < 16) && decide (t < 256) && decide (b < 4)
  | .isoHoldLimitExpiry m t => decide (m < 2048) && decide (t < 256)
  | .isoSurvey _ w => decide (w < 2 ^ 32)
  | .isoAbort _ w => decide (w < 2 ^ 32)
  | .isoForget _ w => decide (w < 2 ^ 32)
  | .isoClrCnt _ w => decide (w < 2 ^ 32)
  | .cancDisable _ w => decide (w < 2 ^ 32)
  | .surveyPrepEnd n => decide (n < 16)
  | .surveyRoundEnd n => decide (n < 16)
  | .resurveyTimer n => decide (n < 16)
  | .surveyRetryTimer => true
  | .tileUpdate m => decide (m < 2048)
  | .buildingLoop n r => decide (n < 16) && decide (r < 2)
  | .gainRelease n r => decide (n < 16) && decide (r < 2)
  | .sliceLoop m => decide (m < 2048)
  | .tickDeadline o => decide (o < 2)
  | .tickLengthChange o => decide (o < 2)
  | .coefCommit _ w => decide (w < 2 ^ 32)
  | .coefCommitApply n => decide (n < 16)
  | .lpWatchdogExpiry lp => decide (lp < 32)
  | .lpFailure lp _ => decide (lp < 32)
  | .ceTestFail _ w => decide (w < 2 ^ 32)
  | .ceClrCnt _ w => decide (w < 2 ^ 32)
  | .ceRunWrite _ w => decide (w < 2 ^ 32)
  | .lcxEnWrite _ id w => decide (id < 524288) && decide (w < 2 ^ 32)
  | .cutHoldExpiry m => decide (m < 2048)
  | .cutFallStep m => decide (m < 2048)
  | .slowTailTick n r => decide (n < 16) && decide (r < 2)
  | .prtReenable _ w => decide (w < 2 ^ 32)
  | .dlossBlock n => decide (n < 16)
  | .noiseRiseEval n => decide (n < 16)
  | .nrCureExpiry n => decide (n < 16)
  | .nrRetryExpiry n => decide (n < 16)
  | .olBlock m => decide (m < 2048)
  | .olRetryExpiry m => decide (m < 2048)
  | .staleMuteExpiry m => decide (m < 2048)
  | .prtClrCnt _ w => decide (w < 2 ^ 32)
  | .hkRoundStart => true
  | .hkTimerExpiry k => decide (k < 4)
  | .hkTrigEdge p _ => decide (p < 4)
  | .regGo _ m => decide (m < 16)
  | .injGo _ m => decide (m < 16)
  | .conversionDone k _ => decide (k < 4)
  | .hkCalZero _ w => decide (w < 2 ^ 32)
  | .hkCalFull _ w => decide (w < 2 ^ 32)
  | .hkClrCnt _ w => decide (w < 2 ^ 32)
  | .wmEnable _ n w => decide (n < 16) && decide (w < 2 ^ 32)
  | .wmThrWrite _ n w => decide (n < 16) && decide (w < 2 ^ 32)
  | .wmBlankEnd n _ _ _ _ => decide (n < 16)
  | .wmCrossing n _ _ => decide (n < 16)
  | .wmLockoutEnd n => decide (n < 16)
  | .wmStuckExpiry n => decide (n < 16)
  | .wmRearm _ n w => decide (n < 16) && decide (w < 2 ^ 32)
  | .aoPowerGood => true
  | .resetNAssert => true
  | .resetNRelease => true
  | .clkWaitEntry => true
  | .startMsExpiry x => decide (x < 2)
  | .xtalGate x _ => decide (x < 2)
  | .xtalStop x => decide (x < 2)
  | .xchkSpan => true
  | .refSwitchDone => true
  | .refHangExpiry => true
  | .domainResetRelease => true
  | .syspllLock => true
  | .safeStateEnd => true
  | .permit _ w => decide (w < 2 ^ 32)
  | .autoPermitExpiry => true
  | .switch _ t w => decide (t < 4) && decide (w < 2 ^ 32)
  | .retryA _ w => decide (w < 2 ^ 32)
  | .retryB _ w => decide (w < 2 ^ 32)
  | .xtalCfgWrite _ x w => decide (x < 2) && decide (w < 2 ^ 32)
  | .clkClrCnt _ w => decide (w < 2 ^ 32)
  | .sampclkGate _ => true
  | .sampclkStop => true
  | .lrefGate j _ => decide (j < 4)
  | .clkSampWait => true
  | .aoWatchdog => true
  | .sioFail => true
  | .chipReset _ w => decide (w < 2 ^ 32)
  | .coreReset _ w => decide (w < 2 ^ 32)
  | .ladderStep => true
  | .domainSupplyGood n => decide (n < 82)
  | .domainFault n _ => decide (n < 82)
  | .pwrRetry _ n w => decide (n < 82) && decide (w < 2 ^ 32)
  | .spGateTimer n => decide (n < 36)
  | .linkQuarterIdle q => decide (q < 8)
  | .thermalEval => true
  | .throttleStep => true
  | .shutdownProgramEnd _ => true
  | .thermalTrip => true
  | .restart _ w => decide (w < 2 ^ 32)
  | .autoRestart => true
  | .pwrClrCnt _ w => decide (w < 2 ^ 32)
  | .governorRound => true
  | .ageMeasure n _ => decide (n < 8)
  | .eventRaise code index arg => decide (code < 512) && decide (index < 2 ^ 16) && decide (arg < 2 ^ 64)
  | .ringWrite => true
  | .tokenRefill code => decide (code < 512)
  | .evtCodeWrite _ c w => decide (c < 512) && decide (w < 2 ^ 32)
  | .timeResume _ => true
  | .archiveReread => true
  | .anchorWrite => true
  | .archiveProgram => true
  | .archiveProgramDone _ _ => true
  | .archRead _ w => decide (w < 2 ^ 32)
  | .archReadDone _ => true
  | .calendarSet _ w => decide (w < 2 ^ 32)
  | .nonceReq _ w => decide (w < 2 ^ 32)
  | .nonceExpiry => true
  | .clearGo _ w => decide (w < 2 ^ 32)
  | .clearDone => true
  | .evtClrCnt _ w => decide (w < 2 ^ 32)
  | .bar2Access x _ _ data ecc _ => decide (x < 2 ^ 30) && octetsOk data && decide (ecc < 3)
  | .hostLinkChange st gen _ _ => decide (st < 5) && decide (gen < 4)
  | .pcieLinkDown st => decide (st < 4)
  | .hostHoldExpiry => true
  | .smpTake _ w => decide (w < 2 ^ 32)
  | .dmaRun _ c w desc => decide (c < 8) && decide (w < 2 ^ 32) && octetsOk desc
  | .dmaAbort _ c w => decide (c < 8) && decide (w < 2 ^ 32)
  | .dmaDescriptorDone c host _ err _ next => decide (c < 8) && octetsOk host && decide (err < 3) && octetsOk next
  | .memReady cap => decide (cap < 4)
  | .scrubStep ecc => decide (ecc < 3)
  | .hifClrCnt _ w => decide (w < 2 ^ 32)
  | .usbConfigure st => decide (st < 3)
  | .usbRead magic tag a len => decide (magic < 2 ^ 16) && decide (tag < 256) && decide (a < 2 ^ 32) && decide (len < 2 ^ 32)
  | .usbWrite magic tag a len w => decide (magic < 2 ^ 16) && decide (tag < 256) && decide (a < 2 ^ 32) && decide (len < 2 ^ 32) && decide (w < 2 ^ 64)
  | .usbMemWrite magic tag a len data => decide (magic < 2 ^ 16) && decide (tag < 256) && decide (a < 2 ^ 32) && decide (len < 2 ^ 32) && octetsOk data
  | .usbMemRead magic tag a len ecc _ => decide (magic < 2 ^ 16) && decide (tag < 256) && decide (a < 2 ^ 32) && decide (len < 2 ^ 32) && decide (ecc < 3)
  | .usbEvtRead magic tag len data => decide (magic < 2 ^ 16) && decide (tag < 256) && decide (len < 2 ^ 32) && decide (data < 2 ^ 64)
  | .usbBadOp magic tag op => decide (magic < 2 ^ 16) && decide (tag < 256) && decide (op < 256)
  | .smpFrame l => octetsOk l
  | .smpNop => true
  | .smpRead32 => true
  | .smpRead64 => true
  | .smpWrite32 => true
  | .smpWrite64 => true
  | .smpMemRead64 ecc => decide (ecc < 3)
  | .smpMemWrite64 => true
  | .smpBadOp => true
  | .smpRequestDone => true
  | .smpClrCnt _ w => decide (w < 2 ^ 32)
  | .mbPost _ k w => decide (k < 16) && decide (w < 2 ^ 32)
  | .mbAccept k => decide (k < 16)
  | .mbPostTimeout k => decide (k < 16)
  | .mbResponse k _ _ => decide (k < 16)
  | .mbAck _ k w => decide (k < 16) && decide (w < 2 ^ 32)
  | .mbRelease _ k w => decide (k < 16) && decide (w < 2 ^ 32)
  | .flashRead _ w => decide (w < 2 ^ 32)
  | .flashProgram _ w => decide (w < 2 ^ 32)
  | .flashErase _ w => decide (w < 2 ^ 32)
  | .flashOpDone _ => true
  | .otpGo _ w => decide (w < 2 ^ 32)
  | .otpProgDone _ => true
  | .sampclkReturn => true
  | .registerRead _ a _ => decide (a < 2 ^ 32)
  | .spiReadDone t _ => decide (t < 8)

end Sys2Proof
end

