-- ==== Sys2Proof/Safety.lean ====
section
/-! DEFINITION. The terms that statements about the block use: register regions, what a change leaves alone, and the form that every step keeps. -/

namespace Sys2Proof.Machine

/-- From `d` to `e` every register field whose bit address lies outside `P` keeps its value. -/
def Dev.Changes (P : Nat → Prop) (d e : Dev) : Prop :=
  ∀ (f : Fld) (i j k : Nat), ¬ P (f.key i j k) → e.rd f i j k = d.rd f i j k

/-- The bit address lies in one of the 1 MiB regions of BAR0 named (R10, R11). -/
def inRegions (rs : List Nat) (n : Nat) : Prop := n / 0x800000 ∈ rs

/-- The bit addresses of the recorder's status, counts and tokens: what an event record may change. -/
def evtBits (n : Nat) : Prop := 0x2800040 ≤ n ∧ n < 0x281C000

/-- The bit addresses of the access log and of the pending interrupt bits: what a failed access may change beside
`evtBits`. -/
def accBits (n : Nat) : Prop := (0x3800060 ≤ n ∧ n < 0x38000A0) ∨ (0x3848000 ≤ n ∧ n < 0x3848040)

/-- The write of word `w` over path `p` to a register is let through (R12, R818, R845, R902). -/
abbrev Dev.Admits (d : Dev) (p : Path) (h : Hit) (w : Nat) : Prop := d.judge h p w = 0

/-- The form that the memories keep: addresses strictly rising, no entry equal to the blank byte. -/
abbrev State.Formed (s : State) : Prop := Memory.wf s.mem = true

/-- Entry `n` of orbit `i` waits with action `a` as `q` says, its sample is reached, the orbit is timed, the scheduler is
enabled, it is the next to be taken, and no internal transit of its class or a lower one goes first; this sample has room for
it and has served nothing of its action (R127, R134, R138, R142 to R144). -/
abbrev Dev.Serves (d : Dev) (i n a : Nat) (q : TrnDue) : Prop :=
  i < 2 ∧ n < 192 ∧ tabFind (d.orb i).due n = some q ∧ q.moved = none ∧ d.rd F.TRN_ENT0_ACTION i n = a ∧
  d.trnDue i n q = true ∧ d.orbState i ≠ 0 ∧ d.rd F.TRN_CTL_EN i = 1 ∧ d.trnFirst i n q = true ∧
  d.internalDue i (trnClass a) = false ∧
  ((d.orb i).slotAt = (d.orb i).pos → (d.orb i).slotCount < 4 ∧ ∀ x, x ∈ (d.orb i).slotDone → x.1 ≠ a)

/-- `MLD_CTL` after a write with command `cmd` has stored its fields (R81), before the command acts. -/
def State.mldStored (s : State) (p : Path) (cmd w : Nat) : State :=
  s.onDev (fun d => d.putHit p (hit .MLD_CTL RD.MLD_CTL) (withBits w 0 4 cmd))

end Sys2Proof.Machine
end

