-- ==== Sys2Proof/Certificates/Slice0/Obligations.lean ====
section
/-! DEFINITION. What is stated about the block, for proof: every family of commands, by chapter of the spec. -/

open Sys2Proof Sys2Proof.Machine

/-! ### The block as a whole -/

/-- One step runs the command at the front of the queue on the state whose queue is the rest. On an empty queue one sample of
time passes (the model's choice, log entry 2): the sample count rises and nothing else of the memories or the queue changes. -/
def Obligations.StepRunsTheFrontCommand : Prop :=
  (∀ (c : Instr) (rest : List Instr) (s : State), s.pending = c :: rest → step s = exec c { s with pending := rest }) ∧
  (∀ s : State, s.pending = [] → ∃ t, step s = .next t ∧ t.pending = [] ∧ t.mem = s.mem ∧ t.dev.now = s.dev.now + 1 ∧
    (s.dev.coreOn = false → s.dev.pwr.gating = [] → t.dev.regs = s.dev.regs))

/-- Every command that a sender can form runs in every state: it answers a next state, and the commands that wait behind it
stay as they are. -/
def Obligations.EveryWellFormedCommandRunsAndKeepsTheQueue : Prop :=
  ∀ (c : Instr) (s : State), c.wellFormed = true → ∃ t, exec c s = .next t ∧ t.pending = s.pending

/-- R48 to R50, R828, R848: whatever the step, SDRAM and flash keep their form: addresses strictly rising, no entry equal to
what an unlisted address reads as. -/
def Obligations.EveryStepKeepsTheFormOfTheMemories : Prop :=
  ∀ s t : State, s.Formed → step s = .next t → t.Formed

/-- R15, R707, R721: right after reset every register reads its reset value, the controller is in *AO_ONLY*, the compute die
is off, the power-on cause is set, no command waits, and the memories have their form. Where the spec states no reset value
the value is the model's (log entries 3 and 4). -/
def Obligations.ResetLeavesResetValues : Prop :=
  State.reset.Formed ∧ State.reset.pending = [] ∧ State.reset.dev.boot = 0 ∧ State.reset.dev.coreOn = false ∧
  State.reset.dev.rd F.CLK_RST_CAUSE_POR = 1 ∧ State.reset.dev.rd F.CLK_STS_REF_SEL = 2 ∧
  (∀ n, State.reset.dev.domOn n = false) ∧
  ∀ (f : Fld) (i j k : Nat), State.reset.dev.rd f i j k = f.rst i j k % 2 ^ f.w

/-- R12, R706, R708, R814, R815, R818: a write to a register whose domain is off, gated or in reset ends `DOMAIN_OFF`, one by
a master that does not own the block ends `NOT_OWNER`; either is logged and has no other effect, whatever the command asks. -/
def Obligations.RefusedWritesAreLoggedAndChangeNothing : Prop :=
  ∀ (p : Path) (i w v : Nat) (c : Instr) (h : Hit) (s : State),
    ((c = .permit p w ∧ h = hit .CLK_CTL RD.CLK_CTL ∧ v = withBits w 6 1 1) ∨
     (c = .clkClrCnt p w ∧ h = hit .CLK_CTL RD.CLK_CTL ∧ v = withBits w 0 1 1) ∨
     (c = .xtalCfgWrite p i w ∧ h = xtReg i ∧ v = w ∧ i < 2) ∨
     (c = .chipReset p w ∧ h = hit .CLK_RST_CTL RD.CLK_RST_CTL ∧ v = withBits w 1 1 1) ∨
     (c = .coreReset p w ∧ h = hit .CLK_RST_CTL RD.CLK_RST_CTL ∧ v = withBits w 0 1 1) ∨
     (c = .restart p w ∧ h = hit .PWR_CTL RD.PWR_CTL ∧ v = withBits w 1 1 1) ∨
     (c = .pwrRetry p i w ∧ h = hit .PWR_DOM RD.PWR_DOM i ∧ v = withBits w 31 1 1 ∧ i < 82) ∨
     (c = .regGo p w ∧ h = hit .HK_GO RD.HK_GO ∧ v = w % 16) ∨
     (c = .injGo p w ∧ h = hit .HK_GO RD.HK_GO ∧ v = w % 16 * 16) ∨
     (c = .wmEnable p i w ∧ h = hit .WM_CFG RD.WM_CFG i ∧ v = w ∧ i < 16) ∨
     (c = .wmThrWrite p i w ∧ h = hit .WM_THR RD.WM_THR i ∧ v = w ∧ i < 16) ∨
     (c = .prtReenable p w ∧ h = hit .PRT_REENABLE RD.PRT_REENABLE ∧ v = withBits w 31 1 1) ∨
     (c = .prtClrCnt p w ∧ h = hit .PRT_CTL RD.PRT_CTL ∧ v = withBits w 7 1 1) ∨
     (c = .coefCommit p w ∧ h = hit .CE_CTL RD.CE_CTL ∧ v = withBits w 2 1 1) ∨
     (c = .ceRunWrite p w ∧ h = hit .CE_CTL RD.CE_CTL ∧ v = w) ∨
     (c = .lcxEnWrite p i w ∧ h = hit .LCX0 RD.LCX0 i ∧ v = w ∧ i < 524288) ∨
     (c = .pendingGainWrite p i w ∧ h = hit .TIL_PEND RD.TIL_PEND i ∧ v = w ∧ i < 262144) ∨
     (c = .tilManualWrite p i w ∧ h = hit .TIL_STREAM RD.TIL_STREAM i ∧ v = w ∧ i < 2048) ∨
     (c = .slcClrCnt p w ∧ h = hit .SLC_CTL RD.SLC_CTL ∧ v = withBits w 0 1 1) ∨
     (c = .realign p i w ∧ h = hit .SLC_DSLICE RD.SLC_DSLICE i ∧ v = withBits w 8 1 1 ∧ i < 16) ∨
     (c = .meaSwap p i w ∧ h = hit .MEA_PRESET RD.MEA_PRESET i ∧ v = withBits w 6 1 1 ∧ i < 2080) ∨
     (c = .captureStart p i w ∧ h = hit .MEA_CAP3 RD.MEA_CAP3 i ∧ v = withBits w 0 1 1 ∧ i < 16) ∨
     (c = .sysrefArm p w ∧ h = hit .DON_CTL RD.DON_CTL ∧ v = withBits w 6 1 1) ∨
     (c = .donLinkCfgWrite p i w ∧ h = hit .DON_LINK_CFG RD.DON_LINK_CFG i ∧ v = w ∧ i < 8) ∨
     (c = .laneEnableWrite p i w ∧ h = hit .LNK_CTL RD.LNK_CTL i ∧ v = w ∧ i < 128) ∨
     (c = .protReqWrite p i w ∧ h = hit .LNK_PROT RD.LNK_PROT i ∧ v = w ∧ i < 64) ∨
     (c = .orbCtlWrite p i w ∧ h = hit .ORB_CTL RD.ORB_CTL i ∧ v = w ∧ i < 2) ∨
     (c = .fesEnWrite p i w ∧ h = hit .FES_CTL RD.FES_CTL i ∧ v = w ∧ i < 8) ∨
     (c = .evtCodeWrite p i w ∧ h = hit .EVT_CODE RD.EVT_CODE i ∧ v = w ∧ i < 512) ∨
     (c = .evtClrCnt p w ∧ h = hit .EVT_CTL RD.EVT_CTL ∧ v = withBits w 0 1 1) ∨
     (c = .hifClrCnt p w ∧ h = hit .HIF_CTL RD.HIF_CTL ∧ v = withBits w 0 1 1)) →
    (s.dev.judge h p v ≠ 0 →
      exec c s = .next (s.onDev (fun d => d.fail p h.addr (s.dev.judge h p v)))) ∧
    (s.dev.clk.resetLow = true ∨ (h.desc.ao = false ∧ (s.dev.coreOn = false ∨ s.dev.gated = true)) →
      s.dev.judge h p v = 1) ∧
    (s.dev.clk.resetLow = false → (h.desc.ao = true ∨ (s.dev.coreOn = true ∧ s.dev.gated = false)) →
      mixedReg h.reg = false → h.desc.lock = true → s.dev.governor h ≠ masterOf p → s.dev.judge h p v = 3) ∧
    (∀ st, s.dev.Changes (fun n => evtBits n ∨ accBits n) (s.dev.fail p h.addr st))

/-! ### Chapter 1: the mould, loads and migrations -/

/-- R49, R64 to R66, R68, R72, R74, R75, R81: the loader's commands start a load from the states that allow them, and act; elsewhere
they are refused or ignored. -/
def Obligations.LoaderCommandsStartLoadsAndAct : Prop :=
  ((∀ (p : Path) (w : Nat) (s : State), s.dev.Admits p (hit .MLD_CTL RD.MLD_CTL) (withBits w 0 4 1) → s.dev.boot = 9 →
     s.dev.cmdBusy = false → bitAt w 5 = false →
     ∃ t, exec (.loadFlash p w) s = .next t ∧
       s.dev.Changes (fun n => inRegions [1, 6] n ∨ evtBits n ∨ accBits n) t.dev ∧
       t.mem = s.mem ∧ t.dev.boot = 3 ∧ t.dev.mld.source = bits w 4 1 ∧
       t.dev.mld.fallback = false ∧ t.dev.mld.commanded = true ∧ t.dev.hif.cpl = ⟨0, 0⟩) ∧
   (∀ (p : Path) (w : Nat) (s : State), s.dev.Admits p (hit .MLD_CTL RD.MLD_CTL) (withBits w 0 4 1) → s.dev.boot ≠ 9 →
     ∃ t, exec (.loadFlash p w) s = .next t ∧
       s.dev.Changes (fun n => inRegions [6] n ∨ evtBits n ∨ accBits n) t.dev ∧
       t.mem = s.mem ∧ t.dev.boot = s.dev.boot ∧ t.dev.mld = s.dev.mld ∧
       t.dev.rd F.MLD_ERR_CODE = 0x0E ∧ t.dev.rd F.MLD_ERR_NEW = 1) ∧
   (∀ (p : Path) (w : Nat) (s : State), s.dev.Admits p (hit .MLD_CTL RD.MLD_CTL) (withBits w 0 4 2) → s.dev.boot = 9 →
     s.dev.loadBlocked = false →
     ∃ t, exec (.loadStaged p w) s = .next t ∧
       s.dev.Changes (fun n => inRegions [1, 6] n ∨ evtBits n ∨ accBits n) t.dev ∧
       t.mem = s.mem ∧ t.dev.boot = 3 ∧
       t.dev.mld.source = (if s.dev.mld.usbStaged then 3 else 2) ∧ t.dev.mld.fallback = false ∧ t.dev.hif.cpl = ⟨0, 0⟩) ∧
   (∀ (p : Path) (w : Nat) (s : State), s.dev.Admits p (hit .MLD_CTL RD.MLD_CTL) (withBits w 0 4 4) →
     5 ≤ s.dev.boot → s.dev.boot ≤ 8 → s.dev.loadBlocked = false → s.dev.noTransit = false →
     ∃ t, exec (.reload p w) s = .next t ∧
       (s.dev.mld.migs = [] → s.dev.Changes (fun n => inRegions [6] n ∨ evtBits n ∨ accBits n) t.dev) ∧
       t.mem = s.mem ∧ t.dev.boot = s.dev.boot ∧
       t.dev.mld.restart = some s.mem.dir.preferred ∧ t.dev.mld.delta = none ∧
       t.dev.rd F.MLD_REMOULD_STS_PHASE = 0 ∧ t.dev.rd F.MLD_REMOULD_STS_STREAMS_PENDING = 0 ∧ t.dev.hif.cpl = ⟨0, 0⟩)) ∧
  ((∀ (p : Path) (w : Nat) (s : State), s.dev.Admits p (hit .MLD_CTL RD.MLD_CTL) (withBits w 0 4 3) →
     5 ≤ s.dev.boot → s.dev.boot ≠ 10 → s.dev.flag F.HIF_MEM_STS_READY = true → s.dev.cmdBusy = false →
     (s.mldStored p 3 w).dev.imgCheck s.mem.otp .slot ((s.mldStored p 3 w).dev.stagedLen 2) none
       ((s.mldStored p 3 w).imageOctets 2) = none →
     ∃ t, exec (.writeSlot p w) s = .next t ∧
       s.dev.Changes (fun n => inRegions [6] n ∨ evtBits n ∨ accBits n) t.dev ∧
       t.mem = s.mem ∧ t.dev.mld = { s.dev.mld with checking := 3 } ∧
       t.dev.hif.cpl = ⟨0, 0⟩) ∧
   (∀ (p : Path) (w : Nat) (s : State), s.dev.Admits p (hit .MLD_CTL RD.MLD_CTL) (withBits w 0 4 6) →
     s.dev.boot = 8 → s.dev.cmdBusy = false →
     (s.mldStored p 6 w).dev.imgCheck s.mem.otp .delta ((s.mldStored p 6 w).dev.stagedLen 2) none
       ((s.mldStored p 6 w).imageOctets 2) = none →
     ∃ t, exec (.remould p w) s = .next t ∧
       s.dev.Changes (fun n => inRegions [6] n ∨ evtBits n ∨ accBits n) t.dev ∧
       t.mem = s.mem ∧ t.dev.mld = { s.dev.mld with checking := 6 } ∧
       t.dev.hif.cpl = ⟨0, 0⟩) ∧
   (∀ (p : Path) (w : Nat) (s : State), s.dev.Admits p (hit .MLD_CTL RD.MLD_CTL) (withBits w 0 4 5) → s.dev.boot = 8 →
     s.dev.flag F.MLD_STS_TRIAL = true → s.mem.dir.trial = 1 → s.mem.dir.preferred = s.dev.mld.activeSource →
     ∃ t, exec (.confirm p w) s = .next t ∧
       s.dev.Changes (fun n => inRegions [6, 7] n ∨ evtBits n ∨ accBits n) t.dev ∧
       t.dev.rd F.MLD_STS_TRIAL = 0 ∧
       t.mem.otp.rollback = max s.mem.otp.rollback s.dev.mld.secLevel ∧ t.mem.sdram = s.mem.sdram ∧
       t.dev.hif.cpl = ⟨0, 0⟩) ∧
   (∀ (p : Path) (w : Nat) (s : State), s.dev.Admits p (hit .MLD_CTL RD.MLD_CTL) (withBits w 0 4 7) →
     s.dev.mld.checking = 6 →
     ∃ t, exec (.abort p w) s = .next t ∧ t.mem = s.mem ∧ t.dev.mld.checking = 0 ∧ t.dev.mld.delta = none ∧
       t.dev.rd F.MLD_REMOULD_STS_PHASE = 0 ∧ t.dev.rd F.MLD_REMOULD_STS_STREAMS_PENDING = 0 ∧ t.dev.hif.cpl = ⟨0, 0⟩) ∧
   (∀ (p : Path) (w : Nat) (s : State), s.dev.Admits p (hit .MLD_CTL RD.MLD_CTL) (withBits w 0 4 8) →
     (s.dev.boot = 6 → ∃ t, exec (.go p w) s = .next t ∧
       s.dev.Changes (fun n => inRegions [6] n ∨ evtBits n ∨ accBits n) t.dev ∧
       t.mem = s.mem ∧ t.dev.mld = { s.dev.mld with permit := true }) ∧
     (2 ≤ s.dev.boot → s.dev.boot ≤ 5 →
       ∃ t, exec (.go p w) s = .next t ∧
         s.dev.Changes (fun n => inRegions [6] n ∨ evtBits n ∨ accBits n) t.dev ∧
         t.mem = s.mem ∧ t.dev.mld = { s.dev.mld with permitHeld := true })) ∧
   (∀ (p : Path) (cmd w : Nat) (s : State), 9 ≤ cmd → cmd ≤ 15 →
     s.dev.Admits p (hit .MLD_CTL RD.MLD_CTL) (withBits w 0 4 cmd) →
     exec (.cmdReserved p cmd w) s = .next ((s.mldStored p cmd w).onDev (fun d => d.complete 0))))

/-- R61 to R70: bring-up goes from state to state as each of its works is done. -/
def Obligations.BringUpGoesOn : Prop :=
  (∀ (s : State), s.dev.boot = 2 → s.dev.coreOn = true → s.dev.refOk = true → s.dev.bringupGoes = true →
    s.mem.dir.trial = 0 →
    ∃ t, exec .coreWakeDone s = .next t ∧
      s.dev.Changes (fun n => inRegions [1, 6, 7] n ∨ evtBits n) t.dev ∧
      t.mem = s.mem ∧ t.dev.boot = 3 ∧ t.dev.mld.source = s.mem.dir.preferred ∧
      t.dev.mld.fallback = true) ∧
  (∀ (body : ImageBody) (s : State), s.dev.boot = 3 → s.dev.mld.loadAbandoned = false → s.dev.bringupGoes = true →
    s.dev.imgCheck s.mem.otp .load (s.dev.stagedLen s.dev.mld.source) none (s.imageOctets s.dev.mld.source) = none →
    s.dev.imgLimits (s.imageOctets s.dev.mld.source) (imgBody (s.imageOctets s.dev.mld.source) body) = 0 →
    exec (.imageLoadDone body none) s =
      .next ((s.readCounted s.dev.mld.source).loadPass (s.imageOctets s.dev.mld.source)
        (imgBody (s.imageOctets s.dev.mld.source) body))) ∧
  (∀ (body : ImageBody) (code sect : Nat) (s : State), s.dev.boot = 3 → s.dev.mld.loadAbandoned = false →
    s.dev.bringupGoes = true → s.dev.mld.fallback = false →
    s.dev.imgCheck s.mem.otp .load (s.dev.stagedLen s.dev.mld.source) none (s.imageOctets s.dev.mld.source) =
      some (code, sect) →
    ∃ t, exec (.imageLoadDone body none) s = .next t ∧
      s.dev.Changes (fun n => inRegions [1, 2, 6] n ∨ evtBits n ∨ accBits n) t.dev ∧
      t.mem = s.mem ∧ t.dev.boot = 9 ∧
      t.dev.rd F.MLD_ERR_CODE = code % 2 ^ F.MLD_ERR_CODE.w ∧ t.dev.mld.plan = s.dev.mld.plan) ∧
  (∀ (s : State), s.dev.boot = 4 → s.dev.bringupGoes = true → s.dev.mld.loadAbandoned = false →
    s.dev.rd F.CLK_STS_SAMP_STATE = 2 →
    ∃ t, exec .applyDone s = .next t ∧ t.mem = s.mem ∧ t.dev.boot = 5) ∧
  (∀ (s : State), s.dev.boot = 5 → s.dev.bringupGoes = true → s.dev.flag F.CLK_STS_SAFE = false →
    ∃ t, exec .linkUpDone s = .next t ∧
      s.dev.Changes (fun n => inRegions [1] n ∨ evtBits n) t.dev ∧
      t.mem = s.mem ∧ t.dev.boot = 6 ∧
      t.dev.mld.permit = (s.dev.mld.permit || s.dev.mld.permitHeld || s.dev.flag F.MLD_STS_HOSTLESS) ∧
      t.dev.mld.permitHeld = false ∧ t.dev.mld.waitOver = false ∧ t.dev.mld.waitAt = s.dev.now) ∧
  (∀ (s : State), s.dev.boot = 6 → s.dev.bringupGoes = true → s.dev.flag F.CLK_STS_SAFE = false →
    s.dev.mld.permit = true → s.dev.orbitsLocked = true →
    exec .orbitWaitDone s = .next (s.onDev Dev.surveyEnter)) ∧
  (∀ (s : State), s.dev.boot = 6 → s.dev.mld.permit = false →
    122880 * s.dev.mld.body.orbitWaitMs ≤ s.dev.now - s.dev.mld.waitAt →
    exec .orbitWaitLimitExpiry s =
      .next (s.onDev (fun d => { d with mld := { d.mld with waitOver := true } }))) ∧
  (∀ (s : State), s.dev.boot = 8 → s.dev.flag F.CLK_STS_SAFE = false →
    122880000 * s.dev.mld.body.confirmTime ≤ s.dev.now - s.dev.mld.stateAt → bitAt s.dev.mld.flags 1 = true →
    exec .confirmTimeExpiry s = .next s.confirmImage) ∧
  (∀ (j : FlashJob) (k : Nat) (l : List Nat) (s : State), s.dev.hif.flashJobs = [j] → s.dev.mld.writing = some (k, l) →
    j.slot = true → j.begun = true →
    ∃ t, exec (.slotProgramDone true) s = .next t ∧
      s.dev.Changes (fun n => inRegions [6] n ∨ evtBits n) t.dev ∧
      t.dev.hif.flashJobs = [] ∧ t.dev.mld.writing = none ∧
      t.dev.rd F.MLD_STS_TRIAL = 0 ∧ t.mem.sdram = s.mem.sdram ∧ t.mem.otp = s.mem.otp)

/-- R44 to R49, R78: a migration goes from step to step; the stream's placement moves at the switch only. -/
def Obligations.MigrationGoesStepByStep : Prop :=
  (∀ (m sp : Nat) (s : State), m < 2080 → sp < 36 → tabFind s.dev.mld.migs m = none → s.dev.has m = true →
    s.dev.spFailed sp = false → s.dev.spOf m ≠ sp → s.dev.spRoom m sp = true →
    ∃ t, exec (.migrationRequest m sp) s = .next t ∧
      s.dev.Changes (fun n => inRegions [2, 6] n ∨ evtBits n) t.dev ∧
      t.mem = s.mem ∧
      tabFind t.dev.mld.migs m = some { phase := 1 } ∧ t.dev.rd F.MLD_PLACE_SHADOW m = 1 ∧
      t.dev.rd F.MLD_PLACE_SHADOW_SP m = sp ∧ t.dev.spOf m = s.dev.spOf m) ∧
  (∀ (m sp : Nat) (g : Mig) (s : State), m < 2080 → sp < 36 → tabFind s.dev.mld.migs m = some g →
    ∃ t, exec (.migrationRequest m sp) s = .next t ∧
      s.dev.Changes (fun n => inRegions [6] n ∨ evtBits n) t.dev ∧
      t.mem = s.mem ∧ t.dev.mld = s.dev.mld ∧
      t.dev.rd F.MLD_ERR_CODE = 0x0E) ∧
  (∀ (m : Nat) (g : Mig) (s : State), m < 2080 → tabFind s.dev.mld.migs m = some g → g.phase = 1 ∨ g.phase = 7 →
    s.dev.domOn (6 + s.dev.rd F.MLD_PLACE_SHADOW_SP m) = true →
    ∃ t, exec (.migShadowStart m) s = .next t ∧ s.dev.Changes (inRegions [6]) t.dev ∧ t.mem = s.mem ∧
      tabFind t.dev.mld.migs m = some { g with phase := g.phase + 1, since := s.dev.now } ∧ t.dev.spOf m = s.dev.spOf m) ∧
  (∀ (m : Nat) (g : Mig) (s : State), m < 2080 → tabFind s.dev.mld.migs m = some g → g.phase = 2 ∨ g.phase = 8 →
    s.dev.shadowTime m ≤ s.dev.now - g.since →
    ∃ t, exec (.migShadowEnd m) s = .next t ∧ s.dev.Changes (inRegions [6]) t.dev ∧ t.mem = s.mem ∧
      tabFind t.dev.mld.migs m = some { g with phase := g.phase + 1, since := s.dev.now } ∧ t.dev.spOf m = s.dev.spOf m) ∧
  (∀ (m : Nat) (g : Mig) (s : State), m < 2080 → tabFind s.dev.mld.migs m = some g → g.phase = 3 →
    122880 * s.dev.mld.body.migWaitMs ≤ s.dev.now - g.since →
    ∃ t, exec (.migWaitExpiry m) s = .next t ∧ s.dev.Changes (inRegions [6]) t.dev ∧ t.mem = s.mem ∧
      tabFind t.dev.mld.migs m = some { g with phase := 4 } ∧ t.dev.spOf m = s.dev.spOf m) ∧
  (∀ (m stale : Nat) (g : Mig) (s : State), m < 2080 → tabFind s.dev.mld.migs m = some g →
    s.dev.migMay m g.phase = true → s.dev.classWaits (s.dev.orbitOf m) 4 = false →
    ∃ t, exec (.migSwitch m stale) s = .next t ∧ s.dev.Changes (inRegions [6]) t.dev ∧ t.mem = s.mem ∧
      tabFind t.dev.mld.migs m = some { phase := 5, oldSp := s.dev.spOf m } ∧
      t.dev.spOf m = s.dev.rd F.MLD_PLACE_SHADOW_SP m ∧
      t.dev.rd F.MLD_PLACE_EPOCH m = (s.dev.rd F.MLD_PLACE_EPOCH m + 1) % 2 ^ F.MLD_PLACE_EPOCH.w ∧
      t.dev.rd F.MLD_DISCARD_CNT_COUNT =
        satNat F.MLD_DISCARD_CNT_COUNT.w (s.dev.rd F.MLD_DISCARD_CNT_COUNT + stale)) ∧
  (∀ (m : Nat) (g : Mig) (s : State), m < 2080 → tabFind s.dev.mld.migs m = some g → g.phase = 5 →
    ∃ t, exec (.migRelease m) s = .next t ∧
      s.dev.Changes (inRegions [6]) t.dev ∧
      t.mem = s.mem ∧ tabFind t.dev.mld.migs m = none ∧
      t.dev.rd F.MLD_PLACE_SHADOW m = 0 ∧ t.dev.rd F.MLD_PLACE_SHADOW_SP m = 0 ∧ t.dev.spOf m = s.dev.spOf m) ∧
  (∀ (x : Delta) (s : State), s.dev.mld.delta = some x → x.held = true → s.dev.deltaHeld x = false →
    s.dev.noTransit = false →
    exec .deltaResume s =
      .next (s.onDev (fun d => ({ d with mld := { d.mld with delta := some { x with held := false } } } : Dev).deltaMoves)))

/-! ### Chapter 2: orbits and transits -/

/-- R107, R108: a measurement of a donor source is tracked while *LOCKED*; the third in a row outside the window, and a
missing one, lead to *HOLDOVER*; enough that agree lead from *LEARN* to *LOCKED* with one step. -/
def Obligations.MeasurementsLockAndTrackAnOrbit : Prop :=
  (∀ (i : Nat) (l : List SyncCell) (c : SyncCell) (e : Int) (s : State), i < 2 → s.dev.orbState i = 2 → s.dev.orbSrc i = 1 →
    s.dev.donorLinkUp (s.dev.rd F.ORB_CTL_SRC_SLICE i) = true → s.dev.cellOf i l = some c →
    e = wrapErr (16 * s.dev.rdS F.ORB_REF_OFS_OFFSET i - cellBoundary true c) →
    (absI e ≤ 16 * (min (s.dev.lockWin i) (s.dev.slewMax i) : Nat) →
      ∃ t, exec (.orbMeasurement i l) s = .next t ∧ t.mem = s.mem ∧ t.dev.orbState i = 2 ∧
        (t.dev.orb i).outside = 0 ∧ (t.dev.orb i).slew = divNear e 16 ∧ (t.dev.orb i).cell = some c.pci ∧
        (t.dev.orb i).measAt = s.dev.now ∧ t.dev.rdS F.ORB_ERR_PHASE_ERR i = satSigned 16 e ∧
        t.dev.rd F.ORB_STS_PCI i = c.pci % 1024 ∧ t.dev.rd F.ORB_STS_SFN i = c.sfn % 1024 ∧
        s.dev.Changes (inRegions [4]) t.dev) ∧
    ((16 * (min (s.dev.lockWin i) (s.dev.slewMax i) : Nat) : Int) < absI e → (s.dev.orb i).outside ≠ 2 →
      ∃ t, exec (.orbMeasurement i l) s = .next t ∧ t.mem = s.mem ∧ t.dev.orbState i = 2 ∧
        (t.dev.orb i).outside = (s.dev.orb i).outside + 1 ∧ (t.dev.orb i).slew = (s.dev.orb i).slew ∧
        s.dev.Changes (inRegions [4]) t.dev) ∧
    ((16 * (min (s.dev.lockWin i) (s.dev.slewMax i) : Nat) : Int) < absI e → (s.dev.orb i).outside = 2 →
      ∃ t, exec (.orbMeasurement i l) s = .next t ∧ t.mem = s.mem ∧ t.dev.orbState i = 3 ∧
        t.dev.rd F.ORB_STS_CAUSE i = 2 ∧
        t.dev.rd F.ORB_CNT_HOLDOVERS i = satNat F.ORB_CNT_HOLDOVERS.w (s.dev.rd F.ORB_CNT_HOLDOVERS i + 1) ∧
        s.dev.Changes (fun n => inRegions [4] n ∨ evtBits n) t.dev)) ∧
  (∀ (i : Nat) (l : List SyncCell) (c : SyncCell) (e f : Int) (run : List (Nat × Int)) (s : State), i < 2 →
    s.dev.orbState i = 1 → s.dev.orbSrc i = 1 ∨ s.dev.orbSrc i = 2 →
    s.dev.donorLinkUp (s.dev.rd F.ORB_CTL_SRC_SLICE i) = true → s.dev.cellOf i l = some c →
    e = wrapErr (16 * s.dev.rdS F.ORB_REF_OFS_OFFSET i - cellBoundary (s.dev.orbSrc i == 1) c) →
    run = lastOf (s.dev.lockCount i) ((s.dev.orb i).hist ++
      [(s.dev.now, wrapErr (16 * ((s.dev.orbPos i : Int) - s.dev.now) + e))]) →
    run.length = s.dev.lockCount i → fitAgrees (fitPoints run) (16 * s.dev.lockWin i) = true →
    fitFreq (fitPoints run) = some f → -freqLimit ≤ f → f ≤ freqLimit →
    ∃ t, exec (.orbMeasurement i l) s = .next t ∧ t.mem = s.mem ∧ t.dev.orbState i = 2 ∧
      t.dev.rdS F.ORB_FREQ_FREQ i = f ∧ (t.dev.orb i).cell = some c.pci ∧
      t.dev.rd F.ORB_CNT_STEPS i = satNat F.ORB_CNT_STEPS.w (s.dev.rd F.ORB_CNT_STEPS i + 1) ∧
      (t.dev.orbPos i : Int) = ((s.dev.orbPos i : Int) + divNear e 16) % (orbitSpan : Int)) ∧
  (∀ (i : Nat) (s : State), i < 2 → s.dev.measLate i = false → exec (.measurementMissing i) s = .next s) ∧
  (∀ (i : Nat) (s : State), i < 2 → s.dev.orbSrc i ≠ 0 → s.dev.measLate i = true →
    (s.dev.orbState i = 2 →
      ∃ t, exec (.measurementMissing i) s = .next t ∧ t.mem = s.mem ∧ t.dev.orbState i = 3 ∧
        t.dev.rd F.ORB_STS_CAUSE i = 1 ∧
        t.dev.rd F.ORB_CNT_HOLDOVERS i = satNat F.ORB_CNT_HOLDOVERS.w (s.dev.rd F.ORB_CNT_HOLDOVERS i + 1) ∧
        s.dev.Changes (fun n => inRegions [4] n ∨ evtBits n) t.dev) ∧
    (s.dev.orbState i = 1 ∨ s.dev.orbState i = 4 →
      ∃ t, exec (.measurementMissing i) s = .next t ∧ t.mem = s.mem ∧ t.dev.regs = s.dev.regs ∧
        (t.dev.orb i).hist = [] ∧ (t.dev.orb i).outside = 0)) ∧
  (∀ (i : Nat) (falling : Bool) (s : State), i < 2 → firstBelow 2 (fun j => (s.dev.orb j).pin) = some i →
    falling = s.dev.flag F.ORB_SYNC_CFG_POLARITY →
    (∀ a, (s.dev.orb i).pinAt = some a → 2 * (s.dev.now - a) < s.dev.measInterval i →
      exec (.orbPinEdge falling) s = .next (s.onDev (fun d => d.bump F.ORB_CNT_PIN_CHATTER i))) ∧
    ((∀ a, (s.dev.orb i).pinAt = some a → s.dev.measInterval i ≤ 2 * (s.dev.now - a)) → s.dev.orbState i = 2 →
      s.dev.orbSrc i = 3 →
      absI (wrapErr (16 * s.dev.rdS F.ORB_REF_OFS_OFFSET i - (16 * ((s.dev.orb i).pos % 1228800) : Nat))) ≤
        16 * (min (s.dev.lockWin i) (s.dev.slewMax i) : Nat) →
      ∃ t, exec (.orbPinEdge falling) s = .next t ∧
        s.dev.Changes (fun n => inRegions [4] n ∨ evtBits n) t.dev ∧
        t.mem = s.mem ∧ t.dev.orbState i = 2 ∧
        (t.dev.orb i).pinAt = some s.dev.now ∧ (t.dev.orb i).outside = 0))

/-- R108, R109, R111, R112, R149: *HOLDOVER* ends in *LOST* and its mute; `ORB_CTL` enables an orbit, disables it, refuses to leave
TDD slices without a source, and acquires afresh. -/
def Obligations.OrbitsAreControlledAndLost : Prop :=
  ((∀ (i : Nat) (s : State), i < 2 → s.dev.orbState i = 3 →
     1228800 * max 1 (s.dev.rd F.ORB_HOLD_CFG_HOLD_LIMIT i) ≤ s.dev.now - (s.dev.orb i).holdAt →
     ∃ t, exec (.holdLimitExpiry i) s = .next t ∧ t.mem = s.mem ∧ t.dev.orbState i = 4 ∧ t.dev.rd F.ORB_STS_CAUSE i = 3 ∧
       t.dev.rd F.ORB_CNT_LOSSES i = satNat F.ORB_CNT_LOSSES.w (s.dev.rd F.ORB_CNT_LOSSES i + 1) ∧
       (t.dev.orb i).lossMute = true ∧
       (∀ n m, n ∈ s.dev.tddOn i → m ∈ s.dev.streamsOf n → t.dev.cause 2 m = true ∧ t.dev.rd F.SLC_PROT_MUTE m = 1) ∧
       s.dev.Changes (fun n => inRegions [4, 0xB, 0xC, 0x1C] n ∨ evtBits n) t.dev) ∧
   (∀ (i : Nat) (s : State), i < 2 → s.dev.orbState i = 3 →
     16 * 10 ^ 9 * s.dev.rd F.ORB_HOLD_CFG_UNC_LIMIT i < (s.dev.orb i).holdU0 * 10 ^ 9 +
       16 * s.dev.rd F.ORB_HOLD_CFG_DRIFT_PPB i * (s.dev.now - (s.dev.orb i).holdAt) →
     ∃ t, exec (.uncLimitExceeded i) s = .next t ∧ t.mem = s.mem ∧ t.dev.orbState i = 4 ∧ t.dev.rd F.ORB_STS_CAUSE i = 4 ∧
       t.dev.rd F.ORB_CNT_LOSSES i = satNat F.ORB_CNT_LOSSES.w (s.dev.rd F.ORB_CNT_LOSSES i + 1) ∧
       (t.dev.orb i).lossMute = true ∧
       (∀ n m, n ∈ s.dev.tddOn i → m ∈ s.dev.streamsOf n → t.dev.cause 2 m = true ∧ t.dev.rd F.SLC_PROT_MUTE m = 1) ∧
       s.dev.Changes (fun n => inRegions [4, 0xB, 0xC, 0x1C] n ∨ evtBits n) t.dev) ∧
   (∀ (i pos : Nat) (s : State), i < 2 → (s.dev.orb i).muteEnd = some pos → s.dev.reached i pos = true →
     ∃ t, exec (.orbitMuteEnd i) s = .next t ∧ t.mem = s.mem ∧ (t.dev.orb i).lossMute = false ∧
       (t.dev.orb i).muteEnd = none ∧
       (∀ n m, n ∈ s.dev.tddOn i → m ∈ s.dev.streamsOf n → t.dev.cause 2 m = false) ∧
       s.dev.Changes (fun n => inRegions [0xC] n ∨ evtBits n) t.dev)) ∧
  ((∀ (p : Path) (i w : Nat) (s : State), i < 2 → s.dev.Admits p (hit .ORB_CTL RD.ORB_CTL i) w →
     F.ORB_CTL_REACQUIRE.of w = 0 → F.ORB_CTL_CLR_CNT.of w = 0 →
     (s.dev.rd F.ORB_CTL_EN i = 0 → s.dev.orbState i = 0 → F.ORB_CTL_EN.of w = 1 → F.ORB_CTL_SRC.of w < 5 →
       ∃ t, exec (.orbCtlWrite p i w) s = .next t ∧
         s.dev.Changes (fun n => inRegions [4] n ∨ evtBits n ∨ accBits n) t.dev ∧
         t.mem = s.mem ∧ t.dev.hif.cpl = ⟨0, 0⟩ ∧ t.dev.rd F.ORB_CTL_EN i = 1 ∧
         t.dev.orbSrc i = F.ORB_CTL_SRC.of w ∧ t.dev.rd F.ORB_CTL_SRC_SLICE i = F.ORB_CTL_SRC_SLICE.of w ∧
         t.dev.orbState i = (if F.ORB_CTL_SRC.of w = 0 then 2 else 1)) ∧
     (s.dev.rd F.ORB_CTL_EN i = 1 → F.ORB_CTL_EN.of w = 0 → s.dev.orbState i ≠ 0 →
       F.ORB_CTL_SRC.of w ≠ 0 ∨ s.dev.orbSrc i = 0 ∨ s.dev.tddOn i = [] →
       ∃ t, exec (.orbCtlWrite p i w) s = .next t ∧ t.mem = s.mem ∧ t.dev.hif.cpl = ⟨0, 0⟩ ∧ t.dev.rd F.ORB_CTL_EN i = 0 ∧
         t.dev.orbState i = 0 ∧ t.dev.rd F.ORB_FREQ_FREQ i = 0 ∧ (t.dev.orb i).ticks = 0) ∧
     (s.dev.rd F.ORB_CTL_EN i = 1 → F.ORB_CTL_SRC.of w = 0 → s.dev.orbSrc i ≠ 0 → s.dev.tddOn i ≠ [] →
       exec (.orbCtlWrite p i w) s = .next (s.onDev (fun d => d.fail p (hit .ORB_CTL RD.ORB_CTL i).addr 4)))) ∧
   (∀ (p : Path) (i w : Nat) (s : State), i < 2 →
     s.dev.Admits p (hit .ORB_CTL RD.ORB_CTL i) (withBits w 8 1 1) → F.ORB_CTL_CLR_CNT.of (withBits w 8 1 1) = 0 →
     s.dev.rd F.ORB_CTL_EN i = 1 → F.ORB_CTL_EN.of (withBits w 8 1 1) = 1 →
     F.ORB_CTL_SRC.of (withBits w 8 1 1) = s.dev.orbSrc i → s.dev.orbSrc i ≠ 0 →
     F.ORB_CTL_SRC_SLICE.of (withBits w 8 1 1) = s.dev.rd F.ORB_CTL_SRC_SLICE i → s.dev.orbSrc i < 5 →
     s.dev.orbSrc i < 3 ∨ (s.dev.orb i).pin = true →
     (s.dev.orbState i = 2 ∨ s.dev.orbState i = 3 →
       ∃ t, exec (.reacquire p i w) s = .next t ∧
         s.dev.Changes (fun n => inRegions [4, 0xB, 0xC, 0x1C] n ∨ evtBits n ∨ accBits n) t.dev ∧
         t.mem = s.mem ∧ t.dev.hif.cpl = ⟨0, 0⟩ ∧ t.dev.orbState i = 4 ∧
         t.dev.rd F.ORB_STS_CAUSE i = 6 ∧
         t.dev.rd F.ORB_CNT_LOSSES i = satNat F.ORB_CNT_LOSSES.w (s.dev.rd F.ORB_CNT_LOSSES i + 1)) ∧
     (s.dev.orbState i = 1 ∨ s.dev.orbState i = 4 →
       ∃ t, exec (.reacquire p i w) s = .next t ∧
         s.dev.Changes (fun n => inRegions [4] n ∨ evtBits n ∨ accBits n) t.dev ∧
         t.mem = s.mem ∧ t.dev.hif.cpl = ⟨0, 0⟩ ∧
         t.dev.orbState i = s.dev.orbState i ∧ (t.dev.orb i).hist = [] ∧ (t.dev.orb i).outside = 0)) ∧
   (∀ (p : Path) (i w : Nat) (s : State), i < 2 →
     s.dev.Admits p (hit .ORB_CTL RD.ORB_CTL i) (withBits w 9 1 1) →
     (F.ORB_CTL_SRC.of (withBits w 9 1 1) ≠ 0 ∨ s.dev.orbSrc i = 0) →
     ∃ t, exec (.orbClrCnt p i w) s = .next t ∧
       (F.ORB_CTL_EN.of (withBits w 9 1 1) = s.dev.rd F.ORB_CTL_EN i → F.ORB_CTL_REACQUIRE.of (withBits w 9 1 1) = 0 →
         F.ORB_CTL_SRC.of (withBits w 9 1 1) = s.dev.orbSrc i →
         F.ORB_CTL_SRC_SLICE.of (withBits w 9 1 1) = s.dev.rd F.ORB_CTL_SRC_SLICE i →
         s.dev.Changes (fun n => inRegions [4] n ∨ evtBits n ∨ accBits n) t.dev) ∧
       t.mem = s.mem ∧ t.dev.hif.cpl = ⟨0, 0⟩ ∧ t.dev.rd F.ORB_CNT_STEPS i = 0 ∧
       t.dev.rd F.ORB_CNT_LOSSES i = 0 ∧ t.dev.rd F.ORB_CNT_HOLDOVERS i = 0 ∧ t.dev.rd F.ORB_CNT_PIN_CHATTER i = 0))

/-- R121 to R123, R138: learning runs only while *LOCKED*; two runs that agree give the standby bank, and an agreed result
that is to be adopted becomes active at a frame boundary; the gate follows the segment in force. -/
def Obligations.PatternIsLearnedAndFollowed : Prop :=
  (∀ (p : Path) (i w : Nat) (s : State), i < 2 →
    s.dev.Admits p (hit .ORB_TDD_CTL RD.ORB_TDD_CTL i) (withBits w 9 1 1) → s.dev.rd F.ORB_TDD_CTL_LEARN_STS i ≠ 1 →
    ∃ t, exec (.learn p i w) s = .next t ∧ t.mem = s.mem ∧ t.dev.hif.cpl = ⟨0, 0⟩ ∧
      t.dev.rd F.ORB_TDD_CTL_LEARN_STS i = (if s.dev.orbState i = 2 then 1 else 6) ∧
      (t.dev.orb i).learning =
        { slice := s.dev.rd F.ORB_CTL_SRC_SLICE i, since := s.dev.now, start := (s.dev.orb i).pos } ∧
      s.dev.Changes (inRegions [4]) t.dev) ∧
  (∀ (i : Nat) (s : State), i < 2 → s.dev.rd F.ORB_TDD_CTL_LEARN_STS i ≠ 1 ∨
    s.dev.now - (s.dev.orb i).learning.since < max 1 (s.dev.rd F.ORB_TDD_CTL_LEARN_FRAMES i) * 1228800 →
    exec (.learnRunEnd i) s = .next s) ∧
  (∀ (i lo hi : Nat) (l : LearnRun) (s : State), i < 2 →
    s.dev.rd F.ORB_TDD_CTL_LEARN_STS i = 1 → l = (s.dev.orb i).learning →
    max 1 (s.dev.rd F.ORB_TDD_CTL_LEARN_FRAMES i) * 1228800 ≤ s.dev.now - l.since →
    lo = (l.start % 2457600 + 61439) / 61440 →
    hi = (l.start % 2457600 + max 1 (s.dev.rd F.ORB_TDD_CTL_LEARN_FRAMES i) * 1228800) / 61440 →
    learnResult (s.dev.rd F.ORB_SLICE_CFG_SCS l.slice) (s.dev.rd F.ORB_TDD_CTL_LEARN_GUARD i)
      (l.loud (max 1 (s.dev.rd F.ORB_TDD_CTL_LEARN_THR i))) lo hi = none →
    ∃ t, exec (.learnRunEnd i) s = .next t ∧ t.mem = s.mem ∧ t.dev.rd F.ORB_TDD_CTL_LEARN_STS i = 5 ∧
      (t.dev.orb i).learned = none ∧ s.dev.Changes (inRegions [4]) t.dev) ∧
  (∀ (i lo hi : Nat) (r : Nat × List (Nat × Nat)) (l : LearnRun) (s : State), i < 2 →
    s.dev.rd F.ORB_TDD_CTL_LEARN_STS i = 1 → l = (s.dev.orb i).learning →
    max 1 (s.dev.rd F.ORB_TDD_CTL_LEARN_FRAMES i) * 1228800 ≤ s.dev.now - l.since →
    lo = (l.start % 2457600 + 61439) / 61440 →
    hi = (l.start % 2457600 + max 1 (s.dev.rd F.ORB_TDD_CTL_LEARN_FRAMES i) * 1228800) / 61440 →
    learnResult (s.dev.rd F.ORB_SLICE_CFG_SCS l.slice) (s.dev.rd F.ORB_TDD_CTL_LEARN_GUARD i)
      (l.loud (max 1 (s.dev.rd F.ORB_TDD_CTL_LEARN_THR i))) lo hi = some r →
    ∃ t, exec (.learnRunEnd i) s = .next t ∧ t.mem = s.mem ∧
      t.dev.rd F.ORB_TDD_PER_PERIOD i (1 - s.dev.activeBank i) = r.1 % 2 ^ 22 ∧
      t.dev.activeBank i = s.dev.activeBank i ∧
      t.dev.rd F.ORB_TDD_CTL_LEARN_STS i = (match (s.dev.orb i).learned with
        | none => 2
        | some q => if q = r then 3 else 4) ∧
      (t.dev.orb i).learned = (match (s.dev.orb i).learned with
        | none => some r
        | some _ => none) ∧ s.dev.Changes (inRegions [4]) t.dev) ∧
  (∀ (i q : Nat) (s : State), i < 2 → (s.dev.orb i).adopt = some q → s.dev.reached i q = true →
    (s.dev.orbState i = 0 →
      ∃ t, exec (.internalPatternSwap i) s = .next t ∧ t.mem = s.mem ∧ t.dev.regs = s.dev.regs ∧
        (t.dev.orb i).adopt = none) ∧
    (s.dev.orbState i ≠ 0 → (s.dev.orb i).slotAt ≠ (s.dev.orb i).pos →
      ∃ t, exec (.internalPatternSwap i) s = .next t ∧
        s.dev.Changes (fun n => inRegions [4, 0xB, 0xC] n ∨ evtBits n) t.dev ∧
        t.mem = s.mem ∧ (t.dev.orb i).adopt = none ∧
        t.dev.activeBank i = 1 - s.dev.activeBank i)) ∧
  (∀ (i : Nat) (s : State), i < 2 → s.dev.orbState i = 2 ∨ s.dev.orbState i = 3 → s.dev.classWaits i 2 = false →
    ∃ t, exec (.patternEdge i) s = .next t ∧ t.mem = s.mem ∧ t.dev.regs = s.dev.regs ∧
      (t.dev.orb i).gate = s.dev.gateAt i (s.dev.orbPos i))

/-- R132 to R136, R138, R140, R143, R144: word 0 of a table entry moves all four words into the table and arms the entry; an entry that
cannot act is missed, moved or in conflict. -/
def Obligations.TransitEntriesAreArmedMissedOrInConflict : Prop :=
  ((∀ (p : Path) (i n w : Nat) (s : State), i < 2 → n < 192 → s.dev.Admits p (hit .TRN_ENT0 RD.TRN_ENT0 i n) w →
     (F.TRN_ENT0_SAMPLE.of w < 1228800 → (F.TRN_ENT0_ACTION.of w = 5 → F.TRN_ENT0_SAMPLE.of w = 0) →
       (F.TRN_ENT0_EN.of w = 0 →
         ∃ t, exec (.trnEntryWrite p i n w) s = .next t ∧ t.mem = s.mem ∧ t.dev.hif.cpl = ⟨0, 0⟩ ∧
           t.dev.rd F.TRN_ENT0_EN i n = 0 ∧ t.dev.rd F.TRN_ENT0_ACTION i n = F.TRN_ENT0_ACTION.of w ∧
           t.dev.rd F.TRN_ENT0_SAMPLE i n = F.TRN_ENT0_SAMPLE.of w ∧ tabFind (t.dev.orb i).due n = none ∧
           (∀ v, tabFind (s.dev.orb i).stage (4 * n + 1) = some v →
             t.dev.rd F.TRN_ENT1_FRAME i n = F.TRN_ENT1_FRAME.of v ∧ t.dev.rd F.TRN_ENT1_PERIOD i n = F.TRN_ENT1_PERIOD.of v) ∧
           (∀ v, tabFind (s.dev.orb i).stage (4 * n + 2) = some v → t.dev.rd F.TRN_ENT2_TARGET i n = v % 2 ^ 32) ∧
           (∀ v, tabFind (s.dev.orb i).stage (4 * n + 3) = some v → t.dev.rd F.TRN_ENT3_ARG i n = v % 2 ^ 32) ∧
           (∀ k, 1 ≤ k → k < 4 → tabFind (t.dev.orb i).stage (4 * n + k) = none) ∧
           s.dev.Changes (inRegions [4]) t.dev) ∧
       (∀ v base, F.TRN_ENT0_EN.of w = 1 → tabFind (s.dev.orb i).stage (4 * n + 1) = some v →
         base = F.TRN_ENT1_FRAME.of v * 1228800 + F.TRN_ENT0_SAMPLE.of w →
         (inFuture (s.dev.orbPos i) base = true →
           ∃ t, exec (.trnEntryWrite p i n w) s = .next t ∧
             s.dev.Changes (fun n => inRegions [4] n ∨ evtBits n ∨ accBits n) t.dev ∧
             t.mem = s.mem ∧ t.dev.hif.cpl = ⟨0, 0⟩ ∧
             t.dev.rd F.TRN_ENT0_EN i n = 1 ∧ (∃ q, tabFind (t.dev.orb i).due n = some q ∧ q.base = base) ∧
             (256 ≤ ahead (s.dev.orbPos i) (before base (t.dev.entryLead i n)) →
               t.dev.reached i (before base (t.dev.entryLead i n)) = false →
               tabFind (t.dev.orb i).due n = some { base := base, take := base })) ∧
         (inFuture (s.dev.orbPos i) base = false → F.TRN_ENT1_PERIOD.of v = 0 →
           ∃ t, exec (.trnEntryWrite p i n w) s = .next t ∧
             s.dev.Changes (fun n => inRegions [4] n ∨ evtBits n ∨ accBits n) t.dev ∧
             t.mem = s.mem ∧ t.dev.hif.cpl = ⟨0, 0⟩ ∧
             t.dev.rd F.TRN_ENT0_EN i n = 0 ∧ tabFind (t.dev.orb i).due n = none ∧
             t.dev.rd F.TRN_CNT_MISSED i = (if F.TRN_ENT0_ACTION.of w = 0 then s.dev.rd F.TRN_CNT_MISSED i
               else satNat F.TRN_CNT_MISSED.w (s.dev.rd F.TRN_CNT_MISSED i + 1))))) ∧
     (1228800 ≤ F.TRN_ENT0_SAMPLE.of w ∨ (F.TRN_ENT0_ACTION.of w = 5 ∧ F.TRN_ENT0_SAMPLE.of w ≠ 0) →
       exec (.trnEntryWrite p i n w) s = .next (s.onDev (fun d => d.fail p (hit .TRN_ENT0 RD.TRN_ENT0 i n).addr 4)))) ∧
   (∀ (p : Path) (i n w : Nat) (s : State), i < 2 → 192 ≤ n → n < 256 → s.dev.Admits p (hit .TRN_ENT0 RD.TRN_ENT0 i n) w →
     exec (.trnEntryWrite p i n w) s = .next (s.onDev (fun d => d.complete 0))) ∧
   (∀ (p : Path) (i w : Nat) (s : State), i < 2 → s.dev.Admits p (hit .TRN_CTL RD.TRN_CTL i) (withBits w 1 1 1) →
     ∃ t, exec (.trnClrCnt p i w) s = .next t ∧ t.mem = s.mem ∧ t.dev.hif.cpl = ⟨0, 0⟩ ∧ t.dev.rd F.TRN_CNT_CONFLICT i = 0 ∧
       t.dev.rd F.TRN_CNT_MISSED i = 0 ∧ t.dev.rd F.TRN_CNT_LATE i = 0 ∧ s.dev.Changes (inRegions [4]) t.dev)) ∧
  ((∀ (i n : Nat) (q : TrnDue) (s : State), i < 2 → n < 192 → tabFind (s.dev.orb i).due n = some q →
     s.dev.rd F.TRN_ENT0_ACTION i n = 6 → s.dev.trnDue i n q = true → s.dev.rd F.TRN_ENT1_PERIOD i n = 0 →
     s.dev.orbState i = 0 ∨ s.dev.rd F.TRN_CTL_EN i = 0 →
     ∃ t, exec (.mark i n) s = .next t ∧ t.mem = s.mem ∧ t.dev.rd F.TRN_ENT0_EN i n = 0 ∧
       t.dev.rd F.TRN_CNT_MISSED i = satNat F.TRN_CNT_MISSED.w (s.dev.rd F.TRN_CNT_MISSED i + 1) ∧
       tabFind (t.dev.orb i).due n = none ∧ t.dev.er = s.dev.er ∧ s.dev.Changes (inRegions [4]) t.dev) ∧
   (∀ (i n : Nat) (q : TrnDue) (s : State), i < 2 → n < 192 → tabFind (s.dev.orb i).due n = some q → q.moved = none →
     s.dev.rd F.TRN_ENT0_ACTION i n = 5 → s.dev.trnDue i n q = true → s.dev.rd F.TRN_ENT1_PERIOD i n = 0 →
     s.dev.orbState i ≠ 0 → s.dev.rd F.TRN_CTL_EN i = 1 → s.dev.trnFirst i n q = true →
     s.dev.internalDue i 1 = false → (s.dev.orb i).slotAt = (s.dev.orb i).pos → (5, 0) ∈ (s.dev.orb i).slotDone →
     ∃ t, exec (.tddPatSwap i n) s = .next t ∧ t.mem = s.mem ∧ t.dev.activeBank i = s.dev.activeBank i ∧
       t.dev.rd F.TRN_ENT0_EN i n = 0 ∧
       t.dev.rd F.TRN_CNT_CONFLICT i = satNat F.TRN_CNT_CONFLICT.w (s.dev.rd F.TRN_CNT_CONFLICT i + 1) ∧
       s.dev.Changes (fun k => inRegions [4] k ∨ evtBits k) t.dev) ∧
   (∀ (i n : Nat) (q : TrnDue) (s : State), i < 2 → n < 192 → tabFind (s.dev.orb i).due n = some q →
     s.dev.rd F.TRN_ENT0_ACTION i n = 6 → s.dev.trnDue i n q = true → s.dev.orbState i ≠ 0 →
     s.dev.rd F.TRN_CTL_EN i = 1 → s.dev.trnFirst i n q = true →
     s.dev.internalDue i 8 = false → (s.dev.orb i).slotAt = (s.dev.orb i).pos → 4 ≤ (s.dev.orb i).slotCount →
     ∃ t, exec (.mark i n) s = .next t ∧ t.mem = s.mem ∧ t.dev.rd F.TRN_STS_SLIP i = 1 ∧
       t.dev.rd F.TRN_ENT0_EN i n = s.dev.rd F.TRN_ENT0_EN i n ∧
       tabFind (t.dev.orb i).due n = some { q with
         take := ((s.dev.orb i).pos + 1) % orbitSpan, late := true, moved := some (s.dev.orb i).movedSeq } ∧
       t.dev.er = s.dev.er ∧ s.dev.Changes (inRegions [4]) t.dev))

/-- R133, R134, R138, R143: an entry that is due acts, once, in its orbit; a one-shot entry is then over. -/
def Obligations.DueTransitActs : Prop :=
  (∀ (i n : Nat) (q : TrnDue) (s : State), i < 2 → n < 192 → tabFind (s.dev.orb i).due n = some q →
    s.dev.trnDue i n q = true → s.dev.rd F.TRN_ENT0_ACTION i n = 0 ∨ 8 ≤ s.dev.rd F.TRN_ENT0_ACTION i n →
    s.dev.rd F.TRN_ENT1_PERIOD i n = 0 →
    ∃ t, exec (.transitNone i n) s = .next t ∧ t.mem = s.mem ∧ t.dev.rd F.TRN_ENT0_EN i n = 0 ∧
      tabFind (t.dev.orb i).due n = none ∧
      t.dev.rd F.TRN_CNT_MISSED i = (if s.dev.rd F.TRN_ENT0_ACTION i n = 0 then s.dev.rd F.TRN_CNT_MISSED i
        else satNat F.TRN_CNT_MISSED.w (s.dev.rd F.TRN_CNT_MISSED i + 1)) ∧
      s.dev.Changes (inRegions [4]) t.dev) ∧
  (∀ (i n m : Nat) (q : TrnDue) (s : State), s.dev.Serves i n 1 q → s.dev.rd F.TRN_ENT1_PERIOD i n = 0 →
    s.dev.rd F.TRN_ENT2_TARGET i n % 4096 = m → m < 2048 → s.dev.has m = true → s.dev.orbitOf m = i →
    s.dev.rd F.TIL_STREAM_FADING m = 0 → (s.dev.orb i).due = [(n, q)] →
    ((s.dev.orb i).slotAt = (s.dev.orb i).pos → (1, m) ∉ (s.dev.orb i).slotDone) →
    ∃ t, exec (.gainCommit i n) s = .next t ∧
      s.dev.Changes (fun n => inRegions [4, 0x11, 0x1F] n ∨ evtBits n) t.dev ∧
      t.mem = s.mem ∧ (∀ k, k < 256 → t.dev.act m k = s.dev.pend m k) ∧
      t.dev.rd F.TIL_STREAM_ACTIVE_BANK m = 1 - s.dev.rd F.TIL_STREAM_ACTIVE_BANK m ∧ t.dev.rd F.TRN_ENT0_EN i n = 0 ∧
      t.dev.rd F.TRN_STS_LAST_ENTRY i = n) ∧
  (∀ (i n t' k : Nat) (q : TrnDue) (s : State), s.dev.Serves i n 2 q → s.dev.rd F.TRN_ENT1_PERIOD i n = 0 →
    t' = s.dev.rd F.TRN_ENT2_TARGET i n % 4096 → k = s.dev.rd F.TRN_ENT3_ARG i n % 16 →
    (t' < 8 → s.dev.coreOn = true → listAt (s.dev.slotBody t' k) 0 = 0 →
      ∃ t, exec (.fesCmd i n) s = .next t ∧ t.mem = s.mem ∧ t.dev.rd F.FES_STS_LAST_RESULT t' = 0 ∧
        t.dev.rd F.FES_STS_LAST_SLOT t' = k ∧ t.dev.rd F.TRN_ENT0_EN i n = 0 ∧ t.dev.rd F.TRN_STS_LAST_ENTRY i = n ∧
        s.dev.Changes (inRegions [4, 0xA]) t.dev) ∧
    (8 ≤ t' → t' < 520 → s.dev.portActive ((t' - 8) / 4) = true →
      ∃ t, exec (.fesCmd i n) s = .next t ∧ t.mem = s.mem ∧ t.dev.rd F.TRN_ENT0_EN i n = 0 ∧
        t.dev.rd F.TRN_STS_LAST_ENTRY i = n ∧ t.dev.draws = s.dev.draws + 1 ∧
        (t.dev.lp ((t' - 8) / 4)).waiting = (s.dev.lp ((t' - 8) / 4)).waiting ++
          [(mkCell 6 1 ([(t' - 8) % 4, k] ++ takeFill 10 (stationTime (s.dev.stationPos i ((t' - 8) / 4) q.base)) ++
            bodyOf (Config.free s.dev.draws)), none)] ∧
        s.dev.Changes (inRegions [4]) t.dev)) ∧
  (∀ (i n : Nat) (q : TrnDue) (s : State), s.dev.Serves i n 5 q → s.dev.rd F.TRN_ENT1_PERIOD i n = 0 →
    ∃ t, exec (.tddPatSwap i n) s = .next t ∧ t.mem = s.mem ∧ t.dev.activeBank i = 1 - s.dev.activeBank i ∧
      t.dev.rd F.TRN_ENT0_EN i n = 0 ∧ t.dev.rd F.TRN_STS_LAST_ENTRY i = n) ∧
  (∀ (i n : Nat) (q : TrnDue) (s : State), s.dev.Serves i n 6 q → s.dev.rd F.TRN_ENT1_PERIOD i n = 0 →
    s.dev.clk.resetLow = false → s.dev.rd F.EVT_CODE_BURST 0x41 = 0 → s.dev.er.lostCount = 0 → s.dev.er.supDue = [] →
    s.dev.er.queue.length < 64 →
    ∃ t e, exec (.mark i n) s = .next t ∧ t.mem = s.mem ∧ t.dev.er.queue = queuePut s.dev.er.queue e ∧ e.code = 0x41 ∧
      e.arg = s.dev.rd F.TRN_ENT3_ARG i n ∧ t.dev.rd F.TRN_ENT0_EN i n = 0 ∧ t.dev.rd F.TRN_STS_LAST_ENTRY i = n ∧
      s.dev.Changes (fun k => inRegions [4] k ∨ evtBits k) t.dev) ∧
  (∀ (i n v : Nat) (q : TrnDue) (s : State), s.dev.Serves i n 7 q → s.dev.rd F.TRN_ENT1_PERIOD i n = 0 →
    v = s.dev.rd F.TRN_ENT3_ARG i n % 64 → s.dev.rd F.HIF_LINK_STS_PCIE_UP = 1 → s.dev.rd F.HIF_MSIX_CTRL_MASK v = 0 →
    ∃ t, exec (.irq i n) s = .next t ∧ s.dev.Changes (fun n => inRegions [4, 7] n ∨ evtBits n) t.dev ∧ t.mem = s.mem ∧
      tabGet 0 t.dev.hif.msiSent v = tabGet 0 s.dev.hif.msiSent v + 1 ∧
      (bitAt (s.dev.rd F.TRN_ENT3_ARG i n) 8 = true → t.dev.rd F.SMP_ALERT_STS_TRANSIT = 1) ∧
      t.dev.rd F.TRN_ENT0_EN i n = 0 ∧ t.dev.rd F.TRN_STS_LAST_ENTRY i = n) ∧
  (∀ (i n k : Nat) (q : TrnDue) (s : State), s.dev.Serves i n 3 q → s.dev.rd F.TRN_ENT1_PERIOD i n = 0 →
    k < 4 → s.dev.rd F.TRN_ENT2_TARGET i n % 16 = 2 ^ k → bitAt (s.dev.rd F.HK_CFG_INJ_TRIG k) 0 = true →
    s.dev.injEntries k ≠ [] → (s.dev.conv k).inj = none → (s.dev.conv k).injAt ≠ some s.dev.hkCycle →
    ∃ t, exec (.hkInject i n) s = .next t ∧
      s.dev.Changes (fun n => inRegions [3, 4] n ∨ evtBits n) t.dev ∧
      t.mem = s.mem ∧ (t.dev.conv k).inj.isSome = true ∧ t.dev.rd F.TRN_ENT0_EN i n = 0 ∧
      t.dev.rd F.TRN_STS_LAST_ENTRY i = n) ∧
  (∀ (i n c : Nat) (q : TrnDue) (s : State), s.dev.Serves i n 4 q → s.dev.rd F.TRN_ENT1_PERIOD i n = 0 →
    c = s.dev.rd F.TRN_ENT3_ARG i n % 16 → s.dev.rd F.BGV_STS_DEFER = 0 → s.dev.rd F.MEA_CAP3_BUSY c = 0 →
    s.dev.hasTap (s.dev.rd F.MEA_CAP0_STREAM c) (s.dev.rd F.MEA_CAP0_TAP c) = true →
    s.dev.rd F.MEA_CAP0_FIRST_TILE c ≤ s.dev.rd F.MEA_CAP0_LAST_TILE c →
    ∃ t, exec (.capture i n) s = .next t ∧
      s.dev.Changes (fun n => inRegions [4, 0x1E] n ∨ evtBits n) t.dev ∧
      t.mem = s.mem ∧ t.dev.rd F.MEA_CAP3_BUSY c = 1 ∧
      (tabFind t.dev.chn.caps c).isSome = true ∧ t.dev.rd F.TRN_ENT0_EN i n = 0 ∧ t.dev.rd F.TRN_STS_LAST_ENTRY i = n)

/-- R522, R525, R529: a written tick length comes into force at the frame boundary; tick commits that are due act; the
deadline keeps the largest share used. -/
def Obligations.TicksAreTakenAndCommitted : Prop :=
  (∀ (i : Nat) (s : State), i < 2 →
    ((s.dev.orb i).base = s.dev.baseTick i → (∀ n, n ∈ s.dev.slicesOn i →
        s.dev.rd F.CE_SLICE_TICK_MULT_EFF n = s.dev.multWanted n (s.dev.baseTick i)) →
      exec (.tickLengthChange i) s = .next s) ∧
    ((s.dev.orb i).base ≠ s.dev.baseTick i →
      ∃ t, exec (.tickLengthChange i) s = .next t ∧
        s.dev.Changes (fun n => inRegions [0xD, 0x1E] n ∨ 0x10000000 ≤ n) t.dev ∧
        t.mem = s.mem ∧ (t.dev.orb i).base = s.dev.baseTick i)) ∧
  (∀ (i : Nat) (s : State), i < 2 → s.dev.orbState i = 0 →
    ∃ t, exec (.tickCommit i) s = .next t ∧ t.mem = s.mem ∧ t.dev.regs = s.dev.regs ∧
      (∀ n a, (n, a) ∈ (t.dev.orb i).commitAt → s.dev.tickNear i n a = false)) ∧
  (∀ (i n a : Nat) (s : State), i < 2 → s.dev.orbState i ≠ 0 → (s.dev.orb i).commitAt = [(n, a)] → n < 16 →
    s.dev.reached i a = true → s.dev.classWaits i 5 = false → s.dev.mld.delta = none → s.dev.mld.restart = none →
    ∃ t, exec (.tickCommit i) s = .next t ∧ t.mem = s.mem ∧ (t.dev.orb i).commitAt = [] ∧
      (∀ q, q ∈ (t.dev.orb i).jobs → s.dev.reached i q.pos = false) ∧
      (if (s.dev.orb i).placed.contains n then t.dev.eng.ahead else t.dev.eng.committed).contains (2080 + n) = true) ∧
  (∀ (i : Nat) (s : State), i < 2 → (∀ n, n ∈ s.dev.slicesOn i → 0 < s.dev.deadlineIn n) →
    (s.dev.beatDue i = false → exec (.tickDeadline i) s = .next s) ∧
    (s.dev.beatDue i = true → s.dev.heartbeatDue i = false →
      ∃ t, exec (.tickDeadline i) s = .next t ∧ t.mem = s.mem ∧ t.dev.eng.beats = s.dev.eng.beats ++ [i] ∧
        t.dev.rd F.CE_LOAD_PEAK i =
          max (s.dev.rd F.CE_LOAD_PEAK i) (s.dev.loadShare i (tabGet 0 s.dev.eng.cycles i)) ∧
        s.dev.Changes (inRegions [0xD]) t.dev)) ∧
  (∀ (n r : Nat) (s : State), n < 16 → r < 2 → n ∈ s.dev.slicesOn (s.dev.donor n).orbit → s.dev.deadlineIn n ≤ 0 →
    (s.dev.loopTick n r).live = true →
    ∃ t, exec (.tickDeadline (s.dev.donor n).orbit) s = .next t ∧ t.mem = s.mem ∧ (t.dev.loopTick n r).closed = true)

/-! ### Chapter 3: the distribution link -/

/-- R174, R191, R215, R243, R703: a lane is enabled only with its reference, gains and loses its lock, and its counters
clear. -/
def Obligations.LaneGoesFromStateToState : Prop :=
  (∀ (p : Path) (n w : Nat) (s : State), n < 128 → s.dev.Admits p (hit .LNK_CTL RD.LNK_CTL n) w →
    s.dev.laneAbsent n = false → F.LNK_CTL_RESTART.of w = 0 →
    (s.dev.rd F.LNK_CTL_EN n = 0 → F.LNK_CTL_EN.of w = 1 → bitAt (s.dev.rd F.CLK_STS_LREF_OK) (n / 32) = true →
      ∃ t, exec (.laneEnableWrite p n w) s = .next t ∧
        s.dev.Changes (fun n => inRegions [2, 8, 0xA, 0xB, 0xC, 0x1C] n ∨ evtBits n ∨ accBits n) t.dev ∧
        t.mem = s.mem ∧ t.dev.hif.cpl = ⟨0, 0⟩ ∧ t.dev.rd F.LNK_CTL_EN n = 1 ∧
        t.dev.laneState n = 1) ∧
    (s.dev.rd F.LNK_CTL_EN n = 0 → F.LNK_CTL_EN.of w = 1 → bitAt (s.dev.rd F.CLK_STS_LREF_OK) (n / 32) = false →
      exec (.laneEnableWrite p n w) s = .next (s.onDev (fun d => d.fail p (hit .LNK_CTL RD.LNK_CTL n).addr 4))) ∧
    (s.dev.rd F.LNK_CTL_EN n = 1 → F.LNK_CTL_EN.of w = 0 →
      ∃ t, exec (.laneEnableWrite p n w) s = .next t ∧
        s.dev.Changes (fun n => inRegions [2, 8, 0xA, 0xB, 0xC, 0x1C] n ∨ evtBits n ∨ accBits n) t.dev ∧
        t.mem = s.mem ∧ t.dev.hif.cpl = ⟨0, 0⟩ ∧ t.dev.rd F.LNK_CTL_EN n = 0 ∧
        t.dev.laneState n = 0 ∧ (n < 64 → t.dev.portState n = 0))) ∧
  (∀ (p : Path) (n w : Nat) (s : State), n < 128 → s.dev.Admits p (hit .LNK_CTL RD.LNK_CTL n) w → s.dev.laneAbsent n = true →
    ∃ t, exec (.laneEnableWrite p n w) s = .next t ∧ t.mem = s.mem ∧ t.dev.regs = s.dev.regs ∧ t.dev.hif.cpl = ⟨0, 0⟩) ∧
  (∀ (p : Path) (n w : Nat) (s : State), n < 128 → s.dev.Admits p (hit .LNK_CTL RD.LNK_CTL n) (withBits w 8 1 1) →
    s.dev.laneAbsent n = false → s.dev.rd F.LNK_CTL_EN n = F.LNK_CTL_EN.of (withBits w 8 1 1) →
    ∃ t, exec (.laneRestart p n w) s = .next t ∧
      s.dev.Changes (fun n => inRegions [2, 8, 0xA, 0xB, 0xC, 0x1C] n ∨ evtBits n ∨ accBits n) t.dev ∧
      t.mem = s.mem ∧ t.dev.hif.cpl = ⟨0, 0⟩ ∧ t.dev.laneState n = 1) ∧
  (∀ (p : Path) (n w : Nat) (s : State), n < 128 → s.dev.Admits p (hit .LNK_CTL RD.LNK_CTL n) (withBits w 9 1 1) →
    s.dev.laneAbsent n = false → s.dev.rd F.LNK_CTL_EN n = F.LNK_CTL_EN.of (withBits w 9 1 1) → F.LNK_CTL_RESTART.of (withBits w 9 1 1) = 0 →
    ∃ t, exec (.lnkClrCnt p n w) s = .next t ∧ t.mem = s.mem ∧ t.dev.hif.cpl = ⟨0, 0⟩ ∧
      t.dev.rd F.LNK_CNT_CRC_CRC_ERR n = 0 ∧ t.dev.rd F.LNK_CNT_BLOCK_LOSS n = 0 ∧ t.dev.rd F.LNK_CNT_FRAME_LOSS n = 0 ∧
      t.dev.rd F.LNK_CNT_FORMAT_ERR n = 0 ∧ t.dev.rd F.LNK_CNT_RESENDS n = 0 ∧ t.dev.rd F.LNK_CNT_ETH_FCS_ERR n = 0 ∧
      t.dev.rd F.LNK_CNT_ETH_FOREIGN n = 0 ∧ t.dev.rd F.LNK_MSG_RX_OVERFLOW n = 0 ∧
      (n < 64 → t.dev.rd F.LNK_PROT_STS_SWITCHES n = 0) ∧ s.dev.Changes (inRegions [8]) t.dev) ∧
  (∀ (n : Nat) (s : State), n < 128 →
    (2 ≤ s.dev.laneState n →
      (∃ t, exec (.signalLoss n) s = .next t ∧
        s.dev.Changes (fun n => inRegions [8, 0xA, 0xB, 0xC, 0x1C] n ∨ evtBits n) t.dev ∧
        t.mem = s.mem ∧ t.dev.laneState n = 1 ∧ t.dev.rd F.LNK_STS_SIG_DET n = 0 ∧
        t.dev.rd F.LNK_CNT_BLOCK_LOSS n = satNat F.LNK_CNT_BLOCK_LOSS.w (s.dev.rd F.LNK_CNT_BLOCK_LOSS n + 1)) ∧
      (∃ t, exec (.blockLockLoss n) s = .next t ∧
        s.dev.Changes (fun n => inRegions [8, 0xA, 0xB, 0xC, 0x1C] n ∨ evtBits n) t.dev ∧
        t.mem = s.mem ∧ t.dev.laneState n = 1 ∧
        t.dev.rd F.LNK_CNT_BLOCK_LOSS n = satNat F.LNK_CNT_BLOCK_LOSS.w (s.dev.rd F.LNK_CNT_BLOCK_LOSS n + 1)) ∧
      ((s.dev.ll n).due + 4096 ≤ 16 * s.dev.gridNow →
        ∃ t, exec (.frameMissing n) s = .next t ∧
          s.dev.Changes (inRegions [8]) t.dev ∧
          t.mem = s.mem ∧ t.dev.laneState n = s.dev.laneState n ∧ (t.dev.ll n).due = (s.dev.ll n).due + 4096 ∧
          (t.dev.ll n).miss = (s.dev.ll n).miss + 1 ∧ (t.dev.ll n).good = 0 ∧
          (s.dev.laneSel n = true → ∀ q, q ∈ s.dev.sectionStreams (s.dev.portOfLane n)
              ((s.dev.lp (s.dev.portOfLane n)).map.getD (0, [])).2 →
            s.dev.bankFrames (s.dev.donorOf q.1) ≤ (t.dev.stream q.1).fill))) ∧
    (s.dev.laneState n = 1 → bitAt (s.dev.rd F.CLK_STS_LREF_OK) (n / 32) = true → s.dev.domOn (laneDomain n) = true →
      ∃ t, exec (.blockLock n) s = .next t ∧
        s.dev.Changes (fun n => inRegions [8, 0xA, 0xB, 0xC, 0x1C] n ∨ evtBits n) t.dev ∧
        t.mem = s.mem ∧ t.dev.laneState n = 2 ∧ t.dev.rd F.LNK_STS_SIG_DET n = 1 ∧
        (t.dev.ll n).due = 16 * s.dev.gridNow) ∧
    (s.dev.laneState n = 3 → 4 ≤ (s.dev.ll n).miss →
      ∃ t, exec (.noFrameTimeout n) s = .next t ∧
        s.dev.Changes (fun n => inRegions [8, 0xA, 0xB, 0xC, 0x1C] n ∨ evtBits n) t.dev ∧
        t.mem = s.mem ∧ t.dev.laneState n = 2 ∧
        t.dev.rd F.LNK_CNT_FRAME_LOSS n = satNat F.LNK_CNT_FRAME_LOSS.w (s.dev.rd F.LNK_CNT_FRAME_LOSS n + 1) ∧
        t.dev.rd F.LNK_RTD_VALID n = 0)) ∧
  (∀ (n : Nat) (s : State), n < 128 → s.dev.laneState n = 3 → s.dev.portOfLane n = n → (s.dev.portDecl n).isSome = true →
    s.dev.paired n = false → s.dev.laneOf n = n → (s.dev.lp n).pend = none → s.dev.portState n ≠ 0 →
    ∃ t, exec (.signalLoss n) s = .next t ∧
      s.dev.Changes (fun n => inRegions [8, 0xA, 0xB, 0xC, 0x1C] n ∨ evtBits n) t.dev ∧
      t.mem = s.mem ∧ t.dev.portState n = 0 ∧ t.dev.rd F.LNK_STS_CAUSE n = 1)

/-- R173 to R176, R180 to R184, R189 to R192, R198, R215, R223, R224: on every lane that is not *DISABLED* a frame goes out with its port's
cell under its header, the frame before it is complete as words and as scrambled blocks; a received frame is counted by what is wrong
with it, or accepted with its sections, and the fourth good one in a row makes the lane *FRAMED*. -/
def Obligations.FramesAreSentAndJudged : Prop :=
  (∀ (s : State), ∃ t, exec .tdlFrameTx s = .next t ∧ t.mem = s.mem ∧ t.dev.regs = s.dev.regs ∧ t.dev.er = s.dev.er ∧
    ∀ n, n < 128 →
      (s.dev.laneState n ≠ 0 →
        (t.dev.ll n).sentHdr = s.dev.header n ∧ (t.dev.ll n).sentMac = s.dev.macHeader n ∧
        (t.dev.ll n).sentLofs = s.dev.launchOf n s.dev.lfn ∧
        (t.dev.ll n).sentCell = cellAck (s.dev.nextCell (s.dev.portOfLane n)).1 (s.dev.lp (s.dev.portOfLane n)).rxSeq ∧
        ((s.dev.ll n).sentCell ≠ [] → (t.dev.ll n).sentWords = s.dev.wordsSent n ∧
          (t.dev.ll n).sentLine = (scramble false (s.dev.ll n).txBits
            (s.dev.blocksOf n (s.dev.wordsSent n) (s.dev.launchOf n s.dev.lfn))).1)) ∧
      (s.dev.laneState n = 0 → t.dev.ll n = s.dev.ll n)) ∧
  (∀ (n : Nat) (f : TdlFrame) (s : State), n < 128 → 2 ≤ s.dev.laneState n →
    (s.dev.frameFault n f = 1 →
      ∃ t, exec (.tdlFrameRx n f) s = .next t ∧
        s.dev.Changes (fun n => inRegions [8, 0xA, 0xB, 0xC, 0x1C] n ∨ evtBits n) t.dev ∧
        t.mem = s.mem ∧
        t.dev.rd F.LNK_CNT_CRC_CRC_ERR n = satNat F.LNK_CNT_CRC_CRC_ERR.w (s.dev.rd F.LNK_CNT_CRC_CRC_ERR n + 1) ∧
        (t.dev.ll n).disc = (s.dev.ll n).disc + 1 ∧ (t.dev.ll n).due = (s.dev.ll n).due + 4096 ∧
        t.dev.laneState n = (if s.dev.laneState n = 3 ∧
          max 1 (s.dev.rd F.LNK_TIMING_CRC_LIMIT (s.dev.portOfLane n)) ≤ (s.dev.ll n).disc + 1 then 2
          else s.dev.laneState n)) ∧
    (s.dev.frameFault n f = 2 →
      ∃ t, exec (.tdlFrameRx n f) s = .next t ∧
        s.dev.Changes (fun n => inRegions [8, 0xA, 0xB, 0xC, 0x1C] n ∨ evtBits n) t.dev ∧
        t.mem = s.mem ∧
        t.dev.rd F.LNK_CNT_FORMAT_ERR n = satNat F.LNK_CNT_FORMAT_ERR.w (s.dev.rd F.LNK_CNT_FORMAT_ERR n +
          (s.dev.hearFrame n f).unknown + (if (s.dev.hearFrame n f).foul then 0 else 1)) ∧
        (t.dev.ll n).disc = (s.dev.ll n).disc + 1 ∧ (t.dev.ll n).due = (s.dev.ll n).due + 4096) ∧
    (s.dev.frameFault n f = 3 →
      ∃ t, exec (.tdlFrameRx n f) s = .next t ∧
        s.dev.Changes (fun n => inRegions [8, 0xA, 0xB, 0xC, 0x1C] n ∨ evtBits n) t.dev ∧
        t.mem = s.mem ∧
        t.dev.rd F.LNK_CNT_ETH_FCS_ERR n = satNat F.LNK_CNT_ETH_FCS_ERR.w (s.dev.rd F.LNK_CNT_ETH_FCS_ERR n + 1) ∧
        (t.dev.ll n).disc = (s.dev.ll n).disc + 1 ∧ (t.dev.ll n).due = (s.dev.ll n).due + 4096) ∧
    (s.dev.frameFault n f = 4 →
      ∃ t, exec (.tdlFrameRx n f) s = .next t ∧ t.mem = s.mem ∧
        t.dev.rd F.LNK_CNT_ETH_FOREIGN n = satNat F.LNK_CNT_ETH_FOREIGN.w (s.dev.rd F.LNK_CNT_ETH_FOREIGN n + 1) ∧
        (t.dev.ll n).due = (s.dev.ll n).due ∧ (t.dev.ll n).good = (s.dev.ll n).good ∧
        (∀ m, m ≠ n → t.dev.ll m = s.dev.ll m) ∧ s.dev.Changes (inRegions [8]) t.dev) ∧
    (s.dev.frameFault n f = 5 →
      ∃ t, exec (.tdlFrameRx n f) s = .next t ∧ t.mem = s.mem ∧
        t.dev.rd F.LNK_CNT_FORMAT_ERR n =
          satNat F.LNK_CNT_FORMAT_ERR.w (s.dev.rd F.LNK_CNT_FORMAT_ERR n + (s.dev.hearFrame n f).unknown) ∧
        (t.dev.ll n).due = (s.dev.ll n).due ∧ s.dev.Changes (fun k => k = F.LNK_CNT_FORMAT_ERR.key n 0 0) t.dev) ∧
    (s.dev.frameFault n f = 0 →
      ∃ t, exec (.tdlFrameRx n f) s = .next t ∧
        s.dev.Changes (fun n => inRegions [8, 0xA, 0xB, 0xC, 0x1C] n ∨ evtBits n) t.dev ∧
        t.mem = s.mem ∧ (t.dev.ll n).disc = 0 ∧ (t.dev.ll n).miss = 0 ∧
        (t.dev.ll n).lastAt = some (f.arrived - listAt (s.dev.hearFrame n f).sof 6) ∧
        (t.dev.ll n).due = f.arrived - listAt (s.dev.hearFrame n f).sof 6 + 4096 ∧
        t.dev.rd F.LNK_STS_UL_MAP_ID n = bits (listAt (s.dev.hearFrame n f).words 0) 40 8 ∧
        t.dev.laneState n = (if s.dev.laneState n = 2 ∧ 3 ≤ (s.dev.ll n).good ∧ (s.dev.ll n).lastAt.all (fun b => decide
            ((((f.arrived - listAt (s.dev.hearFrame n f).sof 6 : Nat) : Int) - b - 4096).natAbs ≤ 4)) = true then 3
          else s.dev.laneState n)))

/-- R195, R201, R209, R217, R250, R262: a message that has arrived moves its port's session on, or goes to the port's
ring. -/
def Obligations.ReceivedMessageMovesTheSession : Prop :=
  (∀ (port : Nat) (c : List Nat) (s : State), port < 128 → (s.dev.lp port).rxCell = some c →
    (listAt c 0 = 1 → listAt c 4 = 1 → s.dev.portState port = 1 →
      (listAt c 5 / 16 = 1 →
        ∃ t, exec (.helloRx port) s = .next t ∧ t.mem = s.mem ∧ t.dev.portState port = 2 ∧
          (t.dev.lp port).peer = some (leAt c 8 4) ∧ (t.dev.lp port).hbAt = s.dev.now ∧ (t.dev.lp port).rxCell = none ∧
          (t.dev.lp port).greetAt = none ∧ s.dev.Changes (fun n => inRegions [8] n ∨ evtBits n) t.dev) ∧
      (listAt c 5 / 16 ≠ 1 →
        ∃ t, exec (.helloRx port) s = .next t ∧
          s.dev.Changes (fun n => inRegions [8, 0xA, 0xB, 0xC, 0x1C] n ∨ evtBits n) t.dev ∧
          t.mem = s.mem ∧ t.dev.portState port = 6 ∧
          t.dev.rd F.LNK_STS_CAUSE port = 9)) ∧
    (listAt c 0 = 2 → s.dev.portState port = 2 →
      (bitAt (listAt c 17) (s.dev.rd F.LNK_CTL_RATE port + 2 * s.dev.rd F.LNK_CTL_CARRIAGE port) = true →
        (s.dev.planMap port).length ≤ listAt c 18 → mapSum (s.dev.planMap port) false ≤ listAt c 19 →
        mapSum (s.dev.planMap port) true ≤ listAt c 19 →
        ((s.dev.portDecl port).map (fun q => q.stations)).getD 0 ≤ listAt c 20 →
        ∃ t, exec (.capsRx port) s = .next t ∧ t.mem = s.mem ∧ t.dev.portState port = 3 ∧
          (t.dev.lp port).offered.map (fun o => o.2) = some (s.dev.planMap port) ∧
          t.dev.rd F.LNK_REM_ID_VENDOR port = leAt c 4 2 % 2 ^ 16 ∧ t.dev.rd F.LNK_REM_ID_MODEL port = leAt c 4 4 / 2 ^ 16 % 2 ^ 16 ∧
          t.dev.rd F.LNK_REM_LAT_DL_LAT port = leAt c 22 2 % 2 ^ 16 ∧
          t.dev.rd F.LNK_REM_LAT_UL_LAT port = leAt c 24 2 % 2 ^ 16 ∧
          s.dev.Changes (fun n => inRegions [8] n ∨ evtBits n) t.dev) ∧
      (bitAt (listAt c 17) (s.dev.rd F.LNK_CTL_RATE port + 2 * s.dev.rd F.LNK_CTL_CARRIAGE port) = false →
        ∃ t, exec (.capsRx port) s = .next t ∧
          s.dev.Changes (fun n => inRegions [8, 0xA, 0xB, 0xC, 0x1C] n ∨ evtBits n) t.dev ∧
          t.mem = s.mem ∧ t.dev.portState port = 6 ∧
          t.dev.rd F.LNK_STS_CAUSE port = 10)) ∧
    (∀ o, listAt c 0 = 4 → (s.dev.lp port).offered = some o → listAt c 4 = o.1 → s.dev.portState port = 3 →
      (listAt c 5 = 0 →
        ∃ t, exec (.sliceAckRx port) s = .next t ∧
          s.dev.Changes (fun n => inRegions [8, 0xA, 0xB, 0xC, 0x1C] n ∨ evtBits n) t.dev ∧
          t.mem = s.mem ∧ t.dev.portState port = 4 ∧
          (t.dev.lp port).accepted = some o ∧ (t.dev.lp port).offered = none ∧
          (t.dev.lp port).switchAt = (s.dev.lfn + 4) % 2 ^ 32) ∧
      (listAt c 5 ≠ 0 →
        ∃ t, exec (.sliceAckRx port) s = .next t ∧
          s.dev.Changes (fun n => inRegions [8, 0xA, 0xB, 0xC, 0x1C] n ∨ evtBits n) t.dev ∧
          t.mem = s.mem ∧ t.dev.portState port = 6 ∧
          t.dev.rd F.LNK_STS_CAUSE port = 12 ∧ (t.dev.lp port).offered = none)) ∧
    (∀ o, listAt c 0 = 4 → (s.dev.lp port).offered = some o → listAt c 4 = o.1 → listAt c 5 = 0 →
      s.dev.portState port = 4 ∨ s.dev.portState port = 5 →
      ∃ t, exec (.sliceAckRx port) s = .next t ∧ t.mem = s.mem ∧ t.dev.regs = s.dev.regs ∧
        (t.dev.lp port).accepted = some o ∧ (t.dev.lp port).switchAt = (s.dev.lfn + 4) % 2 ^ 32) ∧
    (listAt c 0 = 0x0D → 2 ≤ s.dev.portState port →
      ((s.dev.lp port).peer = some (leAt c 4 4) →
        ∃ t, exec (.heartbeatRx port) s = .next t ∧ t.mem = s.mem ∧ t.dev.regs = s.dev.regs ∧
          (t.dev.lp port).hbAt = s.dev.now ∧ (t.dev.lp port).rxCell = none) ∧
      ((s.dev.lp port).peer ≠ some (leAt c 4 4) →
        ∃ t, exec (.heartbeatRx port) s = .next t ∧
          s.dev.Changes (fun n => inRegions [8, 0xA, 0xB, 0xC, 0x1C] n ∨ evtBits n) t.dev ∧
          t.mem = s.mem ∧ t.dev.portState port = 1 ∧
          t.dev.rd F.LNK_STS_CAUSE port = 7 ∧ (t.dev.lp port).session = Config.free s.dev.draws % 2 ^ 32)) ∧
    (listAt c 0 = 0x0E →
      ∃ t, exec (.latUpdateRx port) s = .next t ∧
        s.dev.Changes (fun n => inRegions [8, 0xA, 0xB, 0xC, 0x1C] n ∨ evtBits n) t.dev ∧
        t.mem = s.mem ∧
        t.dev.rd F.LNK_REM_LAT_DL_LAT port = leAt c 22 2 % 2 ^ 16 ∧
        t.dev.rd F.LNK_REM_LAT_UL_LAT port = leAt c 24 2 % 2 ^ 16 ∧
        t.dev.portState port = (if s.dev.portState port = 5 then 4 else s.dev.portState port) ∧
        (s.dev.portState port = 4 ∨ s.dev.portState port = 5 →
          t.dev.rd F.LNK_STS_CAUSE port = 8 ∧ (t.dev.lp port).recheck = false)) ∧
    (∀ i ty, (i = Instr.alarmRx port ∧ ty = 8) ∨ (i = Instr.readRspRx port ∧ ty = 0x0A) ∨
        (i = Instr.writeRspRx port ∧ ty = 0x0C) ∨ (i = Instr.vendorRx port ∧ ty = 0x0F) → listAt c 0 = ty →
      ((s.dev.rd F.LNK_MSG_RX_HEAD port + 1) % 16 ≠ s.dev.rd F.LNK_MSG_RX_TAIL port →
        ∃ t, exec i s = .next t ∧ t.mem = s.mem ∧ (t.dev.lp port).rxCell = none ∧
          t.dev.rd F.LNK_MSG_RX_HEAD port = (s.dev.rd F.LNK_MSG_RX_HEAD port + 1) % 16 ∧
          (∀ w, w < 8 → t.dev.rd F.LNK_MSG_RXB_DATA port (s.dev.rd F.LNK_MSG_RX_HEAD port) w = leAt c (4 * w) 4 % 2 ^ 32) ∧
          s.dev.Changes (fun n => inRegions [8] n ∨ evtBits n) t.dev) ∧
      ((s.dev.rd F.LNK_MSG_RX_HEAD port + 1) % 16 = s.dev.rd F.LNK_MSG_RX_TAIL port →
        ∃ t, exec i s = .next t ∧ t.mem = s.mem ∧ t.dev.rd F.LNK_MSG_RX_HEAD port = s.dev.rd F.LNK_MSG_RX_HEAD port ∧
          t.dev.rd F.LNK_MSG_RX_OVERFLOW port = satNat F.LNK_MSG_RX_OVERFLOW.w (s.dev.rd F.LNK_MSG_RX_OVERFLOW port + 1)))) ∧
  (∀ (port : Nat) (o : Nat × List MapSlice) (s : State), port < 128 → (s.dev.lp port).accepted = some o →
    lfnSince (s.dev.lp port).switchAt s.dev.lfn < 2 ^ 31 →
    ∃ t, exec (.mapIdSwitch port) s = .next t ∧ t.mem = s.mem ∧ t.dev.rd F.LNK_STS_DL_MAP_ID port = o.1 % 256 ∧
      (t.dev.lp port).map = some o ∧ (t.dev.lp port).prev = some ((s.dev.lp port).map.getD (0, [])) ∧
      (t.dev.lp port).accepted = none ∧
      (s.dev.paired port = true → t.dev.rd F.LNK_STS_DL_MAP_ID (port + 64) = o.1 % 256) ∧
      s.dev.Changes (fun n => n = F.LNK_STS_DL_MAP_ID.key port 0 0 ∨ n = F.LNK_STS_DL_MAP_ID.key (port + 64) 0 0) t.dev)

/-- R196, R199, R211, R212, R217, R227 to R237, R242, R261: what a port sends by its timers, how a pair's selection changes, and the
transfers of the management buses. -/
def Obligations.PortsKeepTimersPairsSwitchAndBusesTransfer : Prop :=
  ((∀ (port : Nat) (s : State), port < 128 →
     (s.dev.portState port = 1 → s.dev.greetDue port 16 = true →
       ∃ t, exec (.helloTx port) s = .next t ∧ t.mem = s.mem ∧ t.dev.regs = s.dev.regs ∧ (t.dev.lp port).greet =
         some (mkCell 1 0 ([0, 0x10] ++ toOctets 2 port ++ toOctets 4 (s.dev.lp port).session)) ∧
         (t.dev.lp port).greetAt = some s.dev.lfn) ∧
     (2 ≤ s.dev.portState port → s.dev.portState port ≤ 5 → s.dev.greetDue port 480 = true →
       ∃ t, exec (.heartbeatTx port) s = .next t ∧ t.mem = s.mem ∧ t.dev.regs = s.dev.regs ∧ (t.dev.lp port).greet =
         some (mkCell 0x0D 0 (toOctets 4 (s.dev.lp port).session ++ [s.dev.boot, s.dev.muteMask port])) ∧
         (t.dev.lp port).greetAt = some s.dev.lfn) ∧
     (2 ≤ s.dev.portState port → s.dev.portState port ≤ 5 →
       122880 * max 1 (s.dev.rd F.LNK_TIMING_HB_LIMIT port) ≤ s.dev.now - (s.dev.lp port).hbAt →
       ∃ t, exec (.hbLimitExpiry port) s = .next t ∧
         s.dev.Changes (fun n => inRegions [8, 0xA, 0xB, 0xC, 0x1C] n ∨ evtBits n) t.dev ∧
         t.mem = s.mem ∧ t.dev.portState port = 1 ∧
         t.dev.rd F.LNK_STS_CAUSE port = 5 ∧ (t.dev.lp port).peer = none ∧ (t.dev.lp port).unacked = [] ∧
         (t.dev.lp port).session = Config.free s.dev.draws % 2 ^ 32) ∧
     (s.dev.portState port = 6 → 1228800000 ≤ s.dev.now - (s.dev.lp port).incAt →
       ∃ t, exec (.incompatibleTimeout port) s = .next t ∧
         s.dev.Changes (fun n => inRegions [8, 0xA, 0xB, 0xC, 0x1C] n ∨ evtBits n) t.dev ∧
         t.mem = s.mem ∧ t.dev.portState port = 1 ∧
         (t.dev.lp port).session = Config.free s.dev.draws % 2 ^ 32)) ∧
   (∀ (port : Nat) (u : RelMsg) (l : List RelMsg) (s : State), port < 128 → (s.dev.lp port).unacked = u :: l →
     (s.dev.lp port).resend = [] → 64 ≤ lfnSince u.sentAt s.dev.lfn →
     (u.resends < 8 →
       ∃ t, exec (.resendTimeout port) s = .next t ∧ t.mem = s.mem ∧
         (t.dev.lp port).resend = (u :: l).map (fun v => listAt v.cell 2) ∧
         (t.dev.lp port).unacked.map (fun v => v.resends) = (u :: l).map (fun v => v.resends + 1) ∧
         t.dev.rd F.LNK_CNT_RESENDS (s.dev.laneOf port) =
           satNat F.LNK_CNT_RESENDS.w (s.dev.rd F.LNK_CNT_RESENDS (s.dev.laneOf port) + 1) ∧
         s.dev.Changes (fun n => n = F.LNK_CNT_RESENDS.key (s.dev.laneOf port) 0 0) t.dev) ∧
     (8 ≤ u.resends → s.dev.portState port = 0 →
       ∃ t, exec (.resendTimeout port) s = .next t ∧ t.mem = s.mem ∧ t.dev.portState port = 0 ∧
         (t.dev.lp port).unacked = [] ∧ (t.dev.lp port).leftAt = none ∧ s.dev.Changes (inRegions [8]) t.dev) ∧
     (8 ≤ u.resends → s.dev.portState port ≠ 0 →
       ∃ t, exec (.resendTimeout port) s = .next t ∧
         s.dev.Changes (fun n => inRegions [8, 0xA, 0xB, 0xC, 0x1C] n ∨ evtBits n) t.dev ∧
         t.mem = s.mem ∧ t.dev.portState port = 1 ∧
         t.dev.rd F.LNK_STS_CAUSE port = 6 ∧ (t.dev.lp port).unacked = [])) ∧
   (∀ (port q pos : Nat) (up opens : Bool) (s : State), port < 128 → q < 8 → s.dev.portState port = 5 →
     s.dev.has (if up then streamOf port 0 q + 8 else streamOf port 0 q) = true →
     (s.dev.donor (s.dev.sliceDonor (streamOf port 0 q))).tdd = true →
     (s.dev.orbState (s.dev.donor (s.dev.sliceDonor (streamOf port 0 q))).orbit = 2 ∨
       s.dev.orbState (s.dev.donor (s.dev.sliceDonor (streamOf port 0 q))).orbit = 3) →
     s.dev.isEdge (s.dev.donor (s.dev.sliceDonor (streamOf port 0 q))).orbit up opens pos = true →
     ∀ at1, at1 = ((s.dev.edgeNamed (streamOf port 0 q) up opens (s.dev.streamPos (s.dev.sliceDonor (streamOf port 0 q)) pos)) %
       (2 ^ 40 : Nat)).toNat →
     max 1 (s.dev.rd F.LNK_TIMING_EDGE_LEAD port) ≤ lfnSince (s.dev.firstCopy port) (at1 / 256) →
     lfnSince (s.dev.firstCopy port) (at1 / 256) < 2 ^ 31 →
     ∃ t, exec (.tddEdgeSend port q up opens pos) s = .next t ∧ t.mem = s.mem ∧ t.dev.regs = s.dev.regs ∧
       (t.dev.lp port).edgeId = ((s.dev.lp port).edgeId + 1) % 65536 ∧
       (t.dev.lp port).timed = (s.dev.lp port).timed ++ [(3, mkCell 5 0 (toOctets 2 (((s.dev.lp port).edgeId + 1) % 65536) ++
         [2 ^ q, b2n up + 2 * b2n opens] ++ toOctets 4 (at1 / 256) ++ [at1 % 256]))]) ∧
   (∀ (p : Path) (n w : Nat) (s : State), n < 128 →
     s.dev.Admits p (hit .LNK_MSG_CTL RD.LNK_MSG_CTL n) (withBits w 0 1 1) → s.dev.rd F.LNK_MSG_CTL_BUSY n = 0 →
     (s.dev.portState (s.dev.portOfLane n) = 5 → s.dev.rd F.LNK_MSG_TXB_DATA n 0 % 256 ≤ 0x10 →
       ∃ t, exec (.lnkMsgSend p n w) s = .next t ∧ t.mem = s.mem ∧ t.dev.hif.cpl = ⟨0, 0⟩ ∧ t.dev.rd F.LNK_MSG_CTL_BUSY n = 1 ∧
         (t.dev.lp (s.dev.portOfLane n)).waiting.map (fun c => c.2) =
           (s.dev.lp (s.dev.portOfLane n)).waiting.map (fun c => c.2) ++ [some n] ∧
         s.dev.Changes (fun k => k = F.LNK_MSG_CTL_BUSY.key n 0 0) t.dev) ∧
     (s.dev.portState (s.dev.portOfLane n) ≠ 5 →
       ∃ t, exec (.lnkMsgSend p n w) s = .next t ∧
         s.dev.Changes (fun n => inRegions [8] n ∨ evtBits n ∨ accBits n) t.dev ∧
         t.mem = s.mem ∧ t.dev.hif.cpl = ⟨0, 0⟩ ∧
         t.dev.rd F.LNK_MSG_CTL_RESULT n = 1 ∧ t.dev.lnk = s.dev.lnk))) ∧
  ((∀ (p : Path) (k w : Nat) (s : State), k < 64 → s.dev.Admits p (hit .LNK_PROT RD.LNK_PROT k) w →
     ∃ t, exec (.protReqWrite p k w) s = .next t ∧ t.mem = s.mem ∧ t.dev.hif.cpl = ⟨0, 0⟩ ∧
       t.dev.rd F.LNK_PROT_REQ k = (if F.LNK_PROT_REQ.of w < 4 then F.LNK_PROT_REQ.of w else s.dev.rd F.LNK_PROT_REQ k) ∧
       t.dev.rd F.LNK_PROT_SD_THR k = F.LNK_PROT_SD_THR.of w ∧
       (F.LNK_PROT_SD_THR.of w = 0 → t.dev.rd F.LNK_PROT_STS_SD_A k = 0 ∧ t.dev.rd F.LNK_PROT_STS_SD_B k = 0) ∧
       t.dev.rd F.LNK_PROT_STS_SELECTED k = s.dev.rd F.LNK_PROT_STS_SELECTED k ∧
       (s.dev.paired k = true → (s.dev.lp k).pend = none → F.LNK_PROT_REQ.of w = 1 →
         t.dev.rd F.LNK_PROT_STS_PRIORITY k = 1 ∧
         (t.dev.lp k).pend = (if s.dev.rd F.LNK_PROT_STS_SELECTED k = 0 then none else some 0)) ∧
       s.dev.Changes (inRegions [8]) t.dev) ∧
   (∀ (k v : Nat) (s : State), k < 64 → (s.dev.lp k).pend = some v → v < 2 →
     ∃ t, exec (.pairSwitchApply k) s = .next t ∧ t.mem = s.mem ∧ t.dev.rd F.LNK_PROT_STS_SELECTED k = v ∧
       t.dev.rd F.LNK_PROT_STS_SWITCHES k = satNat F.LNK_PROT_STS_SWITCHES.w (s.dev.rd F.LNK_PROT_STS_SWITCHES k + 1) ∧
       s.dev.Changes (fun n => inRegions [8, 0xA, 0xB, 0xC, 0x1C] n ∨ evtBits n) t.dev) ∧
   (∀ (k : Nat) (s : State), k < 64 → s.dev.rd F.LNK_PROT_STS_WTR_RUN k = 1 →
     122880000 * max 1 (s.dev.rd F.LNK_PROT_WTR k) ≤ s.dev.now - (s.dev.lp k).wtrAt →
     ∃ t, exec (.wtrExpiry k) s = .next t ∧ t.mem = s.mem ∧ t.dev.rd F.LNK_PROT_STS_WTR_RUN k = 0 ∧
       ((s.dev.pairRow k).1 = 7 → (s.dev.lp k).pend = none → (t.dev.lp k).pend = some 0) ∧
       s.dev.Changes (inRegions [8]) t.dev) ∧
   (∀ (n : Nat) (s : State), n < 128 → s.dev.paired (s.dev.portOfLane n) = true →
     s.dev.lostNow n ≤ s.dev.rd F.LNK_PROT_SD_THR (s.dev.portOfLane n) / 2 →
     ∃ t, exec (.signalDegradeClear n) s = .next t ∧ t.mem = s.mem ∧ t.dev.rd (sdFld n) (s.dev.portOfLane n) = 0 ∧
       s.dev.Changes (inRegions [8]) t.dev) ∧
   (∀ (n : Nat) (ack : Bool) (l : List Nat) (s : State), n < 128 → s.dev.rd F.LNK_MGMT_KIND n = 1 →
     s.dev.pollDue n = true →
     ∃ t, exec (.mgbPoll n ack l) s = .next t ∧ t.mem = s.mem ∧ t.dev.rd F.LNK_MGMT_STS_PRESENT n = b2n ack ∧
       (ack = true → t.dev.rd F.LNK_MGMT_STS_TEMP n = 256 * (listAt l 0 % 256) + listAt l 1 % 256 ∧
         t.dev.rd F.LNK_MGMT_STS_RX_LOS n = bits (listAt l 2) 1 1 ∧ t.dev.rd F.LNK_MGMT_STS_TX_FAULT n = bits (listAt l 2) 2 1) ∧
       (ack = false → t.dev.rd F.LNK_MGMT_STS_TEMP n = s.dev.rd F.LNK_MGMT_STS_TEMP n) ∧
       (s.dev.rd F.LNK_MGMT_MUX_ADDR n = 0 →
         t.dev.lnk.accesses = tabPut s.dev.lnk.accesses (n / 32) (s.dev.pollReads n (if ack then l else []))) ∧
       s.dev.Changes (fun k => inRegions [8] k ∨ evtBits k) t.dev) ∧
   (∀ (p : Path) (b w : Nat) (s : State), b < 4 →
     s.dev.Admits p (hit .LNK_MGB_XFER RD.LNK_MGB_XFER b) (withBits w 31 1 1) → s.dev.rd F.LNK_MGB_XFER_BUSY b = 0 →
     (s.dev.laneAbsent (32 * b + F.LNK_MGB_XFER_LANE_IDX.of (withBits w 31 1 1)) = false →
       ∃ t, exec (.mgbXfer p b w) s = .next t ∧ t.mem = s.mem ∧ t.dev.hif.cpl = ⟨0, 0⟩ ∧ t.dev.rd F.LNK_MGB_XFER_BUSY b = 1 ∧
         t.dev.rd F.LNK_MGB_XFER_REG b = F.LNK_MGB_XFER_REG.of (withBits w 31 1 1) ∧ s.dev.Changes (inRegions [8]) t.dev) ∧
     (s.dev.laneAbsent (32 * b + F.LNK_MGB_XFER_LANE_IDX.of (withBits w 31 1 1)) = true →
       ∃ t, exec (.mgbXfer p b w) s = .next t ∧ t.mem = s.mem ∧ t.dev.hif.cpl = ⟨0, 0⟩ ∧ t.dev.rd F.LNK_MGB_XFER_BUSY b = 0 ∧
         t.dev.rd F.LNK_MGB_XFER_RESULT b = 3 ∧ s.dev.Changes (inRegions [8]) t.dev)) ∧
   (∀ (b data : Nat) (ack : Bool) (s : State), b < 4 → s.dev.rd F.LNK_MGB_XFER_BUSY b = 1 → s.dev.rd F.LNK_MGB_CFG_EN b = 1 →
     ∃ t, exec (.mgbXferDone b ack data) s = .next t ∧ t.mem = s.mem ∧ t.dev.rd F.LNK_MGB_XFER_BUSY b = 0 ∧
       t.dev.rd F.LNK_MGB_XFER_RESULT b = (if ack then 0 else 1) ∧
       t.dev.rd F.LNK_MGB_DATA_DATA b = (if ack = true ∧ s.dev.rd F.LNK_MGB_XFER_WRITE b = 0
         then data % 2 ^ (8 * (s.dev.rd F.LNK_MGB_XFER_LEN_M1 b + 1)) else s.dev.rd F.LNK_MGB_DATA_DATA b) ∧
       s.dev.Changes (inRegions [8]) t.dev) ∧
   (∀ (b : Nat) (s : State), b < 4 → s.dev.rd F.LNK_MGB_XFER_BUSY b = 1 →
     1228800 < s.dev.now - tabGet 0 s.dev.lnk.xferAt b →
     ∃ t, exec (.mgbTimeout b) s = .next t ∧ t.mem = s.mem ∧ t.dev.rd F.LNK_MGB_XFER_BUSY b = 0 ∧
       t.dev.rd F.LNK_MGB_XFER_RESULT b = 2 ∧ s.dev.Changes (inRegions [8]) t.dev))

/-! ### Chapter 4: donor links and front-end stations -/

/-- R271, R273 to R277, R306, R310: a donor link goes to *DATA* lock by lock and leaves it where lock is lost; a SYSREF pulse sets the
LEMC phase where armed. -/
def Obligations.DonorLinksLockAndSysrefSetsThePhase : Prop :=
  ((∀ (j : Nat) (s : State), j < 4 → s.dev.donState j = 1 →
     ∃ t, exec (.donShLock j) s = .next t ∧ t.mem = s.mem ∧ t.dev.donState j = 2 ∧
       s.dev.Changes (fun n => n = F.DON_LINK_STS_STATE.key j 0 0 ∨ evtBits n) t.dev) ∧
   (∀ (j : Nat) (s : State), j < 4 → s.dev.donState j = 2 →
     ∃ t, exec (.donEmbLock j) s = .next t ∧ t.mem = s.mem ∧ t.dev.donState j = 3 ∧
       s.dev.Changes (fun n => n = F.DON_LINK_STS_STATE.key j 0 0 ∨ evtBits n) t.dev) ∧
   (∀ (j : Nat) (l : List Nat) (s : State), j < 4 → s.dev.donState j = 3 → s.dev.rd F.DON_SYSREF_STS_ALIGNED = 1 →
     l.length = s.dev.donL j → s.dev.lemcNow j (s.dev.releaseOff j) = true →
     ((∀ a, a ∈ l → a ≤ s.dev.rd F.DON_LINK_CFG_RBD j) →
       ∃ t, exec (.donDataEntry j l) s = .next t ∧ t.mem = s.mem ∧ t.dev.donState j = 4 ∧
         t.dev.rd F.DON_LINK_STS_BUF_MARGIN j =
           (l.map (fun a => s.dev.rd F.DON_LINK_CFG_RBD j - a)).foldl min (s.dev.rd F.DON_LINK_STS_BUF_MARGIN j) ∧
         t.dev.rd F.DON_LINK_STS_BUF_MAX j =
           (l.map (fun a => s.dev.rd F.DON_LINK_CFG_RBD j - a)).foldl max (s.dev.rd F.DON_LINK_STS_BUF_MAX j) ∧
         s.dev.Changes (fun n => inRegions [9] n ∨ evtBits n) t.dev) ∧
     (∀ a, a ∈ l → s.dev.rd F.DON_LINK_CFG_RBD j < a →
       ∃ t, exec (.donDataEntry j l) s = .next t ∧ t.mem = s.mem ∧ t.dev.donState j = 3 ∧ t.dev.rd F.DON_LINK_STS_LATE j = 1 ∧
         s.dev.Changes (fun n => inRegions [9] n ∨ evtBits n) t.dev)) ∧
   (∀ (j sh : Nat) (lost : Bool) (l : List (List Bool)) (s : State), j < 4 → s.dev.donState j ≠ 0 →
     (∃ t, exec (.donLockLoss j lost sh l) s = .next t ∧
       s.dev.Changes (fun n => inRegions [9, 0xB, 0xC, 0x1C] n ∨ evtBits n) t.dev ∧ t.mem = s.mem ∧
       t.dev.rd F.DON_LINK_CNT_SH_ERR j = satNat F.DON_LINK_CNT_SH_ERR.w (s.dev.rd F.DON_LINK_CNT_SH_ERR j + sh) ∧
       t.dev.rd F.DON_LINK_CNT_CRC_ERR j = satNat F.DON_LINK_CNT_CRC_ERR.w (s.dev.rd F.DON_LINK_CNT_CRC_ERR j +
         l.foldl (fun a q => a + (q.filter (fun ok => !ok)).length) 0) ∧
       (lost = true → s.dev.donState j = 2 → t.dev.donState j = 1) ∧
       (lost = false → s.dev.donState j ≠ 4 → t.dev.donState j = s.dev.donState j) ∧
       (lost = true ∨ (∃ q, q < l.length ∧ q < 8 ∧ 8 ≤ (crcRun (tabGet 0 s.dev.don.runs (8 * j + q)) (l.getD q [])).1) →
         s.dev.donState j = 4 → t.dev.donState j = 1 ∧
         t.dev.rd F.DON_LINK_CNT_RELINKS j = satNat F.DON_LINK_CNT_RELINKS.w (s.dev.rd F.DON_LINK_CNT_RELINKS j + 1) ∧
         (∀ n m, n ∈ s.dev.slicesOfLink j → (s.dev.donor n).dlEn = true → s.dev.rd F.PRT_DLOSS_STS_LOST n = 0 →
           m ∈ s.dev.streamsIn n 1 → t.dev.cause 1 m = true ∧ t.dev.rd F.SLC_PROT_MUTE m = 1)))) ∧
   (∀ (j a : Nat) (s : State), j < 4 → s.dev.donState j = 3 ∨ s.dev.donState j = 4 →
     (s.dev.rd F.DON_LINK_CFG_RBD j < a →
       ∃ t, exec (.donLate j a) s = .next t ∧
         s.dev.Changes (fun n => inRegions [9, 0xB, 0xC, 0x1C] n ∨ evtBits n) t.dev ∧
         t.mem = s.mem ∧ t.dev.donState j = 3 ∧ t.dev.rd F.DON_LINK_STS_LATE j = 1) ∧
     (a ≤ s.dev.rd F.DON_LINK_CFG_RBD j → exec (.donLate j a) s = .next s)) ∧
   (∀ (j : Nat) (s : State), 4 ≤ j → j < 8 → s.dev.donState j = 3 → s.dev.rd F.DON_SYSREF_STS_ALIGNED = 1 →
     s.dev.lemcNow j 0 = true →
     ∃ t, exec (.donTxDataEntry j) s = .next t ∧ t.mem = s.mem ∧ t.dev.donState j = 4 ∧
       s.dev.Changes (fun n => inRegions [9] n ∨ evtBits n) t.dev)) ∧
  ((∀ (h : Nat) (s : State), s.dev.don.armed = true →
     ∃ t, exec (.sysrefPulse h) s = .next t ∧ t.mem = s.mem ∧ t.dev.don.armed = false ∧
       t.dev.don.phase = some (2 * s.dev.now + h % 2) ∧ t.dev.rd F.DON_SYSREF_STS_ALIGNED = 1 ∧
       t.dev.rd F.DON_SYSREF_STS_SEEN = 1 ∧ s.dev.Changes (inRegions [9]) t.dev) ∧
   (∀ (h : Nat) (s : State), s.dev.don.armed = false → s.dev.rd F.DON_SYSREF_STS_ALIGNED = 0 →
     exec (.sysrefPulse h) s = .next (s.onDev (fun d => d.wr F.DON_SYSREF_STS_SEEN 1))) ∧
   (∀ (h : Nat) (s : State), s.dev.don.armed = false → s.dev.rd F.DON_SYSREF_STS_ALIGNED = 1 →
     s.dev.rd F.DON_CTL_SYSREF_MODE = 1 → s.dev.onLemc (2 * s.dev.now + h % 2) = false →
     ∃ t, exec (.sysrefPulse h) s = .next t ∧
       s.dev.Changes (fun n => inRegions [9, 0xB, 0xC, 0x1C] n ∨ evtBits n) t.dev ∧
       t.mem = s.mem ∧ t.dev.don = s.dev.don ∧
       t.dev.rd F.DON_SYSREF_STS_SYSREF_ERR = satNat F.DON_SYSREF_STS_SYSREF_ERR.w (s.dev.rd F.DON_SYSREF_STS_SYSREF_ERR + 1) ∧
       (∀ j, t.dev.donState j = s.dev.donState j)) ∧
   (∀ (p : Path) (w : Nat) (s : State), s.dev.Admits p (hit .DON_CTL RD.DON_CTL) (withBits w 6 1 1) →
     ∃ t, exec (.sysrefArm p w) s = .next t ∧
       s.dev.Changes (fun n => inRegions [9] n ∨ evtBits n ∨ accBits n) t.dev ∧
       t.mem = s.mem ∧ t.dev.hif.cpl = ⟨0, 0⟩ ∧ t.dev.don.armed = true ∧
       t.dev.rd F.DON_SYSREF_STS_SEEN = 0 ∧ t.dev.rd F.DON_SYSREF_STS_ALIGNED = 0) ∧
   (∀ (p : Path) (w : Nat) (s : State), s.dev.Admits p (hit .DON_CTL RD.DON_CTL) (withBits w 2 1 1) →
     ∃ t, exec (.relink p w) s = .next t ∧
       s.dev.Changes (fun n => inRegions [9, 0xB, 0xC, 0x1C] n ∨ evtBits n ∨ accBits n) t.dev ∧
       t.mem = s.mem ∧ t.dev.hif.cpl = ⟨0, 0⟩ ∧
       (∀ j, j < 8 → s.dev.rd F.DON_LINK_CFG_EN j = 1 → s.dev.domOn 4 = true →
         (if j < 4 then F.DON_CTL_RX_EN else F.DON_CTL_TX_EN).of (withBits w 2 1 1) = 1 →
         t.dev.donState j = (if j < 4 then 1 else 3)) ∧
       (∀ j, j < 8 → s.dev.rd F.DON_LINK_CFG_EN j = 0 → t.dev.donState j = 0)) ∧
   (∀ (p : Path) (w : Nat) (s : State), s.dev.Admits p (hit .DON_CTL RD.DON_CTL) (withBits w 3 1 1) →
     ∃ t, exec (.donClrCnt p w) s = .next t ∧
       s.dev.Changes (fun n => inRegions [9] n ∨ evtBits n ∨ accBits n) t.dev ∧
       t.mem = s.mem ∧ t.dev.hif.cpl = ⟨0, 0⟩ ∧
       t.dev.rd F.DON_SYSREF_STS_SYSREF_ERR = 0 ∧
       (∀ j, j < 8 → t.dev.rd F.DON_LINK_CNT_CRC_ERR j = 0 ∧ t.dev.rd F.DON_LINK_CNT_SH_ERR j = 0 ∧
         t.dev.rd F.DON_LINK_CNT_RELINKS j = 0 ∧ t.dev.rd F.DON_LINK_STS_BUF_MAX j = 0) ∧
       (∀ n, n < 16 → t.dev.rd F.DON_CLIP_CLIP n = 0)) ∧
   (∀ (p : Path) (j w : Nat) (s : State), j < 8 → s.dev.Admits p (hit .DON_LINK_CFG RD.DON_LINK_CFG j) w →
     (s.dev.donState j = 0 →
       ∃ t, exec (.donLinkCfgWrite p j w) s = .next t ∧
         s.dev.Changes (fun n => inRegions [9, 0xB, 0xC, 0x1C] n ∨ evtBits n ∨ accBits n) t.dev ∧
         t.mem = s.mem ∧ t.dev.hif.cpl = ⟨0, 0⟩ ∧
         t.dev.rd F.DON_LINK_CFG_EN j = F.DON_LINK_CFG_EN.of w ∧ t.dev.rd F.DON_LINK_CFG_L_CODE j = F.DON_LINK_CFG_L_CODE.of w ∧
         t.dev.rd F.DON_LINK_CFG_M_PAIRS j = F.DON_LINK_CFG_M_PAIRS.of w ∧
         t.dev.rd F.DON_LINK_CFG_RATE j = F.DON_LINK_CFG_RATE.of w) ∧
     (s.dev.donState j ≠ 0 →
       ∃ t, exec (.donLinkCfgWrite p j w) s = .next t ∧
         s.dev.Changes (fun n => inRegions [9, 0xB, 0xC, 0x1C] n ∨ evtBits n ∨ accBits n) t.dev ∧
         t.mem = s.mem ∧ t.dev.hif.cpl = ⟨0, 0⟩ ∧
         t.dev.rd F.DON_LINK_CFG_EN j = F.DON_LINK_CFG_EN.of w ∧ t.dev.rd F.DON_LINK_CFG_L_CODE j = s.dev.rd F.DON_LINK_CFG_L_CODE j ∧
         t.dev.rd F.DON_LINK_CFG_M_PAIRS j = s.dev.rd F.DON_LINK_CFG_M_PAIRS j ∧
         t.dev.rd F.DON_LINK_CFG_RATE j = s.dev.rd F.DON_LINK_CFG_RATE j ∧
         (F.DON_LINK_CFG_EN.of w = 0 → t.dev.donState j = 0))))

/-- R302, R303: a command that a sequencer gives an on-board station reports its slot and its result, and acts on that
station alone; an unknown opcode and a length out of range end with `BAD_COMMAND`, a station that is *OFF* with
`BAD_STATION`. -/
def Obligations.StationCommandReportsItsResult : Prop :=
  (∀ (u k : Nat) (s : State), u < 8 → k < 16 → s.dev.coreOn = true →
    (∃ t, exec (.stnNop u k) s = .next t ∧ t.mem = s.mem ∧ t.dev.rd F.FES_STS_LAST_RESULT u = 0 ∧
      t.dev.rd F.FES_STS_LAST_SLOT u = k ∧ t.dev.stns = s.dev.stns ∧
      s.dev.Changes (fun n => n = F.FES_STS_LAST_RESULT.key u 0 0 ∨ n = F.FES_STS_LAST_SLOT.key u 0 0) t.dev) ∧
    (∃ t, exec (.stnRenew u k) s = .next t ∧ t.mem = s.mem ∧ t.dev.rd F.FES_STS_LAST_RESULT u = 0 ∧
      t.dev.rd F.FES_STS_LAST_SLOT u = k ∧ (s.dev.stnState u = 5 → (t.dev.stn u).renewAt = s.dev.now) ∧
      (∀ v, v ≠ u → t.dev.stn v = s.dev.stn v) ∧
      s.dev.Changes (fun n => n = F.FES_STS_LAST_RESULT.key u 0 0 ∨ n = F.FES_STS_LAST_SLOT.key u 0 0) t.dev) ∧
    (∀ op, ∃ t, exec (.stnBadOpcode u k op) s = .next t ∧ t.mem = s.mem ∧ t.dev.rd F.FES_STS_LAST_RESULT u = 6 ∧
      t.dev.rd F.FES_STS_LAST_SLOT u = k ∧ t.dev.stns = s.dev.stns ∧
      s.dev.Changes (fun n => n = F.FES_STS_LAST_RESULT.key u 0 0 ∨ n = F.FES_STS_LAST_SLOT.key u 0 0) t.dev)) ∧
  (∀ (u k : Nat) (rxen lna : Bool) (s : State), u < 8 → k < 16 → s.dev.coreOn = true →
    (s.dev.stnState u ≠ 0 →
      ∃ t, exec (.stnRxSet u k rxen lna) s = .next t ∧
        s.dev.Changes (fun n => inRegions [0xA] n ∨ evtBits n) t.dev ∧
        t.mem = s.mem ∧ t.dev.rd F.FES_STS_LAST_RESULT u = 0 ∧
        t.dev.rd F.FES_STS_LAST_SLOT u = k ∧ (t.dev.stn u).lna = lna ∧
        (t.dev.stn u).rxen = (if s.dev.rd F.FES_CTL_PAT u = 0 then rxen else (s.dev.stn u).rxen) ∧
        (∀ v, v ≠ u → t.dev.stn v = s.dev.stn v)) ∧
    (s.dev.stnState u = 0 →
      ∃ t, exec (.stnRxSet u k rxen lna) s = .next t ∧
        s.dev.Changes (fun n => inRegions [0xA] n ∨ evtBits n) t.dev ∧
        t.mem = s.mem ∧ t.dev.rd F.FES_STS_LAST_RESULT u = 5 ∧
        t.dev.stns = s.dev.stns)) ∧
  (∀ (u k mask v : Nat) (s : State), u < 8 → k < 16 → s.dev.coreOn = true → s.dev.stnState u ≠ 0 → mask < 256 → v < 256 →
    s.dev.rd F.FES_CTL_PAT u = 0 →
    ((s.dev.stnPins u).getD 1 false = false →
      ∃ t, exec (.stnPinSet u k mask v) s = .next t ∧
        s.dev.Changes (fun n => inRegions [0xA] n ∨ evtBits n) t.dev ∧
        t.mem = s.mem ∧ t.dev.rd F.FES_STS_LAST_RESULT u = 0 ∧
        (t.dev.stn u).trsw = (if bitAt mask 0 then bitAt v 0 else (s.dev.stn u).trsw) ∧
        (t.dev.stn u).aux = (if bitAt mask 1 then bitAt v 1 else (s.dev.stn u).aux) ∧
        (∀ x, x ≠ u → t.dev.stn x = s.dev.stn x)) ∧
    ((s.dev.stnPins u).getD 1 false = true → bitAt mask 0 = true → bitAt v 0 = true →
      ∃ t, exec (.stnPinSet u k mask v) s = .next t ∧
        s.dev.Changes (fun n => inRegions [0xA] n ∨ evtBits n) t.dev ∧
        t.mem = s.mem ∧ t.dev.rd F.FES_STS_LAST_RESULT u = 6 ∧
        t.dev.stns = s.dev.stns)) ∧
  (∀ (u k len : Nat) (l : List Nat) (s : State), u < 8 → k < 16 → s.dev.coreOn = true → s.dev.stnState u ≠ 0 → len < 256 →
    (1 ≤ len → len ≤ 8 →
      ∃ t, exec (.stnSpiWrite u k len l) s = .next t ∧
        s.dev.Changes (fun n => inRegions [0xA] n ∨ evtBits n) t.dev ∧
        t.mem = s.mem ∧ t.dev.rd F.FES_STS_LAST_RESULT u = 0 ∧
        t.dev.stnState u = s.dev.stnState u ∧ (t.dev.stn u).spi =
          ((s.dev.spiSend u [cutBits (8 * len) (fromOctets (takeFill len (takeFill 8 l)))]).stn u).spi ∧
        (∀ v, v ≠ u → t.dev.stn v = s.dev.stn v)) ∧
    (len = 0 ∨ 8 < len →
      ∃ t, exec (.stnSpiWrite u k len l) s = .next t ∧
        s.dev.Changes (fun n => inRegions [0xA] n ∨ evtBits n) t.dev ∧
        t.mem = s.mem ∧ t.dev.rd F.FES_STS_LAST_RESULT u = 6 ∧
        t.dev.stns = s.dev.stns)) ∧
  (∀ (u k wlen rlen : Nat) (l : List Nat) (s : State), u < 8 → k < 16 → s.dev.coreOn = true → s.dev.stnState u ≠ 0 →
    1 ≤ wlen → wlen ≤ 4 → 1 ≤ rlen → rlen ≤ 4 →
    ∃ t, exec (.stnSpiRead u k wlen rlen l) s = .next t ∧
      s.dev.Changes (fun n => inRegions [0xA] n ∨ evtBits n) t.dev ∧
      t.mem = s.mem ∧ t.dev.rd F.FES_STS_LAST_RESULT u = 2 ∧
      (t.dev.stn u).reading = some (k + 16 * rlen) ∧ (∀ v, v ≠ u → t.dev.stn v = s.dev.stn v)) ∧
  (∀ (u k rlen data : Nat) (s : State), u < 8 → k < 16 → rlen ≤ 4 → (s.dev.stn u).reading = some (k + 16 * rlen) →
    ∃ t, exec (.spiReadDone u data) s = .next t ∧
      s.dev.Changes (inRegions [0xA]) t.dev ∧
      t.mem = s.mem ∧ (t.dev.stn u).reading = none ∧
      t.dev.rd F.FES_RDATA_DATA u = data % 2 ^ (8 * rlen) ∧ t.dev.rd F.FES_STS_LAST_RESULT u = 0 ∧
      t.dev.rd F.FES_STS_LAST_SLOT u = k)

/-- R286 to R290: a tune and a calibration send their words and take their time; lock ends them, and two polls in a row
without lock are a fault. -/
def Obligations.StationTunesAndLocks : Prop :=
  (∀ (u k ch : Nat) (keep : Bool) (s : State), u < 8 → k < 16 → ch < 65536 → s.dev.coreOn = true →
    (∀ e, s.dev.cached u ch = some e → s.dev.stnState u = 1 ∨ s.dev.stnState u = 2 ∨ s.dev.stnState u = 4 →
      bitAt (listAt e 8) 0 = false →
      ∃ t, exec (.stnTune u k ch keep) s = .next t ∧ t.mem = s.mem ∧ t.dev.stnState u = 2 ∧
        t.dev.rd F.FES_STS_CHANNEL u = ch ∧ t.dev.rd F.FES_STS_LAST_RESULT u = 0 ∧ (t.dev.stn u).spi = ((s.dev.spiSend u (entryWords e)).stn u).spi ∧
        (t.dev.stn u).hopAt = s.dev.now ∧ (t.dev.stn u).hopLen = s.dev.spiTime u (listAt e 6) e + 20 * leAt e 2 2 ∧
        (∀ v, v ≠ u → t.dev.stn v = s.dev.stn v) ∧ s.dev.Changes (inRegions [0xA]) t.dev) ∧
    (∀ e, s.dev.cached u ch = some e → s.dev.stnState u = 5 → bitAt (listAt e 8) 0 = false → (s.dev.stn u).pend = none →
      ∃ t, exec (.stnTune u k ch keep) s = .next t ∧
        s.dev.Changes (fun n => inRegions [0xA] n ∨ evtBits n) t.dev ∧
        t.mem = s.mem ∧ t.dev.stnState u = 2 ∧ t.dev.rd F.FES_STS_PAEN u = 0 ∧
        t.dev.rd F.FES_STS_LAST_RESULT u = (if keep then 2 else 0) ∧
        (t.dev.stn u).pend = (if keep then some k else none)) ∧
    (∀ e, s.dev.cached u ch = some e → s.dev.stnState u = 3 →
      ∃ t, exec (.stnTune u k ch keep) s = .next t ∧
        s.dev.Changes (fun n => inRegions [0xA] n ∨ evtBits n) t.dev ∧
        t.mem = s.mem ∧ t.dev.stnState u = 3 ∧
        (t.dev.stn u).held = some (k, [ch]) ∧ t.dev.rd F.FES_STS_LAST_RESULT u = 2) ∧
    (s.dev.cached u ch = none → s.dev.stnState u ≠ 0 → s.dev.stnState u ≠ 6 →
      ∃ t, exec (.stnTune u k ch keep) s = .next t ∧
        s.dev.Changes (fun n => inRegions [0xA] n ∨ evtBits n) t.dev ∧
        t.mem = s.mem ∧ t.dev.stnState u = s.dev.stnState u ∧
        t.dev.rd F.FES_STS_LAST_RESULT u = 6 ∧
        t.dev.rd F.FES_CNT2_CACHE_MISS u = satNat F.FES_CNT2_CACHE_MISS.w (s.dev.rd F.FES_CNT2_CACHE_MISS u + 1))) ∧
  (∀ (u k w : Nat) (e : List Nat) (keep : Bool) (s : State), u < 8 → k < 16 → s.dev.coreOn = true →
    s.dev.stnState u = 1 ∨ s.dev.stnState u = 2 ∨ s.dev.stnState u = 4 →
    s.dev.cached u (s.dev.rd F.FES_STS_CHANNEL u) = some e →
    ∃ t, exec (.stnCalibrate u k w keep) s = .next t ∧ t.mem = s.mem ∧ t.dev.stnState u = 3 ∧
      t.dev.rd F.FES_STS_LAST_RESULT u = 0 ∧
      (t.dev.stn u).hopLen = s.dev.spiTime u (listAt e 6 + 1) e + 200 * leAt e 4 2 ∧
      (t.dev.stn u).spi = ((s.dev.spiSend u (entryWords e ++ [cutBits (listAt e 7) (w % 2 ^ 32)])).stn u).spi ∧
       s.dev.Changes (inRegions [0xA]) t.dev) ∧
  (∀ (u : Nat) (s : State), u < 8 → s.dev.stnState u = 2 → (s.dev.stn u).hopOver = false →
    (s.dev.stn u).hopLen * 12288 ≤ (s.dev.now - (s.dev.stn u).hopAt) * 20000 →
    (s.dev.rd F.FES_LOCK_CFG_POLL_EN u = 1 →
      ∃ t, exec (.hopTimeExpiry u) s = .next t ∧ t.mem = s.mem ∧ t.dev.regs = s.dev.regs ∧ (t.dev.stn u).hopOver = true) ∧
    (s.dev.rd F.FES_LOCK_CFG_POLL_EN u = 0 → (s.dev.stn u).pend = none →
      ∃ t, exec (.hopTimeExpiry u) s = .next t ∧ t.mem = s.mem ∧ t.dev.stnState u = 4 ∧ t.dev.rd F.FES_STS_LOCK u = 1 ∧
        s.dev.Changes (inRegions [0xA]) t.dev) ∧
    (∀ k, s.dev.rd F.FES_LOCK_CFG_POLL_EN u = 0 → (s.dev.stn u).pend = some k → s.dev.rd F.FES_SAFE_STS_SAFE_N = 0 →
      ∃ t, exec (.hopTimeExpiry u) s = .next t ∧
        s.dev.Changes (fun n => inRegions [0xA] n ∨ evtBits n) t.dev ∧
        t.mem = s.mem ∧ t.dev.stnState u = 5 ∧ (t.dev.stn u).pend = none ∧
        t.dev.rd F.FES_STS_PENDING u = 0 ∧ t.dev.rd F.FES_STS_LAST_RESULT u = 0 ∧ (t.dev.stn u).renewAt = s.dev.now)) ∧
  (∀ (u data : Nat) (s : State), u < 8 → s.dev.rd F.FES_LOCK_CFG_POLL_EN u = 1 → s.dev.pollsNow u = true →
    (s.dev.stnState u = 4 → data &&& s.dev.rd F.FES_LOCK_CFG_MASK u ≠ s.dev.rd F.FES_LOCK_CFG_MASK u →
      ((s.dev.stn u).missed = 0 →
        ∃ t, exec (.lockPoll u data) s = .next t ∧ t.mem = s.mem ∧ t.dev.regs = s.dev.regs ∧ (t.dev.stn u).missed = 1 ∧ (t.dev.stn u).pollAt = some s.dev.now) ∧
      ((s.dev.stn u).missed ≠ 0 →
        ∃ t, exec (.lockPoll u data) s = .next t ∧
          s.dev.Changes (fun n => inRegions [0xA] n ∨ evtBits n) t.dev ∧
          t.mem = s.mem ∧ t.dev.stnState u = 6 ∧ t.dev.rd F.FES_STS_LOCK u = 0)) ∧
    (s.dev.stnState u = 2 → (s.dev.stn u).hopOver = true → (s.dev.stn u).pend = none →
      data &&& s.dev.rd F.FES_LOCK_CFG_MASK u = s.dev.rd F.FES_LOCK_CFG_MASK u →
      ∃ t, exec (.lockPoll u data) s = .next t ∧
        s.dev.Changes (fun n => inRegions [0xA] n ∨ evtBits n) t.dev ∧
        t.mem = s.mem ∧ t.dev.stnState u = 4 ∧ t.dev.rd F.FES_STS_LOCK u = 1))

/-- R289, R291 to R295: *TRANSMIT* is entered from *READY*, waits for lock, ends with its renewal, its wait limit and
`TX_OFF`, and the enables keep their order. -/
def Obligations.StationTransmitsUnderItsLimits : Prop :=
  (∀ (u k : Nat) (s : State), u < 8 → k < 16 → s.dev.coreOn = true →
    (s.dev.stnState u = 4 → s.dev.rd F.FES_SAFE_STS_SAFE_N = 0 →
      ∃ t, exec (.stnTxOn u k) s = .next t ∧ t.mem = s.mem ∧ t.dev.stnState u = 5 ∧ t.dev.rd F.FES_STS_LAST_RESULT u = 0 ∧
        (t.dev.stn u).renewAt = s.dev.now ∧
        (s.dev.rd F.FES_CTL_PAT u = 0 → s.dev.txAllowed = true → t.dev.rd F.FES_STS_TXEN u = 1 ∧
          (s.dev.rd F.FES_TIMING_PA_DELAY u = 0 → t.dev.rd F.FES_STS_PAEN u = 1) ∧
          (s.dev.rd F.FES_TIMING_PA_DELAY u ≠ 0 → t.dev.rd F.FES_STS_PAEN u = s.dev.rd F.FES_STS_PAEN u ∧
            (t.dev.stn u).step = 2)) ∧
        (s.dev.txAllowed = false → t.dev.rd F.FES_STS_TXEN u = s.dev.rd F.FES_STS_TXEN u ∧
          t.dev.rd F.FES_STS_PAEN u = s.dev.rd F.FES_STS_PAEN u) ∧ s.dev.Changes (inRegions [0xA]) t.dev) ∧
    (s.dev.stnState u = 2 ∨ s.dev.stnState u = 3 → s.dev.rd F.FES_SAFE_STS_SAFE_N = 0 → (s.dev.stn u).pend = none →
      ∃ t, exec (.stnTxOn u k) s = .next t ∧
        s.dev.Changes (fun n => inRegions [0xA] n ∨ evtBits n) t.dev ∧
        t.mem = s.mem ∧ t.dev.stnState u = s.dev.stnState u ∧
        t.dev.rd F.FES_STS_LAST_RESULT u = 2 ∧ t.dev.rd F.FES_STS_PENDING u = 1 ∧ (t.dev.stn u).pend = some k ∧
        (t.dev.stn u).pendAt = s.dev.now) ∧
    (s.dev.stnState u = 1 ∨ (s.dev.stnState u = 4 ∧ s.dev.rd F.FES_SAFE_STS_SAFE_N = 1) →
      ∃ t, exec (.stnTxOn u k) s = .next t ∧
        s.dev.Changes (fun n => inRegions [0xA] n ∨ evtBits n) t.dev ∧
        t.mem = s.mem ∧ t.dev.stnState u = s.dev.stnState u ∧
        t.dev.rd F.FES_STS_LAST_RESULT u = 3 ∧
        t.dev.rd F.FES_CNT_NO_LOCK u = satNat F.FES_CNT_NO_LOCK.w (s.dev.rd F.FES_CNT_NO_LOCK u + 1)) ∧
    (s.dev.stnState u = 5 →
      ∃ t, exec (.stnTxOff u k) s = .next t ∧ t.mem = s.mem ∧ t.dev.stnState u = 4 ∧ t.dev.rd F.FES_STS_LAST_RESULT u = 0 ∧
        t.dev.rd F.FES_STS_PAEN u = 0 ∧ (s.dev.rd F.FES_TIMING_PA_DELAY u = 0 → t.dev.rd F.FES_STS_TXEN u = 0) ∧
        s.dev.Changes (inRegions [0xA]) t.dev)) ∧
  (∀ (u k : Nat) (s : State), u < 8 → k < 16 → (s.dev.stn u).pend = some k →
    s.dev.stnState u = 2 ∨ s.dev.stnState u = 3 →
    max 10 (s.dev.rd F.FES_LIMIT_TX_WAIT_LIMIT u) * 12288 ≤ (s.dev.now - (s.dev.stn u).pendAt) * 100 →
    ∃ t, exec (.txWaitLimitExpiry u) s = .next t ∧
      s.dev.Changes (fun n => inRegions [0xA] n ∨ evtBits n) t.dev ∧
      t.mem = s.mem ∧ (t.dev.stn u).pend = none ∧
      t.dev.rd F.FES_STS_PENDING u = 0 ∧ t.dev.rd F.FES_STS_LAST_RESULT u = 3 ∧ t.dev.rd F.FES_STS_LAST_SLOT u = k ∧
      t.dev.rd F.FES_CNT_NO_LOCK u = satNat F.FES_CNT_NO_LOCK.w (s.dev.rd F.FES_CNT_NO_LOCK u + 1)) ∧
  (∀ (u : Nat) (s : State), u < 8 → s.dev.stnState u = 5 → s.dev.maxOn u ≤ s.dev.now - (s.dev.stn u).renewAt →
    ∃ t, exec (.maxOnExpiry u) s = .next t ∧
      s.dev.Changes (fun n => inRegions [0xA] n ∨ evtBits n) t.dev ∧
      t.mem = s.mem ∧ t.dev.stnState u = 4 ∧ t.dev.rd F.FES_STS_PAEN u = 0 ∧
      t.dev.rd F.FES_STS_LAST_RESULT u = 4 ∧
      t.dev.rd F.FES_CNT_MAX_ON_DROP u = satNat F.FES_CNT_MAX_ON_DROP.w (s.dev.rd F.FES_CNT_MAX_ON_DROP u + 1)) ∧
  (∀ (u : Nat) (s : State), u < 8 → s.dev.rd F.FES_TIMING_PA_DELAY u ≤ s.dev.now - (s.dev.stn u).stepAt →
    ((s.dev.stn u).step = 1 →
      ∃ t, exec (.paDelayExpiry u) s = .next t ∧
        s.dev.Changes (inRegions [0xA]) t.dev ∧
        t.mem = s.mem ∧ t.dev.rd F.FES_STS_TXEN u = 0 ∧
        t.dev.rd F.FES_STS_PAEN u = 0 ∧ (t.dev.stn u).step = 0) ∧
    ((s.dev.stn u).step = 2 → s.dev.stnState u = 5 → s.dev.txAllowed = true →
      ∃ t, exec (.paDelayExpiry u) s = .next t ∧
        s.dev.Changes (inRegions [0xA]) t.dev ∧
        t.mem = s.mem ∧ t.dev.rd F.FES_STS_PAEN u = 1 ∧ (t.dev.stn u).step = 0))

/-- R281, R284, R285, R289, R296, R299, R301, R303, R304, R318: pins, the alarm, SAFE_N, the control register, the channel cache and the
remote stations. -/
def Obligations.StationPinsAlarmsControlAndRemotes : Prop :=
  ((∀ (u : Nat) (s : State), u < 8 → s.dev.rd F.FES_CTL_PAT u = 1 → s.dev.stnState u ≠ 0 →
     s.dev.rd F.FES_SAFE_STS_CLK_SAFE = 0 →
     (s.dev.pinCalled u 0 = true →
       ∃ t, exec (.stationPinEdge u 0) s = .next t ∧ t.mem = s.mem ∧ t.dev.regs = s.dev.regs ∧ (t.dev.stn u).rxen = false) ∧
     (s.dev.pinCalled u 1 = true →
       ∃ t, exec (.stationPinEdge u 1) s = .next t ∧ t.mem = s.mem ∧ t.dev.regs = s.dev.regs ∧ (t.dev.stn u).trsw = true) ∧
     (s.dev.pinCalled u 2 = true → s.dev.stnState u = 5 → s.dev.txAllowed = true →
       ∃ t, exec (.stationPinEdge u 2) s = .next t ∧
         s.dev.Changes (inRegions [0xA]) t.dev ∧
         t.mem = s.mem ∧ t.dev.rd F.FES_STS_TXEN u = 1 ∧
         (t.dev.stn u).patTx = true) ∧
     (s.dev.pinCalled u 3 = true → s.dev.stnState u = 5 → s.dev.txAllowed = true → s.dev.rd F.FES_STS_TXEN u = 1 →
       ∃ t, exec (.stationPinEdge u 3) s = .next t ∧
         s.dev.Changes (inRegions [0xA]) t.dev ∧
         t.mem = s.mem ∧ t.dev.rd F.FES_STS_PAEN u = 1 ∧
         (t.dev.stn u).renewAt = s.dev.now) ∧
     (s.dev.pinCalled u 4 = true → ∃ t, exec (.stationPinEdge u 4) s = .next t ∧
       s.dev.Changes (inRegions [0xA]) t.dev ∧
       t.mem = s.mem ∧ t.dev.rd F.FES_STS_PAEN u = 0 ∧
       (t.dev.stn u).patTx = false) ∧
     (s.dev.pinCalled u 5 = true → exec (.stationPinEdge u 5) s = .next (s.onDev (fun d => d.wr F.FES_STS_TXEN 0 u))) ∧
     (s.dev.pinCalled u 6 = true → ∃ t, exec (.stationPinEdge u 6) s = .next t ∧ t.mem = s.mem ∧ t.dev.regs = s.dev.regs ∧ (t.dev.stn u).trsw = false) ∧
     (∀ e, e < 8 → s.dev.pinCalled u e = false → exec (.stationPinEdge u e) s = .next s) ∧
     (s.dev.pinCalled u 7 = true → ∃ t, exec (.stationPinEdge u 7) s = .next t ∧ t.mem = s.mem ∧ t.dev.regs = s.dev.regs ∧ (t.dev.stn u).rxen = true)) ∧
   (∀ (u held : Nat) (high : Bool) (s : State), u < 8 → s.dev.coreOn = true → s.dev.rd F.FES_STS_ALARM u = 0 →
     high ≠ s.dev.flag F.FES_ALARM_CFG_POL u → 12288 * s.dev.rd F.FES_ALARM_CFG_FILTER u ≤ 100 * held →
     ∃ t, exec (.fesAlmActive u high held) s = .next t ∧
       s.dev.Changes (fun n => inRegions [0xA] n ∨ evtBits n) t.dev ∧
       t.mem = s.mem ∧ t.dev.rd F.FES_STS_ALARM u = 1 ∧
       t.dev.rd F.FES_CNT2_ALARMS u = satNat F.FES_CNT2_ALARMS.w (s.dev.rd F.FES_CNT2_ALARMS u + 1) ∧
       (s.dev.rd F.FES_ALARM_CFG_ACTION u = 0 ∨ s.dev.rd F.FES_STS_STUCK u = 1 → t.dev.stnState u = s.dev.stnState u) ∧
       (s.dev.rd F.FES_ALARM_CFG_ACTION u = 1 → s.dev.rd F.FES_STS_STUCK u = 0 → s.dev.stnState u = 5 →
         t.dev.stnState u = 4 ∧ t.dev.rd F.FES_STS_PAEN u = 0) ∧
       (2 ≤ s.dev.rd F.FES_ALARM_CFG_ACTION u → s.dev.rd F.FES_STS_STUCK u = 0 → s.dev.stnState u ≠ 0 →
         t.dev.stnState u = 6) ∧
       ((s.dev.stn u).lockout = none → (t.dev.stn u).lockout = some s.dev.now) ∧
       ((s.dev.stn u).lockout ≠ none →
         t.dev.rd F.FES_CNT_CHATTER u = satNat F.FES_CNT_CHATTER.w (s.dev.rd F.FES_CNT_CHATTER u + 1))) ∧
   (∀ (u held : Nat) (high : Bool) (s : State), u < 8 → s.dev.coreOn = true →
     (high = s.dev.flag F.FES_ALARM_CFG_POL u →
       exec (.fesAlmActive u high held) s = .next (s.onDev (fun d => d.wr F.FES_STS_ALARM 0 u))) ∧
     (high ≠ s.dev.flag F.FES_ALARM_CFG_POL u → 100 * held < 12288 * s.dev.rd F.FES_ALARM_CFG_FILTER u →
       exec (.fesAlmActive u high held) s = .next s)) ∧
   (∀ (u : Nat) (s : State), u < 8 → s.dev.rd F.FES_STS_ALARM u = 1 → s.dev.rd F.FES_ALARM_CFG_STUCK_TIME u ≠ 0 →
     12288000 * s.dev.rd F.FES_ALARM_CFG_STUCK_TIME u < s.dev.now - (s.dev.stn u).alarmAt →
     exec (.fesAlmStuck u) s = .next (s.onDev (fun d => d.wr F.FES_STS_STUCK 1 u))) ∧
   (∀ (u b : Nat) (s : State), u < 8 → (s.dev.stn u).lockout = some b →
     122880 * max 1 (s.dev.rd F.FES_ALARM_CFG_LOCKOUT u) ≤ s.dev.now - b →
     ∃ t, exec (.fesAlmLockoutEnd u) s = .next t ∧ t.mem = s.mem ∧
       (t.dev.stn u).lockout = (if (s.dev.stn u).suppressed = 0 then none else some s.dev.now) ∧
       (t.dev.stn u).suppressed = 0 ∧ s.dev.Changes evtBits t.dev) ∧
   (∀ (s : State), s.dev.coreOn = true → s.dev.rd F.FES_SAFE_STS_SAFE_N = 0 →
     ∃ t, exec .safeNAssert s = .next t ∧
       s.dev.Changes (fun n => inRegions [0xA] n ∨ evtBits n) t.dev ∧
       t.mem = s.mem ∧ t.dev.rd F.FES_SAFE_STS_SAFE_N = 1 ∧
       t.dev.rd F.FES_SAFE_STS_SAFE_CNT = satNat F.FES_SAFE_STS_SAFE_CNT.w (s.dev.rd F.FES_SAFE_STS_SAFE_CNT + 1) ∧
       ∀ u, u < 8 → t.dev.rd F.FES_STS_TXEN u = 0 ∧ t.dev.rd F.FES_STS_PAEN u = 0 ∧ (t.dev.stn u).pend = none ∧
         (s.dev.stnState u = 5 → t.dev.stnState u = 4) ∧ (s.dev.stnState u ≠ 5 → t.dev.stnState u = s.dev.stnState u)) ∧
   (∀ (s : State), ∃ t, exec .safeNRelease s = .next t ∧ t.mem = s.mem ∧ t.dev.rd F.FES_SAFE_STS_SAFE_N = 0 ∧
     t.dev.stns = s.dev.stns ∧ s.dev.Changes (fun n => n = F.FES_SAFE_STS_SAFE_N.key 0 0 0 ∨ evtBits n) t.dev)) ∧
  ((∀ (p : Path) (u w : Nat) (s : State), u < 8 → s.dev.Admits p (hit .FES_CTL RD.FES_CTL u) w → F.FES_CTL_RUN.of w = 0 →
     (s.dev.stnState u = 0 → F.FES_CTL_EN.of w = 1 →
       ∃ t, exec (.fesEnWrite p u w) s = .next t ∧
         s.dev.Changes (fun n => inRegions [0xA] n ∨ evtBits n ∨ accBits n) t.dev ∧
         t.mem = s.mem ∧ t.dev.hif.cpl = ⟨0, 0⟩ ∧ t.dev.stnState u = 1 ∧
         t.dev.rd F.FES_CTL_EN u = 1 ∧ (t.dev.stn u).rxen = s.dev.safeLevel u 0) ∧
     (s.dev.stnState u ≠ 0 → F.FES_CTL_EN.of w = 0 →
       ∃ t, exec (.fesEnWrite p u w) s = .next t ∧
         s.dev.Changes (fun n => inRegions [0xA] n ∨ evtBits n ∨ accBits n) t.dev ∧
         t.mem = s.mem ∧ t.dev.hif.cpl = ⟨0, 0⟩ ∧ t.dev.stnState u = 0 ∧
         t.dev.rd F.FES_CTL_EN u = 0 ∧ (t.dev.stn u).pend = none ∧ t.dev.rd F.FES_STS_LOCK u = 0)) ∧
   (∀ (p : Path) (u w : Nat) (s : State), u < 8 → s.dev.coreOn = true →
     s.dev.Admits p (hit .FES_CTL RD.FES_CTL u) (withBits w 20 1 1) →
     listAt (s.dev.slotBody u (F.FES_CTL_RUN_SLOT.of (withBits w 20 1 1))) 0 = 0 →
     ∃ t, exec (.fesRun p u w) s = .next t ∧
       s.dev.Changes (fun n => inRegions [0xA] n ∨ evtBits n ∨ accBits n) t.dev ∧
       t.mem = s.mem ∧ t.dev.hif.cpl = ⟨0, 0⟩ ∧ t.dev.rd F.FES_STS_LAST_RESULT u = 0 ∧
       t.dev.rd F.FES_STS_LAST_SLOT u = F.FES_CTL_RUN_SLOT.of (withBits w 20 1 1)) ∧
   (∀ (p : Path) (u w : Nat) (s : State), u < 8 → s.dev.Admits p (hit .FES_CTL RD.FES_CTL u) (withBits w 8 1 1) →
     F.FES_CTL_RUN.of (withBits w 8 1 1) = 0 → F.FES_CTL_EN.of (withBits w 8 1 1) = 1 → s.dev.stnState u = 6 →
     ∃ t, exec (.faultClr p u w) s = .next t ∧ t.mem = s.mem ∧ t.dev.hif.cpl = ⟨0, 0⟩ ∧ t.dev.stnState u = 1 ∧
       s.dev.Changes (inRegions [0xA]) t.dev) ∧
   (∀ (p : Path) (u w : Nat) (s : State), u < 8 → s.dev.Admits p (hit .FES_CTL RD.FES_CTL u) (withBits w 9 1 1) →
     F.FES_CTL_RUN.of (withBits w 9 1 1) = 0 →
     ∃ t, exec (.almRearm p u w) s = .next t ∧
       s.dev.Changes (fun n => inRegions [0xA] n ∨ evtBits n ∨ accBits n) t.dev ∧
       t.mem = s.mem ∧ t.dev.hif.cpl = ⟨0, 0⟩ ∧ t.dev.rd F.FES_STS_STUCK u = 0) ∧
   (∀ (p : Path) (w : Nat) (s : State), s.dev.Admits p (hit .FES_GLB_CTL RD.FES_GLB_CTL) (withBits w 1 1 1) →
     ∃ t, exec (.fesClrCnt p w) s = .next t ∧ t.mem = s.mem ∧ t.dev.hif.cpl = ⟨0, 0⟩ ∧
       t.dev.rd F.FES_SAFE_STS_SAFE_CNT = 0 ∧ s.dev.Changes (inRegions [0xA]) t.dev ∧
       ∀ u, u < 8 → t.dev.rd F.FES_CNT_NO_LOCK u = 0 ∧ t.dev.rd F.FES_CNT_MAX_ON_DROP u = 0 ∧
         t.dev.rd F.FES_CNT_CANCELLED u = 0 ∧ t.dev.rd F.FES_CNT_CHATTER u = 0 ∧ t.dev.rd F.FES_CNT2_CACHE_MISS u = 0 ∧
         t.dev.rd F.FES_CNT2_ALARMS u = 0) ∧
   (∀ (p : Path) (u w : Nat) (s : State), u < 8 →
     s.dev.Admits p (hit .FES_CACHE_CTL RD.FES_CACHE_CTL u) (withBits w 31 1 1) → s.dev.rd F.FES_CACHE_CTL_BUSY u = 0 →
     s.dev.memReady = true →
     ∃ t, exec (.cacheLoad p u w) s = .next t ∧
       s.dev.Changes (fun n => inRegions [0xA] n ∨ evtBits n ∨ accBits n) t.dev ∧
       t.mem = s.mem ∧ t.dev.hif.cpl = ⟨0, 0⟩ ∧ t.dev.rd F.FES_CACHE_CTL_BUSY u = 1 ∧
       (t.dev.stn u).load = some (F.FES_CACHE_CTL_CACHE_IDX.of (withBits w 31 1 1),
         F.FES_CACHE_CTL_CHANNEL.of (withBits w 31 1 1))) ∧
   (∀ (u idx ch : Nat) (e : List Nat) (s : State), u < 8 → (s.dev.stn u).load = some (idx, ch) → s.dev.memReady = true →
     s.dev.memFits (64 * (s.dev.rd F.FES_TBL_ADDR64 u + ch)) 64 = true →
     e = s.mem.sdRead (64 * (s.dev.rd F.FES_TBL_ADDR64 u + ch)) 64 →
     (crcGood e = true → leAt e 0 2 = ch →
       ∃ t, exec (.cacheLoadDone u false) s = .next t ∧
         s.dev.Changes (fun n => inRegions [7, 0xA, 0xC] n ∨ evtBits n) t.dev ∧
         t.mem = s.mem ∧ t.dev.rd F.FES_CACHE_CTL_BUSY u = 0 ∧
         t.dev.rd F.FES_CACHE_CTL_RESULT u = 0 ∧ tabFind (t.dev.stn u).cache idx = some e ∧ (t.dev.stn u).load = none) ∧
     (crcGood e = false →
       ∃ t, exec (.cacheLoadDone u false) s = .next t ∧
         s.dev.Changes (fun n => inRegions [7, 0xA, 0xC] n ∨ evtBits n) t.dev ∧
         t.mem = s.mem ∧ t.dev.rd F.FES_CACHE_CTL_RESULT u = 1 ∧
         (t.dev.stn u).cache = (s.dev.stn u).cache) ∧
     (crcGood e = true → leAt e 0 2 ≠ ch →
       ∃ t, exec (.cacheLoadDone u false) s = .next t ∧
         s.dev.Changes (fun n => inRegions [7, 0xA, 0xC] n ∨ evtBits n) t.dev ∧
         t.mem = s.mem ∧ t.dev.rd F.FES_CACHE_CTL_RESULT u = 3 ∧
         (t.dev.stn u).cache = (s.dev.stn u).cache)) ∧
   (∀ (q : Nat) (s : State), q < 512 → s.dev.rd F.FES_GLB_CTL_HB_EN = 1 → s.dev.engineOn = true →
     s.dev.rd F.FES_REM_STS_ARMED q = 1 → s.dev.rd F.FES_GLB_CTL_REM_RENEW ≠ 0 → s.dev.portActive (q / 4) = true →
     (∀ b, tabFind (s.dev.lp (q / 4)).renewedAt (q % 4) = some b →
       61440 * s.dev.rd F.FES_GLB_CTL_REM_RENEW ≤ s.dev.now - b) →
     ∃ t, exec (.remRenew q) s = .next t ∧ t.mem = s.mem ∧ t.dev.regs = s.dev.regs ∧
       tabFind (t.dev.lp (q / 4)).renewedAt (q % 4) = some s.dev.now ∧
       (t.dev.lp (q / 4)).waiting = (s.dev.lp (q / 4)).waiting ++ [(mkCell 6 1 ([q % 4, 0] ++ takeFill 10 [] ++ takeFill 16 [4]), none)]) ∧
   (∀ (port : Nat) (c : List Nat) (s : State), port < 128 → (s.dev.lp port).rxCell = some c → listAt c 0 = 7 →
     listAt c 6 < 8 → listAt c 5 < 16 →
     ∃ t, exec (.stnRspRx port) s = .next t ∧ t.mem = s.mem ∧ (t.dev.lp port).rxCell = none ∧
       t.dev.rd F.FES_REM_STS_LAST_RESULT (4 * port + listAt c 4 % 4) = listAt c 6 ∧
       t.dev.rd F.FES_REM_STS_LAST_SLOT (4 * port + listAt c 4 % 4) = listAt c 5 ∧
       (listAt c 6 < 2 → tabGet 0 (s.dev.lp port).commands (16 * (listAt c 4 % 4) + listAt c 5) = 2 →
         t.dev.rd F.FES_REM_STS_ARMED (4 * port + listAt c 4 % 4) = 1) ∧
       (tabGet 0 (s.dev.lp port).commands (16 * (listAt c 4 % 4) + listAt c 5) = 3 →
         t.dev.rd F.FES_REM_STS_ARMED (4 * port + listAt c 4 % 4) = 0) ∧
       s.dev.Changes (inRegions [0xA]) t.dev))

/-! ### Chapters 5 and 6: the datapath and the measurement chains -/

/-- R23, R346, R347, R349 to R351, R388: pending gains are written only under `MANUAL` and kept in range; a commit makes the
pending bank the active one, at once or after the fade that runs. -/
def Obligations.GainBanksAreWrittenAndCommitted : Prop :=
  (∀ (p : Path) (k w : Nat) (s : State), k < 262144 → s.dev.Admits p (hit .TIL_PEND RD.TIL_PEND k) w →
    (s.dev.has (k / 128) = true → s.dev.rd F.TIL_STREAM_MANUAL (k / 128) = 1 → s.dev.mld.entered = true →
      ∃ t, exec (.pendingGainWrite p k w) s = .next t ∧ t.mem = s.mem ∧ t.dev.hif.cpl = ⟨0, 0⟩ ∧
        t.dev.rd F.TIL_PEND_G_LO k = gainFit (bits w 0 16) ∧ t.dev.rd F.TIL_PEND_G_HI k = gainFit (bits w 16 16) ∧
        t.dev.rd F.TIL_RANGE_CNT_COUNT = satNat F.TIL_RANGE_CNT_COUNT.w (s.dev.rd F.TIL_RANGE_CNT_COUNT +
          (b2n (gainOut (bits w 0 16)) + b2n (gainOut (bits w 16 16)))) ∧
        s.dev.Changes (fun n => n = F.TIL_PEND_G_LO.key k 0 0 ∨ n = F.TIL_PEND_G_HI.key k 0 0 ∨
          n = F.TIL_RANGE_CNT_COUNT.key 0 0 0) t.dev) ∧
    (s.dev.has (k / 128) = true → s.dev.rd F.TIL_STREAM_MANUAL (k / 128) = 0 →
      exec (.pendingGainWrite p k w) s = .next (s.onDev (fun d =>
        (d.bump F.TIL_REJECT_CNT_COUNT).fail p (hit .TIL_PEND RD.TIL_PEND k).addr 4))) ∧
    (s.dev.has (k / 128) = false ∨ (s.dev.rd F.TIL_STREAM_MANUAL (k / 128) = 1 ∧ s.dev.mld.entered = false) →
      exec (.pendingGainWrite p k w) s = .next (s.onDev (fun d => d.complete 0)))) ∧
  (∀ (p : Path) (m w : Nat) (s : State), m < 2048 → s.dev.has m = true →
    s.dev.Admits p (hit .TIL_STREAM RD.TIL_STREAM m) (withBits w 8 1 1) →
    F.TIL_STREAM_MANUAL.of (withBits w 8 1 1) = 1 →
    (s.dev.rd F.TIL_STREAM_FADING m = 0 →
      ∃ t, exec (.tilCommitWrite p m w) s = .next t ∧ t.mem = s.mem ∧ t.dev.hif.cpl = ⟨0, 0⟩ ∧
        (∀ k, k < 256 → t.dev.act m k = s.dev.pend m k ∧ t.dev.pend m k = s.dev.pend m k) ∧
        t.dev.rd F.TIL_STREAM_ACTIVE_BANK m = 1 - s.dev.rd F.TIL_STREAM_ACTIVE_BANK m ∧
        s.dev.Changes (inRegions [0x11, 0x1F]) t.dev) ∧
    (s.dev.rd F.TIL_STREAM_FADING m = 1 → s.dev.rd F.TIL_STREAM_WAITING m = 0 →
      ∃ t, exec (.tilCommitWrite p m w) s = .next t ∧
        s.dev.Changes (fun n => inRegions [0x11, 0x1F] n ∨ evtBits n ∨ accBits n) t.dev ∧
        t.mem = s.mem ∧ t.dev.hif.cpl = ⟨0, 0⟩ ∧
        t.dev.rd F.TIL_STREAM_WAITING m = 1 ∧ (∀ k, k < 256 → t.dev.act m k = s.dev.act m k) ∧
        t.dev.rd F.TIL_COMMIT_CNT_DEFERRED = satNat F.TIL_COMMIT_CNT_DEFERRED.w (s.dev.rd F.TIL_COMMIT_CNT_DEFERRED + 1)) ∧
    (s.dev.rd F.TIL_STREAM_FADING m = 1 → s.dev.rd F.TIL_STREAM_WAITING m = 1 →
      ∃ t, exec (.tilCommitWrite p m w) s = .next t ∧
        s.dev.Changes (fun n => inRegions [0x11, 0x1F] n ∨ evtBits n ∨ accBits n) t.dev ∧
        t.mem = s.mem ∧ t.dev.hif.cpl = ⟨0, 0⟩ ∧
        t.dev.rd F.TIL_STREAM_WAITING m = 1 ∧ (∀ k, k < 256 → t.dev.act m k = s.dev.act m k) ∧
        t.dev.rd F.TIL_COMMIT_CNT_MERGED = satNat F.TIL_COMMIT_CNT_MERGED.w (s.dev.rd F.TIL_COMMIT_CNT_MERGED + 1))) ∧
  (∀ (p : Path) (m w : Nat) (s : State), m < 2048 → s.dev.Admits p (hit .TIL_STREAM RD.TIL_STREAM m) w →
    F.TIL_STREAM_COMMIT.of w = 0 →
    ∃ t, exec (.tilManualWrite p m w) s = .next t ∧ t.mem = s.mem ∧ t.dev.hif.cpl = ⟨0, 0⟩ ∧
      t.dev.rd F.TIL_STREAM_MANUAL m = F.TIL_STREAM_MANUAL.of w ∧
      (s.dev.rd F.TIL_STREAM_MANUAL m = 1 → F.TIL_STREAM_MANUAL.of w = 0 → ∀ k, k < 256 →
        (t.dev.tile (256 * m + k)).start = true ∧ (t.dev.tile (256 * m + k)).startFrom = some (s.dev.act m k)) ∧
      (F.TIL_STREAM_MANUAL.of w = s.dev.rd F.TIL_STREAM_MANUAL m → t.dev.eng = s.dev.eng) ∧
      s.dev.Changes (fun n => n = F.TIL_STREAM_MANUAL.key m 0 0) t.dev) ∧
  (∀ (m : Nat) (s : State), m < 2048 → s.dev.rd F.TIL_STREAM_FADING m = 1 → (s.dev.stream m).swapLate = false →
    (s.dev.stream m).fadeAt + 16 ≤ s.dev.gainNo (s.dev.donorOf m) →
    (s.dev.rd F.TIL_STREAM_WAITING m = 0 →
      ∃ t, exec (.fadeEnd m) s = .next t ∧ t.mem = s.mem ∧ t.dev.rd F.TIL_STREAM_FADING m = 0 ∧
        (t.dev.stream m).fadeFrom = [] ∧ s.dev.Changes (fun n => n = F.TIL_STREAM_FADING.key m 0 0) t.dev) ∧
    (s.dev.rd F.TIL_STREAM_WAITING m = 1 →
      ∃ t, exec (.fadeEnd m) s = .next t ∧
        s.dev.Changes (inRegions [0x11, 0x1E, 0x1F]) t.dev ∧
        t.mem = s.mem ∧ t.dev.rd F.TIL_STREAM_WAITING m = 0 ∧
        (∀ k, k < 256 → t.dev.act m k = s.dev.pend m k) ∧
        t.dev.rd F.TIL_STREAM_ACTIVE_BANK m = 1 - s.dev.rd F.TIL_STREAM_ACTIVE_BANK m)) ∧
  (∀ (p : Path) (w : Nat) (s : State), s.dev.Admits p (hit .TIL_CTL RD.TIL_CTL) (withBits w 0 1 1) →
    ∃ t, exec (.tilClrCnt p w) s = .next t ∧ t.mem = s.mem ∧ t.dev.hif.cpl = ⟨0, 0⟩ ∧ t.dev.rd F.TIL_RANGE_CNT_COUNT = 0 ∧
      t.dev.rd F.TIL_COMMIT_CNT_DEFERRED = 0 ∧ t.dev.rd F.TIL_COMMIT_CNT_MERGED = 0 ∧ t.dev.rd F.TIL_REJECT_CNT_COUNT = 0 ∧
      s.dev.Changes (inRegions [0x1F]) t.dev) ∧
  (∀ (p : Path) (n w : Nat) (s : State), n < 16 → s.dev.Admits p (hit .SLC_DSLICE RD.SLC_DSLICE n) (withBits w 8 1 1) →
    (F.SLC_DSLICE_ALIGN_MODE.of (withBits w 8 1 1) = 0 → s.dev.ulActive n ≠ [] →
      ∃ t, exec (.realign p n w) s = .next t ∧
        s.dev.Changes (fun n => inRegions [0xB] n ∨ evtBits n ∨ accBits n) t.dev ∧
        t.mem = s.mem ∧ t.dev.hif.cpl = ⟨0, 0⟩ ∧
        t.dev.rd F.SLC_ALIGN_CUR_CURRENT n = (s.dev.ulLargest n).toNat % 2 ^ F.SLC_ALIGN_CUR_CURRENT.w) ∧
    (F.SLC_DSLICE_ALIGN_MODE.of (withBits w 8 1 1) = 1 →
      ∃ t, exec (.realign p n w) s = .next t ∧
        s.dev.Changes (fun n => inRegions [0xB] n ∨ evtBits n ∨ accBits n) t.dev ∧
        t.mem = s.mem ∧ t.dev.hif.cpl = ⟨0, 0⟩ ∧
        t.dev.rd F.SLC_ALIGN_CUR_CURRENT n = s.dev.rd F.SLC_ALIGN_TGT_TARGET n))

/-- R364, R367 to R371, R374: a failed slice processor is fenced, its streams emit invalid blocks until a healthy one has
taken them over with the next epoch. -/
def Obligations.FailedSliceProcessorIsTakenOver : Prop :=
  (∀ (sp cause : Nat) (l : List Bool) (s : State), sp < 36 → s.dev.spFailed sp = false → s.dev.mld.migs = [] → cause < 8 →
    ((cause = 1 ∧ s.dev.resReached sp = true) ∨ cause = 2 ∨ (cause = 3 ∧ ringRun (tabGet 0 s.dev.slc.ringRuns sp) l = 2) ∨
        (cause = 4 ∧ s.dev.rd F.PWR_DOM_STATE (6 + sp) = 5) →
      ∃ t, exec (.spFailure sp cause l) s = .next t ∧
        s.dev.Changes (fun n => inRegions [2, 6, 0xB, 0xC] n ∨ evtBits n) t.dev ∧
        t.mem = s.mem ∧ t.dev.spFailed sp = true ∧
        t.dev.rd F.SLC_SP_STS_CAUSE sp = cause ∧ t.dev.rd F.PRT_FAULT_STS_SP_FAIL = 1 ∧
        (∀ m, m ∈ s.dev.streamsAt sp → (t.dev.stream m).invalid = true)) ∧
    (cause = 3 → ringRun (tabGet 0 s.dev.slc.ringRuns sp) l ≠ 2 →
      ∃ t, exec (.spFailure sp cause l) s = .next t ∧ t.mem = s.mem ∧ t.dev.regs = s.dev.regs ∧ t.dev.spFailed sp = false ∧
        tabGet 0 t.dev.slc.ringRuns sp = ringRun (tabGet 0 s.dev.slc.ringRuns sp) l) ∧
    (∃ t, exec (.spWatchdogExpiry sp) s = .next t ∧
      s.dev.Changes (fun n => inRegions [2, 6, 0xB, 0xC] n ∨ evtBits n) t.dev ∧
      t.mem = s.mem ∧ t.dev.spFailed sp = true ∧
      t.dev.rd F.SLC_SP_STS_CAUSE sp = 2 ∧ t.dev.rd F.PRT_FAULT_STS_SP_FAIL = 1 ∧
      (∀ m, m ∈ s.dev.streamsAt sp → (t.dev.stream m).invalid = true))) ∧
  (∀ (sp cause : Nat) (l : List Bool) (s : State), sp < 36 → s.dev.spFailed sp = true →
    (∃ t, exec (.spFailure sp cause l) s = .next t ∧ t.mem = s.mem ∧ t.dev.regs = s.dev.regs ∧ t.dev.streams = s.dev.streams ∧
      t.dev.spFailed sp = true) ∧ exec (.spWatchdogExpiry sp) s = .next s) ∧
  (∀ (m u sp : Nat) (s : State), m < 2080 → u < 10 → sp < 36 →
    ∃ t, exec (.residueMismatch m u sp) s = .next t ∧
      s.dev.Changes (fun n => inRegions [2, 6, 0xB, 0xC] n ∨ evtBits n) t.dev ∧
      t.mem = s.mem ∧
      t.dev.rd F.SLC_RES_CNT_COUNT = satNat F.SLC_RES_CNT_COUNT.w (s.dev.rd F.SLC_RES_CNT_COUNT + 1) ∧
      t.dev.rd F.SLC_SP_STS_RES_ERR sp = satNat F.SLC_SP_STS_RES_ERR.w (s.dev.rd F.SLC_SP_STS_RES_ERR sp + 1) ∧
      t.dev.rd F.SLC_RES_LOG_NEW = 1 ∧ t.dev.rd F.SLC_RES_LOG_STREAM = m ∧ t.dev.rd F.SLC_RES_LOG_UNIT = u ∧
      t.dev.rd F.SLC_RES_LOG_SP = sp ∧ t.dev.rd F.PRT_FAULT_STS_RESIDUE = 1 ∧
      (max 1 (s.dev.rd F.SLC_CTL_RES_LIMIT) = 1 → t.dev.spFailed sp = true) ∧
      ((tabGet [] s.dev.slc.resAt sp).length + 1 < max 1 (s.dev.rd F.SLC_CTL_RES_LIMIT) →
        t.dev.spFailed sp = s.dev.spFailed sp)) ∧
  (∀ (p : Path) (w : Nat) (s : State), s.dev.Admits p (hit .SLC_CTL RD.SLC_CTL) (withBits w 8 1 1) →
    F.SLC_CTL_TEST_SP.of (withBits w 8 1 1) < 36 →
    s.dev.spFailed (F.SLC_CTL_TEST_SP.of (withBits w 8 1 1)) = false →
    ∃ t, exec (.slcTestFail p w) s = .next t ∧
      s.dev.Changes (fun n => inRegions [2, 6, 0xB, 0xC] n ∨ evtBits n ∨ accBits n) t.dev ∧
      t.mem = s.mem ∧ t.dev.hif.cpl = ⟨0, 0⟩ ∧
      t.dev.spFailed (F.SLC_CTL_TEST_SP.of (withBits w 8 1 1)) = true ∧
      t.dev.rd F.SLC_SP_STS_CAUSE (F.SLC_CTL_TEST_SP.of (withBits w 8 1 1)) = 5) ∧
  (∀ (p : Path) (w : Nat) (s : State), s.dev.Admits p (hit .SLC_CTL RD.SLC_CTL) (withBits w 0 1 1) →
    F.SLC_CTL_TEST_FAIL.of (withBits w 0 1 1) = 0 →
    ∃ t, exec (.slcClrCnt p w) s = .next t ∧ t.mem = s.mem ∧ t.dev.hif.cpl = ⟨0, 0⟩ ∧ t.dev.rd F.SLC_RES_CNT_COUNT = 0 ∧
      t.dev.rd F.SLC_CNT_SAT = 0 ∧ t.dev.rd F.SLC_TAKEOVER_COUNT = 0 ∧ (∀ n, n < 36 → t.dev.rd F.SLC_SP_STS_RES_ERR n = 0) ∧
      (∀ n, n < 16 → t.dev.rd F.SLC_DCLIP_CLIP n = 0) ∧ (∀ m, m < 2048 → t.dev.rd F.SLC_CLIP_CLIP m = 0) ∧
      s.dev.Changes (inRegions [0xB]) t.dev) ∧
  (∀ (n : Nat) (tk : Takeover) (s : State), s.dev.slc.takeover = some tk → tk.target = some n → n < 36 → tk.streams.Nodup →
    (∀ m, m ∈ tk.streams → m < 2080) → s.dev.rd F.SLC_TAKEOVER_STEP = 2 → s.dev.domOn (6 + n) = true →
    ∃ t, exec .takeoverPlacementDone s = .next t ∧ t.mem = s.mem ∧ t.dev.rd F.SLC_TAKEOVER_STEP = 3 ∧
      (∀ m, m ∈ tk.streams → t.dev.spOf m = n ∧
        t.dev.rd F.MLD_PLACE_EPOCH m = (s.dev.rd F.MLD_PLACE_EPOCH m + 1) % 2 ^ F.MLD_PLACE_EPOCH.w) ∧
      s.dev.Changes (inRegions [6, 0xB]) t.dev) ∧
  (∀ (stale : Nat) (tk : Takeover) (s : State), s.dev.slc.takeover = some tk → s.dev.slc.waiting = [] →
    s.dev.rd F.SLC_TAKEOVER_STEP = 3 ∨ s.dev.rd F.SLC_TAKEOVER_STEP = 4 → s.dev.banksFilled tk = true → s.dev.sinceFrame = 0 →
    ∃ t, exec (.spTakeoverSwitch stale) s = .next t ∧ t.mem = s.mem ∧ t.dev.slc.takeover = none ∧
      t.dev.rd F.SLC_TAKEOVER_STEP = 5 ∧
      t.dev.rd F.SLC_TAKEOVER_COUNT = satNat F.SLC_TAKEOVER_COUNT.w (s.dev.rd F.SLC_TAKEOVER_COUNT + 1) ∧
      t.dev.rd F.MLD_DISCARD_CNT_COUNT = satNat F.MLD_DISCARD_CNT_COUNT.w (s.dev.rd F.MLD_DISCARD_CNT_COUNT + stale) ∧
      (∀ m, m ∈ tk.streams → (t.dev.stream m).invalid = false ∧ (t.dev.stream m).restart.isSome = true) ∧
      s.dev.Changes (fun k => inRegions [6, 0xB] k ∨ evtBits k) t.dev)

/-- R403 to R408, R410, R424: an output that a chain has ready writes its header and every tile's entry; the entries of an output that
is not valid keep their last readings. -/
def Obligations.ChainOutputFillsTheMirrorTable : Prop :=
  (∀ (m tap : Nat) (o : ChainOut) (s : State), m < 2080 → tap < 2 → s.dev.hasTap m tap = true →
    (s.dev.chain m tap).ready = some o →
    ∃ t, exec (.chainOutput m tap) s = .next t ∧
      s.dev.Changes (fun n => inRegions [7, 0x12, 0x13, 0x14, 0x15, 0x16, 0x1E] n ∨ evtBits n) t.dev ∧
      t.mem = s.mem ∧ (t.dev.chain m tap).ready = none ∧ (t.dev.chain m tap).gaveAt = some o.made ∧
      t.dev.rd F.MEA_HDR0_SEQ m tap = (s.dev.rd F.MEA_HDR0_SEQ m tap + 1) % 65536 ∧
      t.dev.rd F.MEA_HDR0_EPOCH m tap = s.dev.rd F.MLD_PLACE_EPOCH m ∧
      t.dev.rd F.MEA_HDR0_PRESET m tap = o.preset % 2 ^ F.MEA_HDR0_PRESET.w ∧
      t.dev.rd F.MEA_HDR0_SUPPRESSED m tap = b2n (!o.clean) ∧
      t.dev.rd F.MEA_HDR1_STAMP_LO m tap = o.stamp % 2 ^ 32 ∧
      t.dev.rd F.MEA_HDR3_VALID_TILES m tap = (if s.dev.outValid m o then 256 else 0) ∧
      (s.dev.outValid m o = true → ∀ k, k < 256 →
        (m < 2048 → tap = 0 → t.dev.rd F.MEA_IN_VALID (256 * m + k) = 1 ∧
          t.dev.rd F.MEA_IN_POWER (256 * m + k) = ((o.tiles[k]?).getD {}).power % 2 ^ 16) ∧
        (m < 2048 → tap = 1 → t.dev.rd F.MEA_OUT_VALID (256 * m + k) = 1 ∧
          t.dev.rd F.MEA_OUT_POWER (256 * m + k) = ((o.tiles[k]?).getD {}).power % 2 ^ 16) ∧
        (2048 ≤ m → t.dev.rd F.MEA_DON_VALID (m - 2048) tap k = 1 ∧
          t.dev.rd F.MEA_DON_POWER (m - 2048) tap k = ((o.tiles[k]?).getD {}).power % 2 ^ 16)) ∧
      (s.dev.outValid m o = false → ∀ k, k < 256 →
        (m < 2048 → tap = 0 → t.dev.rd F.MEA_IN_VALID (256 * m + k) = 0 ∧
          t.dev.rd F.MEA_IN_POWER (256 * m + k) = s.dev.rd F.MEA_IN_POWER (256 * m + k)) ∧
        (m < 2048 → tap = 1 → t.dev.rd F.MEA_OUT_VALID (256 * m + k) = 0 ∧
          t.dev.rd F.MEA_OUT_POWER (256 * m + k) = s.dev.rd F.MEA_OUT_POWER (256 * m + k)) ∧
        (2048 ≤ m → t.dev.rd F.MEA_DON_VALID (m - 2048) tap k = 0 ∧
          t.dev.rd F.MEA_DON_POWER (m - 2048) tap k = s.dev.rd F.MEA_DON_POWER (m - 2048) tap k))) ∧
  (∀ (m tap : Nat) (s : State), m < 2080 → tap < 2 → s.dev.hasTap m tap = false ∨ (s.dev.chain m tap).ready = none →
    exec (.chainOutput m tap) s = .next s)

/-- R409, R411, R413, R414, R418 to R421, R426, R430, R433: sync resets, preset swaps, watch entries and captures. -/
def Obligations.ChainsAreSyncedSwappedWatchedAndCaptured : Prop :=
  (∀ (falling held : Bool) (s : State),
    (s.dev.flag F.MEA_CTL_PIN_EN && held && s.dev.flag F.MEA_CTL_PIN_POL == falling) = false →
    exec (.decSyncEdge falling held) s = .next s) ∧
  (∀ (falling : Bool) (i m : Nat) (s : State), s.dev.rd F.MEA_CTL_PIN_EN = 1 → s.dev.flag F.MEA_CTL_PIN_POL = falling →
    i < 2 → s.dev.rd F.MEA_CTL_SYNC_MASK = 2 ^ i →
    (tabGet [] s.dev.chn.sync i = [] → m ∈ s.dev.allStreams → s.dev.orbitOf m = i →
      ∃ t, exec (.decSyncEdge falling true) s = .next t ∧ t.mem = s.mem ∧ m ∈ tabGet [] t.dev.chn.sync i ∧
        bitAt (t.dev.rd F.MEA_STS_SYNC_PENDING) i = true ∧
        s.dev.Changes (fun n => n = F.MEA_STS_SYNC_PENDING.key 0 0 0) t.dev) ∧
    (tabGet [] s.dev.chn.sync i ≠ [] →
      exec (.decSyncEdge falling true) s = .next (s.onDev (fun d => d.bump F.MEA_CNT_SYNC_MERGED)))) ∧
  (∀ (p : Path) (w i m : Nat) (s : State), s.dev.Admits p (hit .MEA_CTL RD.MEA_CTL) (withBits w 1 1 1) → i < 2 →
    bitAt (F.MEA_CTL_SYNC_MASK.of (withBits w 1 1 1)) i = true → tabGet [] s.dev.chn.sync i = [] →
    m ∈ s.dev.allStreams → s.dev.orbitOf m = i →
    ∃ t, exec (.meaSync p w) s = .next t ∧ t.mem = s.mem ∧ t.dev.hif.cpl = ⟨0, 0⟩ ∧ m ∈ tabGet [] t.dev.chn.sync i ∧
      bitAt (t.dev.rd F.MEA_STS_SYNC_PENDING) i = true ∧ s.dev.Changes (inRegions [0x1E]) t.dev) ∧
  (∀ (p : Path) (w : Nat) (s : State), s.dev.Admits p (hit .MEA_CTL RD.MEA_CTL) (withBits w 0 1 1) →
    F.MEA_CTL_SYNC.of (withBits w 0 1 1) = 0 →
    ∃ t, exec (.meaClrCnt p w) s = .next t ∧ t.mem = s.mem ∧ t.dev.hif.cpl = ⟨0, 0⟩ ∧ t.dev.rd F.MEA_STS_SYNCS = 0 ∧
      t.dev.rd F.MEA_CNT_SYNC_MERGED = 0 ∧ t.dev.rd F.MEA_CNT_SWAP_MERGED = 0 ∧ t.dev.rd F.MEA_CNT_SWAP_DEFERRED = 0 ∧
      (∀ e, e < 256 → t.dev.rd F.MEA_WATCH_STS_CROSSINGS e = 0) ∧ (∀ c, c < 16 → t.dev.rd F.MEA_CAP3_OVERRUN c = 0) ∧
      s.dev.Changes (inRegions [0x1E]) t.dev) ∧
  (∀ (n : Nat) (s : State), n < 16 → tabGet [] s.dev.chn.sync (s.dev.donor n).orbit ≠ [] →
    (∀ m, m ∈ tabGet [] s.dev.chn.sync (s.dev.donor n).orbit → s.dev.dsliceOf m = n) →
    tabGet 0 s.dev.chn.syncAt (s.dev.donor n).orbit + 128 * s.dev.scale n ≤ (s.dev.boundaryNear n).2 →
    ∃ t, exec (.syncResetExec n) s = .next t ∧ t.mem = s.mem ∧ tabGet [] t.dev.chn.sync (s.dev.donor n).orbit = [] ∧
      t.dev.rd F.MEA_STS_SYNCS = satNat F.MEA_STS_SYNCS.w (s.dev.rd F.MEA_STS_SYNCS + 1) ∧
      (∀ m, m ∈ tabGet [] s.dev.chn.sync (s.dev.donor n).orbit → (s.dev.stream m).restart = none →
        (t.dev.stream m).restart = some (some (s.dev.boundaryNear n).1, s.dev.rd F.MEA_PRESET_START_DELAY m)) ∧
      s.dev.Changes (inRegions [0x1E]) t.dev) ∧
  (∀ (p : Path) (m w : Nat) (f : Fld) (s : State), m < 2080 →
    s.dev.Admits p (hit .MEA_PRESET RD.MEA_PRESET m) (withBits w 6 1 1) →
    f = (if s.dev.flag F.MEA_PRESET_ACTIVE m then F.MEA_PRESET_BANK_B else F.MEA_PRESET_BANK_A) →
    (f.of (withBits w 6 1 1) ≠ s.dev.rd f m →
      exec (.meaSwap p m w) s = .next (s.onDev (fun d => d.fail p (hit .MEA_PRESET RD.MEA_PRESET m).addr 4))) ∧
    (f.of (withBits w 6 1 1) = s.dev.rd f m → s.dev.has m = true →
      ∃ t, exec (.meaSwap p m w) s = .next t ∧ t.mem = s.mem ∧ t.dev.hif.cpl = ⟨0, 0⟩ ∧ t.dev.rd F.MEA_PRESET_PENDING m = 1 ∧
        t.dev.rd F.MEA_CNT_SWAP_MERGED = (if s.dev.rd F.MEA_PRESET_PENDING m = 1
          then satNat F.MEA_CNT_SWAP_MERGED.w (s.dev.rd F.MEA_CNT_SWAP_MERGED + 1) else s.dev.rd F.MEA_CNT_SWAP_MERGED) ∧
        s.dev.Changes (inRegions [0x1E]) t.dev)) ∧
  (∀ (m : Nat) (s : State), m < 2080 → s.dev.rd F.MEA_PRESET_PENDING m = 1 →
    (s.dev.stream m).swapAt < (s.dev.boundaryNear (s.dev.dsliceOf m)).2 →
    (2048 ≤ m ∨ s.dev.rd F.TIL_STREAM_FADING m = 0 →
      ∃ t, exec (.swapExec m) s = .next t ∧ t.mem = s.mem ∧
        t.dev.rd F.MEA_PRESET_ACTIVE m = 1 - s.dev.rd F.MEA_PRESET_ACTIVE m ∧ t.dev.rd F.MEA_PRESET_PENDING m = 0 ∧
        ((s.dev.stream m).restart = none →
          (t.dev.stream m).restart = some (some (s.dev.boundaryNear (s.dev.dsliceOf m)).1, 0)) ∧ s.dev.Changes (inRegions [0x1E]) t.dev) ∧
    (m < 2048 → s.dev.rd F.TIL_STREAM_FADING m = 1 → (s.dev.stream m).swapLate = false →
      ∃ t, exec (.swapExec m) s = .next t ∧
        s.dev.Changes (inRegions [0x1E]) t.dev ∧
        t.mem = s.mem ∧ (t.dev.stream m).swapLate = true ∧
        t.dev.rd F.MEA_PRESET_PENDING m = 1 ∧
        t.dev.rd F.MEA_CNT_SWAP_DEFERRED = satNat F.MEA_CNT_SWAP_DEFERRED.w (s.dev.rd F.MEA_CNT_SWAP_DEFERRED + 1))) ∧
  (∀ (p : Path) (e w : Nat) (s : State), e < 256 →
    (s.dev.Admits p (hit .MEA_WATCH0 RD.MEA_WATCH0 e) w →
      ∃ t, exec (.meaWatchWrite p e 0 w) s = .next t ∧ t.mem = s.mem ∧ t.dev.hif.cpl = ⟨0, 0⟩ ∧
        t.dev.rd F.MEA_WATCH0_EN e = F.MEA_WATCH0_EN.of w ∧ t.dev.rd F.MEA_WATCH0_TILE_ID e = F.MEA_WATCH0_TILE_ID.of w ∧
        t.dev.rd F.MEA_WATCH_STS_HIGH_ACT e = 0 ∧ t.dev.rd F.MEA_WATCH_STS_LOW_ACT e = 0 ∧
        tabFind t.dev.chn.runs e = none ∧ s.dev.Changes (inRegions [0x1E]) t.dev) ∧
    (s.dev.Admits p (hit .MEA_WATCH1 RD.MEA_WATCH1 e) w →
      ∃ t, exec (.meaWatchWrite p e 1 w) s = .next t ∧ t.mem = s.mem ∧ t.dev.hif.cpl = ⟨0, 0⟩ ∧
        t.dev.rd F.MEA_WATCH1_HIGH e = F.MEA_WATCH1_HIGH.of w ∧ t.dev.rd F.MEA_WATCH1_LOW e = F.MEA_WATCH1_LOW.of w ∧
        t.dev.rd F.MEA_WATCH_STS_HIGH_ACT e = 0 ∧ t.dev.rd F.MEA_WATCH_STS_LOW_ACT e = 0 ∧
        tabFind t.dev.chn.runs e = none ∧ s.dev.Changes (inRegions [0x1E]) t.dev)) ∧
  (∀ (p : Path) (c w : Nat) (s : State), c < 16 → s.dev.Admits p (hit .MEA_CAP3 RD.MEA_CAP3 c) (withBits w 0 1 1) →
    (s.dev.rd F.MEA_CAP3_BUSY c = 1 →
      ∃ t, exec (.captureStart p c w) s = .next t ∧
        s.dev.Changes (fun n => inRegions [2, 0x1E] n ∨ evtBits n ∨ accBits n) t.dev ∧
        t.mem = s.mem ∧ t.dev.hif.cpl = ⟨0, 0⟩ ∧
        t.dev.rd F.MEA_CAP3_OVERRUN c = satNat F.MEA_CAP3_OVERRUN.w (s.dev.rd F.MEA_CAP3_OVERRUN c + 1)) ∧
    (s.dev.rd F.MEA_CAP3_BUSY c = 0 → s.dev.rd F.BGV_STS_DEFER = 0 →
      s.dev.hasTap (s.dev.rd F.MEA_CAP0_STREAM c) (s.dev.rd F.MEA_CAP0_TAP c) = true →
      s.dev.rd F.MEA_CAP0_FIRST_TILE c ≤ s.dev.rd F.MEA_CAP0_LAST_TILE c →
      ∃ t, exec (.captureStart p c w) s = .next t ∧ t.mem = s.mem ∧ t.dev.hif.cpl = ⟨0, 0⟩ ∧
        t.dev.rd F.MEA_CAP3_BUSY c = 1 ∧ (tabFind t.dev.chn.caps c).isSome = true ∧
        s.dev.Changes (fun n => n = F.MEA_CAP3_BUSY.key c 0 0) t.dev)) ∧
  (∀ (c a : Nat) (r : CapRun) (s : State), c < 16 → tabFind s.dev.chn.caps c = some r →
    a = 64 * s.dev.rd F.MEA_CAP2_ADDR64 c →
    (s.dev.captureFull c r = true → s.dev.memReady = true → s.dev.memFits a (s.dev.captureOctets c r).length = true →
      ∃ t, exec (.captureDone c false) s = .next t ∧ t.mem = s.mem.sdWrite a (s.dev.captureOctets c r) ∧
        (∀ b, b < a ∨ a + (s.dev.captureOctets c r).length ≤ b → t.mem.sdRead b 1 = s.mem.sdRead b 1) ∧
        t.dev.rd F.MEA_CAP3_BUSY c = 0 ∧ t.dev.rd F.MEA_CAP3_RESULT c = 0 ∧ tabFind t.dev.chn.caps c = none ∧
        s.dev.Changes (fun n => n = F.MEA_CAP3_BUSY.key c 0 0 ∨ n = F.MEA_CAP3_RESULT.key c 0 0) t.dev) ∧
    (s.dev.captureFull c r = false → s.dev.captureCut c r = true → r.rows = [] → s.dev.memReady = true →
      s.dev.memFits a 0 = true →
      ∃ t, exec (.captureDone c false) s = .next t ∧ t.mem = s.mem ∧ t.dev.rd F.MEA_CAP3_BUSY c = 0 ∧
        t.dev.rd F.MEA_CAP3_RESULT c = 3 ∧ tabFind t.dev.chn.caps c = none) ∧
    (∃ t, exec (.captureDone c true) s = .next t ∧ t.dev.rd F.MEA_CAP3_BUSY c = 0 ∧ t.dev.rd F.MEA_CAP3_RESULT c = 1) ∧
    (s.dev.captureFull c r = false → s.dev.captureCut c r = false → exec (.captureDone c false) s = .next s))

/-! ### Chapter 7: isolation -/

/-- R445 to R449: a block that closes outside a survey gives a cell its first estimate, moves a running one, or shows that the
path has changed; a floor raises or confirms an estimate; a cell held too long loses its confidence. -/
def Obligations.BlocksMoveTheEstimateOfACell : Prop :=
  (∀ (m k : Nat) (o : BlockOut) (s : State), m < 2048 → k < 256 → s.dev.has m = true → (s.dev.corr m k).done = some o →
    s.dev.far m = false → s.dev.survey (s.dev.donorOf m) = none → s.dev.cellHeld m false = false →
    ((s.dev.cell m k).run = none →
      ∃ t, exec (.isoBlockClose m k) s = .next t ∧ t.mem = s.mem ∧ (t.dev.cell m k).run = some o.level ∧
        (t.dev.cell m k).lag = o.lag ∧ (t.dev.corr m k).done = none ∧
        t.dev.conf m k = 0 ∧ t.dev.trusted m k = false ∧ t.dev.limited m k = o.floor ∧
        t.dev.isoCode m k = published { s.dev.cell m k with run := some o.level } false ∧
        s.dev.Changes (inRegions [0x18, 0x19, 0x1A, 0x1B]) t.dev) ∧
    (∀ r, (s.dev.cell m k).run = some r → o.floor = false → absI (o.level - r) ≤ s.dev.jump →
      ∃ t, exec (.isoBlockClose m k) s = .next t ∧
        s.dev.Changes (fun n => inRegions [0x18, 0x19, 0x1A, 0x1B, 0x1C] n ∨ evtBits n) t.dev ∧
        t.mem = s.mem ∧
        (t.dev.cell m k).run = some (r + shrNear (o.level - r) (s.dev.rd F.ISO_EST_CFG_EST_SHIFT)) ∧
        t.dev.conf m k = (if absI (o.level - r) ≤ s.dev.agree then min (s.dev.conf m k + 1) 15 else s.dev.conf m k) ∧
        t.dev.trusted m k = decide (s.dev.trustCount ≤ t.dev.conf m k) ∧ t.dev.limited m k = false) ∧
    (∀ r, (s.dev.cell m k).run = some r → o.floor = false → s.dev.jump < absI (o.level - r) →
      ∃ t, exec (.isoBlockClose m k) s = .next t ∧
        s.dev.Changes (fun n => inRegions [0x18, 0x19, 0x1A, 0x1B, 0x1C] n ∨ evtBits n) t.dev ∧
        t.mem = s.mem ∧
        (t.dev.cell m k).run = some o.level ∧ t.dev.conf m k = 0 ∧ t.dev.trusted m k = false ∧
        (s.dev.trusted m k = true →
          t.dev.rd F.ISO_CNT_JUMPS = satNat F.ISO_CNT_JUMPS.w (s.dev.rd F.ISO_CNT_JUMPS + 1))) ∧
    (∀ r, (s.dev.cell m k).run = some r → o.floor = true →
      ∃ t, exec (.isoBlockClose m k) s = .next t ∧ t.mem = s.mem ∧
        s.dev.Changes (fun n => inRegions [0x18, 0x19, 0x1A, 0x1B, 0x1C] n ∨ evtBits n) t.dev ∧
        (r < o.level - s.dev.jump → (t.dev.cell m k).run = some o.level ∧ t.dev.conf m k = 0 ∧ t.dev.limited m k = true) ∧
        (o.level - s.dev.jump ≤ r → o.level - s.dev.agree ≤ r → t.dev.conf m k = min (s.dev.conf m k + 1) 15 ∧
          (t.dev.cell m k).run = some (if s.dev.limited m k then o.level else r)) ∧
        (o.level - s.dev.jump ≤ r → r < o.level - s.dev.agree → t.dev.conf m k = s.dev.conf m k ∧
          (t.dev.cell m k).run = some r))) ∧
  (∀ (m k : Nat) (s : State), m < 2048 → k < 256 → (s.dev.corr m k).done = none →
    exec (.isoBlockClose m k) s = .next s) ∧
  (∀ (m k : Nat) (o : BlockOut) (s : State), m < 2048 → k < 256 → (s.dev.corr m k).done = some o → s.dev.far m = true →
    ∃ t, exec (.isoBlockClose m k) s = .next t ∧ t.mem = s.mem ∧ t.dev.regs = s.dev.regs ∧ t.dev.cell m k = s.dev.cell m k ∧
      (t.dev.corr m k).done = none) ∧
  (∀ (m k c : Nat) (s : State), m < 2048 → k < 256 → s.dev.has m = true → s.dev.cellHeld m (s.dev.far m) = true →
    tabFind s.dev.iso.heldAt m = some c → 122880000 * max 1 (s.dev.rd F.ISO_HOLD_CFG_HOLD_LIMIT) ≤ s.dev.now - c →
    ∃ t, exec (.isoHoldLimitExpiry m k) s = .next t ∧ t.mem = s.mem ∧ t.dev.conf m k = 0 ∧
      (t.dev.cell m k).run = (s.dev.cell m k).run ∧
      s.dev.Changes (inRegions [0x18, 0x19, 0x1A, 0x1B]) t.dev)

/-- R451, R453 to R455, R475: a canceller branch is assigned to the strongest path, follows its residual blocks, and is
released; clearing `EN` releases every one. -/
def Obligations.CancellerBranchesFollowTheirBlocks : Prop :=
  (∀ (n k b m : Nat) (o : BlockOut) (c : Int) (s : State), n < 16 → k < 256 → b < 4 →
    s.dev.rd F.ISO_BRANCH_STATE n k b = 1 ∨ s.dev.rd F.ISO_BRANCH_STATE n k b = 2 →
    s.dev.streamAt 0 (s.dev.rd F.ISO_BRANCH_PORT n k b) n = some m →
    (tabGet {} s.dev.iso.residuals (branchKey n k b)).done = some o →
    c = min (o.level - (s.dev.cell m k).run.getD 0) (128 * min 63 (s.dev.rd F.ISO_CANC_CFG_CANC_CAP) : Nat) →
    ∃ t, exec (.cancBlockClose n k b) s = .next t ∧ t.mem = s.mem ∧
      t.dev.rd F.ISO_BRANCH_STATE n k b = (if 768 ≤ c then 2 else 1) ∧
      t.dev.rd F.ISO_BRANCH_CANC n k b = (if c < 0 then 0 else (c / 128).toNat) ∧
      (tabGet {} t.dev.iso.residuals (branchKey n k b)).done = none ∧
      (o.floor = false → (tabGet {} t.dev.iso.branches (branchKey n k b)).next =
        some ((tabGet {} s.dev.iso.branches (branchKey n k b)).wRe + shrNear o.re (s.dev.rd F.ISO_CANC_CFG_CANC_SHIFT),
          (tabGet {} s.dev.iso.branches (branchKey n k b)).wIm + shrNear o.im (s.dev.rd F.ISO_CANC_CFG_CANC_SHIFT),
          min 47185 (toward (s.dev.rd F.ISO_BRANCH_DELAY n k b) o.lag))) ∧
      (o.floor = true → t.dev.iso.branches = s.dev.iso.branches) ∧
      s.dev.Changes (inRegions [0x18, 0x19, 0x1C]) t.dev) ∧
  (∀ (n k : Nat) (s : State), n < 16 → k < 256 →
    (s.dev.rd F.ISO_CANC_CFG_EN = 0 → exec (.branchReassign n k) s = .next s) ∧
    (∀ m g b, s.dev.rd F.ISO_CANC_CFG_EN = 1 → tabFind s.dev.iso.changed (n * 256 + k) = none →
      topOf (s.dev.branchWanted n k) = some (m, g) → firstBelow 4 (fun b => s.dev.rd F.ISO_BRANCH_STATE n k b == 0) = some b →
      ∃ t, exec (.branchReassign n k) s = .next t ∧ t.mem = s.mem ∧ t.dev.rd F.ISO_BRANCH_STATE n k b = 1 ∧
        t.dev.rd F.ISO_BRANCH_PORT n k b = portOf m % 128 ∧
        t.dev.rd F.ISO_BRANCH_DELAY n k b = min 47185 (s.dev.cell m k).lag ∧
        (tabGet {} t.dev.iso.branches (branchKey n k b)).next =
          some ((s.dev.cell m k).zRe, (s.dev.cell m k).zIm, min 47185 (s.dev.cell m k).lag) ∧
        tabFind t.dev.iso.changed (n * 256 + k) = some s.dev.now ∧ s.dev.Changes (inRegions [0x1C]) t.dev)) ∧
  (∀ (n k b : Nat) (s : State), n < 16 → k < 256 → b < 4 → s.dev.rd F.ISO_BRANCH_STATE n k b = 3 →
    max 1 (s.dev.rd F.ISO_CANC_CFG_RELEASE_TICKS) * s.dev.tickLen n ≤
      s.dev.now - tabGet 0 s.dev.iso.releasedAt (branchKey n k b) →
    ∃ t, exec (.branchReleaseExpiry n k b) s = .next t ∧ t.mem = s.mem ∧ t.dev.rd F.ISO_BRANCH_STATE n k b = 0 ∧
      t.dev.rd F.ISO_BRANCH_PORT n k b = 0 ∧ t.dev.rd F.ISO_BRANCH_CANC n k b = 0 ∧ t.dev.rd F.ISO_BRANCH_DELAY n k b = 0 ∧
      tabFind t.dev.iso.branches (branchKey n k b) = none ∧ s.dev.Changes (inRegions [0x1C]) t.dev) ∧
  (∀ (p : Path) (w : Nat) (s : State),
    s.dev.Admits p (hit .ISO_CANC_CFG RD.ISO_CANC_CFG) (withBits w 16 1 0) →
    ∃ t, exec (.cancDisable p w) s = .next t ∧ t.mem = s.mem ∧ t.dev.hif.cpl = ⟨0, 0⟩ ∧ t.dev.rd F.ISO_CANC_CFG_EN = 0 ∧
      ∀ n k b, n < 16 → k < 256 → b < 4 → branchKey n k b ∈ s.dev.iso.branches.map (fun q => q.1) →
        s.dev.rd F.ISO_BRANCH_STATE n k b ≠ 0 → t.dev.rd F.ISO_BRANCH_STATE n k b = 3)

/-- R439, R440, R461 to R465, R467, R468, R470: a weave takes its periods and re-surveys; a survey is asked for, prepares, runs its rounds,
blocks a stream over the limit, and is ended. -/
def Obligations.WeavesAndSurveysRun : Prop :=
  ((∀ (n : Nat) (s : State), n < 16 →
     (s.dev.weave n).seen = some (s.dev.codePeriod n (16 * 2 ^ (s.dev.weave n).chip)) →
     exec (.weavePeriodBoundary n) s = .next s) ∧
   (∀ (n : Nat) (s : State), n < 16 →
     (s.dev.weave n).seen ≠ some (s.dev.codePeriod n (16 * 2 ^ (s.dev.weave n).chip)) →
     ∃ t, exec (.weavePeriodBoundary n) s = .next t ∧
       s.dev.Changes (inRegions [0x18, 0x19, 0x1A, 0x1B, 0x1C]) t.dev ∧
       t.mem = s.mem ∧
       (t.dev.weave n).period = ((s.dev.weave n).period + 1) % 8 ∧
       (t.dev.weave n).chip = s.dev.rd F.ISO_WEAVE_CHIP_LEN n ∧
       (t.dev.weave n).on = (!(s.dev.weaveOff n) && decide ((t.dev.weave n).period < s.dev.duty n)) ∧
       t.dev.rd F.ISO_WEAVE_DUTY_EFF n = s.dev.duty n ∧
       ((s.dev.weave n).resurvey = none → (t.dev.weave n).resurvey = none ∧
         (t.dev.weave n).depth = min 16 (s.dev.rd F.ISO_WEAVE_DEPTH n)) ∧
       (∀ k, (s.dev.weave n).resurvey = some k → k + 1 < 4 * max 1 (s.dev.rd F.ISO_HOLD_CFG_BLOCK_MAX) →
         s.dev.allCellsTrusted n = false → s.dev.rd F.BGV_STS_DEFER = 0 →
         (t.dev.weave n).resurvey = some (k + 1) ∧
         (t.dev.weave n).depth = min 16 (s.dev.rd F.ISO_RESURVEY_CFG_RESURVEY_DEPTH))) ∧
   (∀ (n : Nat) (s : State), n < 16 →
     (s.dev.rd F.ISO_RESURVEY_CFG_PERIOD = 0 ∨ tabFind s.dev.iso.surveyedAt n = none ∨ s.dev.rd F.BGV_STS_DEFER = 1 ∨ s.dev.boot ≠ 8 ∨ s.dev.declared n = false →
       exec (.resurveyTimer n) s = .next s) ∧
     (∀ c, s.dev.rd F.ISO_RESURVEY_CFG_PERIOD ≠ 0 → s.dev.rd F.BGV_STS_DEFER = 0 → s.dev.boot = 8 → s.dev.declared n = true →
       tabFind s.dev.iso.surveyedAt n = some c →
       3600 * 122880000 * s.dev.rd F.ISO_RESURVEY_CFG_PERIOD ≤ s.dev.now - c →
       (s.dev.rd F.ISO_RESURVEY_CFG_MODE = 0 → (s.dev.iso.weaves.any (fun v => v.2.resurvey.isSome)) = false →
         ∃ t, exec (.resurveyTimer n) s = .next t ∧ t.mem = s.mem ∧ t.dev.regs = s.dev.regs ∧
           (t.dev.weave n).resurvey = some 0) ∧
       (∀ m l, s.dev.rd F.ISO_RESURVEY_CFG_MODE = 1 → ((s.dev.streamsOf n).map sliceKey).eraseDups = m :: l →
         s.dev.has m = true → s.dev.donorOf m = n → s.dev.survey n = none →
         ∃ t sv, exec (.resurveyTimer n) s = .next t ∧ t.mem = s.mem ∧ t.dev.regs = s.dev.regs ∧
           t.dev.survey n = some sv ∧ m ∈ sv.streams ∧ t.dev.iso.oneByOne = s.dev.iso.oneByOne ++ l)))) ∧
  ((∀ (n : Nat) (sv : Survey) (s : State), n < 16 → s.dev.survey n = some sv → sv.step = 2 →
     122880000 * max 1 (s.dev.rd F.ISO_SURVEY_CFG_PREP) ≤ s.dev.now - sv.since →
     (surveyDir sv 0 ≠ [] →
       ∃ t sv', exec (.surveyPrepEnd n) s = .next t ∧ t.mem = s.mem ∧ t.dev.survey n = some sv' ∧ sv'.step = 3 ∧
         sv'.round = 0 ∧ sv'.streams = sv.streams ∧
         (∀ m k, m ∈ surveyDir sv 0 → k < 256 → s.dev.opSet m k ≠ 0x8000 →
           surveyGain sv' m k = ofSigned 16 (max (-24576) (toSigned 16 (s.dev.opSet m k) -
             (256 * s.dev.rd F.ISO_SURVEY_CFG_BACKOFF : Nat))) ∧ t.dev.pend m k = surveyGain sv' m k)) ∧
     (surveyDir sv 0 = [] →
       ∃ t sv', exec (.surveyPrepEnd n) s = .next t ∧ t.mem = s.mem ∧ t.dev.regs = s.dev.regs ∧
         t.dev.survey n = some sv' ∧ sv'.step = 4 ∧ sv'.streams = sv.streams)) ∧
   (∀ (n : Nat) (sv : Survey) (s : State), n < 16 → s.dev.survey n = some sv → sv.step = 3 →
     allClosed sv 0 = true ∨ 12288000 * max 1 (s.dev.rd F.ISO_SURVEY_CFG_ROUND_MAX) ≤ s.dev.now - sv.since →
     (∀ m, m ∈ sv.streams → m < 2048) →
     (∀ m k l, sv.round = 0 → m ∈ surveyDir sv 0 → k < 256 → surveyL sv m k = some l →
       -(128 * s.dev.rd F.ISO_SURVEY_CFG_LIMIT : Nat) < l →
       ∃ t, exec (.surveyRoundEnd n) s = .next t ∧ t.mem = s.mem ∧ t.dev.rd F.ISO_PS_VERDICT m = 3) ∧
     (sv.round ≠ 0 → sv.streams ≠ [] →
       ∃ t sv', exec (.surveyRoundEnd n) s = .next t ∧ t.mem = s.mem ∧ t.dev.survey n = some sv' ∧
         sv'.streams = sv.streams ∧ sv'.roundsDl = sv.roundsDl + 1 ∧
         ((sv'.step = 3 ∧ sv'.round = sv.round + 1 ∧ sv.round + 1 < s.dev.surveyRounds) ∨ sv'.step = 4))) ∧
   (∀ (p : Path) (w : Nat) (s : State), s.dev.Admits p (hit .ISO_CTL RD.ISO_CTL) (withBits w 1 1 1) →
     F.ISO_CTL_ABORT.of (withBits w 1 1 1) = 0 →
     (s.dev.iso.surveys = [] →
       ∃ t, exec (.isoSurvey p w) s = .next t ∧ t.mem = s.mem ∧ t.dev.hif.cpl = ⟨0, 0⟩ ∧
         ∀ m, m ∈ s.dev.isoTarget (withBits w 1 1 1) →
           ∃ sv, t.dev.survey (s.dev.donorOf m) = some sv ∧ sv.step = 1 ∧ m ∈ sv.streams) ∧
     (s.dev.iso.surveys ≠ [] →
       exec (.isoSurvey p w) s = .next (s.onDev (fun d => d.fail p (hit .ISO_CTL RD.ISO_CTL).addr 4)))) ∧
   (∀ (p : Path) (w : Nat) (s : State), s.dev.Admits p (hit .ISO_CTL RD.ISO_CTL) (withBits w 2 1 1) →
     F.ISO_CTL_SURVEY.of (withBits w 2 1 1) = 0 →
     ∃ t, exec (.isoAbort p w) s = .next t ∧ t.mem = s.mem ∧ t.dev.hif.cpl = ⟨0, 0⟩ ∧ t.dev.iso.surveys = [] ∧
       t.dev.iso.waiting = [] ∧
       (∀ n sv m, s.dev.survey n = some sv → m ∈ sv.streams → m < 2048 → t.dev.rd F.ISO_PS_VERDICT m = 5) ∧
       (s.dev.boot = 7 → t.dev.boot = 8)) ∧
   (∀ (p : Path) (w : Nat) (s : State), s.dev.Admits p (hit .ISO_CTL RD.ISO_CTL) (withBits w 3 1 1) →
     F.ISO_CTL_SURVEY.of (withBits w 3 1 1) = 0 → F.ISO_CTL_ABORT.of (withBits w 3 1 1) = 0 →
     ∃ t, exec (.isoForget p w) s = .next t ∧
       s.dev.Changes (fun n => inRegions [0x18, 0x19, 0x1A, 0x1B, 0x1C] n ∨ evtBits n ∨ accBits n) t.dev ∧
       t.mem = s.mem ∧ t.dev.hif.cpl = ⟨0, 0⟩ ∧
       ∀ m k, m ∈ s.dev.isoTarget (withBits w 3 1 1) → bitAt (F.ISO_CTL_DIR.of (withBits w 3 1 1)) (dirOf m) = true →
         k < 256 → t.dev.conf m k = 0 ∧ (t.dev.cell m k).run = (s.dev.cell m k).run) ∧
   (∀ (p : Path) (w : Nat) (s : State), s.dev.Admits p (hit .ISO_CTL RD.ISO_CTL) (withBits w 0 1 1) →
     F.ISO_CTL_SURVEY.of (withBits w 0 1 1) = 0 → F.ISO_CTL_ABORT.of (withBits w 0 1 1) = 0 →
     F.ISO_CTL_FORGET.of (withBits w 0 1 1) = 0 →
     ∃ t, exec (.isoClrCnt p w) s = .next t ∧ t.mem = s.mem ∧ t.dev.hif.cpl = ⟨0, 0⟩ ∧ t.dev.rd F.ISO_CNT_JUMPS = 0 ∧
       t.dev.rd F.ISO_CNT_REASSIGNS = 0 ∧ t.dev.rd F.ISO_CNT_FAR = 0 ∧ t.dev.rd F.ISO_CNT_SURVEYS = 0 ∧
       s.dev.Changes (inRegions [0x1C]) t.dev) ∧
   (∀ (s : State), (s.dev.boot ≠ 8 → exec .surveyRetryTimer s = .next s) ∧
     (s.dev.boot = 8 → 60 * 122880000 * max 1 (s.dev.rd F.ISO_RESURVEY_CFG_RETRY) ≤ s.dev.now - s.dev.iso.retriedAt →
       ∃ t, exec .surveyRetryTimer s = .next t ∧ t.mem = s.mem ∧ t.dev.regs = s.dev.regs ∧
         ∀ m, m ∈ s.dev.portStreams → 3 ≤ s.dev.rd F.ISO_PS_VERDICT m → s.dev.rd F.ISO_PS_VERDICT m ≤ 5 →
           s.dev.portActive (portOf m) = true → s.dev.underSurvey m = false →
           m ∈ t.dev.iso.waiting ∨ ∃ sv, t.dev.survey (s.dev.donorOf m) = some sv ∧ m ∈ sv.streams)))

/-! ### Chapters 8 and 9: loops and the loop engine -/

/-- R485, R523, R524, R529 (chapters 08, 09): a tile update runs once per tick for every enabled tile of a stream, the
building loop publishes the loop-gain sum of the gains that go to release, the release puts them into the pending banks, and
the slice loop moves the trim. -/
def Obligations.TileBuildingAndSliceLoopsRunOncePerTick : Prop :=
  (∀ (m lp : Nat) (s : State), m < 2048 → s.dev.has m = true → s.dev.unitReady (.tiles m) tilesTime = some lp →
    (s.dev.loopTick (s.dev.donorOf m) (dirOf m)).settled m = false →
    (s.dev.loopTick (s.dev.donorOf m) (dirOf m)).evaluated = false →
    ∃ t, exec (.tileUpdate m) s = .next t ∧ t.mem = s.mem ∧ tabFind t.dev.eng.procs lp = none ∧
      (t.dev.loopTick (s.dev.donorOf m) (dirOf m)).updated =
        (s.dev.loopTick (s.dev.donorOf m) (dirOf m)).updated ++ [m] ∧
      (∀ k, k < 256 → s.dev.rd F.LCX0_EN (256 * m + k) = 1 →
        t.dev.rd F.LCX5_LAST_TICK (256 * m + k) = s.dev.rd F.CE_SLICE_TICK_TICK_CNT (s.dev.donorOf m) % 256 ∧
        t.dev.rd F.LCX4_SEQ_IN (256 * m + k) = s.dev.rd F.MEA_HDR0_SEQ m 0 % 2 ^ F.LCX4_SEQ_IN.w ∧
        t.dev.rd F.LCX5_SEQ_OUT (256 * m + k) = s.dev.rd F.MEA_HDR0_SEQ m 1 % 2 ^ F.LCX5_SEQ_OUT.w ∧
        (s.dev.flag F.LCX0_STALE (256 * m + k) = false → s.dev.rd F.LCX4_UNCHANGED (256 * m + k) = 2 →
          s.dev.seqNew m k ≠ (true, true) →
          t.dev.rd F.LCX0_STALE (256 * m + k) = 1 ∧ t.dev.rd F.LCX0_STALE_SEEN (256 * m + k) = 1)) ∧
      s.dev.Changes (fun n => inRegions [0xB, 0xC, 0xD] n ∨ 0x10000000 ≤ n ∨ evtBits n) t.dev) ∧
  (∀ (n r lp : Nat) (s : State), n < 16 → r < 2 → s.dev.declared n = true → (s.dev.loopTick n r).evaluated = false →
    s.dev.unitReady (.building n r) ((2048 + 12 * ((s.dev.buildingLoop n r).loopTick n r).resel + 7) / 8) = some lp →
    ∃ t, exec (.buildingLoop n r) s = .next t ∧ tabFind t.dev.eng.procs lp = none ∧
      s.dev.Changes (fun n => inRegions [0xC, 0xD] n ∨ evtBits n ∨ 0x10000000 ≤ n) t.dev ∧
      t.mem = s.mem ∧ (t.dev.loopTick n r).evaluated = true ∧
      (∀ k, k < 256 → t.dev.rd F.CE_BTILE1_LAMBDA n r k = dbCode (t.dev.lambda n r k) % 65536) ∧
      (t.dev.loopTick n r).before =
        (upTo 256).map (fun k => (k, (s.dev.rd F.CE_BTILE0_BETA n r k, s.dev.rd F.CE_BTILE0_NU n r k))) ∧
      t.dev.rd F.CE_BLD3_SHARE_TILES n r = countBelow 256 (fun k => t.dev.boundBy n r k 2) % 2 ^ F.CE_BLD3_SHARE_TILES.w) ∧
  (∀ (u : LoopUnit) (k : Nat) (s : State), s.dev.unitReady u k = none →
    (∀ m, u = .tiles m → m < 2048 → k = tilesTime → exec (.tileUpdate m) s = .next s) ∧
    (∀ m, u = .slice m → m < 2048 → k = sliceTime → exec (.sliceLoop m) s = .next s) ∧
    (∀ n r, u = .building n r → n < 16 → r < 2 → k = 256 → exec (.buildingLoop n r) s = .next s)) ∧
  (∀ (n r : Nat) (s : State), n < 16 → r < 2 → s.dev.tickOpen n r = true → (s.dev.loopTick n r).evaluated = true →
    (s.dev.loopTick n r).released = false → 2080 + n ∈ s.dev.eng.committed → s.dev.commitsOpen n = false →
    (∀ p, p ∈ (s.dev.loopTick n r).staged → p.1 < 524288) →
    ∃ t, exec (.gainRelease n r) s = .next t ∧ t.mem = s.mem ∧ (t.dev.loopTick n r).released = true ∧
      (t.dev.loopTick n r).staged = [] ∧
      (∀ m k, m < 2048 → k < 256 → t.dev.pend m k =
        match tabFind (s.dev.loopTick n r).staged (256 * m + k) with
        | some g => if s.dev.flag F.TIL_STREAM_MANUAL m then s.dev.pend m k else g % 65536
        | none => s.dev.pend m k) ∧
      s.dev.Changes (inRegions [0x10]) t.dev) ∧
  (∀ (m lp : Nat) (ps : List Int) (s : State), m < 2048 → s.dev.has m = true → s.dev.unitReady (.slice m) sliceTime = some lp →
    m ∉ (s.dev.loopTick (s.dev.donorOf m) (dirOf m)).sliced →
    ps = ((upTo 256).filter (fun k => s.dev.flag F.MEA_OUT_VALID (256 * m + k))).map
      (fun k => dbOf (s.dev.rd F.MEA_OUT_POWER (256 * m + k))) →
    ∃ t, exec (.sliceLoop m) s = .next t ∧ t.mem = s.mem ∧ tabFind t.dev.eng.procs lp = none ∧
      m ∈ (t.dev.loopTick (s.dev.donorOf m) (dirOf m)).sliced ∧
      t.dev.rd F.CE_PS_STS_COMPOSITE m = (if dbSum ps = none then s.dev.rd F.CE_PS_STS_COMPOSITE m
        else dbCode (dbSum ps) % 2 ^ F.CE_PS_STS_COMPOSITE.w) ∧
      (ps.length < 128 → t.dev.rd F.CE_PS_STS_TRIM m = s.dev.rd F.CE_PS_STS_TRIM m) ∧
      (128 ≤ ps.length → dbSum ps ≠ none → t.dev.rdS F.CE_PS_STS_TRIM m ≤ 0) ∧
      s.dev.Changes (fun x => x = F.CE_PS_STS_COMPOSITE.key m 0 0 ∨ x = F.CE_PS_STS_TRIM.key m 0 0) t.dev)

/-- R540: a committed coefficient bank becomes active at once, and each donor slice takes it at its own next tick boundary;
R548 to R553: a failed processor, the run bit, the counters, and the enable bit of a loop context (R538). -/
def Obligations.CoefficientsProcessorsAndContextsFollowTheirCommands : Prop :=
  (∀ (p : Path) (w : Nat) (s : State), s.dev.Admits p (hit .CE_CTL RD.CE_CTL) (withBits w 2 1 1) →
    F.CE_CTL_CLR_CNT.of w = 0 → F.CE_CTL_TEST_FAIL.of w = 0 → F.CE_CTL_RUN.of w = s.dev.rd F.CE_CTL_RUN →
    ∃ t, exec (.coefCommit p w) s = .next t ∧ t.mem = s.mem ∧ t.dev.hif.cpl = ⟨0, 0⟩ ∧
      t.dev.eng.coefWait = (upTo 16).filter s.dev.declared ∧ t.dev.eng.coefDue = [] ∧
      t.dev.rd F.CE_STS_COEF_PENDING = b2n (!((upTo 16).filter s.dev.declared).isEmpty) ∧
      (∀ f, f ∈ coefFields → ∀ c k, c < 2 → k < 64 →
        t.dev.rd f c k = s.dev.rd { f with off := f.off - 0x10000 } c k) ∧
      s.dev.Changes (inRegions [0xD]) t.dev) ∧
  (∀ (n : Nat) (s : State), n < 16 → n ∉ s.dev.eng.coefDue → exec (.coefCommitApply n) s = .next s) ∧
  (∀ (n : Nat) (s : State), n < 16 → n ∈ s.dev.eng.coefDue →
    ∃ t, exec (.coefCommitApply n) s = .next t ∧ t.mem = s.mem ∧ n ∉ t.dev.eng.coefWait ∧ n ∉ t.dev.eng.coefDue ∧
      (∀ k, k ≠ n → (k ∈ t.dev.eng.coefWait ↔ k ∈ s.dev.eng.coefWait)) ∧
      (∀ c k, t.dev.coefSet n c k = coefFields.map (fun f => s.dev.rd f c k)) ∧
      (t.dev.eng.coefWait = [] → t.dev.rd F.CE_STS_COEF_PENDING = 0) ∧
      s.dev.Changes (fun x => x = F.CE_STS_COEF_PENDING.key 0 0 0) t.dev) ∧
  (∀ (lp cause : Nat) (s : State), lp < 32 → tabFind s.dev.eng.failed lp = none → cause < 8 →
    (∃ t, exec (.lpFailure lp cause) s = .next t ∧
      s.dev.Changes (fun n => inRegions [2, 0xC, 0xD] n ∨ evtBits n ∨ 0x10000000 ≤ n) t.dev ∧
      t.mem = s.mem ∧ tabFind t.dev.eng.failed lp = some cause ∧ tabFind t.dev.eng.procs lp = none ∧
      t.dev.rd F.CE_LP_STS_FAILED lp = 1 ∧ t.dev.rd F.CE_LP_STS_CAUSE lp = cause ∧
      t.dev.rd F.CE_LP_CNT_FAULTS = satNat F.CE_LP_CNT_FAULTS.w (s.dev.rd F.CE_LP_CNT_FAULTS + 1) ∧
      t.dev.rd F.PRT_FAULT_STS_LP_FAIL = 1) ∧
    (∀ q, tabFind s.dev.eng.procs lp = some q → 1966 < s.dev.now - q.since →
      ∃ t, exec (.lpWatchdogExpiry lp) s = .next t ∧
        s.dev.Changes (fun n => inRegions [2, 0xC, 0xD] n ∨ evtBits n ∨ 0x10000000 ≤ n) t.dev ∧
        t.mem = s.mem ∧ tabFind t.dev.eng.failed lp = some 1 ∧ tabFind t.dev.eng.procs lp = none ∧
        t.dev.rd F.CE_LP_STS_FAILED lp = 1 ∧ t.dev.rd F.CE_LP_STS_CAUSE lp = 1 ∧
        t.dev.rd F.CE_LP_CNT_FAULTS = satNat F.CE_LP_CNT_FAULTS.w (s.dev.rd F.CE_LP_CNT_FAULTS + 1) ∧
        t.dev.rd F.PRT_FAULT_STS_LP_FAIL = 1)) ∧
  (∀ (lp cause : Nat) (s : State), lp < 32 → (tabFind s.dev.eng.failed lp).isSome = true →
    exec (.lpFailure lp cause) s = .next s ∧ exec (.lpWatchdogExpiry lp) s = .next s) ∧
  (∀ (lp : Nat) (s : State), lp < 32 → (∀ q, tabFind s.dev.eng.procs lp = some q → s.dev.now - q.since ≤ 1966) →
    exec (.lpWatchdogExpiry lp) s = .next s) ∧
  (∀ (p : Path) (w : Nat) (s : State), s.dev.Admits p (hit .CE_CTL RD.CE_CTL) (withBits w 7 1 1) →
    F.CE_CTL_COEF_COMMIT.of (withBits w 7 1 1) = 0 → F.CE_CTL_TEST_LP.of (withBits w 7 1 1) < 32 →
    tabFind s.dev.eng.failed (F.CE_CTL_TEST_LP.of (withBits w 7 1 1)) = none →
    ∃ t, exec (.ceTestFail p w) s = .next t ∧
      s.dev.Changes (fun n => inRegions [2, 0xC, 0xD] n ∨ evtBits n ∨ accBits n ∨ 0x10000000 ≤ n) t.dev ∧
      t.mem = s.mem ∧ t.dev.hif.cpl = ⟨0, 0⟩ ∧
      t.dev.rd F.CE_LP_STS_FAILED (F.CE_CTL_TEST_LP.of (withBits w 7 1 1)) = 1 ∧
      t.dev.rd F.CE_LP_STS_CAUSE (F.CE_CTL_TEST_LP.of (withBits w 7 1 1)) = 5 ∧ t.dev.rd F.PRT_FAULT_STS_LP_FAIL = 1) ∧
  (∀ (p : Path) (w : Nat) (s : State), s.dev.Admits p (hit .CE_CTL RD.CE_CTL) (withBits w 1 1 1) →
    F.CE_CTL_COEF_COMMIT.of (withBits w 1 1 1) = 0 → F.CE_CTL_TEST_FAIL.of (withBits w 1 1 1) = 0 →
    ∃ t, exec (.ceClrCnt p w) s = .next t ∧ t.mem = s.mem ∧ t.dev.hif.cpl = ⟨0, 0⟩ ∧ t.dev.rd F.CE_MISS_TILE_DL_COUNT = 0 ∧
      t.dev.rd F.CE_MISS_TILE_UL_COUNT = 0 ∧ t.dev.rd F.CE_MISS_CNT_SLICE = 0 ∧ t.dev.rd F.CE_MISS_CNT_BUILDING = 0 ∧
      t.dev.rd F.CE_STALE_CNT_ENTRIES = 0 ∧ t.dev.rd F.CE_LP_CNT_FAULTS = 0 ∧ t.dev.rd F.CE_LP_CNT_FAULT_HELD = 0 ∧
      (∀ i, i < 2 → t.dev.rd F.CE_LOAD_PEAK i = 0) ∧
      (∀ n r, n < 16 → r < 2 → t.dev.rd F.CE_BLD3_RESELECTS n r = 0) ∧ s.dev.Changes (inRegions [0xD]) t.dev) ∧
  (∀ (p : Path) (w : Nat) (s : State), s.dev.Admits p (hit .CE_CTL RD.CE_CTL) w → F.CE_CTL_CLR_CNT.of w = 0 →
    F.CE_CTL_COEF_COMMIT.of w = 0 → F.CE_CTL_TEST_FAIL.of w = 0 →
    ∃ t, exec (.ceRunWrite p w) s = .next t ∧ t.mem = s.mem ∧ t.dev.hif.cpl = ⟨0, 0⟩ ∧
      t.dev.rd F.CE_CTL_RUN = F.CE_CTL_RUN.of w ∧
      (s.dev.rd F.CE_CTL_RUN = 0 → F.CE_CTL_RUN.of w = 1 → ∀ m k, m < 2048 → k < 256 → s.dev.has m = true →
        s.dev.rd F.LCX0_EN (256 * m + k) = 1 → (t.dev.tile (256 * m + k)).held = true) ∧
      s.dev.Changes (fun x => x = F.CE_CTL_RUN.key 0 0 0 ∨ x = F.CE_CTL_TEST_LP.key 0 0 0) t.dev) ∧
  (∀ (p : Path) (id w : Nat) (s : State), id < 524288 → s.dev.Admits p (hit .LCX0 RD.LCX0 id) w →
    (s.dev.has (id / 256) = true →
      ∃ t, exec (.lcxEnWrite p id w) s = .next t ∧
        s.dev.Changes (fun n => evtBits n ∨ accBits n ∨ 0x10000000 ≤ n) t.dev ∧
        t.mem = s.mem ∧ t.dev.hif.cpl = ⟨0, 0⟩ ∧
        t.dev.rd F.LCX0_EN id = F.LCX0_EN.of w ∧
        (s.dev.rd F.LCX0_EN id = 0 → F.LCX0_EN.of w = 1 → t.dev.rd F.LCX0_READY id = 0 ∧ (t.dev.tile id).start = true)) ∧
    (s.dev.has (id / 256) = false →
      exec (.lcxEnWrite p id w) s = .next (s.onDev (fun d => d.complete 0))))

/-! ### Chapter 10: protection -/

/-- R565 to R579, R590, R596: a fast trigger and a slow criterion cut both streams of the port slice, the cut holds and falls,
a re-enable lifts `RECUR`, and the counters clear. -/
def Obligations.TailStepsCutHoldAndFall : Prop :=
  (∀ (m k : Nat) (s : State), m < 2048 → k < 256 → tabFind (s.dev.fastAccOf m).done k = none →
    exec (.fastTailWindow m k) s = .next s) ∧
  (∀ (m k : Nat) (q : Int × Bool) (s : State), m < 2048 → k < 256 → s.dev.has m = true →
    tabFind (s.dev.fastAccOf m).done k = some q →
    (q.2 = true ∨ s.dev.rd F.SLC_PROT_MUTE m = 1 ∨ s.dev.rd F.PRT_CTL_FT_EN = 0 →
      exec (.fastTailWindow m k) s = .next (s.onDev (fun d => d.setPrt { d.prt with
        fastAcc := tabPut d.prt.fastAcc m { d.fastAccOf m with done := tabDel (d.fastAccOf m).done k },
        fast := tabDel d.prt.fast (256 * m + k) }))) ∧
    (q.2 = false → s.dev.rd F.PRT_CTL_FT_EN = 1 → s.dev.rd F.SLC_PROT_MUTE m = 0 →
      s.dev.rdS F.PRT_FT_LVL_FT_ABS ≤ q.1 → sliceKey m ∉ s.dev.prt.holdoff →
      (s.dev.fastActs m k = true →
        ∃ t, exec (.fastTailWindow m k) s = .next t ∧
          s.dev.Changes (fun n => inRegions [0xB, 0xC, 0x18, 0x19, 0x1A, 0x1B, 0x1C] n ∨ evtBits n) t.dev ∧
          t.mem = s.mem ∧ sliceKey m ∈ t.dev.prt.holdoff ∧
          t.dev.rd F.PRT_CNT_A_FT_STEPS = satNat F.PRT_CNT_A_FT_STEPS.w (s.dev.rd F.PRT_CNT_A_FT_STEPS + 1) ∧
          (∀ x, x = sliceKey m ∨ x = sliceKey m + 8 → s.dev.has x = true →
            t.dev.rd F.SLC_PROT_CUT x = min 127 (s.dev.rd F.SLC_PROT_CUT x + max 1 (s.dev.rd F.PRT_FT_CFG_FT_STEP)) ∧
            t.dev.rd F.SLC_PROT_FT_CUT x = 1 ∧ t.dev.rd F.PRT_CAUSE_HOLDING x = 1 ∧ t.dev.rd F.PRT_CAUSE_RELEASING x = 0 ∧
            (127 < s.dev.rd F.SLC_PROT_CUT x + max 1 (s.dev.rd F.PRT_FT_CFG_FT_STEP) →
              t.dev.cause 8 x = true ∧ t.dev.rd F.SLC_PROT_MUTE x = 1))) ∧
      (s.dev.fastActs m k = false →
        ∃ t, exec (.fastTailWindow m k) s = .next t ∧ t.mem = s.mem ∧
          t.dev.rd F.PRT_CNT_C_GATED = satNat F.PRT_CNT_C_GATED.w (s.dev.rd F.PRT_CNT_C_GATED + 1) ∧
          s.dev.Changes (fun n => n = F.PRT_CNT_C_GATED.key 0 0 0) t.dev))) ∧
  (∀ (m : Nat) (s : State), m < 2048 →
    (max 1 (s.dev.rd F.PRT_FT_CFG_FT_HOLDOFF) * s.dev.tileSample (s.dev.donorOf m) ≤
        s.dev.now - tabGet 0 s.dev.prt.lastFast (sliceKey m) →
      exec (.ftHoldoffExpiry m) s = .next (s.onDev (fun d =>
        d.setPrt { d.prt with holdoff := d.prt.holdoff.filter (fun q => q != sliceKey m) }))) ∧
    (s.dev.now - tabGet 0 s.dev.prt.lastFast (sliceKey m) <
        max 1 (s.dev.rd F.PRT_FT_CFG_FT_HOLDOFF) * s.dev.tileSample (s.dev.donorOf m) →
      exec (.ftHoldoffExpiry m) s = .next s) ∧
    (s.dev.prt.paused = true ∨ s.dev.rd F.PRT_CAUSE_HOLDING m = 0 ∨
        s.dev.sinceStep m < 100 * msSamples * max 1 (s.dev.rd F.PRT_REL_CFG_HOLD) →
      exec (.cutHoldExpiry m) s = .next s) ∧
    (s.dev.prt.paused = false → s.dev.rd F.PRT_CAUSE_HOLDING m = 1 →
        100 * msSamples * max 1 (s.dev.rd F.PRT_REL_CFG_HOLD) ≤ s.dev.sinceStep m →
      ∃ t, exec (.cutHoldExpiry m) s = .next t ∧ t.mem = s.mem ∧ t.dev.rd F.PRT_CAUSE_HOLDING m = 0 ∧
        t.dev.rd F.PRT_CAUSE_RELEASING m = 1 ∧ t.dev.cause 8 m = false ∧
        t.dev.rd F.SLC_PROT_CUT m = s.dev.rd F.SLC_PROT_CUT m ∧
        s.dev.Changes (fun n => n = F.PRT_CAUSE_HOLDING.key m 0 0 ∨ n = F.PRT_CAUSE_RELEASING.key m 0 0 ∨
          n = F.PRT_CAUSE_CAUSES.key m 0 0 ∨ evtBits n) t.dev) ∧
    (s.dev.prt.paused = true ∨ s.dev.rd F.PRT_CAUSE_RELEASING m = 0 ∨
        s.dev.sinceStep m < msSamples * max 1 (s.dev.rd F.PRT_REL_CFG_REL_STEP) →
      exec (.cutFallStep m) s = .next s) ∧
    (s.dev.prt.paused = false → s.dev.rd F.PRT_CAUSE_RELEASING m = 1 →
        msSamples * max 1 (s.dev.rd F.PRT_REL_CFG_REL_STEP) ≤ s.dev.sinceStep m →
      ∃ t, exec (.cutFallStep m) s = .next t ∧ t.mem = s.mem ∧
        t.dev.rd F.SLC_PROT_CUT m = s.dev.rd F.SLC_PROT_CUT m - 1 ∧
        (s.dev.rd F.SLC_PROT_CUT m ≤ 1 → t.dev.rd F.SLC_PROT_FT_CUT m = 0 ∧ t.dev.rd F.PRT_CAUSE_ST_CUT m = 0 ∧
          t.dev.rd F.PRT_CAUSE_FT_CUT m = 0 ∧ t.dev.rd F.PRT_CAUSE_HOLDING m = 0 ∧ t.dev.rd F.PRT_CAUSE_RELEASING m = 0) ∧
        (1 < s.dev.rd F.SLC_PROT_CUT m → s.dev.Changes (fun n => n = F.SLC_PROT_CUT.key m 0 0) t.dev))) ∧
  (∀ (n r : Nat) (s : State), n < 16 → r < 2 →
    ∃ t, exec (.slowTailTick n r) s = .next t ∧ t.mem = s.mem ∧
      (∀ m, m ∈ s.dev.streamsIn n r → t.dev.rd F.PRT_RIPPLE_RIPPLE m =
        if s.dev.flag F.SLC_PROT_MUTE m || !(s.dev.slowCovers m) then 0x8000 else s.dev.rippleOf m % 65536) ∧
      (∀ m, m ∈ s.dev.streamsIn n r → (tabGet {} t.dev.prt.slowAcc m).done = none) ∧
      (s.dev.rd F.PRT_CTL_ST_EN = 0 → s.dev.Changes (inRegions [0xC]) t.dev) ∧
      (∀ m, s.dev.streamsIn n r = [m] → s.dev.rd F.PRT_CTL_ST_EN = 1 → s.dev.rd F.SLC_PROT_MUTE m = 0 →
        s.dev.slowCovers m = true → s.dev.rippleOf m % 65536 ≠ 0x8000 →
        -(64 * s.dev.rd F.PRT_ST_CFG_ST_RIPPLE : Nat) ≤ dbOf (s.dev.rippleOf m) →
        max 1 (s.dev.rd F.PRT_ST_CFG_ST_CONFIRM) ≤ (tabGet {} s.dev.prt.slow m).ripples + 1 →
        (tabGet {} s.dev.prt.slow m).ripples < 15 → (tabGet {} s.dev.prt.slow m).stepped = false →
        tabFind s.dev.prt.lastFast (sliceKey m) = none →
        t.dev.rd F.PRT_CNT_A_ST_STEPS = satNat F.PRT_CNT_A_ST_STEPS.w (s.dev.rd F.PRT_CNT_A_ST_STEPS + 1) ∧
        t.dev.rd F.SLC_PROT_CUT m = min 127 (s.dev.rd F.SLC_PROT_CUT m + max 1 (s.dev.rd F.PRT_ST_STEP_ST_STEP)) ∧
        t.dev.rd F.PRT_CAUSE_ST_CUT m = 1 ∧ t.dev.rd F.PRT_CAUSE_HOLDING m = 1)) ∧
  (∀ (p : Path) (w m : Nat) (s : State), s.dev.Admits p (hit .PRT_REENABLE RD.PRT_REENABLE) (withBits w 31 1 1) →
    m = F.PRT_REENABLE_STREAM.of (withBits w 31 1 1) →
    (m < 2048 → s.dev.has m = true → (s.dev.cause 0 (sliceKey m) = true ∨ s.dev.cause 0 (sliceKey m + 8) = true) →
      ∃ t, exec (.prtReenable p w) s = .next t ∧ t.mem = s.mem ∧ t.dev.hif.cpl = ⟨0, 0⟩ ∧
        t.dev.rd F.PRT_REENABLE_RESULT = 0 ∧ t.dev.cause 0 (sliceKey m) = false ∧ t.dev.cause 0 (sliceKey m + 8) = false ∧
        tabFind t.dev.prt.hist (sliceKey m) = none ∧ t.dev.rd F.PRT_LAST_KIND = 10 ∧
        s.dev.Changes (fun n => inRegions [0xC] n ∨ evtBits n) t.dev) ∧
    (m < 2048 → s.dev.has m = true → s.dev.cause 0 (sliceKey m) = false → s.dev.cause 0 (sliceKey m + 8) = false →
      ∃ t, exec (.prtReenable p w) s = .next t ∧
        s.dev.Changes (fun n => inRegions [0xC] n ∨ evtBits n ∨ accBits n) t.dev ∧
        t.mem = s.mem ∧ t.dev.hif.cpl = ⟨0, 0⟩ ∧
        t.dev.rd F.PRT_REENABLE_RESULT = 1 ∧ t.dev.prt = s.dev.prt) ∧
    (2048 ≤ m ∨ s.dev.has m = false →
      ∃ t, exec (.prtReenable p w) s = .next t ∧
        s.dev.Changes (fun n => inRegions [0xC] n ∨ evtBits n ∨ accBits n) t.dev ∧
        t.mem = s.mem ∧ t.dev.hif.cpl = ⟨0, 0⟩ ∧
        t.dev.rd F.PRT_REENABLE_RESULT = 2 ∧ t.dev.prt = s.dev.prt)) ∧
  (∀ (p : Path) (w : Nat) (s : State), s.dev.Admits p (hit .PRT_CTL RD.PRT_CTL) (withBits w 7 1 1) →
    ∃ t, exec (.prtClrCnt p w) s = .next t ∧ t.mem = s.mem ∧ t.dev.hif.cpl = ⟨0, 0⟩ ∧ t.dev.rd F.PRT_CNT_A_FT_STEPS = 0 ∧
      t.dev.rd F.PRT_CNT_A_ST_STEPS = 0 ∧ t.dev.rd F.PRT_CNT_B_RECUR = 0 ∧ t.dev.rd F.PRT_CNT_B_DLOSS = 0 ∧
      t.dev.rd F.PRT_CNT_B_NOISE = 0 ∧ t.dev.rd F.PRT_CNT_B_OVER = 0 ∧ t.dev.rd F.PRT_CNT_C_SQUELCH = 0 ∧
      t.dev.rd F.PRT_CNT_C_STALE = 0 ∧ t.dev.rd F.PRT_CNT_C_GATED = 0 ∧ s.dev.Changes (inRegions [0xC]) t.dev)

/-- R580 to R587: the donor downlink's loss and return, noise rise and its cures, the output limit, and the mute of a tile
left in MEAS_STALE. -/
def Obligations.LossNoiseAndOverloadMuteStreams : Prop :=
  (∀ (n : Nat) (s : State), n < 16 →
    ((tabGet {} s.dev.prt.donorBlk n).done = none → exec (.dlossBlock n) s = .next s) ∧
    (s.dev.declared n = false ∨ (s.dev.donor n).dlEn = false ∨ (tabGet {} s.dev.prt.donorBlk n).done = some none →
      ∃ t, exec (.dlossBlock n) s = .next t ∧ t.mem = s.mem ∧ t.dev.regs = s.dev.regs ∧
        t.dev.prt.low = s.dev.prt.low ∧ t.dev.prt.good = s.dev.prt.good) ∧
    (∀ c, (tabGet {} s.dev.prt.donorBlk n).done = some (some c) → s.dev.declared n = true → (s.dev.donor n).dlEn = true →
      (s.dev.rd F.PRT_DLOSS_STS_LOST n = 0 → s.dev.rd F.PRT_CTL_DLOSS_EN = 1 →
        dbOf c < s.dev.rdS F.PRT_DLOSS_CFG_DLOSS_THR → s.dev.dlossMs ≤ tabGet 0 s.dev.prt.low n + 1 →
        ∃ t, exec (.dlossBlock n) s = .next t ∧ t.mem = s.mem ∧ (tabGet {} t.dev.prt.donorBlk n).done = none ∧
          t.dev.rd F.PRT_DLOSS_STS_LOST n = 1 ∧
          t.dev.rd F.PRT_DLOSS_STS_BY_LINK n = 0 ∧ t.dev.rd F.PRT_DLOSS_STS_LEVEL n = c % 65536 ∧
          t.dev.rd F.PRT_CNT_B_DLOSS = satNat F.PRT_CNT_B_DLOSS.w (s.dev.rd F.PRT_CNT_B_DLOSS + 1) ∧
          (∀ m, m ∈ s.dev.streamsIn n 1 → t.dev.cause 1 m = true ∧ t.dev.rd F.SLC_PROT_MUTE m = 1) ∧
          s.dev.Changes (fun k => inRegions [0xB, 0xC] k ∨ evtBits k) t.dev) ∧
      (s.dev.rd F.PRT_DLOSS_STS_LOST n = 1 → s.dev.donorLinkUp n = true →
        s.dev.rdS F.PRT_DLOSS_CFG_DLOSS_THR + 256 * s.dev.rd F.PRT_DLOSS_CFG_DLOSS_HYST < dbOf c →
        10 * max 1 (s.dev.rd F.PRT_DLOSS_CFG_DLOSS_RESTORE) ≤ tabGet 0 s.dev.prt.good n + 1 →
        ∃ t, exec (.dlossBlock n) s = .next t ∧ t.mem = s.mem ∧ t.dev.rd F.PRT_DLOSS_STS_LOST n = 0 ∧
          (∀ m, m ∈ s.dev.streamsIn n 1 → t.dev.cause 1 m = false) ∧
          s.dev.Changes (fun k => inRegions [0xC] k ∨ evtBits k) t.dev))) ∧
  (∀ (n : Nat) (s : State), n < 16 → s.dev.declared n = true →
    ∃ t, exec (.noiseRiseEval n) s = .next t ∧ t.mem = s.mem ∧
      t.dev.rd F.PRT_NR_STS_TILES n = countBelow 256 (fun k => t.dev.tileRise n k) % 512 ∧
      t.dev.rd F.PRT_NR_STS_STAGE n = (if t.dev.sliceRise n then
        (if s.dev.rd F.PRT_NR_STS_STAGE n = 0 then 1 else s.dev.rd F.PRT_NR_STS_STAGE n) else 0) ∧
      (∀ k f, k < 256 → tabFind s.dev.prt.floor (256 * n + k) = some f →
        tabFind t.dev.prt.floor (256 * n + k) = some (if s.dev.rd F.MEA_DON_VALID (2 * n + 1) 0 k = 1
          then min (f + s.dev.rd F.CE_LAW_CFG_N_CREEP) (dbOf (s.dev.rd F.MEA_DON_POWER (2 * n + 1) 0 k))
          else f + s.dev.rd F.CE_LAW_CFG_N_CREEP)) ∧
      s.dev.Changes (fun x => x = F.PRT_NR_STS_TILES.key n 0 0 ∨ x = F.PRT_NR_STS_STAGE.key n 0 0) t.dev) ∧
  (∀ (n : Nat) (s : State), n < 16 →
    (s.dev.prt.paused = true ∨ s.dev.sinceStage n < s.dev.nrCureTime ∨
        (s.dev.rd F.PRT_NR_STS_STAGE n ≠ 0 ∧ s.dev.rd F.PRT_CTL_NR_EN = 0) →
      exec (.nrCureExpiry n) s = .next s) ∧
    (s.dev.prt.paused = false → s.dev.nrCureTime ≤ s.dev.sinceStage n → s.dev.rd F.PRT_NR_STS_STAGE n = 0 →
      ∃ t, exec (.nrCureExpiry n) s = .next t ∧ t.mem = s.mem ∧
        (∀ m k, m ∈ s.dev.streamsIn n 1 → k < 256 → t.dev.squelched (256 * m + k) = false ∧
          (s.dev.squelched (256 * m + k) = true → (t.dev.tile (256 * m + k)).start = true)) ∧
        s.dev.Changes (inRegions [0xC]) t.dev) ∧
    (s.dev.prt.paused = false → s.dev.nrCureTime ≤ s.dev.sinceStage n → s.dev.rd F.PRT_CTL_NR_EN = 1 →
        s.dev.rd F.PRT_NR_STS_STAGE n = 1 →
      ∃ t, exec (.nrCureExpiry n) s = .next t ∧ t.mem = s.mem ∧ t.dev.rd F.PRT_NR_STS_STAGE n = 2 ∧
        s.dev.Changes (inRegions [0xC]) t.dev) ∧
    (s.dev.prt.paused = false → s.dev.nrCureTime ≤ s.dev.sinceStage n → s.dev.rd F.PRT_CTL_NR_EN = 1 →
        2 ≤ s.dev.rd F.PRT_NR_STS_STAGE n →
      ∃ t, exec (.nrCureExpiry n) s = .next t ∧
        s.dev.Changes (fun n => inRegions [0xB, 0xC] n ∨ evtBits n) t.dev ∧
        t.mem = s.mem ∧ t.dev.rd F.PRT_NR_STS_STAGE n = 3)) ∧
  (∀ (n k : Nat) (rest : List Nat) (s : State), n < 16 → k < 2048 →
    (tabGet [] s.dev.prt.noisy n = [] ∨ s.dev.prt.paused = true ∨ s.dev.rd F.PRT_NR_STS_STAGE n ≠ 0 ∨
        s.dev.sinceStage n < 10 * secSamples * max 1 (s.dev.rd F.PRT_NR_CFG_NR_RETRY) ∨
        (∃ c, tabFind s.dev.prt.retryAt n = some c ∧ tabGet 0 s.dev.prt.stageAt n < c ∧ s.dev.prtTime - c < s.dev.nrCureTime) →
      exec (.nrRetryExpiry n) s = .next s) ∧
    (tabGet [] s.dev.prt.noisy n = k :: rest → s.dev.prt.paused = false → s.dev.rd F.PRT_NR_STS_STAGE n = 0 →
        10 * secSamples * max 1 (s.dev.rd F.PRT_NR_CFG_NR_RETRY) ≤ s.dev.sinceStage n →
        (∀ c, tabFind s.dev.prt.retryAt n = some c → c ≤ tabGet 0 s.dev.prt.stageAt n ∨ s.dev.nrCureTime ≤ s.dev.prtTime - c) →
      ∃ t, exec (.nrRetryExpiry n) s = .next t ∧ t.mem = s.mem ∧ tabGet [] t.dev.prt.noisy n = rest ∧
        t.dev.cause 3 (sliceKey k) = false ∧ t.dev.cause 3 (sliceKey k + 8) = false ∧
        s.dev.Changes (fun x => x = F.PRT_CAUSE_CAUSES.key (sliceKey k) 0 0 ∨ x = F.PRT_CAUSE_CAUSES.key (sliceKey k + 8) 0 0 ∨
          evtBits x) t.dev)) ∧
  (∀ (m : Nat) (s : State), m < 2048 →
    ((tabGet {} s.dev.prt.outBlk m).done = none → exec (.olBlock m) s = .next s) ∧
    (s.dev.has m = false ∨ s.dev.rd F.PRT_CTL_OL_EN = 0 ∨ (tabGet {} s.dev.prt.outBlk m).done = some none →
      ∃ t, exec (.olBlock m) s = .next t ∧ t.mem = s.mem ∧ t.dev.regs = s.dev.regs ∧
        t.dev.prt.overRuns = s.dev.prt.overRuns) ∧
    (∀ c, (tabGet {} s.dev.prt.outBlk m).done = some (some c) → s.dev.has m = true → s.dev.rd F.PRT_CTL_OL_EN = 1 →
      (dbOf c ≤ s.dev.sliceMax m + 16 * s.dev.rd F.PRT_OL_CFG_OL_MARGIN →
        exec (.olBlock m) s = .next (s.onDev (fun d => d.setPrt { d.prt with
          outBlk := tabSet {} d.prt.outBlk m { tabGet {} d.prt.outBlk m with done := none },
          overRuns := tabSet 0 d.prt.overRuns m 0 }))) ∧
      (s.dev.sliceMax m + 16 * s.dev.rd F.PRT_OL_CFG_OL_MARGIN < dbOf c → s.dev.cause 4 m = false →
        max 1 (s.dev.rd F.PRT_OL_CFG_OL_TIME) ≤ tabGet 0 s.dev.prt.overRuns m + 1 →
        ∃ t, exec (.olBlock m) s = .next t ∧ t.mem = s.mem ∧ t.dev.cause 4 m = true ∧
          t.dev.rd F.SLC_PROT_MUTE m = 1 ∧ t.dev.rd F.PRT_LAST_KIND = 7 ∧
          t.dev.rd F.PRT_CNT_B_OVER = satNat F.PRT_CNT_B_OVER.w (s.dev.rd F.PRT_CNT_B_OVER + 1) ∧
          s.dev.Changes (fun k => inRegions [0xB, 0xC] k ∨ evtBits k) t.dev)) ∧
    (s.dev.prt.paused = true ∨
        s.dev.prtTime - tabGet 0 s.dev.prt.overAt (sliceKey m) < secSamples * max 1 (s.dev.rd F.PRT_OL_CFG_OL_RETRY) →
      exec (.olRetryExpiry m) s = .next s) ∧
    (s.dev.prt.paused = false →
        secSamples * max 1 (s.dev.rd F.PRT_OL_CFG_OL_RETRY) ≤ s.dev.prtTime - tabGet 0 s.dev.prt.overAt (sliceKey m) →
      ∃ t, exec (.olRetryExpiry m) s = .next t ∧ t.mem = s.mem ∧ t.dev.cause 4 (sliceKey m) = false ∧
        t.dev.cause 4 (sliceKey m + 8) = false ∧
        s.dev.Changes (fun k => inRegions [0xC] k ∨ evtBits k) t.dev) ∧
    (sliceKey m ∉ s.dev.prt.stale ∨
        s.dev.now - tabGet 0 s.dev.prt.staleAt (sliceKey m) < secSamples * s.dev.rd F.PRT_STALE_CFG_STALE_MUTE →
      exec (.staleMuteExpiry m) s = .next s) ∧
    (sliceKey m ∈ s.dev.prt.stale →
      secSamples * s.dev.rd F.PRT_STALE_CFG_STALE_MUTE ≤ s.dev.now - tabGet 0 s.dev.prt.staleAt (sliceKey m) → s.dev.has m = true → (∃ k, k < 256 ∧ s.dev.rd F.LCX0_STALE (256 * m + k) = 1) →
      s.dev.rd F.PRT_CTL_STALE_EN = 1 → s.dev.cause 5 (sliceKey m) = false →
      ∃ t, exec (.staleMuteExpiry m) s = .next t ∧
        s.dev.Changes (fun n => inRegions [0xB, 0xC] n ∨ evtBits n) t.dev ∧
        t.mem = s.mem ∧ t.dev.cause 5 m = true ∧
        t.dev.rd F.SLC_PROT_MUTE m = 1 ∧ t.dev.rd F.PRT_LAST_KIND = 8 ∧ sliceKey m ∉ t.dev.prt.stale))

/-! ### Chapter 11: housekeeping -/

/-- R618 to R638, R654 to R661: a conversion stores its result, rounds, timers, pins and `HK_GO` start runs or are counted as
overruns, and the calibration points run their bursts. -/
def Obligations.ConvertersRunTheirSequences : Prop :=
  (∀ (k raw e w : Nat) (rest : List (Nat × Nat)) (s : State), k < 4 → entFilt w = none →
    (s.dev.converted k = false → exec (.conversionDone k raw) s = .next s) ∧
    (s.dev.hkAct k = 0 →
      ∃ t, exec (.conversionDone k raw) s = .next t ∧ t.mem = s.mem ∧ t.dev.regs = s.dev.regs) ∧
    (e < 32 → s.dev.converted k = true → s.dev.hkAct k = 1 → (s.dev.conv k).reg = some ((e, w) :: rest) →
      ∃ t, exec (.conversionDone k raw) s = .next t ∧ t.mem = s.mem ∧
        t.dev.rd F.HK_REG_RES_VALID k e = b2n (s.dev.channelOk (entCh w) && !(s.dev.conv k).switched) ∧
        t.dev.rd F.HK_REG_RES_FILTERED k e = 0 ∧ t.dev.rd F.HK_REG_RES_SUPPRESSED k e = 0 ∧
        t.dev.rd F.HK_REG_RES_RUN k e = (s.dev.rd F.HK_SEQ_STS_REG_RUNS k + 1) % 256 ∧
        t.dev.rd F.HK_REG_RES_CODE k e = 16 * s.dev.hkCode (entCh w) (min 4095 raw) % 65536 ∧
        (rest ≠ [] → (t.dev.conv k).reg = some rest) ∧
        (rest = [] → t.dev.rd F.HK_SEQ_STS_REG_RUNS k = (s.dev.rd F.HK_SEQ_STS_REG_RUNS k + 1) % 256 ∧
          bitAt (t.dev.rd F.HK_IRQ_REG_DONE) k = true) ∧
        s.dev.Changes (fun x => inRegions [2, 3] x ∨ evtBits x ∨ accBits x) t.dev) ∧
    (e < 8 → s.dev.converted k = true → s.dev.hkAct k = 2 → (s.dev.conv k).inj = some { left := (e, w) :: rest, started := true } →
      ∃ t, exec (.conversionDone k raw) s = .next t ∧ t.mem = s.mem ∧
        t.dev.rd F.HK_INJ_RES_VALID k e = b2n (s.dev.channelOk (entCh w) && !(s.dev.conv k).switched) ∧
        t.dev.rd F.HK_INJ_RES_RUN k e = (s.dev.rd F.HK_SEQ_STS_INJ_RUNS k + 1) % 256 ∧
        t.dev.rd F.HK_INJ_RES_CODE k e = 16 * s.dev.hkCode (entCh w) (min 4095 raw) % 65536 ∧
        (rest = [] → t.dev.rd F.HK_SEQ_STS_INJ_RUNS k = (s.dev.rd F.HK_SEQ_STS_INJ_RUNS k + 1) % 256 ∧
          bitAt (t.dev.rd F.HK_IRQ_INJ_DONE) k = true) ∧
        s.dev.Changes (fun x => inRegions [3] x ∨ evtBits x ∨ accBits x) t.dev)) ∧
  (∀ s : State, s.dev.roundDue = false → exec .hkRoundStart s = .next s) ∧
  (∀ s : State, s.dev.roundDue = true → ∃ t, exec .hkRoundStart s = .next t ∧ t.mem = s.mem ∧
    t.dev.hk.roundAt = s.dev.now ∧
    t.dev.rd F.HK_ROUND_CNT_COUNT = (s.dev.rd F.HK_ROUND_CNT_COUNT + 1) % 2 ^ 32 ∧
    bitAt (t.dev.view (hit .HK_STS RD.HK_STS)) 0 = s.dev.roundOrbit.isNone ∧
    (∀ k, k < 4 → (s.dev.conv k).regAt ≠ some s.dev.hkCycle → ((s.dev.conv k).reg.isSome = true ∨ s.dev.rd F.HK_SEQ_STS_REG_WAIT k = 1 →
        t.dev.rd F.HK_CNT_ROUND_MISS k = satNat 8 (s.dev.rd F.HK_CNT_ROUND_MISS k + 1) ∧
        t.dev.rd F.HK_CNT_REG_OVR k = satNat 12 (s.dev.rd F.HK_CNT_REG_OVR k + 1)) ∧
      ((s.dev.conv k).reg = none → (s.dev.conv k).inj = none → s.dev.rd F.HK_SEQ_STS_REG_WAIT k = 0 →
        s.dev.rd F.HK_SEQ_STS_PENDING k = 0 → (t.dev.conv k).reg = some (s.dev.regEntries k true))) ∧
    s.dev.Changes (fun x => inRegions [3] x ∨ evtBits x ∨ accBits x) t.dev) ∧
  (∀ (k : Nat) (s : State), k < 4 →
    (s.dev.rd F.HK_TIMER_EN k = 0 ∨ 100 * s.dev.now < (s.dev.conv k).timerAt + s.dev.hkPeriod k →
      exec (.hkTimerExpiry k) s = .next s) ∧
    (s.dev.rd F.HK_TIMER_EN k = 1 → (s.dev.conv k).timerAt + s.dev.hkPeriod k ≤ 100 * s.dev.now →
      (s.dev.conv k).regAt ≠ some s.dev.hkCycle → (s.dev.conv k).injAt ≠ some s.dev.hkCycle →
      ∃ t, exec (.hkTimerExpiry k) s = .next t ∧ t.mem = s.mem ∧
        (t.dev.conv k).timerAt = (s.dev.conv k).timerAt + s.dev.hkPeriod k ∧
        (bitAt (s.dev.rd F.HK_CFG_INJ_TRIG k) 1 = true → s.dev.injEntries k ≠ [] → (s.dev.conv k).inj = none →
          (t.dev.conv k).inj.map HkRun.left = some (s.dev.injEntries k)) ∧
        (bitAt (s.dev.rd F.HK_CFG_INJ_TRIG k) 1 = false → bitAt (s.dev.rd F.HK_CFG_REG_TRIG k) 1 = true →
          s.dev.userEntries k ≠ [] → (s.dev.conv k).reg = none → (s.dev.conv k).inj = none →
          s.dev.rd F.HK_SEQ_STS_REG_WAIT k = 0 → s.dev.rd F.HK_SEQ_STS_PENDING k = 0 →
          (t.dev.conv k).reg = some (s.dev.userEntries k)) ∧
        s.dev.Changes (fun x => inRegions [3] x ∨ evtBits x ∨ accBits x) t.dev)) ∧
  (∀ (p : Nat) (falling : Bool) (s : State), p < 4 →
    (bitAt (s.dev.rd F.HK_PIN_CFG_POL) p ≠ falling → exec (.hkTrigEdge p falling) s = .next s) ∧
    (bitAt (s.dev.rd F.HK_PIN_CFG_POL) p = falling →
      ∃ t, exec (.hkTrigEdge p falling) s = .next t ∧ t.mem = s.mem ∧
        (∀ k, k < 4 → bitAt (s.dev.rd F.HK_CFG_INJ_TRIG k) (2 + p) = true → s.dev.injEntries k ≠ [] →
          (s.dev.conv k).injAt ≠ some s.dev.hkCycle →
          ((s.dev.conv k).inj = none → (t.dev.conv k).inj.map HkRun.left = some (s.dev.injEntries k)) ∧
          ((s.dev.conv k).inj.isSome = true → s.dev.rd F.HK_SEQ_STS_PENDING k = 0 →
            t.dev.rd F.HK_SEQ_STS_PENDING k = 1)) ∧
        s.dev.Changes (fun x => inRegions [3] x ∨ evtBits x ∨ accBits x) t.dev)) ∧
  (∀ (p : Path) (m : Nat) (s : State), s.dev.Admits p (hit .HK_GO RD.HK_GO) (m % 16) →
    ∃ t, exec (.regGo p m) s = .next t ∧ t.mem = s.mem ∧ t.dev.hif.cpl = ⟨0, 0⟩ ∧
      (∀ k, k < 4 → bitAt m k = true → s.dev.userEntries k ≠ [] → (s.dev.conv k).regAt ≠ some s.dev.hkCycle →
        ((s.dev.conv k).reg.isSome = true → t.dev.rd F.HK_CNT_REG_OVR k = satNat 12 (s.dev.rd F.HK_CNT_REG_OVR k + 1)) ∧
        ((s.dev.conv k).reg = none → (s.dev.conv k).inj = none → s.dev.rd F.HK_SEQ_STS_REG_WAIT k = 0 →
          s.dev.rd F.HK_SEQ_STS_PENDING k = 0 → (t.dev.conv k).reg = some (s.dev.userEntries k))) ∧
      s.dev.Changes (fun x => inRegions [3] x ∨ evtBits x ∨ accBits x) t.dev) ∧
  (∀ (p : Path) (m : Nat) (s : State), s.dev.Admits p (hit .HK_GO RD.HK_GO) (m % 16 * 16) →
    ∃ t, exec (.injGo p m) s = .next t ∧ t.mem = s.mem ∧ t.dev.hif.cpl = ⟨0, 0⟩ ∧
      (∀ k, k < 4 → bitAt m k = true → s.dev.injEntries k ≠ [] → (s.dev.conv k).injAt ≠ some s.dev.hkCycle →
        ((s.dev.conv k).inj = none → (t.dev.conv k).inj.map HkRun.left = some (s.dev.injEntries k)) ∧
        ((s.dev.conv k).inj.isSome = true → s.dev.rd F.HK_SEQ_STS_PENDING k = 0 → t.dev.rd F.HK_SEQ_STS_PENDING k = 1) ∧
        ((s.dev.conv k).inj.isSome = true → s.dev.rd F.HK_SEQ_STS_PENDING k = 1 →
          t.dev.rd F.HK_CNT_INJ_OVR k = satNat 12 (s.dev.rd F.HK_CNT_INJ_OVR k + 1))) ∧
      s.dev.Changes (fun x => inRegions [3] x ∨ evtBits x ∨ accBits x) t.dev) ∧
  (∀ (p : Path) (w v pt ain k : Nat) (s : State), pt < 2 → v = withBits (withBits w 31 1 1) 12 2 pt →
    s.dev.Admits p (hit .HK_CAL_CTL RD.HK_CAL_CTL) v → ain = F.HK_CAL_CTL_AIN.of v → k = F.HK_CAL_CTL_HKA.of v →
    ∀ c, (pt = 0 ∧ c = Instr.hkCalZero p w) ∨ (pt = 1 ∧ c = Instr.hkCalFull p w) → ∃ t, exec c s = .next t ∧ t.mem = s.mem ∧ t.dev.hif.cpl = ⟨0, 0⟩ ∧
      (s.dev.hk.step.isSome = true → t.dev.rd F.HK_CAL_STS_RESULT = 3 ∧ t.dev.hk.step = s.dev.hk.step) ∧
      (s.dev.hk.step = none → 47 < ain → t.dev.rd F.HK_CAL_STS_RESULT = 1 ∧ t.dev.rd F.HK_CAL_STS_BUSY = 0) ∧
      (s.dev.hk.step = none → ain ≤ 47 → pt = 1 → s.dev.hk.zero.map (fun z => (z.1, z.2.1)) ≠ some (ain, k) →
        t.dev.rd F.HK_CAL_STS_RESULT = 2 ∧ t.dev.rd F.HK_CAL_STS_BUSY = 0) ∧
      (s.dev.hk.step = none → ain ≤ 47 → (pt = 0 ∨ s.dev.hk.zero.map (fun z => (z.1, z.2.1)) = some (ain, k)) →
        ((s.dev.conv k).inj = none → t.dev.rd F.HK_CAL_STS_BUSY = 1 ∧
          t.dev.hk.step = some { ain := ain, conv := k, full := pt == 1, target := F.HK_CAL_CTL_TARGET.of v } ∧
          (t.dev.conv k).inj.map HkRun.left = some (List.replicate 64 (0, ain + 15 * 256))) ∧
        ((s.dev.conv k).inj.isSome = true → s.dev.rd F.HK_SEQ_STS_PENDING k = 1 →
          t.dev.rd F.HK_CAL_STS_RESULT = 3 ∧ t.dev.rd F.HK_CAL_STS_BUSY = 0)) ∧
      s.dev.Changes (fun x => inRegions [3] x ∨ evtBits x ∨ accBits x) t.dev) ∧
  (∀ (p : Path) (w : Nat) (s : State), s.dev.Admits p (hit .HK_CTL RD.HK_CTL) (withBits w 0 1 1) →
    ∃ t, exec (.hkClrCnt p w) s = .next t ∧ t.mem = s.mem ∧ t.dev.hif.cpl = ⟨0, 0⟩ ∧ t.dev.rd F.HK_ROUND_CNT_COUNT = 0 ∧
      (∀ k, k < 4 → t.dev.rd F.HK_CNT_ROUND_MISS k = 0 ∧ t.dev.rd F.HK_CNT_INJ_OVR k = 0 ∧ t.dev.rd F.HK_CNT_REG_OVR k = 0) ∧
      (∀ n, n < 16 → t.dev.rd F.WM_STS_CHATTER n = 0 ∧ t.dev.rd F.WM_STS_EVENTS n = 0) ∧
      s.dev.Changes (inRegions [3]) t.dev)

/-- R644 to R652, R672: a window monitor settles, takes its comparators' states, makes events, locks out, and is found
stuck. -/
def Obligations.WindowMonitorsSettleCrossAndLockOut : Prop :=
  (∀ (p : Path) (n w : Nat) (s : State), n < 16 → s.dev.Admits p (hit .WM_CFG RD.WM_CFG n) w →
    (47 < F.WM_CFG_AIN.of w →
      exec (.wmEnable p n w) s = .next (s.onDev (fun d => d.fail p (hit .WM_CFG RD.WM_CFG n).addr 4))) ∧
    (F.WM_CFG_AIN.of w ≤ 47 →
      ∃ t, exec (.wmEnable p n w) s = .next t ∧ t.mem = s.mem ∧ t.dev.hif.cpl = ⟨0, 0⟩ ∧
        t.dev.rd F.WM_CFG_EN n = F.WM_CFG_EN.of w ∧ t.dev.rd F.WM_CFG_AIN n = F.WM_CFG_AIN.of w ∧
        t.dev.rd F.WM_CFG_ACT n = F.WM_CFG_ACT.of w ∧ t.dev.rd F.WM_CFG_HYST n = F.WM_CFG_HYST.of w ∧
        (s.dev.rd F.WM_CFG_EN n = 0 → F.WM_CFG_EN.of w = 1 →
          (t.dev.mon n).blank = some s.dev.now ∧ t.dev.rd F.WM_STS_ACTIVE n = 0) ∧
        (s.dev.rd F.WM_CFG_EN n = 1 → F.WM_CFG_EN.of w = 0 → t.dev.mon n = {} ∧ t.dev.rd F.WM_STS_STATE n = 0 ∧
          t.dev.rd F.WM_STS_LOCKED_OUT n = 0 ∧ t.dev.rd F.WM_STS_ACTIVE n = 0) ∧
        s.dev.Changes (inRegions [3]) t.dev)) ∧
  (∀ (p : Path) (n w : Nat) (s : State), n < 16 → s.dev.Admits p (hit .WM_CFG RD.WM_CFG n) (withBits w 30 1 1) →
    F.WM_CFG_AIN.of (withBits w 30 1 1) ≤ 47 → F.WM_CFG_EN.of (withBits w 30 1 1) = s.dev.rd F.WM_CFG_EN n →
    ∃ t, exec (.wmRearm p n w) s = .next t ∧ t.mem = s.mem ∧ t.dev.hif.cpl = ⟨0, 0⟩ ∧ t.dev.rd F.WM_STS_STUCK n = 0 ∧
      (t.dev.mon n).activeAt = (s.dev.mon n).activeAt.map (fun _ => s.dev.now) ∧ s.dev.Changes (inRegions [3]) t.dev) ∧
  (∀ (p : Path) (n w : Nat) (s : State), n < 16 → s.dev.Admits p (hit .WM_THR RD.WM_THR n) w →
    (F.WM_THR_HIGH.of w ≤ F.WM_THR_LOW.of w →
      exec (.wmThrWrite p n w) s = .next (s.onDev (fun d => d.fail p (hit .WM_THR RD.WM_THR n).addr 4))) ∧
    (F.WM_THR_LOW.of w < F.WM_THR_HIGH.of w →
      ∃ t, exec (.wmThrWrite p n w) s = .next t ∧ t.mem = s.mem ∧ t.dev.hif.cpl = ⟨0, 0⟩ ∧
        t.dev.rd F.WM_THR_HIGH n = F.WM_THR_HIGH.of w ∧ t.dev.rd F.WM_THR_LOW n = F.WM_THR_LOW.of w ∧
        (s.dev.rd F.WM_CFG_EN n = 1 → (t.dev.mon n).blank = some s.dev.now ∧ t.dev.rd F.WM_STS_ACTIVE n = 0) ∧
        s.dev.Changes (inRegions [3]) t.dev)) ∧
  (∀ (n b : Nat) (hi hiH lo loH : Bool) (s : State), n < 16 →
    ((s.dev.mon n).blank = none → exec (.wmBlankEnd n hi hiH lo loH) s = .next s) ∧
    ((s.dev.mon n).blank = some b → (s.dev.now - b) * 100 < 61440 → exec (.wmBlankEnd n hi hiH lo loH) s = .next s) ∧
    ((s.dev.mon n).blank = some b → 61440 ≤ (s.dev.now - b) * 100 →
      (s.dev.rd F.WM_CFG_HYST n = 0 ∨ (hi = hiH ∧ lo = loH) →
        ∃ t, exec (.wmBlankEnd n hi hiH lo loH) s = .next t ∧ t.mem = s.mem ∧ (t.dev.mon n).blank = none ∧
          t.dev.rd F.WM_STS_STATE n = monState hi lo ∧
          s.dev.Changes (fun x => inRegions [3] x ∨ evtBits x ∨ accBits x) t.dev) ∧
      (s.dev.rd F.WM_CFG_HYST n ≠ 0 → ¬ (hi = hiH ∧ lo = loH) →
        ∃ t, exec (.wmBlankEnd n hi hiH lo loH) s = .next t ∧ t.mem = s.mem ∧ (t.dev.mon n).blank = none ∧
          t.dev.rd F.WM_STS_STATE n = 3 ∧ s.dev.Changes (fun x => inRegions [3] x ∨ evtBits x ∨ accBits x) t.dev))) ∧
  (∀ (n : Nat) (hi lo : Bool) (s : State), n < 16 →
    (s.dev.rd F.WM_CFG_EN n = 0 ∨ (s.dev.mon n).blank.isSome = true ∨ s.dev.rd F.WM_STS_STATE n = 3 →
      exec (.wmCrossing n hi lo) s = .next s) ∧
    (s.dev.rd F.WM_CFG_EN n = 1 → (s.dev.mon n).blank = none → s.dev.rd F.WM_STS_STATE n ≠ 3 →
      ∃ t, exec (.wmCrossing n hi lo) s = .next t ∧ t.mem = s.mem ∧ t.dev.rd F.WM_STS_STATE n = monState hi lo ∧
        t.dev.rd F.WM_STS_ACTIVE n = b2n (s.dev.monActive n (monState hi lo)) ∧
        (s.dev.monActive n (monState hi lo) = true → s.dev.rd F.WM_STS_ACTIVE n = 0 → (s.dev.mon n).lockout = none →
          t.dev.rd F.WM_STS_EVENTS n = satNat 16 (s.dev.rd F.WM_STS_EVENTS n + 1) ∧ t.dev.rd F.HK_IRQ_WM_EVENT = 1 ∧
          t.dev.rd F.WM_STS_LOCKED_OUT n = 1 ∧ (t.dev.mon n).lockout = some s.dev.now) ∧
        (s.dev.monActive n (monState hi lo) = true → s.dev.rd F.WM_STS_ACTIVE n = 0 → (s.dev.mon n).lockout ≠ none →
          t.dev.rd F.WM_STS_EVENTS n = s.dev.rd F.WM_STS_EVENTS n ∧
          t.dev.rd F.WM_STS_CHATTER n = satNat 8 (s.dev.rd F.WM_STS_CHATTER n + 1)) ∧
        s.dev.Changes (fun x => inRegions [3] x ∨ evtBits x ∨ accBits x) t.dev)) ∧
  (∀ (n b : Nat) (s : State), n < 16 →
    ((s.dev.mon n).lockout = none ∨ (s.dev.mon n).blank.isSome = true → exec (.wmLockoutEnd n) s = .next s) ∧
    ((s.dev.mon n).lockout = some b → s.dev.now - b < 122880 * max 1 (s.dev.rd F.WM_TIME_LOCKOUT n) →
      exec (.wmLockoutEnd n) s = .next s) ∧
    ((s.dev.mon n).lockout = some b → (s.dev.mon n).blank = none →
        122880 * max 1 (s.dev.rd F.WM_TIME_LOCKOUT n) ≤ s.dev.now - b →
      ((s.dev.mon n).chat = 0 →
        ∃ t, exec (.wmLockoutEnd n) s = .next t ∧ t.mem = s.mem ∧ t.dev.rd F.WM_STS_LOCKED_OUT n = 0 ∧
          (t.dev.mon n).lockout = none ∧ s.dev.Changes (fun x => x = F.WM_STS_LOCKED_OUT.key n 0 0) t.dev) ∧
      ((s.dev.mon n).chat ≠ 0 →
        ∃ t, exec (.wmLockoutEnd n) s = .next t ∧ t.mem = s.mem ∧
          t.dev.rd F.WM_STS_EVENTS n = satNat 16 (s.dev.rd F.WM_STS_EVENTS n + 1) ∧
          (t.dev.mon n).lockout = some s.dev.now ∧ (t.dev.mon n).chat = 0 ∧
          s.dev.Changes (fun x => inRegions [3] x ∨ evtBits x ∨ accBits x) t.dev))) ∧
  (∀ (n b : Nat) (s : State), n < 16 →
    ((s.dev.mon n).activeAt = none ∨ s.dev.rd F.WM_STS_STUCK n = 1 ∨ s.dev.rd F.WM_TIME_STUCK_TIME n = 0 →
      exec (.wmStuckExpiry n) s = .next s) ∧
    ((s.dev.mon n).activeAt = some b → s.dev.rd F.WM_STS_STUCK n = 0 → s.dev.rd F.WM_TIME_STUCK_TIME n ≠ 0 →
      12288000 * s.dev.rd F.WM_TIME_STUCK_TIME n < s.dev.now - b →
      ∃ t, exec (.wmStuckExpiry n) s = .next t ∧ t.mem = s.mem ∧ t.dev.rd F.WM_STS_STUCK n = 1 ∧
        t.dev.rd F.HK_IRQ_WM_STUCK = 1 ∧ s.dev.Changes (fun x => inRegions [3] x ∨ evtBits x ∨ accBits x) t.dev))

/-! ### Chapter 12: clocks and resets -/

/-- R681 to R694, R715: a crystal starts, qualifies, fails and is retried or configured, and REF switches, is forced and
relocks. -/
def Obligations.CrystalsQualifyAndRefSwitches : Prop :=
  (∀ (x n : Nat) (s : State), x < 2 →
    (s.dev.xt x ≠ 1 ∨ s.dev.fioPast (tabGet 0 s.dev.clk.startAt x) (s.dev.startDelay x) = false →
      exec (.startMsExpiry x) s = .next s) ∧
    (s.dev.xt x = 1 → s.dev.fioPast (tabGet 0 s.dev.clk.startAt x) (s.dev.startDelay x) = true →
      ∃ t, exec (.startMsExpiry x) s = .next t ∧ t.mem = s.mem ∧ t.dev.xt x = 2 ∧
        s.dev.Changes (fun k => k = (xtState x).key 0 0 0) t.dev) ∧
    (s.dev.xt x ≠ 2 → s.dev.xt x ≠ 3 → exec (.xtalGate x n) s = .next s ∧ exec (.xtalStop x) s = .next s) ∧
    (s.dev.fioPast (tabGet 0 s.dev.clk.gateAt x) 4096 = false → exec (.xtalGate x n) s = .next s) ∧
    (absI ((n : Int) - 2048) ≤ (2048 * max 50 (s.dev.rd (xtWin x)) / 1000 : Nat) →
        s.dev.fioPast (tabGet 0 s.dev.clk.gateAt x) 4096 = true →
      (s.dev.xt x = 3 →
        ∃ t, exec (.xtalGate x n) s = .next t ∧ t.mem = s.mem ∧ t.dev.rdS (xtDev x) = ppm n 2048 ∧
          t.dev.rd (xtValid x) = 1 ∧
          s.dev.Changes (fun k => k = (xtDev x).key 0 0 0 ∨ k = (xtValid x).key 0 0 0) t.dev) ∧
      (s.dev.xt x = 2 →
        ∃ t, exec (.xtalGate x n) s = .next t ∧ t.mem = s.mem ∧ t.dev.rdS (xtDev x) = ppm n 2048 ∧
          t.dev.rd (xtValid x) = 1 ∧
          t.dev.xt x = (if tabGet 0 s.dev.clk.gates x + 1 < max 1 (s.dev.rd (xtGates x)) then 2 else 3) ∧
          s.dev.Changes (fun k => inRegions [1] k ∨ evtBits k) t.dev)) ∧
    ((2048 * max 50 (s.dev.rd (xtWin x)) / 1000 : Nat) < absI ((n : Int) - 2048) → s.dev.xt x = 3 →
      ∀ c, (c = Instr.xtalGate x n ∧ s.dev.fioPast (tabGet 0 s.dev.clk.gateAt x) 4096 = true) ∨ c = Instr.xtalStop x →
        ∃ t, exec c s = .next t ∧ t.mem = s.mem ∧ t.dev.xt x = 4 ∧
          t.dev.rd (xtTrips x) = satNat 8 (s.dev.rd (xtTrips x) + 1) ∧
          (s.dev.rd F.CLK_STS_REF_SEL = x → s.dev.safeAllowed = true → t.dev.rd F.CLK_STS_SAFE = 1)) ∧
    (s.dev.xt x = 2 → s.dev.rd (xtEn x) = 1 → tabGet 0 s.dev.clk.tries x < max 1 (s.dev.rd (xtTries x)) →
      ∃ t, exec (.xtalStop x) s = .next t ∧ t.mem = s.mem ∧ t.dev.xt x = 1 ∧ t.dev.rd (xtValid x) = 0 ∧
        tabGet 0 t.dev.clk.tries x = tabGet 0 s.dev.clk.tries x + 1 ∧ s.dev.Changes (inRegions [1]) t.dev)) ∧
  (∀ s : State,
    (s.dev.xt 0 ≠ 3 ∨ s.dev.xt 1 ≠ 3 ∨ tabGet 0 s.dev.clk.spanGates 0 < 64 ∨ tabGet 0 s.dev.clk.spanGates 1 < 64 →
      exec .xchkSpan s = .next s) ∧
    (s.dev.xt 0 = 3 → s.dev.xt 1 = 3 → 64 ≤ tabGet 0 s.dev.clk.spanGates 0 → 64 ≤ tabGet 0 s.dev.clk.spanGates 1 →
      ∃ t, exec .xchkSpan s = .next t ∧ t.mem = s.mem ∧ t.dev.clk.spanGates = [] ∧ t.dev.clk.spanSum = [] ∧
        (s.dev.rd F.CLK_MON_CFG_XCHK_PPM = 0 → t.dev.clk.excursion = false ∧ t.dev.regs = s.dev.regs) ∧
        (s.dev.rd F.CLK_MON_CFG_XCHK_PPM ≠ 0 → t.dev.clk.excursion =
          decide ((4 * s.dev.rd F.CLK_MON_CFG_XCHK_PPM : Nat) * (131072 : Int) <
            absI ((tabGet 0 s.dev.clk.spanSum 0 : Nat) - (tabGet 0 s.dev.clk.spanSum 1 : Nat) : Int) * 1000000)) ∧
        t.dev.rd F.CLK_CNT2_XCHK = (if t.dev.clk.excursion && !s.dev.clk.excursion
          then satNat 8 (s.dev.rd F.CLK_CNT2_XCHK + 1) else s.dev.rd F.CLK_CNT2_XCHK) ∧
        s.dev.Changes (fun k => k = F.CLK_CNT2_XCHK.key 0 0 0 ∨ evtBits k) t.dev)) ∧
  (∀ (r : Nat) (s : State), r < 3 →
    (s.dev.clk.switchTo = none → exec .refSwitchDone s = .next s ∧ exec .refHangExpiry s = .next s ∧
      exec .domainResetRelease s = .next s) ∧
    (s.dev.clk.switchTo = some r → s.dev.clk.domainReset = true →
      exec .refSwitchDone s = .next s ∧ exec .refHangExpiry s = .next s) ∧
    (s.dev.clk.switchTo = some r → s.dev.clk.domainReset = false → s.dev.rd F.CLK_STS_REF_SEL ≠ r →
      ∃ t, exec .refSwitchDone s = .next t ∧ t.mem = s.mem ∧ t.dev.rd F.CLK_STS_REF_SEL = r ∧
        t.dev.rd F.CLK_CNT2_SWITCHES = satNat 16 (s.dev.rd F.CLK_CNT2_SWITCHES + 1) ∧ t.dev.clk.pllLocking = true ∧
        (r < 2 → t.dev.clk.switchTo = none ∧ t.dev.rd F.CLK_STS_SWITCHING = 0) ∧
        s.dev.Changes (inRegions [1]) t.dev) ∧
    (s.dev.hung = false → exec .refHangExpiry s = .next s) ∧
    (s.dev.clk.switchTo = some r → s.dev.clk.domainReset = false → s.dev.hung = true →
      ∃ t, exec .refHangExpiry s = .next t ∧ t.dev.clk.domainReset = true ∧ t.dev.rd F.CLK_RST_CAUSE_DOMAIN = 1 ∧
        (s.dev.memOn = true → t.mem.sdram = [] ∧ t.dev.rd F.HIF_MEM_STS_READY = 0 ∧ t.dev.rd F.HIF_MEM_STS_LOST = 1) ∧
        (s.dev.memOn = false → t.mem = s.mem) ∧
        (s.dev.coreOn = true → s.dev.rd F.HIF_LINK_STS_STATE ≠ 0 →
          t.dev.rd F.HIF_LINK_STS_PCIE_UP = 0 ∧ t.dev.rd F.HIF_LINK_STS_STATE = 1)) ∧
    (s.dev.fioPast s.dev.clk.holdAt 128 = false → exec .domainResetRelease s = .next s) ∧
    (s.dev.clk.switchTo = some r → s.dev.clk.domainReset = true → s.dev.fioPast s.dev.clk.holdAt 128 = true →
      ∃ t, exec .domainResetRelease s = .next t ∧
        s.dev.Changes (fun n => inRegions [1, 7] n ∨ evtBits n) t.dev ∧
        t.dev.clk.domainReset = false ∧ t.dev.rd F.CLK_STS_REF_SEL = r ∧
        t.dev.rd F.CLK_CNT_FORCED = satNat 8 (s.dev.rd F.CLK_CNT_FORCED + 1)) ∧
    (s.dev.clk.pllLocking = false ∨ s.dev.clk.domainReset = true → exec .syspllLock s = .next s) ∧
    (s.dev.clk.pllLocking = true → s.dev.clk.domainReset = false → s.dev.boot = 1 →
      ∃ t, exec .syspllLock s = .next t ∧ t.mem = s.mem ∧ t.dev.clk.pllLocking = false ∧
        t.dev.boot = (if s.dev.refQualified && s.dev.clk.switchTo.isNone then 2 else 1))) ∧
  (∀ (p : Path) (x w v : Nat) (s : State), x < 2 → v = withBits w (10 + x) 1 1 →
    s.dev.Admits p (hit .CLK_CTL RD.CLK_CTL) v → F.CLK_CTL_PERMIT.of v = 0 → s.dev.xt x = 4 → s.dev.rd (xtEn x) = 1 →
    ∀ c, (x = 0 ∧ c = Instr.retryA p w) ∨ (x = 1 ∧ c = Instr.retryB p w) → ∃ t, exec c s = .next t ∧ t.mem = s.mem ∧ t.dev.hif.cpl = ⟨0, 0⟩ ∧
      t.dev.xt x = 1 ∧ tabGet 0 t.dev.clk.tries x = 1) ∧
  (∀ (p : Path) (x w : Nat) (s : State), x < 2 → s.dev.Admits p (xtReg x) w →
    (¬ ((xtEn x).of w = 0 ∧ s.dev.rd (xtEn x) = 1 ∧ s.dev.rd F.CLK_STS_REF_SEL = x) →
      ∃ t, exec (.xtalCfgWrite p x w) s = .next t ∧
        s.dev.Changes (fun n => inRegions [1] n ∨ evtBits n ∨ accBits n) t.dev ∧
        t.mem = s.mem ∧ t.dev.hif.cpl = ⟨0, 0⟩ ∧
        t.dev.rd (xtEn x) = (xtEn x).of w ∧ t.dev.rd (xtGates x) = (xtGates x).of w ∧ t.dev.rd (xtWin x) = (xtWin x).of w ∧
        t.dev.rd (xtTries x) = (if s.dev.xt x = 0 then (xtTries x).of w else s.dev.rd (xtTries x)) ∧
        (s.dev.rd (xtEn x) = 1 → (xtEn x).of w = 0 → t.dev.xt x = 0 ∧ t.dev.rd (xtValid x) = 0) ∧
        (s.dev.rd (xtEn x) = 0 → (xtEn x).of w = 1 → s.dev.boot = 1 → s.dev.xt x = 0 → t.dev.xt x = 1))) ∧
  (∀ (p : Path) (r w v : Nat) (s : State), r < 4 → v = withBits (withBits w 8 2 r) 7 1 1 →
    s.dev.Admits p (hit .CLK_CTL RD.CLK_CTL) v → F.CLK_CTL_PERMIT.of v = 0 → F.CLK_CTL_RETRY_A.of v = 0 →
    F.CLK_CTL_RETRY_B.of v = 0 →
    (r < 2 → s.dev.xt r = 3 → s.dev.clk.switchTo = none → s.dev.clk.pllLocking = false → s.dev.rd F.CLK_STS_SAFE = 0 →
      s.dev.rd F.CLK_STS_REF_SEL ≠ r →
      ∃ t, exec (.switch p r w) s = .next t ∧ t.mem = s.mem ∧ t.dev.hif.cpl = ⟨0, 0⟩ ∧ t.dev.clk.switchTo = some r ∧
        t.dev.rd F.CLK_STS_SWITCHING = 1 ∧ t.dev.clk.permit = s.dev.safeAllowed ∧
        t.dev.rd F.CLK_STS_SAFE = b2n s.dev.safeAllowed) ∧
    (2 ≤ r ∨ s.dev.xt r ≠ 3 ∨ s.dev.clk.switchTo ≠ none ∨ s.dev.clk.pllLocking = true ∨ s.dev.rd F.CLK_STS_SAFE = 1 ∨
      s.dev.rd F.CLK_STS_REF_SEL = r →
      ∃ t, exec (.switch p r w) s = .next t ∧
        s.dev.Changes (fun n => inRegions [1] n ∨ evtBits n ∨ accBits n) t.dev ∧
        t.mem = s.mem ∧ t.dev.hif.cpl = ⟨0, 0⟩ ∧ t.dev.clk = s.dev.clk ∧
        t.dev.rd F.CLK_STS_SAFE = s.dev.rd F.CLK_STS_SAFE ∧ t.dev.rd F.CLK_STS_REF_SEL = s.dev.rd F.CLK_STS_REF_SEL))

/-- R695 to R703, R710, R713: SAMPCLK and LREFCLK are judged, a trip enters the safe state, and a permit ends it in
*ORBIT_WAIT*. -/
def Obligations.ClockFailuresEnterAndPermitsEndTheSafeState : Prop :=
  (∀ s : State,
    (s.dev.rd F.CLK_STS_SAFE = 0 ∨ s.dev.refOk = false ∨ s.dev.sampOk = false ∨ s.dev.permitted = false →
      s.dev.boot ≠ 3 → s.dev.boot ≠ 4 → exec .safeStateEnd s = .next s) ∧
    (s.dev.rd F.CLK_STS_SAFE = 1 → s.dev.refOk = true → s.dev.sampOk = true → s.dev.permitted = true →
      5 ≤ s.dev.boot → s.dev.boot ≤ 8 →
      ∃ t, exec .safeStateEnd s = .next t ∧ t.mem = s.mem ∧ t.dev.rd F.CLK_STS_SAFE = 0 ∧ t.dev.boot = 6 ∧
        t.dev.prt.paused = false ∧ t.dev.clk.permit = false) ∧
    (s.dev.rd F.MLD_STS_HOSTLESS = 0 ∨ s.dev.rd F.CLK_STS_SAFE = 0 ∨ s.dev.refOk = false ∨ s.dev.sampOk = false ∨
        s.dev.clk.okAt = none ∨
        (∃ b, s.dev.clk.okAt = some b ∧ s.dev.now - b < 1228800 * s.dev.rd F.CLK_MON_CFG_AUTO_PERMIT) →
      exec .autoPermitExpiry s = .next s) ∧
    (s.dev.rd F.MLD_STS_HOSTLESS = 1 → s.dev.rd F.CLK_STS_SAFE = 1 → s.dev.refOk = true → s.dev.sampOk = true →
      (∃ b, s.dev.clk.okAt = some b ∧ 1228800 * s.dev.rd F.CLK_MON_CFG_AUTO_PERMIT ≤ s.dev.now - b) →
      5 ≤ s.dev.boot → s.dev.boot ≤ 8 →
      ∃ t, exec .autoPermitExpiry s = .next t ∧ t.mem = s.mem ∧ t.dev.rd F.CLK_STS_SAFE = 0 ∧ t.dev.boot = 6)) ∧
  (∀ (p : Path) (w v : Nat) (s : State), v = withBits w 6 1 1 → s.dev.Admits p (hit .CLK_CTL RD.CLK_CTL) v →
    F.CLK_CTL_SWITCH.of v = 0 → F.CLK_CTL_RETRY_A.of v = 0 → F.CLK_CTL_RETRY_B.of v = 0 → F.CLK_CTL_CLR_CNT.of v = 0 →
    (s.dev.rd F.CLK_STS_SAFE = 0 →
      ∃ t, exec (.permit p w) s = .next t ∧ t.mem = s.mem ∧ t.dev.hif.cpl = ⟨0, 0⟩ ∧ t.dev.clk = s.dev.clk ∧
        s.dev.Changes (fun k => k = F.CLK_CTL_STANDING.key 0 0 0 ∨ k = F.CLK_CTL_B_COLD.key 0 0 0 ∨
          k = F.CLK_CTL_SWITCH_TO.key 0 0 0) t.dev) ∧
    (s.dev.rd F.CLK_STS_SAFE = 1 → (s.dev.refOk && s.dev.sampOk) = false →
      ∃ t, exec (.permit p w) s = .next t ∧
        s.dev.Changes (fun n => inRegions [1] n ∨ evtBits n ∨ accBits n) t.dev ∧
        t.mem = s.mem ∧ t.dev.hif.cpl = ⟨0, 0⟩ ∧ t.dev.rd F.CLK_STS_SAFE = 1 ∧
        t.dev.clk = s.dev.clk ∧
        t.dev.rd F.CLK_CNT2_PERMIT_REFUSED = satNat 8 (s.dev.rd F.CLK_CNT2_PERMIT_REFUSED + 1)) ∧
    (s.dev.rd F.CLK_STS_SAFE = 1 → (s.dev.refOk && s.dev.sampOk) = true → 5 ≤ s.dev.boot → s.dev.boot ≤ 8 →
      ∃ t, exec (.permit p w) s = .next t ∧ t.mem = s.mem ∧ t.dev.hif.cpl = ⟨0, 0⟩ ∧ t.dev.rd F.CLK_STS_SAFE = 0 ∧
        t.dev.boot = 6)) ∧
  (∀ (n : Nat) (s : State),
    (s.dev.coreOn = false ∨ s.dev.refQualified = false ∨ s.dev.rd F.CLK_STS_SAMP_STATE = 0 ∨
      s.dev.rd F.CLK_STS_SAMP_STATE = 3 ∨ s.dev.refPast s.dev.clk.sampAt 40960 = false →
      exec (.sampclkGate n) s = .next s) ∧
    (s.dev.coreOn = true → s.dev.refQualified = true → s.dev.refPast s.dev.clk.sampAt 40960 = true →
      (absI ((n : Int) - 251658) * 1000000 ≤ (max 20 (s.dev.rd F.CLK_MON_CFG_SAMP_WIN) * 251658 : Nat) →
        (s.dev.rd F.CLK_STS_SAMP_STATE = 2 →
          ∃ t, exec (.sampclkGate n) s = .next t ∧ t.mem = s.mem ∧ t.dev.rdS F.CLK_MEAS_S_DEV = ppm n 251658 ∧
            t.dev.rd F.CLK_MEAS_S_VALID = 1 ∧
            s.dev.Changes (fun k => k = F.CLK_MEAS_S_DEV.key 0 0 0 ∨ k = F.CLK_MEAS_S_VALID.key 0 0 0) t.dev) ∧
        (s.dev.rd F.CLK_STS_SAMP_STATE = 1 → 5 ≤ s.dev.boot → s.dev.boot ≤ 8 →
          ∃ t, exec (.sampclkGate n) s = .next t ∧ t.mem = s.mem ∧
            t.dev.rd F.CLK_STS_SAMP_STATE = (if s.dev.clk.sampGates + 1 < 4 then 1 else 2))) ∧
      ((max 20 (s.dev.rd F.CLK_MON_CFG_SAMP_WIN) * 251658 : Nat) < absI ((n : Int) - 251658) * 1000000 →
        (s.dev.rd F.CLK_STS_SAMP_STATE = 1 →
          ∃ t, exec (.sampclkGate n) s = .next t ∧ t.mem = s.mem ∧ t.dev.clk.sampGates = 0 ∧
            t.dev.rd F.CLK_STS_SAMP_STATE = 1) ∧
        (s.dev.rd F.CLK_STS_SAMP_STATE = 2 →
          ∃ t, exec (.sampclkGate n) s = .next t ∧ t.mem = s.mem ∧ t.dev.rd F.CLK_STS_SAMP_STATE = 3 ∧
            t.dev.rd F.CLK_CNT_TRIPS_S = satNat 8 (s.dev.rd F.CLK_CNT_TRIPS_S + 1) ∧
            (s.dev.safeAllowed = true → t.dev.rd F.CLK_STS_SAFE = 1 ∧ bitAt (t.dev.rd F.CLK_STS_SAFE_CAUSE) 1 = true))))) ∧
  (∀ s : State,
    (s.dev.coreOn = false → exec .sampclkStop s = .next s ∧ exec .sampclkReturn s = .next s) ∧
    (s.dev.coreOn = true → s.dev.rd F.CLK_STS_SAMP_STATE = 2 →
      ∃ t, exec .sampclkStop s = .next t ∧
        s.dev.Changes (fun n => inRegions [1, 4, 0xA, 0xB, 0xC] n ∨ evtBits n) t.dev ∧
        t.mem = s.mem ∧ t.dev.rd F.CLK_STS_SAMP_STATE = 3 ∧
        t.dev.rd F.CLK_CNT_TRIPS_S = satNat 8 (s.dev.rd F.CLK_CNT_TRIPS_S + 1) ∧
        (s.dev.safeAllowed = true → t.dev.rd F.CLK_STS_SAFE = 1 ∧ bitAt (t.dev.rd F.CLK_STS_SAFE_CAUSE) 1 = true)) ∧
    (s.dev.coreOn = true → s.dev.rd F.CLK_STS_SAMP_STATE ≠ 2 →
      exec .sampclkStop s = .next (s.onDev (fun d => d.setClk { d.clk with sampGates := 0 }))) ∧
    (s.dev.coreOn = true → s.dev.rd F.CLK_STS_SAMP_STATE = 3 →
      exec .sampclkReturn s = .next (s.onDev (fun d =>
        (d.wr F.CLK_STS_SAMP_STATE 1).setClk { d.clk with sampAt := d.now }))) ∧
    (s.dev.rd F.CLK_STS_SAMP_STATE ≠ 3 → exec .sampclkReturn s = .next s) ∧
    (s.dev.boot = 4 → s.dev.rd F.CLK_STS_SAMP_STATE ≠ 2 → 122880000 ≤ s.dev.now - s.dev.clk.waitAt →
      exec .clkSampWait s = .next (s.onDev (fun d => (d.setClk { d.clk with waitAt := d.now }).raise 0x127))) ∧
    (s.dev.boot ≠ 4 ∨ s.dev.rd F.CLK_STS_SAMP_STATE = 2 ∨ s.dev.now - s.dev.clk.waitAt < 122880000 → exec .clkSampWait s = .next s) ∧
    (s.dev.rd F.CLK_STS_SIO_FAIL = 1 → exec .sioFail s = .next s) ∧
    (s.dev.rd F.CLK_STS_SIO_FAIL = 0 →
      ∃ t, exec .sioFail s = .next t ∧ t.mem = s.mem ∧ t.dev.rd F.CLK_STS_SIO_FAIL = 1 ∧
        s.dev.Changes (fun k => k = F.CLK_STS_SIO_FAIL.key 0 0 0 ∨ evtBits k) t.dev)) ∧
  (∀ (j : Nat) (n : Option Nat) (s : State), j < 4 →
    (s.dev.linkDieOn (j / 2) = false ∨ s.dev.coreOn = false ∨
        (n ≠ none ∧ s.dev.refPast (tabGet 0 s.dev.clk.lrefAt j) 40960 = false) →
      exec (.lrefGate j n) s = .next s) ∧
    (s.dev.linkDieOn (j / 2) = true → s.dev.coreOn = true →
      (∀ k, n = some k → s.dev.refPast (tabGet 0 s.dev.clk.lrefAt j) 40960 = true → absI ((k : Int) - 160000) ≤ 32 →
        ∃ t, exec (.lrefGate j n) s = .next t ∧ t.mem = s.mem ∧ tabGet 0 t.dev.clk.lrefAt j = s.dev.now ∧
          t.dev.rd F.CLK_STS_LREF_OK = s.dev.rd F.CLK_STS_LREF_OK ||| 2 ^ j ∧
          s.dev.Changes (fun k => k = F.CLK_STS_LREF_OK.key 0 0 0) t.dev) ∧
      (n = none ∨ (∃ k, n = some k ∧ s.dev.refPast (tabGet 0 s.dev.clk.lrefAt j) 40960 = true ∧
          32 < absI ((k : Int) - 160000)) →
        (bitAt (s.dev.rd F.CLK_STS_LREF_OK) j = false →
          ∃ t, exec (.lrefGate j n) s = .next t ∧ t.mem = s.mem ∧ t.dev.regs = s.dev.regs) ∧
        (bitAt (s.dev.rd F.CLK_STS_LREF_OK) j = true →
          ∃ t, exec (.lrefGate j n) s = .next t ∧
            s.dev.Changes (fun n => inRegions [1, 8, 0xA, 0xB, 0xC, 0x1C] n ∨ evtBits n) t.dev ∧
            t.mem = s.mem ∧
            t.dev.rd F.CLK_STS_LREF_OK = s.dev.rd F.CLK_STS_LREF_OK - 2 ^ j)))) ∧
  (∀ (p : Path) (w v : Nat) (s : State), v = withBits w 0 1 1 → s.dev.Admits p (hit .CLK_CTL RD.CLK_CTL) v →
    F.CLK_CTL_PERMIT.of v = 0 → F.CLK_CTL_SWITCH.of v = 0 → F.CLK_CTL_RETRY_A.of v = 0 → F.CLK_CTL_RETRY_B.of v = 0 →
    ∃ t, exec (.clkClrCnt p w) s = .next t ∧ t.mem = s.mem ∧ t.dev.hif.cpl = ⟨0, 0⟩ ∧ t.dev.rd F.CLK_CNT_TRIPS_A = 0 ∧
      t.dev.rd F.CLK_CNT_TRIPS_B = 0 ∧ t.dev.rd F.CLK_CNT_TRIPS_S = 0 ∧ t.dev.rd F.CLK_CNT_FORCED = 0 ∧
      t.dev.rd F.CLK_CNT2_SWITCHES = 0 ∧ t.dev.rd F.CLK_CNT2_PERMIT_REFUSED = 0 ∧ t.dev.rd F.CLK_CNT2_XCHK = 0 ∧
      s.dev.Changes (inRegions [1]) t.dev)

/-- R707 to R710, R720, R721: each reset leaves its cause and the reset values, and *CLK_WAIT* starts the crystals. -/
def Obligations.ResetsLeaveTheirCauseAndResetValues : Prop :=
  (∀ (c : Instr) (cause : Nat) (keep : Bool) (s : State),
    ((c = .aoPowerGood ∧ keep = false ∧ cause = if s.dev.clk.resetLow then 3 else 1) ∨
      (c = .resetNAssert ∧ keep = true ∧ s.dev.clk.resetLow = false ∧ cause = s.dev.causeAfter 1) ∨
      (c = .aoWatchdog ∧ keep = true ∧ cause = s.dev.causeAfter 4) ∨
      (∃ p w, c = .chipReset p w ∧ keep = true ∧ cause = s.dev.causeAfter 2 ∧
        s.dev.Admits p (hit .CLK_RST_CTL RD.CLK_RST_CTL) (withBits w 1 1 1) ∧
        F.CLK_RST_CTL_KEY.of (withBits w 1 1 1) = 0x5A)) →
    ∃ t, exec c s = .next t ∧ t.mem.sdram = [] ∧ t.pending = s.pending ∧ t.dev.boot = 0 ∧
      (s.dev.er.archBusy = [] → s.dev.hif.flashJobs = [] → s.dev.hif.otpRun = none → t.mem = s.mem.sdLose) ∧
      t.dev.word RD.CLK_RST_CAUSE = cause ∧ t.dev.er.ring = (if keep then s.dev.er.ring else []) ∧
      t.dev.rd F.FES_SAFE_STS_SAFE_N = s.dev.rd F.FES_SAFE_STS_SAFE_N ∧
      ∀ (f : Fld) (i j k : Nat), (∀ g, g ∈ RD.CLK_RST_CAUSE.flds → f.key i j k ≠ g.key 0 0 0) →
        f.key i j k ≠ F.FES_SAFE_STS_SAFE_N.key 0 0 0 → ¬ evtBits (f.key i j k) →
        t.dev.rd f i j k = f.rst i j k % 2 ^ f.w) ∧
  (∀ s : State, s.dev.clk.resetLow = true → exec .resetNAssert s = .next s) ∧
  (∀ s : State, exec .resetNRelease s = .next (s.onDev (fun d => d.setClk { d.clk with resetLow := false, bootAt := d.now }))) ∧
  (∀ (p : Path) (w : Nat) (s : State),
    (s.dev.Admits p (hit .CLK_RST_CTL RD.CLK_RST_CTL) (withBits w 1 1 1) →
      F.CLK_RST_CTL_KEY.of (withBits w 1 1 1) ≠ 0x5A →
      exec (.chipReset p w) s = .next (s.onDev (fun d => (d.raise 0x128 0 3).complete 0))) ∧
    (s.dev.Admits p (hit .CLK_RST_CTL RD.CLK_RST_CTL) (withBits w 0 1 1) →
      (F.CLK_RST_CTL_KEY.of (withBits w 0 1 1) ≠ 0x5A →
        exec (.coreReset p w) s = .next (s.onDev (fun d => (d.raise 0x128 0 3).complete 0))) ∧
      (F.CLK_RST_CTL_KEY.of (withBits w 0 1 1) = 0x5A → F.CLK_RST_CTL_CHIP.of (withBits w 0 1 1) = 0 →
        (2 ≤ s.dev.boot → s.dev.boot ≠ 10 → s.dev.pwr.stopping = none →
          ∃ t, exec (.coreReset p w) s = .next t ∧ t.dev.hif.cpl = ⟨0, 0⟩ ∧ t.dev.boot = 2 ∧
            t.dev.rd F.CLK_RST_CAUSE_CORE_SW = 1 ∧ t.dev.coreOn = false ∧ (∀ n, t.dev.domOn n = false) ∧
            (s.dev.memOn = true → t.mem.sdram = [] ∧ t.dev.rd F.HIF_MEM_STS_LOST = 1)) ∧
        (s.dev.boot ≤ 1 ∨ s.dev.boot = 10 →
          ∃ t, exec (.coreReset p w) s = .next t ∧ t.mem = s.mem ∧ t.dev.hif.cpl = ⟨0, 0⟩ ∧
            t.dev.rd F.CLK_RST_CAUSE_CORE_SW = 1 ∧
            s.dev.Changes (fun k => k = F.CLK_RST_CAUSE_CORE_SW.key 0 0 0) t.dev)))) ∧
  (∀ s : State,
    (s.dev.boot ≠ 0 ∨ s.dev.clk.resetLow = true ∨ s.dev.fioPast s.dev.clk.bootAt 8192 = false →
      exec .clkWaitEntry s = .next s) ∧
    (s.dev.boot = 0 → s.dev.clk.resetLow = false → s.dev.fioPast s.dev.clk.bootAt 8192 = true →
      ∃ t, exec .clkWaitEntry s = .next t ∧ t.mem = s.mem ∧ t.dev.boot = 1 ∧
        (bitAt s.mem.otp.aoFuse 31 = false →
          (s.dev.rd F.CLK_XTAL_CFG_A_EN = 1 → t.dev.xt 0 = 1) ∧
          (s.dev.rd F.CLK_XTAL_CFG_B_EN = 1 → s.dev.rd F.CLK_CTL_B_COLD = 0 → t.dev.xt 1 = 1)) ∧
        (bitAt s.mem.otp.aoFuse 31 = true → t.dev.rd F.CLK_XTAL_CFG_A_EN = bits s.mem.otp.aoFuse 0 1 ∧
          t.dev.rd F.CLK_XTAL_CFG_A_START_MS = bits s.mem.otp.aoFuse 2 8) ∧
        s.dev.Changes (fun k => inRegions [1] k ∨ evtBits k) t.dev))

/-- R690, R730: a write that would clear `EN` of the crystal REF is using is refused and changes nothing but the access log;
`RETRY` of a domain in *FAULT* queues a wake, once per AO reset and for the DON, MEM and link-die domains only, and is ignored
otherwise. -/
def Obligations.CrystalInUseStaysEnabledAndRetryIsOnce : Prop :=
  (∀ (p : Path) (x w : Nat) (s : State), x < 2 → s.dev.Admits p (xtReg x) w → (xtEn x).of w = 0 →
    s.dev.rd (xtEn x) = 1 → s.dev.rd F.CLK_STS_REF_SEL = x →
    exec (.xtalCfgWrite p x w) s = .next (s.onDev (fun d => d.fail p (xtReg x).addr 4)) ∧
    s.dev.Changes (fun n => evtBits n ∨ accBits n) (s.dev.fail p (xtReg x).addr 4)) ∧
  (∀ (p : Path) (n w : Nat) (s : State), n < 82 →
    s.dev.Admits p (hit .PWR_DOM RD.PWR_DOM n) (withBits w 31 1 1) →
    ((n = 4 ∨ n = 5 ∨ 74 ≤ n) → s.dev.rd F.PWR_DOM_STATE n = 5 → n ∉ s.dev.pwr.retried →
      ∃ t, exec (.pwrRetry p n w) s = .next t ∧ t.mem = s.mem ∧ t.dev.hif.cpl = ⟨0, 0⟩ ∧ n ∈ t.dev.pwr.retried ∧
        (s.dev.domOn n = false → (n, true) ∈ t.dev.pwr.queue) ∧ s.dev.Changes (inRegions [2]) t.dev) ∧
    (¬ (n = 4 ∨ n = 5 ∨ 74 ≤ n) ∨ s.dev.rd F.PWR_DOM_STATE n ≠ 5 ∨ n ∈ s.dev.pwr.retried →
      exec (.pwrRetry p n w) s = .next (s.onDev (fun d => d.complete 0)))) ∧
  (∀ s : State, ∃ t, exec .aoWatchdog s = .next t ∧
    s.dev.Changes (fun n => inRegions [7, 0xA] n ∨ evtBits n) t.dev ∧
    t.dev.pwr.retried = [])

/-! ### Chapter 13: power, temperature and budget -/

/-- R728, R729, R731 to R734, R748 to R751, R754, R896: the ladder wakes and gates domains, faults open them, stops end in *STOPPED*
and restarts leave it. -/
def Obligations.DomainsWakeGateFaultStopAndRestart : Prop :=
  (∀ s : State, (s.dev.pwr.queue = [] ∨ s.dev.ladderDue = false ∨ (s.dev.boot = 2 ∧ s.dev.pwr.stopping = none ∧ s.dev.refOk = false) →
      exec .ladderStep s = .next s)) ∧
  (∀ (n : Nat) (wake : Bool) (rest : List (Nat × Bool)) (s : State), n < 82 → s.dev.pwr.queue = (n, wake) :: rest →
    (∀ q, q ∈ rest → q.1 ≠ n) → wakeStep n ≤ min 60 (s.dev.rd F.PWR_LADDER_MAX_A) → s.dev.pwr.stopping = none →
    (s.dev.boot = 2 → s.dev.refOk = true) → s.dev.ladderDue = true →
    ∃ t, exec .ladderStep s = .next t ∧ t.dev.pwr.stepAt = some s.dev.now ∧
      t.dev.rd F.PWR_LADDER_CNT_STEPS = satNat 16 (s.dev.rd F.PWR_LADDER_CNT_STEPS + 1) ∧
      t.dev.pwr.queue = s.dev.pwr.queue.drop
        (ladderTake (min 60 (s.dev.rd F.PWR_LADDER_MAX_A)) s.dev.pwr.queue).length ∧
      t.dev.rd F.PWR_DOM_STATE n = (if wake then 2 else 4) ∧ (wake = false → t.dev.domOn n = false) ∧
      ((∀ q, q ∈ rest → q.2 = true) → (wake = true ∨ n ≠ 5) → t.mem = s.mem)) ∧
  (∀ (n : Nat) (s : State), n < 82 →
    (s.dev.rd F.PWR_DOM_STATE n ≠ 2 → exec (.domainSupplyGood n) s = .next s) ∧
    (s.dev.rd F.PWR_DOM_STATE n = 2 →
      ∃ t, exec (.domainSupplyGood n) s = .next t ∧
        s.dev.Changes (fun n => inRegions [1, 2, 7, 8, 9, 0xA, 0xB, 0xC] n ∨ evtBits n) t.dev ∧
        (n ≠ 5 → t.mem = s.mem) ∧ t.dev.domOn n = true ∧
        (n ∉ s.dev.pwr.gateAfter → t.dev.rd F.PWR_DOM_STATE n = 3) ∧
        (n ∈ s.dev.pwr.gateAfter → (n, false) ∈ t.dev.pwr.queue) ∧
        (n < 4 → (∀ k, k < 4 → k ≠ n → s.dev.domOn k = true) → s.dev.coreOn = false → t.dev.coreOn = true ∧
          t.dev.rd F.CLK_STS_SAMP_STATE = 1))) ∧
  (∀ (n cause : Nat) (s : State), n < 82 →
    (cause = 0 ∨ 3 < cause ∨ (cause = 1 ∧ s.dev.rd F.PWR_DOM_STATE n ≠ 2 ∧ s.dev.domOn n = false) ∨
        (cause = 2 ∧ (s.dev.rd F.PWR_DOM_STATE n ≠ 2 ∨ 10 * (s.dev.now - tabGet 0 s.dev.pwr.wakeAt n + 1) < 12288)) ∨
        (cause = 3 ∧ s.dev.domOn n = false) →
      exec (.domainFault n cause) s = .next s) ∧
    ((cause = 1 ∧ (s.dev.rd F.PWR_DOM_STATE n = 2 ∨ s.dev.domOn n = true)) ∨
        (cause = 2 ∧ s.dev.rd F.PWR_DOM_STATE n = 2 ∧ 12288 ≤ 10 * (s.dev.now - tabGet 0 s.dev.pwr.wakeAt n + 1)) ∨
        (cause = 3 ∧ s.dev.domOn n = true) →
      ∃ t, exec (.domainFault n cause) s = .next t ∧ t.dev.rd F.PWR_DOM_STATE n = 5 ∧
        t.dev.rd F.PWR_DOM_CAUSE n = cause ∧ t.dev.domOn n = false ∧
        (5 < n → t.mem = s.mem) ∧
        (6 ≤ n → n < 42 → t.dev.spFailed (n - 6) = true) ∧
        (42 ≤ n → n < 74 → (tabFind t.dev.eng.failed (n - 42)).isSome = true) ∧
        (n < 4 → t.dev.pwr.stopping.isSome = true ∨ t.dev.boot = 10))) ∧
  (∀ (n : Nat) (s : State), n < 36 →
    (s.dev.idleFor (6 + n) 122880 = false → exec (.spGateTimer n) s = .next s) ∧
    (∀ k, s.dev.slc.takeover = some k → k.target = some n → exec (.spGateTimer n) s = .next s) ∧
    (s.dev.domOn (6 + n) = true → s.dev.idleFor (6 + n) 122880 = true → s.dev.slc.takeover = none →
      ∃ t, exec (.spGateTimer n) s = .next t ∧ t.mem = s.mem ∧
        ((6 + n, false) ∈ t.dev.pwr.queue ∨ 6 + n ∈ t.dev.pwr.gateAfter) ∧ s.dev.Changes (inRegions [2]) t.dev)) ∧
  (∀ (q : Nat) (s : State), q < 8 →
    (s.dev.idleFor (74 + q) 122880000 = false → exec (.linkQuarterIdle q) s = .next s) ∧
    (s.dev.domOn (74 + q) = true → s.dev.idleFor (74 + q) 122880000 = true →
      ∃ t, exec (.linkQuarterIdle q) s = .next t ∧ t.mem = s.mem ∧
        ((74 + q, false) ∈ t.dev.pwr.queue ∨ 74 + q ∈ t.dev.pwr.gateAfter) ∧ s.dev.Changes (inRegions [2]) t.dev)) ∧
  (∀ (done : Bool) (s : State),
    (s.dev.pwr.stopping = none ∨ s.dev.pwr.stopGating = true ∨
        (done = false ∧ s.dev.now - s.dev.pwr.stopAt < 491520) →
      exec (.shutdownProgramEnd done) s = .next s) ∧
    (s.dev.pwr.stopping.isSome = true → s.dev.pwr.stopGating = false → s.dev.pwr.good ≠ [] →
        done = true ∨ 491520 ≤ s.dev.now - s.dev.pwr.stopAt →
      ∃ t, exec (.shutdownProgramEnd done) s = .next t ∧
        s.dev.Changes (inRegions [1, 2, 5, 6, 7, 0xA]) t.dev ∧
        t.dev.pwr.stopGating = true ∧
        t.dev.pwr.queue = s.dev.pwr.good.reverse.map (fun n => (n, false)))) ∧
  (∀ s : State,
    (s.dev.clk.resetLow = true → exec .thermalTrip s = .next s) ∧
    (s.dev.clk.resetLow = false →
      ∃ t, exec .thermalTrip s = .next t ∧ t.dev.boot = 10 ∧ t.dev.rd F.THM_STS_TRIP = 1 ∧
        t.dev.rd F.PWR_STS_STOP_CAUSE = 2 ∧
        t.dev.rd F.THM_CNT_SHUTDOWNS = satNat 8 (s.dev.rd F.THM_CNT_SHUTDOWNS + 1) ∧
        (s.dev.boot ≠ 10 → (∀ n, t.dev.domOn n = false) ∧ t.dev.coreOn = false ∧ t.dev.pwr.stoppedAt = s.dev.now))) ∧
  (∀ (p : Path) (w v : Nat) (s : State), v = withBits w 1 1 1 → s.dev.Admits p (hit .PWR_CTL RD.PWR_CTL) v →
    F.PWR_CTL_CLR_CNT.of v = 0 →
    (s.dev.boot ≠ 10 →
      ∃ t, exec (.restart p w) s = .next t ∧ t.mem = s.mem ∧ t.dev.hif.cpl = ⟨0, 0⟩ ∧ t.dev.boot = s.dev.boot ∧
        s.dev.Changes (fun k => k = F.PWR_CTL_COOL_S.key 0 0 0 ∨ k = F.PWR_CTL_AUTO_MAX.key 0 0 0 ∨
          k = F.PWR_CTL_AUTO_RESTART.key 0 0 0) t.dev) ∧
    (s.dev.boot = 10 →
      ((s.dev.now - s.dev.pwr.stoppedAt < 122880000 * max 1 (F.PWR_CTL_COOL_S.of v) ∨ s.dev.pwr.cool < 3) →
        ∃ t, exec (.restart p w) s = .next t ∧ t.mem = s.mem ∧ t.dev.hif.cpl = ⟨0, 0⟩ ∧ t.dev.boot = 10 ∧
          t.dev.rd F.PWR_STS_RESTART_REFUSED = satNat 8 (s.dev.rd F.PWR_STS_RESTART_REFUSED + 1)) ∧
      (122880000 * max 1 (F.PWR_CTL_COOL_S.of v) ≤ s.dev.now - s.dev.pwr.stoppedAt → 3 ≤ s.dev.pwr.cool →
        ∃ t, exec (.restart p w) s = .next t ∧ t.dev.hif.cpl = ⟨0, 0⟩ ∧ t.dev.boot = 2 ∧
          t.dev.rd F.CLK_RST_CAUSE_THERMAL = 1 ∧ t.dev.rd F.THM_STS_SHUTDOWN = 0 ∧ t.dev.rd F.THM_STS_TRIP = 0))) ∧
  (∀ (p : Path) (w v : Nat) (s : State), v = withBits w 0 1 1 → s.dev.Admits p (hit .PWR_CTL RD.PWR_CTL) v →
    F.PWR_CTL_RESTART.of v = 0 →
    ∃ t, exec (.pwrClrCnt p w) s = .next t ∧ t.mem = s.mem ∧ t.dev.hif.cpl = ⟨0, 0⟩ ∧
      t.dev.rd F.PWR_STS_RESTART_REFUSED = 0 ∧ t.dev.rd F.PWR_LADDER_CNT_STEPS = 0 ∧ t.dev.rd F.PWR_LADDER_CNT_MERGED = 0 ∧
      t.dev.rd F.PWR_LADDER_CNT_URGENT = 0 ∧ t.dev.rd F.THM_CNT_SHUTDOWNS = 0 ∧ t.dev.rd F.THM_CNT_THROTTLES = 0 ∧
      t.dev.rd F.THM_CNT_WARNS = 0 ∧ t.dev.rd F.THM_CNT_SUSPECTS = 0 ∧ t.dev.rd F.BGV_CNT_DEFERRED = 0 ∧
      t.dev.rd F.BGV_CNT_ACTIONS = 0 ∧ s.dev.Changes (inRegions [2]) t.dev) ∧
  (∀ s : State,
    (s.dev.boot ≠ 10 ∨ s.dev.rd F.PWR_CTL_AUTO_RESTART = 0 ∨ s.dev.rd F.PWR_STS_STOP_CAUSE ≠ 1 ∨
      s.dev.rd F.PWR_CTL_AUTO_MAX ≤ s.dev.rd F.PWR_STS_AUTO_DONE ∨ s.dev.cooled = false →
      exec .autoRestart s = .next s) ∧
    (s.dev.boot = 10 → s.dev.rd F.PWR_CTL_AUTO_RESTART = 1 → s.dev.rd F.PWR_STS_STOP_CAUSE = 1 →
      s.dev.rd F.PWR_STS_AUTO_DONE < s.dev.rd F.PWR_CTL_AUTO_MAX → s.dev.cooled = true →
      ∃ t, exec .autoRestart s = .next t ∧ t.dev.boot = 2 ∧
        t.dev.rd F.PWR_STS_AUTO_DONE = s.dev.rd F.PWR_STS_AUTO_DONE + 1)) ∧
  (∀ (n : Nat) (slow : Int) (s : State), n < 8 →
    (s.dev.ageDue n = false → exec (.ageMeasure n slow) s = .next s) ∧
    (s.dev.ageDue n = true →
      ∃ t, exec (.ageMeasure n slow) s = .next t ∧ t.mem = s.mem ∧ tabFind t.dev.pwr.agedAt n = some s.dev.now ∧ t.dev.rdS F.THM_AGE_SLOW n = satSigned 16 slow ∧
        t.dev.rd F.THM_AGE_VALID n = 1 ∧
        t.dev.rd F.THM_AGE_WARN n = (if satSigned 16 slow < (s.dev.rd F.THM_AGE_CFG_AGE_LIM : Int)
          then s.dev.rd F.THM_AGE_WARN n else 1) ∧
        s.dev.Changes (fun k => inRegions [2] k ∨ accBits k) t.dev))

/-- R735 to R748: a thermal round gives the hottest effective reading and its levels, throttle steps are taken and given
back, and the governor estimates, takes actions above the budget and undoes them. -/
def Obligations.ThermalLevelsThrottleAndGovern : Prop :=
  (∀ s : State, s.dev.pwr.evalOwed = false ∨ s.dev.roundRead = false → exec .thermalEval s = .next s) ∧
  (∀ s : State, s.dev.pwr.evalOwed = true → s.dev.roundRead = true → ∃ t, exec .thermalEval s = .next t ∧
    t.dev.pwr.evalOwed = false ∧
    (∀ n v, n < 30 → s.dev.tsPowered n = true → s.dev.tsOwn n = some v → t.dev.rdS F.THM_TS_RAW n = v) ∧
    (∀ n, n < 30 → s.dev.tsPowered n = true → t.dev.rdS F.THM_TS_EFFECTIVE n ≤ t.dev.rdS F.THM_STS_T_HOT) ∧
    t.dev.rdS F.THM_TS_EFFECTIVE (t.dev.rd F.THM_STS_HOT_SENSOR) = t.dev.rdS F.THM_STS_T_HOT ∧
    (s.dev.rd F.THM_STS_WARN = 0 → 2 ≤ s.dev.pwr.warn.above →
      16 * (min 95 (s.dev.rd F.THM_THR_WARN) : Nat) < t.dev.rdS F.THM_STS_T_HOT → t.dev.rd F.THM_STS_WARN = 1) ∧
    (s.dev.rd F.THM_STS_THROTTLE = 0 → 2 ≤ s.dev.pwr.throttle.above →
      16 * (min 105 (s.dev.rd F.THM_THR_THROTTLE) : Nat) < t.dev.rdS F.THM_STS_T_HOT →
      t.dev.rd F.THM_STS_THROTTLE = 1 ∧ (s.dev.rd F.THM_STS_STEPS = 0 →
        t.dev.rd F.THM_STS_STEPS = min 1 (s.dev.rd F.THM_THROTTLE_CFG_MAX_STEPS))) ∧
    (s.dev.boot ≠ 10 → s.dev.pwr.stopping = none → s.dev.rd F.THM_STS_SHUTDOWN = 0 → 2 ≤ s.dev.pwr.shutdown.above →
      16 * (min 115 (s.dev.rd F.THM_THR_SHUTDOWN) : Nat) < t.dev.rdS F.THM_STS_T_HOT →
      t.dev.rd F.THM_STS_SHUTDOWN = 1 ∧ (t.dev.pwr.stopping = some 1 ∨ t.dev.boot = 10)) ∧
    (s.dev.pwr.shutdown.above < 2 ∨ s.dev.boot = 10 → t.mem = s.mem)) ∧
  (∀ s : State,
    (s.dev.now - s.dev.pwr.throttleAt < 12288000 * max 1 (s.dev.rd F.THM_THROTTLE_CFG_PERIOD) →
      exec .throttleStep s = .next s)) ∧
  (∀ s : State, 12288000 * max 1 (s.dev.rd F.THM_THROTTLE_CFG_PERIOD) ≤ s.dev.now - s.dev.pwr.throttleAt →
    (s.dev.rd F.THM_STS_THROTTLE = 1 → s.dev.rd F.THM_STS_STEPS < min 63 (s.dev.rd F.THM_THROTTLE_CFG_MAX_STEPS) →
      ∃ t, exec .throttleStep s = .next t ∧ t.mem = s.mem ∧ t.dev.rd F.THM_STS_STEPS = s.dev.rd F.THM_STS_STEPS + 1 ∧
        s.dev.Changes (fun k => k = F.THM_STS_STEPS.key 0 0 0 ∨ evtBits k) t.dev) ∧
    (s.dev.rd F.THM_STS_THROTTLE = 1 → min 63 (s.dev.rd F.THM_THROTTLE_CFG_MAX_STEPS) ≤ s.dev.rd F.THM_STS_STEPS →
      exec .throttleStep s = .next (s.onDev Dev.throttleMark)) ∧
    (s.dev.rd F.THM_STS_THROTTLE = 0 → s.dev.rd F.THM_STS_STEPS = 0 →
      exec .throttleStep s = .next (s.onDev Dev.throttleMark)) ∧
    (s.dev.rd F.THM_STS_THROTTLE = 0 → s.dev.rd F.THM_STS_STEPS ≠ 0 →
      ∃ t, exec .throttleStep s = .next t ∧ t.mem = s.mem ∧ t.dev.rd F.THM_STS_STEPS = s.dev.rd F.THM_STS_STEPS - 1 ∧
        s.dev.Changes (fun k => k = F.THM_STS_STEPS.key 0 0 0 ∨ evtBits k) t.dev)) ∧
  (∀ s : State, s.dev.pwr.governOwed = false ∨ s.dev.pwr.evalOwed = true → exec .governorRound s = .next s) ∧
  (∀ (model corr : Int) (s : State), s.dev.pwr.governOwed = true → s.dev.pwr.evalOwed = false →
    model = s.dev.countsPower s.dev.pwr.act.round + s.dev.pStatic →
    corr = s.dev.pwr.corr + divNear (s.dev.pMeas - model - s.dev.pwr.corr) (2 ^ s.dev.rd F.BGV_CTL_CORR_SHIFT) →
    ∃ t, exec .governorRound s = .next t ∧ t.mem = s.mem ∧ t.dev.pwr.governOwed = false ∧ t.dev.pwr.act = {} ∧
      (s.dev.coreOn = false → s.dev.Changes (fun k => k = F.THM_LIFE_HOURS.key 0 0 0) t.dev) ∧
      (s.dev.coreOn = true → t.dev.pwr.corr = corr ∧
        t.dev.rd F.BGV_EST_P_EST = (clampInt 0 65535 (sixteenths (model + corr))).toNat ∧
        t.dev.rd F.BGV_EST_B_NOW = (clampInt 0 65535 (sixteenths s.dev.budgetNow)).toNat ∧
        t.dev.rd F.BGV_MEAS_P_MEAS = (clampInt 0 65535 (sixteenths s.dev.pMeas)).toNat ∧
        (s.dev.rd F.BGV_CTL_EN = 1 → s.dev.budgetNow < model + corr → s.dev.rd F.BGV_STS_DEFER = 0 →
          t.dev.rd F.BGV_STS_DEFER = 1 ∧ ∃ l c, t.dev.pwr.actions = l ++ (BgvAction.defer, c) :: s.dev.pwr.actions) ∧
        (s.dev.rd F.BGV_CTL_EN = 1 → model + corr ≤ s.dev.budgetNow → t.dev.rd F.BGV_STS_EXHAUSTED = 0 ∧
          (t.dev.pwr.actions = s.dev.pwr.actions ∨ t.dev.pwr.actions = s.dev.pwr.actions.tail)) ∧
        (s.dev.rd F.BGV_CTL_EN = 0 → s.dev.rd F.CLK_STS_SAFE = 0 →
          t.dev.pwr.actions = s.dev.pwr.actions.tail) ∧
        (s.dev.rd F.BGV_CTL_EN = 0 → s.dev.rd F.CLK_STS_SAFE = 1 → t.dev.pwr.actions = s.dev.pwr.actions)))

/-! ### Chapter 14: the event recorder -/

/-- R783 to R785: an event with a token enters the input queue, after those of earlier cycles and in code and index order among
those of its own; one that finds its bucket empty is suppressed and counted; one
that finds the queue full is lost and counted. Nothing outside the recorder changes. -/
def Obligations.EventIsQueuedSuppressedOrLost : Prop :=
  ∀ (code index arg : Nat) (s : State), validCode code = true → s.dev.clk.resetLow = false → 0x20 ≤ code →
    s.dev.rd F.EVT_CODE_BURST code ≠ 0 →
    (∃ t, exec (.eventRaise code index arg) s = .next t ∧ t.mem = s.mem ∧ s.dev.Changes evtBits t.dev) ∧
    (s.dev.rd F.EVT_CODE_STS_TOKENS code ≠ 0 → s.dev.er.lostCount = 0 → s.dev.er.supDue = [] →
      s.dev.er.queue.length < 64 →
      ∃ t e, exec (.eventRaise code index arg) s = .next t ∧ t.dev.er.queue = queuePut s.dev.er.queue e ∧ e.code = code ∧
        e.cycle = some s.dev.fioCycle ∧
        e.index = index % 65536 ∧ e.arg = arg % 2 ^ 64 ∧ e.time = s.dev.timeMs ∧
        t.dev.rd F.EVT_CODE_STS_TOKENS code = s.dev.rd F.EVT_CODE_STS_TOKENS code - 1) ∧
    (s.dev.rd F.EVT_CODE_STS_TOKENS code = 0 →
      ∃ t, exec (.eventRaise code index arg) s = .next t ∧
        s.dev.Changes (fun n => evtBits n) t.dev ∧
        t.dev.er.queue = s.dev.er.queue ∧
        t.dev.rd F.EVT_CODE_STS_PENDING code =
          satNat F.EVT_CODE_STS_PENDING.w (s.dev.rd F.EVT_CODE_STS_PENDING code + 1) ∧
        t.dev.rd F.EVT_CNT2_SUPPRESSED = satNat F.EVT_CNT2_SUPPRESSED.w (s.dev.rd F.EVT_CNT2_SUPPRESSED + 1)) ∧
    (s.dev.rd F.EVT_CODE_STS_TOKENS code ≠ 0 → s.dev.er.queue.length = 64 →
      ∃ t, exec (.eventRaise code index arg) s = .next t ∧
        s.dev.Changes (fun n => evtBits n) t.dev ∧
        t.dev.er.queue = s.dev.er.queue ∧
        t.dev.er.lostCount = s.dev.er.lostCount + 1 ∧
        t.dev.rd F.EVT_CNT_LOST = satNat F.EVT_CNT_LOST.w (s.dev.rd F.EVT_CNT_LOST + 1))

/-- R784: the input queue never holds more than 64 entries, whatever event is raised and whenever its head is written. -/
def Obligations.InputQueueHoldsAtMostSixtyFour : Prop :=
  ∀ (s : State), s.dev.er.queue.length ≤ 64 →
    (∀ code index arg t, exec (.eventRaise code index arg) s = .next t → t.dev.er.queue.length ≤ 64) ∧
    (∀ t, exec .ringWrite s = .next t → t.dev.er.queue.length ≤ 64) ∧
    (∀ code t, exec (.tokenRefill code) s = .next t → t.dev.er.queue.length ≤ 64)

/-- R776, R784: the head of the queue becomes the record with the next `SEQ`. -/
def Obligations.HeadOfQueueBecomesTheNextRecord : Prop :=
  (∀ s : State, s.dev.flag F.EVT_STS_RESUMED = false ∨ s.dev.er.queue = [] ∨ s.dev.fioPast s.dev.er.headAt 40 = false →
    exec .ringWrite s = .next s) ∧
  ∀ (e : QEnt) (rest : List QEnt) (s : State), s.dev.flag F.EVT_STS_RESUMED = true → s.dev.er.queue = e :: rest →
    s.dev.fioPast s.dev.er.headAt 40 = true →
    ∃ t r, exec .ringWrite s = .next t ∧ t.mem = s.mem ∧ tabFind t.dev.er.ring s.dev.er.nextSeq = some r ∧
      r.seq = s.dev.er.nextSeq ∧ r.code = e.code ∧ r.index = e.index ∧ r.arg = e.arg ∧ r.snaps = e.snaps ∧
      r.pcycle = s.dev.er.pcycle ∧ r.time = (if e.early then s.dev.er.tBase + e.time else e.time) ∧
      t.dev.er.nextSeq = s.dev.er.nextSeq + 1 ∧
      (s.dev.er.lostCount = 0 → s.dev.er.supDue = [] → t.dev.er.queue = rest)

/-- R779 to R783: a bucket gains a token or is filled; operating time resumes from its sources, is anchored, and carries calendar time. -/
def Obligations.TokensAreRefilledAndTimeResumes : Prop :=
  ((∀ (code a : Nat) (s : State), code < 512 → tabFind s.dev.er.tokenAt code = some a →
     s.dev.fioPast a (800000 * max 1 (s.dev.rd F.EVT_CODE_REFILL code)) = false → exec (.tokenRefill code) s = .next s) ∧
   (∀ (code : Nat) (s : State), 0x20 ≤ code → code < 512 →
     s.dev.rd F.EVT_CODE_STS_TOKENS code < s.dev.rd F.EVT_CODE_BURST code →
     (∀ a, tabFind s.dev.er.tokenAt code = some a →
       s.dev.fioPast a (800000 * max 1 (s.dev.rd F.EVT_CODE_REFILL code)) = true) →
     ∃ t, exec (.tokenRefill code) s = .next t ∧ t.mem = s.mem ∧ s.dev.Changes evtBits t.dev ∧
       t.dev.rd F.EVT_CODE_STS_TOKENS code = s.dev.rd F.EVT_CODE_STS_TOKENS code + 1 ∧
       t.dev.rd F.EVT_CODE_STS_PENDING code = 0) ∧
   (∀ (p : Path) (c w : Nat) (s : State), 0x20 ≤ c → c < 512 → s.dev.Admits p (hit .EVT_CODE RD.EVT_CODE c) w →
     ∃ t, exec (.evtCodeWrite p c w) s = .next t ∧
       s.dev.Changes (fun n => inRegions [5] n ∨ accBits n) t.dev ∧
       t.mem = s.mem ∧ t.dev.hif.cpl = ⟨0, 0⟩ ∧
       t.dev.rd F.EVT_CODE_BURST c = F.EVT_CODE_BURST.of w ∧ t.dev.rd F.EVT_CODE_REFILL c = F.EVT_CODE_REFILL.of w ∧
       t.dev.rd F.EVT_CODE_NOTIFY c = F.EVT_CODE_NOTIFY.of w ∧
       t.dev.rd F.EVT_CODE_STS_TOKENS c = F.EVT_CODE_BURST.of w ∧ t.dev.rd F.EVT_CODE_STS_PENDING c = 0)) ∧
  ((∀ (readable : Bool) (s : State), s.dev.flag F.EVT_STS_RESUMED = true ∨ s.dev.boot = 0 →
     exec (.timeResume readable) s = .next s) ∧
   (∀ (readable : Bool) (s : State), s.dev.flag F.EVT_STS_RESUMED = false → s.dev.boot ≠ 0 →
     ∃ t r, exec (.timeResume readable) s = .next t ∧ t.mem = s.mem ∧ t.dev.rd F.EVT_STS_RESUMED = 1 ∧
       r = (if readable then resumeFrom s.dev.ringNewest s.mem.anchors s.mem.archTop
         else resumeFrom s.dev.ringNewest [] none) ∧
       t.dev.er.tBase = r.1 ∧ t.dev.er.nextSeq = r.2.1 + 1 ∧ t.dev.er.pcycle = r.2.2 ∧
       (tabFind t.dev.er.ring r.2.1).map (fun q => (q.code, q.time, q.pcycle)) = some (1, r.1, r.2.2)) ∧
   (∀ (s : State), s.dev.flag F.EVT_STS_UNSURE = true → s.dev.memOn = true →
     ∃ t, exec .archiveReread s = .next t ∧
       s.dev.Changes (inRegions [5]) t.dev ∧
       t.mem = s.mem ∧ t.dev.rd F.EVT_STS_UNSURE = 0 ∧
       t.dev.er.nextSeq = max s.dev.er.nextSeq (resumeFrom none s.mem.anchors s.mem.archTop).2.1 ∧
       t.dev.er.pcycle = max s.dev.er.pcycle (resumeFrom none s.mem.anchors s.mem.archTop).2.2 ∧
       s.dev.timeMs ≤ t.dev.timeMs) ∧
   (∀ (s : State), s.dev.flag F.EVT_STS_RESUMED = true → s.dev.memOn = true → s.dev.anchorDue = true →
     s.dev.er.anchorSlot < 2048 →
     ∃ t a, exec .anchorWrite s = .next t ∧ t.mem = s.mem.flProgram (flJournal + 32 * s.dev.er.anchorSlot) (anchorOctets a) ∧
       a.tBound = (s.dev.timeMs + 2000 * max 1 (s.dev.rd F.EVT_CTL_ANCHOR_S)) % 2 ^ 48 ∧
       a.sBound = (s.dev.er.nextSeq + 65536) % 2 ^ 48 ∧ a.pcycle = s.dev.er.pcycle ∧
       t.dev.er.anchor = some (a.tBound, a.sBound) ∧ t.dev.er.anchorSlot = s.dev.er.anchorSlot + 1 ∧
       t.dev.rd F.EVT_STS_UNBOUND = 0) ∧
   (∀ (s : State), s.dev.anchorDue = false → exec .anchorWrite s = .next s) ∧
   (∀ (p : Path) (w : Nat) (s : State), s.dev.Admits p (hit .EVT_CAL_HI RD.EVT_CAL_HI) (withBits w 31 1 1) →
     ∃ t, exec (.calendarSet p w) s = .next t ∧
       s.dev.Changes (fun n => inRegions [5] n ∨ accBits n) t.dev ∧
       t.mem = s.mem ∧ t.dev.hif.cpl = ⟨0, 0⟩ ∧
       t.dev.rd F.EVT_CAL_HI_VALID = 1 ∧
       t.dev.er.calBase = s.dev.er.calStageLo + 2 ^ 32 * F.EVT_CAL_HI_CAL_HI.of (withBits w 31 1 1) ∧
       t.dev.er.calRef = s.dev.timeMs))

/-- R789, R792 to R794, R797: records go to the archive page by page and are read from it; clearing needs a live nonce and the right
response. -/
def Obligations.ArchiveTakesRecordsAndClearingNeedsResponse : Prop :=
  ((∀ (s : State), s.dev.memOn = true → s.dev.flag F.EVT_STS_RESUMED = true → s.dev.flag F.EVT_CTL_ARCH_EN = true →
     s.dev.er.archBusy = [] →
     s.dev.er.clearTo = none → s.dev.hif.flashJobs = [] → s.dev.pwr.stopping = none → s.dev.toArchive ≠ [] →
     ∃ t, exec .archiveProgram s = .next t ∧ t.dev.er.archBusy = s.dev.toArchive ∧ t.dev.regs = s.dev.regs ∧
       t.mem.sdram = s.mem.sdram ∧ t.mem.otp = s.mem.otp) ∧
   (∀ (n : Nat) (r : Rec) (again : Bool) (rest : List (Nat × Rec × Bool)) (s : State),
     s.dev.er.archBusy = (n, r, again) :: rest → n % 1024 ≠ 0 → s.dev.hif.flashJobs = [] →
     ∃ t, exec (.archiveProgramDone true true) s = .next t ∧ s.dev.Changes (inRegions [5]) t.dev ∧ t.dev.er.archBusy = [] ∧
       t.mem = (({ s with mem := (s.mem.flProgram (flArchive + 64 * n) (((n, r, again) :: rest).flatMap
         (fun p => recOctets p.2.1))) } : State).journal 0x21 (flArchive + 64 * n)
           (64 * (rest.length + 1))).mem) ∧
   (∀ (p : Path) (w : Nat) (s : State), s.dev.Admits p (hit .EVT_ARCH_RD_HI RD.EVT_ARCH_RD_HI) (withBits w 31 1 1) →
     s.dev.flag F.EVT_ARCH_RD_HI_BUSY = false →
     ∃ t, exec (.archRead p w) s = .next t ∧
       s.dev.Changes (fun n => inRegions [5] n ∨ accBits n) t.dev ∧
       t.mem = s.mem ∧ t.dev.hif.cpl = ⟨0, 0⟩ ∧ t.dev.rd F.EVT_ARCH_RD_HI_BUSY = 1 ∧
       t.dev.er.archRead = some (s.dev.rd F.EVT_ARCH_RD_LO_SEQ_LO +
         2 ^ 32 * F.EVT_ARCH_RD_HI_SEQ_HI.of (withBits w 31 1 1))) ∧
   (∀ (q : Nat) (s : State), s.dev.er.archRead = some q → s.dev.memOn = true →
     (s.mem.archive.find? (fun p => p.2.seq == q) = none →
       ∃ t, exec (.archReadDone false) s = .next t ∧
         s.dev.Changes (inRegions [5]) t.dev ∧
         t.mem = s.mem ∧ t.dev.rd F.EVT_ARCH_RD_HI_BUSY = 0 ∧
         t.dev.rd F.EVT_ARCH_RD_HI_RESULT = 1 ∧ t.dev.er.archRead = none) ∧
     (∀ k r, s.mem.archive.find? (fun p => p.2.seq == q) = some (k, r) →
       ∃ t, exec (.archReadDone false) s = .next t ∧
         s.dev.Changes (inRegions [5]) t.dev ∧
         t.mem = s.mem ∧ t.dev.rd F.EVT_ARCH_RD_HI_BUSY = 0 ∧
         t.dev.rd F.EVT_ARCH_RD_HI_RESULT = 0 ∧ t.dev.er.archRead = none ∧
         ∀ w, w < 16 → t.dev.rd F.EVT_ARCH_BUF_DATA w = leAt (recOctets r) (4 * w) 4 % 2 ^ 32))) ∧
  ((∀ (p : Path) (w : Nat) (s : State), bits w 31 1 = 0 →
     s.dev.Admits p (hit .EVT_CLR_CTL RD.EVT_CLR_CTL) (withBits w 30 1 1) →
     ∃ t, exec (.nonceReq p w) s = .next t ∧
       s.dev.Changes (fun n => inRegions [5] n ∨ accBits n) t.dev ∧
       t.mem = s.mem ∧ t.dev.hif.cpl = ⟨0, 0⟩ ∧ t.dev.er.nonceLive = true ∧
       t.dev.er.nonceAt = s.dev.now ∧
       t.dev.draws = s.dev.draws + 4 ∧
       ∀ i, i < 4 → t.dev.rd F.EVT_NONCE_NONCE i = Config.free (s.dev.draws + i) % 2 ^ 32) ∧
   (∀ (s : State),
     (s.dev.fioPast s.dev.er.nonceAt 4800000000 = true →
       exec .nonceExpiry s = .next (s.onDev (fun d => { d with er := { d.er with nonceLive := false } }))) ∧
     (s.dev.fioPast s.dev.er.nonceAt 4800000000 = false → exec .nonceExpiry s = .next s)) ∧
   (∀ (p : Path) (w : Nat) (s : State), bits w 30 1 = 0 →
     s.dev.Admits p (hit .EVT_CLR_CTL RD.EVT_CLR_CTL) (withBits w 31 1 1) →
     (s.dev.judgeClear s.mem.otp = 0 →
       ∃ t, exec (.clearGo p w) s = .next t ∧
         s.dev.Changes (fun n => inRegions [5] n ∨ accBits n) t.dev ∧
         t.mem = s.mem ∧ t.dev.rd F.EVT_CLR_CTL_BUSY = 1 ∧
         t.dev.er.nonceLive = false ∧ t.dev.er.clearTo = some s.dev.clrTo ∧
         t.dev.er.ring = s.dev.er.ring.filter (fun q => decide (s.dev.clrTo < q.1)) ∧
         t.dev.er.tail = max s.dev.er.tail (s.dev.clrTo + 1)) ∧
     (s.dev.judgeClear s.mem.otp = 1 →
       ∃ t, exec (.clearGo p w) s = .next t ∧
         s.dev.Changes (fun n => inRegions [5] n ∨ accBits n) t.dev ∧
         t.mem = s.mem ∧ t.dev.rd F.EVT_CLR_CTL_RESULT = 1 ∧
         t.dev.er.nonceLive = false ∧ t.dev.er.ring = s.dev.er.ring ∧
         t.dev.rd F.EVT_CLR_CTL_FAILS = satNat F.EVT_CLR_CTL_FAILS.w (s.dev.rd F.EVT_CLR_CTL_FAILS + 1))) ∧
   (∀ (s : State), s.dev.er.archBusy ≠ [] → exec .clearDone s = .next s) ∧
   (∀ (q : Nat) (s : State), s.dev.er.clearTo = some q → s.dev.er.archBusy = [] →
     ∃ t, exec .clearDone s = .next t ∧
       s.dev.Changes (inRegions [5]) t.dev ∧
       t.mem = (s.archClear q).mem ∧ t.dev.rd F.EVT_CLR_CTL_BUSY = 0 ∧
       t.dev.rd F.EVT_CLR_CTL_RESULT = 0 ∧ t.dev.er.clearTo = none) ∧
   (∀ (p : Path) (w : Nat) (s : State), s.dev.Admits p (hit .EVT_CTL RD.EVT_CTL) (withBits w 0 1 1) →
     ∃ t, exec (.evtClrCnt p w) s = .next t ∧
       s.dev.Changes (fun n => inRegions [5] n ∨ accBits n) t.dev ∧
       t.mem = s.mem ∧ t.dev.hif.cpl = ⟨0, 0⟩ ∧ t.dev.rd F.EVT_CNT_LOST = 0 ∧
       t.dev.rd F.EVT_CNT_UNARCHIVED = 0 ∧ t.dev.rd F.EVT_CNT2_SUPPRESSED = 0 ∧ t.dev.rd F.EVT_STS_QMAX = 0))

/-! ### Chapter 15: the host attachment -/

/-- R816: a write of an `OWNER` field is judged by the table, and no other block's owner changes. -/
def Obligations.OwnerWriteFollowsTheTable : Prop :=
  ∀ (p : Path) (b w : Nat) (s : State), b < 16 → s.dev.Admits p (ownerHit b) w →
    ∃ t, exec (.ownerWrite p b w none) s = .next t ∧ t.mem = s.mem ∧ t.pending = s.pending ∧
      (∀ c, c < 16 → c ≠ b → t.dev.ownerOf c = s.dev.ownerOf c) ∧
      (s.dev.ownerOf b = 0 → w % 4 = masterOf p → t.dev.ownerOf b = masterOf p ∧ t.dev.hif.cpl.status = 0) ∧
      (s.dev.ownerOf b = 0 → w % 4 = 0 → t.dev.ownerOf b = 0 ∧ t.dev.hif.cpl.status = 0) ∧
      (s.dev.ownerOf b = 0 → w % 4 ≠ 0 → w % 4 ≠ masterOf p → t.dev.ownerOf b = 0 ∧ t.dev.hif.cpl.status = 4) ∧
      (s.dev.ownerOf b = masterOf p → w % 4 = 0 → t.dev.ownerOf b = 0 ∧ t.dev.hif.cpl.status = 0) ∧
      (s.dev.ownerOf b = masterOf p → w % 4 = masterOf p → t.dev.ownerOf b = masterOf p ∧ t.dev.hif.cpl.status = 0) ∧
      (s.dev.ownerOf b = masterOf p → w % 4 = 3 - masterOf p →
        t.dev.ownerOf b = 3 - masterOf p ∧ t.dev.hif.cpl.status = 0) ∧
      (s.dev.ownerOf b = masterOf p → w % 4 = 3 → t.dev.ownerOf b = masterOf p ∧ t.dev.hif.cpl.status = 4) ∧
      (s.dev.ownerOf b = 3 - masterOf p → t.dev.ownerOf b = 3 - masterOf p ∧ t.dev.hif.cpl.status = 3)

/-- R817: writes of both masters in one cycle are each judged against the value before; where both would succeed, the
side-band port's applies, `CLAIM_CONFLICT` is set and the host's ends with `NOT_OWNER`. -/
def Obligations.SameCycleOwnerWriteGoesToTheSideBand : Prop :=
  (∀ (p : Path) (b w v : Nat) (s : State), b < 16 → s.dev.Admits p (ownerHit b) w →
    ¬ ((ownJudge (s.dev.ownerOf b) (masterOf p) (w % 4)).1 = 0 ∧
      (ownJudge (s.dev.ownerOf b) (3 - masterOf p) (v % 4)).1 = 0) →
    ∃ t, exec (.ownerWrite p b w (some v)) s = .next t ∧ t.mem = s.mem ∧
      t.dev.hif.cpl.status = (ownJudge (s.dev.ownerOf b) (masterOf p) (w % 4)).1 ∧
      t.dev.ownerOf b = if (ownJudge (s.dev.ownerOf b) (masterOf p) (w % 4)).1 = 0
        then (ownJudge (s.dev.ownerOf b) (masterOf p) (w % 4)).2
        else if (ownJudge (s.dev.ownerOf b) (3 - masterOf p) (v % 4)).1 = 0
        then (ownJudge (s.dev.ownerOf b) (3 - masterOf p) (v % 4)).2 else s.dev.ownerOf b) ∧
  ∀ (b w v : Nat) (s : State), b < 16 → s.dev.Admits .smp (ownerHit b) w → s.dev.Admits .bar0 (ownerHit b) v →
    (ownJudge (s.dev.ownerOf b) 2 (w % 4)).1 = 0 → (ownJudge (s.dev.ownerOf b) 1 (v % 4)).1 = 0 →
    (∃ t, exec (.ownerWrite .smp b w (some v)) s = .next t ∧ t.mem = s.mem ∧
      t.dev.ownerOf b = (ownJudge (s.dev.ownerOf b) 2 (w % 4)).2 ∧ t.dev.rd (conflictFld b) = 1 ∧
      t.dev.hif.cpl.status = 0) ∧
    (∃ t, exec (.ownerWrite .bar0 b v (some w)) s = .next t ∧ t.mem = s.mem ∧
      t.dev.ownerOf b = (ownJudge (s.dev.ownerOf b) 2 (w % 4)).2 ∧ t.dev.rd (conflictFld b) = 1 ∧
      t.dev.hif.cpl.status = 3)

/-- R846, R847: a mailbox slot goes from state to state as its commands say. -/
def Obligations.MailboxSlotGoesThroughItsStates : Prop :=
  (∀ (p : Path) (k w : Nat) (s : State), k < 16 →
    s.dev.Admits p (hit .HIF_MB_CTL RD.HIF_MB_CTL k) (withBits w 4 1 1) →
    s.dev.rd F.HIF_MB_CTL_SLOT_OWNER k = masterOf p → F.HIF_MB_CTL_SLOT_OWNER.of (withBits w 4 1 1) = masterOf p →
    s.dev.rd F.HIF_MB_CTL_STATE k = 1 →
    ∃ t, exec (.mbPost p k w) s = .next t ∧
      s.dev.Changes (fun n => inRegions [7] n ∨ evtBits n) t.dev ∧
      t.mem = s.mem ∧ t.dev.rd F.HIF_MB_CTL_STATE k = 2 ∧ tabGet 0 t.dev.hif.postedAt k = s.dev.now ∧
      t.dev.rd F.HIF_MB_CTL_SLOT_OWNER k = masterOf p ∧ t.dev.hif.cpl = ⟨0, 0⟩) ∧
  (∀ (p : Path) (k w : Nat) (s : State), k < 16 →
    s.dev.Admits p (hit .HIF_MB_CTL RD.HIF_MB_CTL k) (withBits w 5 1 1) →
    s.dev.rd F.HIF_MB_CTL_SLOT_OWNER k = masterOf p → F.HIF_MB_CTL_SLOT_OWNER.of (withBits w 5 1 1) = masterOf p →
    s.dev.rd F.HIF_MB_CTL_STATE k = 4 →
    ∃ t, exec (.mbAck p k w) s = .next t ∧
      s.dev.Changes (fun n => inRegions [7] n ∨ evtBits n) t.dev ∧
      t.mem = s.mem ∧ t.dev.rd F.HIF_MB_CTL_STATE k = 1 ∧
      t.dev.rd F.HIF_MB_CTL_SLOT_OWNER k = masterOf p ∧ t.dev.hif.cpl = ⟨0, 0⟩) ∧
  (∀ (p : Path) (k w : Nat) (s : State), k < 16 →
    s.dev.Admits p (hit .HIF_MB_CTL RD.HIF_MB_CTL k) (withBits w 0 2 0) →
    s.dev.rd F.HIF_MB_CTL_SLOT_OWNER k = masterOf p →
    (s.dev.rd F.HIF_MB_CTL_STATE k ≠ 2 → s.dev.rd F.HIF_MB_CTL_STATE k ≠ 3 →
      ∃ t, exec (.mbRelease p k w) s = .next t ∧
        s.dev.Changes (fun n => inRegions [7] n ∨ evtBits n) t.dev ∧
        t.mem = s.mem ∧ t.dev.rd F.HIF_MB_CTL_STATE k = 0 ∧
        t.dev.rd F.HIF_MB_CTL_SLOT_OWNER k = 0 ∧ t.dev.hif.cpl = ⟨0, 0⟩) ∧
    (s.dev.rd F.HIF_MB_CTL_STATE k = 2 ∨ s.dev.rd F.HIF_MB_CTL_STATE k = 3 →
      ∃ t, exec (.mbRelease p k w) s = .next t ∧
        s.dev.Changes (fun n => inRegions [7] n ∨ evtBits n) t.dev ∧
        t.dev.rd F.HIF_MB_CTL_STATE k = s.dev.rd F.HIF_MB_CTL_STATE k ∧
        t.dev.rd F.HIF_MB_CTL_SLOT_OWNER k = masterOf p ∧ t.dev.hif.cpl = ⟨4, 0⟩)) ∧
  (∀ (k : Nat) (s : State), k < 16 → s.dev.rd F.HIF_MB_CTL_STATE k = 2 → s.dev.sequencersRun = true →
    exec (.mbAccept k) s = .next (s.onDev (fun d => d.wr F.HIF_MB_CTL_STATE 3 k))) ∧
  (∀ (k : Nat) (s : State), k < 16 → s.dev.rd F.HIF_MB_CTL_STATE k = 2 → s.dev.sequencersRun = true →
    s.dev.now - tabGet 0 s.dev.hif.postedAt k < 1228800 → exec (.mbPostTimeout k) s = .next s) ∧
  (∀ (k : Nat) (s : State), k < 16 → s.dev.rd F.HIF_MB_CTL_STATE k = 2 → s.dev.sequencersRun = true →
    1228800 ≤ s.dev.now - tabGet 0 s.dev.hif.postedAt k →
    ∃ t, exec (.mbPostTimeout k) s = .next t ∧
      s.dev.Changes (inRegions [7]) t.dev ∧
      t.mem = s.mem ∧ t.dev.rd F.HIF_MB_CTL_STATE k = 4 ∧
      t.dev.rd F.HIF_MB_CTL_RESULT k = 1) ∧
  (∀ (k : Nat) (refused : Bool) (l : List Nat) (s : State), k < 16 → s.dev.rd F.HIF_MB_CTL_STATE k = 3 →
    s.dev.sequencersRun = true →
    ∃ t, exec (.mbResponse k refused l) s = .next t ∧
      s.dev.Changes (inRegions [7]) t.dev ∧
      t.mem = s.mem ∧ t.dev.rd F.HIF_MB_CTL_STATE k = 4 ∧
      t.dev.rd F.HIF_MB_CTL_RESULT k = (if refused then 3 else 0) ∧
      ∀ j, j < 8 → t.dev.rd F.HIF_MB_RSP_DATA k j = listAt l j % 2 ^ 32)

/-- R820, R821, R859, R869: what the host owns goes back to `NONE` when the host has been absent, and to the side-band port by `TAKE`;
`CLR_CNT` clears the chapter's counters. -/
def Obligations.HostBlocksAreReleasedOrTakenAndCountersClear : Prop :=
  ((∀ (s : State), s.dev.hostAbsent = false ∨ s.dev.hif.absentAt = none ∨
       (∃ b, s.dev.hif.absentAt = some b ∧ s.dev.now - b < 12288000 * max 1 (s.dev.rd F.HIF_CTL_HOST_HOLD)) →
     exec .hostHoldExpiry s = .next s) ∧
   (∀ (g : Nat) (s : State), s.dev.hostAbsent = true → s.dev.hif.absentAt = some g →
     12288000 * max 1 (s.dev.rd F.HIF_CTL_HOST_HOLD) ≤ s.dev.now - g →
     ∃ t, exec .hostHoldExpiry s = .next t ∧ t.mem = s.mem ∧
       (∀ b, b < 16 → t.dev.ownerOf b = (if s.dev.ownerOf b = 1 then 0 else s.dev.ownerOf b)) ∧
       ∀ k, k < 16 → t.dev.rd F.HIF_MB_CTL_SLOT_OWNER k =
         (if s.dev.rd F.HIF_MB_CTL_SLOT_OWNER k = 1 ∧ s.dev.rd F.HIF_MB_CTL_STATE k ≠ 2 ∧ s.dev.rd F.HIF_MB_CTL_STATE k ≠ 3
           then 0 else s.dev.rd F.HIF_MB_CTL_SLOT_OWNER k)) ∧
   (∀ (p : Path) (w : Nat) (s : State), s.dev.Admits p (hit .SMP_CTL RD.SMP_CTL) (withBits w 1 1 1) →
     ∃ t, exec (.smpTake p w) s = .next t ∧ t.mem = s.mem ∧ t.dev.hif.cpl = ⟨0, 0⟩ ∧
       (∀ b, b < 16 → t.dev.ownerOf b = (if s.dev.ownerOf b = 1 then 2 else s.dev.ownerOf b)) ∧
       ∀ k, k < 16 → t.dev.rd F.HIF_MB_CTL_SLOT_OWNER k =
         (if s.dev.rd F.HIF_MB_CTL_SLOT_OWNER k = 1 then 2 else s.dev.rd F.HIF_MB_CTL_SLOT_OWNER k))) ∧
  ((∀ (p : Path) (w : Nat) (s : State), bits w 1 1 = 0 → s.dev.Admits p (hit .SMP_CTL RD.SMP_CTL) (withBits w 0 1 1) →
     ∃ t, exec (.smpClrCnt p w) s = .next t ∧ t.mem = s.mem ∧ t.dev.hif.cpl = ⟨0, 0⟩ ∧
       t.dev.rd F.SMP_CNT_CRC_ERR = 0 ∧ t.dev.rd F.SMP_CNT_FRAME_ERR = 0 ∧ t.dev.rd F.SMP_CNT_PENDING = 0 ∧
       t.dev.rd F.SMP_CNT_DUP = 0 ∧
       s.dev.Changes (fun n => RD.SMP_CNT.base * 8 ≤ n ∧ n < RD.SMP_CNT.base * 8 + 32) t.dev) ∧
   (∀ (p : Path) (w : Nat) (s : State), s.dev.Admits p (hit .HIF_CTL RD.HIF_CTL) (withBits w 0 1 1) →
     ∃ t, exec (.hifClrCnt p w) s = .next t ∧ t.mem = s.mem ∧ t.dev.hif.cpl = ⟨0, 0⟩ ∧
       t.dev.rd F.HIF_ACC_STS_COUNT = 0 ∧ t.dev.rd F.HIF_MEM_ECC_CE = 0 ∧ t.dev.rd F.HIF_MEM_ECC_UE = 0 ∧
       (∀ c, c < 8 → t.dev.rd F.HIF_DMA_STS_DONE_CNT c = 0) ∧ s.dev.Changes (inRegions [7]) t.dev))

/-- R827: a channel starts at its descriptor register, is marked by `ABORT`, and ends a descriptor with a result. -/
def Obligations.DmaChannelRunsItsDescriptors : Prop :=
  (∀ (p : Path) (c w : Nat) (desc : List Nat) (s : State), c < 8 → bits w 1 1 = 0 →
    s.dev.Admits p (hit .HIF_DMA_CTL RD.HIF_DMA_CTL c) (withBits w 0 1 1) → s.dev.flag F.HIF_DMA_STS_BUSY c = false →
    ∃ t, exec (.dmaRun p c w desc) s = .next t ∧
      s.dev.Changes (fun n => inRegions [7] n ∨ evtBits n) t.dev ∧
      t.mem = s.mem ∧ t.dev.flag F.HIF_DMA_STS_BUSY c = true ∧
      tabGet {} t.dev.hif.chans c = ⟨32 * s.dev.rd F.HIF_DMA_DESC_LO_DESC_LO c +
        2 ^ 32 * s.dev.rd F.HIF_DMA_DESC_HI_DESC_HI c, takeFill 32 desc, false⟩ ∧ t.dev.hif.cpl = ⟨0, 0⟩) ∧
  (∀ (p : Path) (c w : Nat) (s : State), c < 8 →
    s.dev.Admits p (hit .HIF_DMA_CTL RD.HIF_DMA_CTL c) (withBits (withBits w 0 1 0) 1 1 1) →
    s.dev.flag F.HIF_DMA_STS_BUSY c = true →
    ∃ t, exec (.dmaAbort p c w) s = .next t ∧
      s.dev.Changes (fun n => inRegions [7] n ∨ evtBits n) t.dev ∧
      t.mem = s.mem ∧ t.dev.flag F.HIF_DMA_STS_BUSY c = true ∧
      tabGet {} t.dev.hif.chans c = { (tabGet {} s.dev.hif.chans c : DmaChan) with aborting := true } ∧ t.dev.hif.cpl = ⟨0, 0⟩) ∧
  (∀ (c moved err at0 : Nat) (host next : List Nat) (s : State), c < 8 → err < 3 → s.dev.flag F.HIF_DMA_STS_BUSY c = true →
    badDesc (dmaDesc (tabGet {} s.dev.hif.chans c).desc) = true →
    ∃ t, exec (.dmaDescriptorDone c host moved err at0 next) s = .next t ∧ t.mem = s.mem ∧
      t.dev.flag F.HIF_DMA_STS_BUSY c = false ∧ t.dev.rd F.HIF_DMA_STS_RESULT c = 4) ∧
  (∀ (c moved at0 : Nat) (host next : List Nat) (s : State), c < 8 → s.dev.flag F.HIF_DMA_STS_BUSY c = true →
    badDesc (dmaDesc (tabGet {} s.dev.hif.chans c).desc) = false → (tabGet {} s.dev.hif.chans c).aborting = false →
    (dmaDesc (tabGet {} s.dev.hif.chans c).desc).srcSpace = 1 → (dmaDesc (tabGet {} s.dev.hif.chans c).desc).dstSpace = 0 →
    s.dev.memReady = true →
    s.dev.memFits (dmaDesc (tabGet {} s.dev.hif.chans c).desc).src (dmaDesc (tabGet {} s.dev.hif.chans c).desc).len = true →
    ∃ t, exec (.dmaDescriptorDone c host moved 0 at0 next) s = .next t ∧ t.mem = s.mem ∧
      t.dev.hif.dmaOut.head? = some ((dmaDesc (tabGet {} s.dev.hif.chans c).desc).dst,
        s.mem.sdRead (dmaDesc (tabGet {} s.dev.hif.chans c).desc).src (dmaDesc (tabGet {} s.dev.hif.chans c).desc).len) ∧
      t.dev.rd F.HIF_DMA_STS_RESULT c = 0 ∧
      t.dev.flag F.HIF_DMA_STS_BUSY c = !(dmaDesc (tabGet {} s.dev.hif.chans c).desc).last)

/-- R831, R833 to R835: the SDRAM becomes usable, is reached through BAR2 and is scrubbed line by line. -/
def Obligations.ExternalMemoryIsReached : Prop :=
  (∀ (cap : Nat) (s : State), cap < 4 → s.dev.memOn = true → s.dev.flag F.HIF_MEM_STS_READY = false →
    s.dev.clk.domainReset = false →
    exec (.memReady cap) s =
      .next (s.onDev (fun d => (d.wr F.HIF_MEM_STS_SIZE_MB (1792 * 2 ^ cap)).wr F.HIF_MEM_STS_READY 1))) ∧
  (∀ (x len ecc at0 : Nat) (data : List Nat) (s : State), x < 2 ^ 30 → ecc < 3 →
    s.dev.sdStatus (s.dev.rd F.HIF_BAR2_BASE_BASE_MB * 2 ^ 20 + x) len true = 0 →
    ∃ t, exec (.bar2Access x len true data ecc at0) s = .next t ∧
      t.mem = s.mem.sdWrite (s.dev.rd F.HIF_BAR2_BASE_BASE_MB * 2 ^ 20 + x) (takeFill len data) ∧
      t.dev.regs = s.dev.regs ∧ t.dev.hif.cpl = ⟨0, 0⟩) ∧
  (∀ (x len at0 : Nat) (data : List Nat) (s : State), x < 2 ^ 30 →
    s.dev.sdStatus (s.dev.rd F.HIF_BAR2_BASE_BASE_MB * 2 ^ 20 + x) len false = 0 →
    exec (.bar2Access x len false data 0 at0) s = .next (s.onDev (fun d => (d.tally 7 len).complete 0
      (fromOctets (s.mem.sdRead (s.dev.rd F.HIF_BAR2_BASE_BASE_MB * 2 ^ 20 + x) len))))) ∧
  (∀ (x len at0 : Nat) (data : List Nat) (s : State), x < 2 ^ 30 →
    s.dev.sdStatus (s.dev.rd F.HIF_BAR2_BASE_BASE_MB * 2 ^ 20 + x) len false = 0 →
    ∃ t, exec (.bar2Access x len false data 2 at0) s = .next t ∧
      s.dev.Changes (fun n => inRegions [7, 0xC] n ∨ evtBits n) t.dev ∧
      t.mem = s.mem ∧ t.dev.hif.cpl = ⟨9, 0⟩ ∧
      t.dev.rd F.HIF_MEM_ECC_UE = satNat F.HIF_MEM_ECC_UE.w (s.dev.rd F.HIF_MEM_ECC_UE + 1) ∧
      t.dev.rd F.HIF_MEM_UE_ADDR_ADDR64 = at0 / 64 % 2 ^ 32 ∧ t.dev.rd F.PRT_FAULT_STS_SDRAM = 1) ∧
  (∀ (x len ecc at0 : Nat) (write : Bool) (data : List Nat) (s : State), x < 2 ^ 30 → ecc < 3 → s.dev.memReady = true →
    s.dev.rd F.HIF_MEM_STS_SIZE_MB * 2 ^ 20 < s.dev.rd F.HIF_BAR2_BASE_BASE_MB * 2 ^ 20 + x + len →
    exec (.bar2Access x len write data ecc at0) s = .next (s.onDev (fun d => d.fail .bar2 x 2))) ∧
  (∀ (ecc : Nat) (s : State), ecc < 3 → s.dev.flag F.HIF_MEM_CFG_SCRUB_EN = false ∨ s.dev.memReady = false ∨
      s.dev.flag F.BGV_STS_DEFER = true ∨ s.dev.scrubDue = false → exec (.scrubStep ecc) s = .next s) ∧
  (∀ (s : State), s.dev.flag F.HIF_MEM_CFG_SCRUB_EN = true → s.dev.memReady = true → s.dev.flag F.BGV_STS_DEFER = false →
    s.dev.scrubDue = true →
    ∃ t, exec (.scrubStep 1) s = .next t ∧ s.dev.Changes (fun n => inRegions [7, 0xC] n ∨ evtBits n) t.dev ∧ t.mem = s.mem ∧
      t.dev.rd F.HIF_MEM_ECC_CE = satNat F.HIF_MEM_ECC_CE.w (s.dev.rd F.HIF_MEM_ECC_CE + 1) ∧
      t.dev.hif.scrubAt = (if s.dev.rd F.HIF_MEM_STS_SIZE_MB * 2 ^ 14 ≤ s.dev.hif.scrubAt + 1 then 0
        else s.dev.hif.scrubAt + 1))

/-- What a write through BAR2 puts into SDRAM a read through BAR2 gives back, and every other byte keeps its value
(R833). -/
def Obligations.BarTwoReadsBackWhatWasWritten : Prop :=
  ∀ (x len ecc at0 : Nat) (data more : List Nat) (s t : State), x < 2 ^ 30 → ecc < 3 → len ≤ 8 →
    s.dev.sdStatus (s.dev.rd F.HIF_BAR2_BASE_BASE_MB * 2 ^ 20 + x) len true = 0 →
    exec (.bar2Access x len true data ecc at0) s = .next t →
    (∃ u, exec (.bar2Access x len false more 0 at0) t = .next u ∧
      u.dev.hif.cpl = ⟨0, fromOctets (takeFill len (data.map (fun v => v % 256)))⟩) ∧
    (∀ a, a < s.dev.rd F.HIF_BAR2_BASE_BASE_MB * 2 ^ 20 + x ∨ s.dev.rd F.HIF_BAR2_BASE_BASE_MB * 2 ^ 20 + x + len ≤ a →
      t.mem.sdRead a 1 = s.mem.sdRead a 1) ∧
    t.mem.flash = s.mem.flash ∧ t.mem.otp = s.mem.otp

/-- R825, R836, R860: the states of the USB4 link and of the recovery function change as they are told. -/
def Obligations.HostLinksChangeState : Prop :=
  (∀ (st gen : Nat) (lanes2 d3hot : Bool) (s : State), st < 5 → gen < 4 → s.dev.coreOn = true →
    (st = 4 ∨ s.dev.flag F.HIF_LINK_STS_PCIE_UP = false) →
    ∃ t, exec (.hostLinkChange st gen lanes2 d3hot) s = .next t ∧
      s.dev.Changes (fun n => inRegions [7] n ∨ evtBits n) t.dev ∧
      t.mem = s.mem ∧ t.dev.rd F.HIF_LINK_STS_STATE = st ∧
      t.dev.rd F.HIF_LINK_STS_GEN = gen ∧ t.dev.rd F.HIF_LINK_STS_LANES2 = b2n lanes2 ∧
      t.dev.rd F.HIF_LINK_STS_D3HOT = b2n d3hot ∧ t.dev.rd F.HIF_LINK_STS_PCIE_UP = b2n (st == 4)) ∧
  (∀ (st : Nat) (s : State), st < 4 → s.dev.coreOn = true → s.dev.flag F.HIF_LINK_STS_PCIE_UP = true →
    ∃ t, exec (.pcieLinkDown st) s = .next t ∧
      s.dev.Changes (fun n => inRegions [7] n ∨ evtBits n) t.dev ∧
      t.mem = s.mem ∧ t.dev.rd F.HIF_LINK_STS_PCIE_UP = 0 ∧
      t.dev.rd F.HIF_LINK_STS_STATE = st ∧ ∀ c, c < 8 → t.dev.flag F.HIF_DMA_STS_BUSY c = false ∧
        (s.dev.flag F.HIF_DMA_STS_BUSY c = true → t.dev.rd F.HIF_DMA_STS_RESULT c = 6)) ∧
  (∀ (st : Nat) (s : State), st < 3 → (st = 0 ∨ s.dev.refQualified = true) →
    ∃ t, exec (.usbConfigure st) s = .next t ∧ t.mem = s.mem ∧ t.dev.hif.usb = st ∧ s.dev.Changes evtBits t.dev)

/-- R837, R838: the recovery function answers each of its operations with status, tag, operation and the octets moved, and discards a
command with a bad `MAGIC`. -/
def Obligations.RecoveryFunctionAnswersGoodMagicOnly : Prop :=
  ((∀ (tag a len : Nat) (s : State), s.dev.usbTakes 0x5552 = true →
     exec (.usbRead 0x5552 tag a len) s = .next (s.onDev (fun d =>
       (d.masterRead .usb a len).usbRespond (d.masterRead .usb a len).hif.cpl.status tag 1
         (d.masterRead .usb a len).hif.cpl.data (if (d.masterRead .usb a len).hif.cpl.status = 0 then len else 0)))) ∧
   (∀ (tag a len w : Nat) (s : State), s.dev.usbTakes 0x5552 = true →
     exec (.usbWrite 0x5552 tag a len w) s = .next ((s.masterWrite .usb a len true w).onDev (fun d =>
       d.usbRespond d.hif.cpl.status tag 2 0 (if d.hif.cpl.status = 0 then len else 0)))) ∧
   (∀ (tag a len : Nat) (data : List Nat) (s : State), s.dev.usbTakes 0x5552 = true → len % 64 = 0 → len ≤ 2 ^ 23 →
     s.dev.sdStatus (64 * a) len true = 0 →
     ∃ t, exec (.usbMemWrite 0x5552 tag a len data) s = .next t ∧ t.mem = s.mem.sdWrite (64 * a) (takeFill len data) ∧
       t.dev.regs = s.dev.regs ∧
       t.dev.hif.usbResp = [0, tag % 256, 3, 0] ++ toOctets 8 0 ++ toOctets 4 len) ∧
   (∀ (tag a len at0 : Nat) (s : State), s.dev.usbTakes 0x5552 = true → len % 64 = 0 → len ≤ 2 ^ 23 →
     s.dev.sdStatus (64 * a) len false = 0 →
     ∃ t, exec (.usbMemRead 0x5552 tag a len 0 at0) s = .next t ∧ t.mem = s.mem ∧ t.dev.regs = s.dev.regs ∧
       t.dev.hif.usbData = s.mem.sdRead (64 * a) len ∧
       t.dev.hif.usbResp = [0, tag % 256, 4, 0] ++ toOctets 8 0 ++ toOctets 4 len) ∧
   (∀ (tag len data : Nat) (s : State), s.dev.usbTakes 0x5552 = true → 0 < len → len ≤ 2048 →
     ∃ t, exec (.usbEvtRead 0x5552 tag len data) s = .next t ∧ t.mem = s.mem ∧ t.dev.regs = s.dev.regs ∧
       t.dev.hif.usbData.length = 64 * len ∧
       t.dev.hif.usbResp = [0, tag % 256, 5, 0] ++ toOctets 8 0 ++ toOctets 4 (64 * len)) ∧
   (∀ (tag op : Nat) (s : State), s.dev.usbTakes 0x5552 = true → (op = 0 ∨ 5 < op) →
     exec (.usbBadOp 0x5552 tag op) s = .next (s.onDev (fun d => d.usbRespond 8 tag op 0 0)))) ∧
  (∀ (magic tag a len w ecc at0 op : Nat) (data : List Nat) (s : State), magic ≠ 0x5552 → ecc < 3 →
     exec (.usbRead magic tag a len) s = .next s ∧ exec (.usbWrite magic tag a len w) s = .next s ∧
     exec (.usbMemWrite magic tag a len data) s = .next s ∧ exec (.usbMemRead magic tag a len ecc at0) s = .next s ∧
     exec (.usbEvtRead magic tag len w) s = .next s ∧ exec (.usbBadOp magic tag op) s = .next s)

/-- R840 to R844: a good frame starts its request; a repeated one, a damaged one and one that comes too early do not; the running request
is executed and its response stored. -/
def Obligations.SideBandFramesAreTakenOnceAndExecuted : Prop :=
  (∀ (l : List Nat) (s : State), s.dev.clk.resetLow = false →
     (s.dev.hif.smp.running = none → l.length = 16 → crc8 (l.take 15) = listAt l 15 → l.take 15 ≠ s.dev.hif.smp.lastReq →
       listAt l 0 ≠ 0 →
       ∃ t, exec (.smpFrame l) s = .next t ∧ t.mem = s.mem ∧ t.dev.regs = s.dev.regs ∧
         t.dev.hif.smp.running = some (listAt l 0, listAt l 1, leAt l 2 4, leAt l 6 8) ∧
         t.dev.hif.smp.lastReq = l.take 15) ∧
     (s.dev.hif.smp.running = none → l.length = 16 → crc8 (l.take 15) = listAt l 15 → l.take 15 = s.dev.hif.smp.lastReq →
       ∃ t, exec (.smpFrame l) s = .next t ∧ t.mem = s.mem ∧ t.dev.hif.smp.running = none ∧
         t.dev.rd F.SMP_CNT_DUP = satNat F.SMP_CNT_DUP.w (s.dev.rd F.SMP_CNT_DUP + 1) ∧
         s.dev.Changes (fun n => n = F.SMP_CNT_DUP.key 0 0 0) t.dev) ∧
     (s.dev.hif.smp.running = none → l.length = 16 → crc8 (l.take 15) ≠ listAt l 15 →
       ∃ t, exec (.smpFrame l) s = .next t ∧
         s.dev.Changes (fun n => inRegions [7] n ∨ evtBits n) t.dev ∧
         t.mem = s.mem ∧ t.dev.hif.smp.running = none ∧
         t.dev.hif.smp.instead = some (6, listAt l 1) ∧
         t.dev.rd F.SMP_CNT_CRC_ERR = satNat F.SMP_CNT_CRC_ERR.w (s.dev.rd F.SMP_CNT_CRC_ERR + 1)) ∧
     (s.dev.hif.smp.running = none → l.length ≠ 16 →
       ∃ t, exec (.smpFrame l) s = .next t ∧
         s.dev.Changes (fun n => inRegions [7] n ∨ evtBits n) t.dev ∧
         t.mem = s.mem ∧ t.dev.hif.smp.running = none ∧
         (t.dev.hif.smp.instead.map (fun q => q.1)) = some 7 ∧
         t.dev.rd F.SMP_CNT_FRAME_ERR = satNat F.SMP_CNT_FRAME_ERR.w (s.dev.rd F.SMP_CNT_FRAME_ERR + 1)) ∧
     (∀ op seq a w, s.dev.hif.smp.running = some (op, seq, a, w) →
       ∃ t, exec (.smpFrame l) s = .next t ∧
         s.dev.Changes (fun n => inRegions [7] n ∨ evtBits n) t.dev ∧
         t.mem = s.mem ∧ t.dev.hif.smp.running = some (op, seq, a, w) ∧
         t.dev.hif.smp.sent = s.dev.smpFrame 5 seq op 0 ∧
         t.dev.rd F.SMP_CNT_PENDING = satNat F.SMP_CNT_PENDING.w (s.dev.rd F.SMP_CNT_PENDING + 1))) ∧
  ((∀ (s : State), exec .smpNop s = .next s) ∧
   (∀ (seq a w : Nat) (s : State), s.dev.hif.smp.running = some (1, seq, a, w) → s.dev.hif.smp.result = none →
     ∃ t, exec .smpRead32 s = .next t ∧ t.mem = s.mem ∧
       t.dev.hif.smp.result = some ((s.dev.masterRead .smp a 4).hif.cpl.status, (s.dev.masterRead .smp a 4).hif.cpl.data) ∧
       t.dev.regs = (s.dev.masterRead .smp a 4).regs) ∧
   (∀ (seq a w : Nat) (s : State), s.dev.hif.smp.running = some (2, seq, a, w) → s.dev.hif.smp.result = none →
     ∃ t, exec .smpRead64 s = .next t ∧ t.mem = s.mem ∧
       t.dev.hif.smp.result = some ((s.dev.masterRead .smp a 8).hif.cpl.status, (s.dev.masterRead .smp a 8).hif.cpl.data) ∧
       t.dev.regs = (s.dev.masterRead .smp a 8).regs) ∧
   (∀ (seq a w : Nat) (s : State), s.dev.hif.smp.running = some (3, seq, a, w) → s.dev.hif.smp.result = none →
     exec .smpWrite32 s = .next ((s.masterWrite .smp a 4 true w).onDev (fun d => d.smpResult d.hif.cpl.status 0))) ∧
   (∀ (seq a w : Nat) (s : State), s.dev.hif.smp.running = some (4, seq, a, w) → s.dev.hif.smp.result = none →
     exec .smpWrite64 s = .next ((s.masterWrite .smp a 8 true w).onDev (fun d => d.smpResult d.hif.cpl.status 0))) ∧
   (∀ (seq a w : Nat) (s : State), s.dev.hif.smp.running = some (5, seq, a, w) → s.dev.hif.smp.result = none →
     s.dev.sdStatus (8 * a) 8 false = 0 →
     ∃ t, exec (.smpMemRead64 0) s = .next t ∧ t.mem = s.mem ∧ t.dev.regs = s.dev.regs ∧
       t.dev.hif.smp.result = some (0, fromOctets (s.mem.sdRead (8 * a) 8))) ∧
   (∀ (seq a w : Nat) (s : State), s.dev.hif.smp.running = some (6, seq, a, w) → s.dev.hif.smp.result = none →
     s.dev.sdStatus (8 * a) 8 true = 0 →
     ∃ t, exec .smpMemWrite64 s = .next t ∧ t.mem = s.mem.sdWrite (8 * a) (toOctets 8 w) ∧ t.dev.regs = s.dev.regs ∧
       t.dev.hif.smp.result = some (0, 0)) ∧
   (∀ (op seq a w : Nat) (s : State), s.dev.hif.smp.running = some (op, seq, a, w) → 7 ≤ op →
     ∃ t, exec .smpBadOp s = .next t ∧ t.mem = s.mem ∧ t.dev.regs = s.dev.regs ∧ t.dev.hif.smp.result = some (8, 0)) ∧
   (∀ (op seq a w st v : Nat) (s : State), s.dev.hif.smp.running = some (op, seq, a, w) →
     s.dev.hif.smp.result = some (st, v) →
     ∃ t, exec .smpRequestDone s = .next t ∧ t.mem = s.mem ∧ t.dev.regs = s.dev.regs ∧ t.dev.hif.smp.running = none ∧
       t.dev.hif.smp.status = st ∧ t.dev.hif.smp.seq = seq ∧ t.dev.hif.smp.op = op ∧ t.dev.hif.smp.data = v))

/-- R11 to R15, R155, R815: a register access is refused for its form, meets a domain that is off, falls on no register, or is
performed. -/
def Obligations.RegisterAccessIsPerformedOrRefused : Prop :=
  (∀ (p : Path) (a len w hw : Nat) (s : State),
    exec (.registerWrite p a len false w hw) s = .next (s.onDev (fun d => d.fail p a 2))) ∧
  (∀ (p : Path) (a w hw : Nat) (h : Hit) (s s1 : State), a % 4 = 0 → lookup a = some h → ownerBlock h.reg = none →
    h.reg ≠ .HIF_MB_CTL → h.reg ≠ .CLK_RST_CTL → s.dev.Admits p h (w % 2 ^ 32) →
    s.actReg p h (w % 2 ^ 32) = some s1 →
    exec (.registerWrite p a 4 true w hw) s =
      .next ((s1.onDev (Dev.hardSet h (w % 2 ^ 32) (hw % 2 ^ 32))).onDev (fun d => d.complete 0))) ∧
  (∀ (p : Path) (w hw : Nat) (s : State), s.dev.Admits p (hit .CLK_MON_CFG RD.CLK_MON_CFG) (w % 2 ^ 32) →
    ∃ t, exec (.registerWrite p RD.CLK_MON_CFG.base 4 true w hw) s = .next t ∧ t.mem = s.mem ∧ t.dev.hif.cpl = ⟨0, 0⟩ ∧
      (∀ f, f ∈ RD.CLK_MON_CFG.flds → t.dev.rd f = f.of w) ∧
      s.dev.Changes (fun n => RD.CLK_MON_CFG.base * 8 ≤ n ∧ n < RD.CLK_MON_CFG.base * 8 + 32) t.dev) ∧
  (∀ (p : Path) (w hw : Nat) (s : State), s.dev.Admits p (hit .HK_IRQ RD.HK_IRQ) (w % 2 ^ 32) →
    ∃ t, exec (.registerWrite p RD.HK_IRQ.base 4 true w hw) s = .next t ∧ t.mem = s.mem ∧ t.dev.hif.cpl = ⟨0, 0⟩ ∧
      t.dev.rd F.HK_IRQ_WM_EVENT =
        (if F.HK_IRQ_WM_EVENT.of w = 1 then F.HK_IRQ_WM_EVENT.of hw else s.dev.rd F.HK_IRQ_WM_EVENT) ∧
      s.dev.Changes (fun n => RD.HK_IRQ.base * 8 ≤ n ∧ n < RD.HK_IRQ.base * 8 + 32) t.dev) ∧
  (∀ (p : Path) (a w hw : Nat) (s : State), a % 4 = 0 → lookup a = none → s.dev.domainOff a = false →
    exec (.registerWrite p a 4 true w hw) s = .next (s.onDev (fun d => d.complete 0)) ∧
    exec (.registerRead p a 4) s = .next (s.onDev (fun d => d.complete 0 0))) ∧
  (∀ (p : Path) (a : Nat) (h : Hit) (s : State), a % 4 = 0 → lookup a = some h → s.dev.domainOff a = false →
    ∃ t, exec (.registerRead p a 4) s = .next t ∧ t.mem = s.mem ∧ t.dev.hif.cpl = ⟨0, s.dev.view h⟩ ∧
      (latches h.reg = false → t.dev.regs = s.dev.regs)) ∧
  (∀ (p : Path) (k : Nat) (h g : Hit) (s : State), k < 6 → lookup (latchAddr k) = some h → lookup (latchAddr k + 4) = some g →
    s.dev.domainOff (latchAddr k) = false →
    ∃ t, exec (.latchingRead p k) s = .next t ∧ t.mem = s.mem ∧ t.dev.hif.cpl = ⟨0, s.dev.view h⟩ ∧
      (∀ f, f ∈ g.desc.flds → t.dev.rd f g.i g.j g.k = f.of (s.dev.hiOf h.reg h.i)) ∧
      s.dev.Changes (fun n => (latchAddr k + 4) * 8 ≤ n ∧ n < (latchAddr k + 4) * 8 + 32) t.dev) ∧
  (∀ (p : Path) (s : State), s.dev.clk.resetLow = false →
    ∃ t, exec (.latchingRead p 2) s = .next t ∧ t.mem = s.mem ∧ t.dev.hif.cpl = ⟨0, s.dev.timeMs % 2 ^ 32⟩ ∧
      t.dev.rd F.EVT_TIME_HI_TIME_HI = s.dev.timeMs / 2 ^ 32 % 2 ^ 16)

/-- R849, R850, R854: flash and OTP operations run, end with their result, or are refused. -/
def Obligations.FlashAndOtpOperationsEnd : Prop :=
  (∀ (p : Path) (w : Nat) (s : State),
    s.dev.Admits p (hit .HIF_FLASH_CTL RD.HIF_FLASH_CTL) (withBits (withBits w 24 2 0) 31 1 1) →
    s.dev.flag F.HIF_FLASH_CTL_BUSY = false →
    exec (.flashRead p w) s = .next ((s.onDev (fun d => d.putHit p (hit .HIF_FLASH_CTL RD.HIF_FLASH_CTL)
      (withBits (withBits w 24 2 0) 31 1 1))).flashGo.onDev (fun d => d.complete 0))) ∧
  (∀ (p : Path) (w : Nat) (s : State),
    s.dev.Admits p (hit .HIF_FLASH_CTL RD.HIF_FLASH_CTL) (withBits (withBits w 24 2 1) 31 1 1) →
    s.dev.flag F.HIF_FLASH_CTL_BUSY = false →
    exec (.flashProgram p w) s = .next ((s.onDev (fun d => d.putHit p (hit .HIF_FLASH_CTL RD.HIF_FLASH_CTL)
      (withBits (withBits w 24 2 1) 31 1 1))).flashGo.onDev (fun d => d.complete 0))) ∧
  (∀ (p : Path) (w : Nat) (s : State),
    s.dev.Admits p (hit .HIF_FLASH_CTL RD.HIF_FLASH_CTL) (withBits (withBits w 24 2 2) 31 1 1) →
    s.dev.flag F.HIF_FLASH_CTL_BUSY = false →
    exec (.flashErase p w) s = .next ((s.onDev (fun d => d.putHit p (hit .HIF_FLASH_CTL RD.HIF_FLASH_CTL)
      (withBits (withBits w 24 2 2) 31 1 1))).flashGo.onDev (fun d => d.complete 0))) ∧
  (∀ (j : FlashJob) (s : State), s.dev.hif.flashJobs = [j] → j.slot = false → j.begun = true → j.op = 0 →
    ∃ t, exec (.flashOpDone false) s = .next t ∧
      s.dev.Changes (fun n => inRegions [7] n ∨ evtBits n) t.dev ∧
      t.mem = s.mem ∧ t.dev.hif.flashJobs = [] ∧
      t.dev.flag F.HIF_FLASH_CTL_BUSY = false ∧ t.dev.rd F.HIF_FLASH_CTL_RESULT = 0) ∧
  (∀ (p : Path) (w : Nat) (s : State), s.dev.Admits p (hit .HIF_OTP_CTL RD.HIF_OTP_CTL) (withBits w 31 1 1) →
    s.dev.flag F.HIF_OTP_CTL_BUSY = false →
    exec (.otpGo p w) s = .next (((s.onDev (fun d => d.putHit p (hit .HIF_OTP_CTL RD.HIF_OTP_CTL)
      (withBits w 31 1 1))).otpGo (withBits w 31 1 1)).onDev (fun d => d.complete 0))) ∧
  (∀ (n : Nat) (s : State), s.dev.hif.otpRun = some n →
    ∃ t, exec (.otpProgDone false) s = .next t ∧
      s.dev.Changes (fun n => inRegions [6, 7] n ∨ evtBits n) t.dev ∧
      t.dev.hif.otpRun = none ∧ t.dev.flag F.HIF_OTP_CTL_BUSY = false ∧
      t.dev.rd F.HIF_OTP_CTL_RESULT = 0 ∧
      t.mem.otp = s.mem.otp.put n ((upTo 8).flatMap (fun w => toOctets 4 (s.dev.rd F.HIF_OTP_DATA_DATA w))) ∧
      t.mem.flash = s.mem.flash ∧ t.mem.sdram = s.mem.sdram)

/-! ### The line: frames, blocks and samples -/

/-- R24 to R26, R173, R175, R176, R180, R182, R183, R186, R187, R189, R223, R269, R362, R363, R437: what the scrambler, the blocks
of a frame, a MAC frame, the sections and the sample blocks carry is read back as it was sent; a block of samples takes the smallest
exponent that holds it; residues follow sums, products, scalings and shifts, and a wrong one stays wrong; the chips of the port
codes are the characters of their order. -/
def Obligations.FramesBlocksAndSamplesAreReadBackAsSent : Prop :=
  (∀ (st : Nat) (l : List LineBlock), (∀ b, b ∈ l → b.payload < 2 ^ 64) →
    scramble true st (scramble false st l).1 = (l, (scramble false st l).2)) ∧
  (∀ (d : Dev) (n lofs k at0 : Nat) (ws : List Nat), d.flag F.LNK_CTL_CARRIAGE (d.portOfLane n) = false →
    ws.length < 2 ^ 16 → (∀ w, w ∈ ws → w < 2 ^ 64) →
    d.hearFrame n { arrived := at0,
                    line := (scramble false (d.ll n).rxBits (List.replicate k fillBlock ++ nativeBlocks ws lofs)).1 } =
      { began := true, sof := sofOctets ws.length lofs, words := ws, whole := true }) ∧
  (∀ (da sa et lofs : Nat) (tag : Option Nat) (ws : List Nat), da < 2 ^ 48 → sa < 2 ^ 48 → et < 2 ^ 16 → et ≠ 0x8100 →
    (∀ v, tag = some v → v < 2 ^ 16) →
    readMac (macFrame da sa et tag ws lofs) true =
      { da := da, sa := sa, tag := tag, etherType := et, payload := sofOctets ws.length lofs ++ wordOctets ws, fcsOk := true }) ∧
  (∀ (l : List Nat), (∀ x, x ∈ l → x < 256) →
    (hearMac (macBlocks l) none).map (fun r => (afterDelimiter r.1, r.2)) = some (l, true)) ∧
  (∀ (ws : List Nat), (∀ w, w ∈ ws → w < 2 ^ 64) → octetWords ws.length (wordOctets ws) = ws) ∧
  (∀ (hdr : Nat) (cell secs : List Nat), crcFits (frameWords hdr cell secs) = true ∧
    (frameWords hdr cell secs).length = 6 + secs.length) ∧
  (∀ (rate : Nat) (l : List Block), rate < 4 → l.length = sectionBlocks rate →
    (∀ b, b ∈ l → b.exp < 16 ∧ b.smp.length = 16 ∧
      ∀ c, c ∈ b.smp → -2048 ≤ c.1 ∧ c.1 ≤ 2047 ∧ -2048 ≤ c.2 ∧ c.2 ≤ 2047) →
    blocksOfSection rate (sectionOfBlocks rate l) = l) ∧
  (∀ (l : List (Int × Int)) (b : Block) (cut : Nat), toBlock l = (b, cut) →
    b.exp ≤ 7 ∧ b.smp.length = l.length ∧ (∀ e, e < b.exp → expFits l e = false) ∧
    (cut = 0 ↔ expFits l b.exp = true) ∧
    (∀ c, c ∈ b.smp → -2048 ≤ c.1 ∧ c.1 ≤ 2047 ∧ -2048 ≤ c.2 ∧ c.2 ≤ 2047) ∧
    (cut = 0 → ∀ q, q ∈ l.zip b.smp → 2 * absI (q.1.1 - q.2.1 * (2 ^ b.exp : Nat)) ≤ (2 ^ b.exp : Nat) ∧
      2 * absI (q.1.2 - q.2.2 * (2 ^ b.exp : Nat)) ≤ (2 ^ b.exp : Nat))) ∧
  (∀ (b : Block), (b.valid = true → b.samples.map (fun c => (c.i.v, c.q.v)) =
      b.smp.map (fun c => (c.1 * ((2 ^ b.exp : Nat) : Int), c.2 * ((2 ^ b.exp : Nat) : Int)))) ∧
    (b.valid = false → b.samples = List.replicate 16 Cx.zero) ∧ (∀ c, c ∈ b.samples → c.ok = true)) ∧
  (∀ (a b : Comp) (k w : Nat), a.ok = true →
    (b.ok = (a.add b).ok ∧ b.ok = (a.sub b).ok ∧ b.ok = (b.scale k).ok ∧ b.ok = (b.shr k).ok) ∧
    (b.ok = true → (a.mul b).ok = true) ∧ (a.sat w).ok = true) ∧
  (∀ (p q k : Nat), p < 128 → q < 128 →
    chipOf p k * chipOf p k = 1 ∧ chipOf p (k + 128) = -chipOf p k ∧
    (k < 128 → chipOf p k * chipOf q k = chipOf (p ^^^ q) k ∧ chipOf p k = chipOf k p))
end

