-- ==== Sys2Proof/Laws/Tables.lean ====
section
/-! SUPPORT. Sparse tables: a read after a write, for every table. -/

namespace Sys2Proof

theorem tabFind_tabPut_same {α : Type} (t : Tab α) (n : Nat) (x : α) : tabFind (tabPut t n x) n = some x := by
  induction t with
  | nil => simp [tabPut, tabFind]
  | cons p t ih =>
    obtain ⟨k, v⟩ := p
    by_cases h1 : n < k
    · simp [tabPut, tabFind, h1]
    · by_cases h2 : n = k
      · simp [tabPut, tabFind, h2]
      · simp [tabPut, tabFind, h1, h2, Ne.symm h2, ih]

theorem tabFind_tabPut_ne {α : Type} (t : Tab α) (n m : Nat) (x : α) (h : m ≠ n) :
    tabFind (tabPut t n x) m = tabFind t m := by
  induction t with
  | nil => simp [tabPut, tabFind, Ne.symm h]
  | cons p t ih =>
    obtain ⟨k, v⟩ := p
    by_cases h1 : n < k
    · simp [tabPut, tabFind, h1, Ne.symm h]
    · by_cases h2 : n = k
      · subst h2; simp [tabPut, tabFind, Ne.symm h]
      · simp [tabPut, tabFind, h1, h2, ih]

theorem tabFind_tabDel_same {α : Type} (t : Tab α) (n : Nat) : tabFind (tabDel t n) n = none := by
  induction t with
  | nil => simp [tabDel, tabFind]
  | cons p t ih =>
    obtain ⟨k, v⟩ := p
    by_cases h : k = n
    · simp [tabDel, h, ih]
    · simp [tabDel, tabFind, h, ih]

theorem tabFind_tabDel_ne {α : Type} (t : Tab α) (n m : Nat) (h : m ≠ n) : tabFind (tabDel t n) m = tabFind t m := by
  induction t with
  | nil => simp [tabDel, tabFind]
  | cons p t ih =>
    obtain ⟨k, v⟩ := p
    by_cases h2 : k = n
    · subst h2; simp [tabDel, tabFind, Ne.symm h, ih]
    · simp [tabDel, tabFind, h2, ih]

@[simp] theorem tabGet_tabPut_same {α : Type} (d : α) (t : Tab α) (n : Nat) (x : α) : tabGet d (tabPut t n x) n = x := by
  simp [tabGet, tabFind_tabPut_same]

theorem tabGet_tabPut_ne {α : Type} (d : α) (t : Tab α) (n m : Nat) (x : α) (h : m ≠ n) :
    tabGet d (tabPut t n x) m = tabGet d t m := by
  simp [tabGet, tabFind_tabPut_ne t n m x h]

/-- A table reads back what was written. -/
@[simp] theorem tabGet_tabSet_same {α : Type} [DecidableEq α] (d : α) (t : Tab α) (n : Nat) (x : α) :
    tabGet d (tabSet d t n x) n = x := by
  by_cases h : x = d
  · simp [tabSet, tabGet, h, tabFind_tabDel_same]
  · simp [tabSet, tabGet, h, tabFind_tabPut_same]

/-- A write leaves every other key alone. -/
theorem tabGet_tabSet_ne {α : Type} [DecidableEq α] (e d : α) (t : Tab α) (n m : Nat) (x : α) (h : m ≠ n) :
    tabGet e (tabSet d t n x) m = tabGet e t m := by
  by_cases hx : x = d
  · simp [tabSet, tabGet, hx, tabFind_tabDel_ne t n m h]
  · simp [tabSet, tabGet, hx, tabFind_tabPut_ne t n m x h]

end Sys2Proof
end

