-- ==== Sys2Proof/Laws/State.lean ====
section
/-! SUPPORT. What each named update of the state leaves alone, field by field, and what a register reads after a write. -/

namespace Sys2Proof.Machine

@[simp] theorem State.onDev_dev (s : State) (g : Dev → Dev) : (s.onDev g).dev = g s.dev := rfl
@[simp] theorem State.onDev_mem (s : State) (g : Dev → Dev) : (s.onDev g).mem = s.mem := rfl
@[simp] theorem State.onDev_pending (s : State) (g : Dev → Dev) : (s.onDev g).pending = s.pending := rfl
theorem State.onDev_onDev (s : State) (g h : Dev → Dev) : (s.onDev g).onDev h = s.onDev (fun d => h (g d)) := rfl
theorem State.onDev_id (s : State) : s.onDev (fun d => d) = s := rfl

@[simp] theorem Dev.wr_now (d : Dev) (f : Fld) (v i j k : Nat) : (d.wr f v i j k).now = d.now := rfl
@[simp] theorem Dev.wr_draws (d : Dev) (f : Fld) (v i j k : Nat) : (d.wr f v i j k).draws = d.draws := rfl
@[simp] theorem Dev.wr_er (d : Dev) (f : Fld) (v i j k : Nat) : (d.wr f v i j k).er = d.er := rfl
@[simp] theorem Dev.wr_hif (d : Dev) (f : Fld) (v i j k : Nat) : (d.wr f v i j k).hif = d.hif := rfl
@[simp] theorem Dev.wr_orbs (d : Dev) (f : Fld) (v i j k : Nat) : (d.wr f v i j k).orbs = d.orbs := rfl
@[simp] theorem Dev.wr_lnk (d : Dev) (f : Fld) (v i j k : Nat) : (d.wr f v i j k).lnk = d.lnk := rfl
@[simp] theorem Dev.wr_don (d : Dev) (f : Fld) (v i j k : Nat) : (d.wr f v i j k).don = d.don := rfl
@[simp] theorem Dev.wr_stns (d : Dev) (f : Fld) (v i j k : Nat) : (d.wr f v i j k).stns = d.stns := rfl
@[simp] theorem Dev.wr_hk (d : Dev) (f : Fld) (v i j k : Nat) : (d.wr f v i j k).hk = d.hk := rfl
@[simp] theorem Dev.wr_clk (d : Dev) (f : Fld) (v i j k : Nat) : (d.wr f v i j k).clk = d.clk := rfl
@[simp] theorem Dev.wr_mld (d : Dev) (f : Fld) (v i j k : Nat) : (d.wr f v i j k).mld = d.mld := rfl
@[simp] theorem Dev.wr_streams (d : Dev) (f : Fld) (v i j k : Nat) : (d.wr f v i j k).streams = d.streams := rfl
@[simp] theorem Dev.wr_plane (d : Dev) (f : Fld) (v i j k : Nat) : (d.wr f v i j k).plane = d.plane := rfl
@[simp] theorem Dev.wr_slc (d : Dev) (f : Fld) (v i j k : Nat) : (d.wr f v i j k).slc = d.slc := rfl
@[simp] theorem Dev.wr_pwr (d : Dev) (f : Fld) (v i j k : Nat) : (d.wr f v i j k).pwr = d.pwr := rfl
@[simp] theorem Dev.wr_chn (d : Dev) (f : Fld) (v i j k : Nat) : (d.wr f v i j k).chn = d.chn := rfl
@[simp] theorem Dev.wr_eng (d : Dev) (f : Fld) (v i j k : Nat) : (d.wr f v i j k).eng = d.eng := rfl
@[simp] theorem Dev.wr_iso (d : Dev) (f : Fld) (v i j k : Nat) : (d.wr f v i j k).iso = d.iso := rfl
@[simp] theorem Dev.wr_prt (d : Dev) (f : Fld) (v i j k : Nat) : (d.wr f v i j k).prt = d.prt := rfl
@[simp] theorem Dev.wr_faultLow (d : Dev) (f : Fld) (v i j k : Nat) : (d.wr f v i j k).faultLow = d.faultLow := rfl

@[simp] theorem Dev.wrS_now (d : Dev) (f : Fld) (v : Int) (i j k : Nat) : (d.wrS f v i j k).now = d.now := rfl
@[simp] theorem Dev.wrS_draws (d : Dev) (f : Fld) (v : Int) (i j k : Nat) : (d.wrS f v i j k).draws = d.draws := rfl
@[simp] theorem Dev.wrS_er (d : Dev) (f : Fld) (v : Int) (i j k : Nat) : (d.wrS f v i j k).er = d.er := rfl
@[simp] theorem Dev.wrS_hif (d : Dev) (f : Fld) (v : Int) (i j k : Nat) : (d.wrS f v i j k).hif = d.hif := rfl
@[simp] theorem Dev.wrS_orbs (d : Dev) (f : Fld) (v : Int) (i j k : Nat) : (d.wrS f v i j k).orbs = d.orbs := rfl
@[simp] theorem Dev.wrS_lnk (d : Dev) (f : Fld) (v : Int) (i j k : Nat) : (d.wrS f v i j k).lnk = d.lnk := rfl
@[simp] theorem Dev.wrS_don (d : Dev) (f : Fld) (v : Int) (i j k : Nat) : (d.wrS f v i j k).don = d.don := rfl
@[simp] theorem Dev.wrS_stns (d : Dev) (f : Fld) (v : Int) (i j k : Nat) : (d.wrS f v i j k).stns = d.stns := rfl
@[simp] theorem Dev.wrS_hk (d : Dev) (f : Fld) (v : Int) (i j k : Nat) : (d.wrS f v i j k).hk = d.hk := rfl
@[simp] theorem Dev.wrS_clk (d : Dev) (f : Fld) (v : Int) (i j k : Nat) : (d.wrS f v i j k).clk = d.clk := rfl
@[simp] theorem Dev.wrS_mld (d : Dev) (f : Fld) (v : Int) (i j k : Nat) : (d.wrS f v i j k).mld = d.mld := rfl
@[simp] theorem Dev.wrS_streams (d : Dev) (f : Fld) (v : Int) (i j k : Nat) : (d.wrS f v i j k).streams = d.streams := rfl
@[simp] theorem Dev.wrS_plane (d : Dev) (f : Fld) (v : Int) (i j k : Nat) : (d.wrS f v i j k).plane = d.plane := rfl
@[simp] theorem Dev.wrS_slc (d : Dev) (f : Fld) (v : Int) (i j k : Nat) : (d.wrS f v i j k).slc = d.slc := rfl
@[simp] theorem Dev.wrS_pwr (d : Dev) (f : Fld) (v : Int) (i j k : Nat) : (d.wrS f v i j k).pwr = d.pwr := rfl
@[simp] theorem Dev.wrS_chn (d : Dev) (f : Fld) (v : Int) (i j k : Nat) : (d.wrS f v i j k).chn = d.chn := rfl
@[simp] theorem Dev.wrS_eng (d : Dev) (f : Fld) (v : Int) (i j k : Nat) : (d.wrS f v i j k).eng = d.eng := rfl
@[simp] theorem Dev.wrS_iso (d : Dev) (f : Fld) (v : Int) (i j k : Nat) : (d.wrS f v i j k).iso = d.iso := rfl
@[simp] theorem Dev.wrS_prt (d : Dev) (f : Fld) (v : Int) (i j k : Nat) : (d.wrS f v i j k).prt = d.prt := rfl
@[simp] theorem Dev.wrS_faultLow (d : Dev) (f : Fld) (v : Int) (i j k : Nat) : (d.wrS f v i j k).faultLow = d.faultLow := rfl

@[simp] theorem Dev.bump_now (d : Dev) (f : Fld) (i j k : Nat) : (d.bump f i j k).now = d.now := rfl
@[simp] theorem Dev.bump_draws (d : Dev) (f : Fld) (i j k : Nat) : (d.bump f i j k).draws = d.draws := rfl
@[simp] theorem Dev.bump_er (d : Dev) (f : Fld) (i j k : Nat) : (d.bump f i j k).er = d.er := rfl
@[simp] theorem Dev.bump_hif (d : Dev) (f : Fld) (i j k : Nat) : (d.bump f i j k).hif = d.hif := rfl
@[simp] theorem Dev.bump_orbs (d : Dev) (f : Fld) (i j k : Nat) : (d.bump f i j k).orbs = d.orbs := rfl
@[simp] theorem Dev.bump_lnk (d : Dev) (f : Fld) (i j k : Nat) : (d.bump f i j k).lnk = d.lnk := rfl
@[simp] theorem Dev.bump_don (d : Dev) (f : Fld) (i j k : Nat) : (d.bump f i j k).don = d.don := rfl
@[simp] theorem Dev.bump_stns (d : Dev) (f : Fld) (i j k : Nat) : (d.bump f i j k).stns = d.stns := rfl
@[simp] theorem Dev.bump_hk (d : Dev) (f : Fld) (i j k : Nat) : (d.bump f i j k).hk = d.hk := rfl
@[simp] theorem Dev.bump_clk (d : Dev) (f : Fld) (i j k : Nat) : (d.bump f i j k).clk = d.clk := rfl
@[simp] theorem Dev.bump_mld (d : Dev) (f : Fld) (i j k : Nat) : (d.bump f i j k).mld = d.mld := rfl
@[simp] theorem Dev.bump_streams (d : Dev) (f : Fld) (i j k : Nat) : (d.bump f i j k).streams = d.streams := rfl
@[simp] theorem Dev.bump_plane (d : Dev) (f : Fld) (i j k : Nat) : (d.bump f i j k).plane = d.plane := rfl
@[simp] theorem Dev.bump_slc (d : Dev) (f : Fld) (i j k : Nat) : (d.bump f i j k).slc = d.slc := rfl
@[simp] theorem Dev.bump_pwr (d : Dev) (f : Fld) (i j k : Nat) : (d.bump f i j k).pwr = d.pwr := rfl
@[simp] theorem Dev.bump_chn (d : Dev) (f : Fld) (i j k : Nat) : (d.bump f i j k).chn = d.chn := rfl
@[simp] theorem Dev.bump_eng (d : Dev) (f : Fld) (i j k : Nat) : (d.bump f i j k).eng = d.eng := rfl
@[simp] theorem Dev.bump_iso (d : Dev) (f : Fld) (i j k : Nat) : (d.bump f i j k).iso = d.iso := rfl
@[simp] theorem Dev.bump_prt (d : Dev) (f : Fld) (i j k : Nat) : (d.bump f i j k).prt = d.prt := rfl
@[simp] theorem Dev.bump_faultLow (d : Dev) (f : Fld) (i j k : Nat) : (d.bump f i j k).faultLow = d.faultLow := rfl

@[simp] theorem Dev.bumpBy_now (d : Dev) (n : Nat) (f : Fld) (i j k : Nat) : (d.bumpBy n f i j k).now = d.now := rfl
@[simp] theorem Dev.bumpBy_draws (d : Dev) (n : Nat) (f : Fld) (i j k : Nat) : (d.bumpBy n f i j k).draws = d.draws := rfl
@[simp] theorem Dev.bumpBy_er (d : Dev) (n : Nat) (f : Fld) (i j k : Nat) : (d.bumpBy n f i j k).er = d.er := rfl
@[simp] theorem Dev.bumpBy_hif (d : Dev) (n : Nat) (f : Fld) (i j k : Nat) : (d.bumpBy n f i j k).hif = d.hif := rfl
@[simp] theorem Dev.bumpBy_orbs (d : Dev) (n : Nat) (f : Fld) (i j k : Nat) : (d.bumpBy n f i j k).orbs = d.orbs := rfl
@[simp] theorem Dev.bumpBy_lnk (d : Dev) (n : Nat) (f : Fld) (i j k : Nat) : (d.bumpBy n f i j k).lnk = d.lnk := rfl
@[simp] theorem Dev.bumpBy_don (d : Dev) (n : Nat) (f : Fld) (i j k : Nat) : (d.bumpBy n f i j k).don = d.don := rfl
@[simp] theorem Dev.bumpBy_stns (d : Dev) (n : Nat) (f : Fld) (i j k : Nat) : (d.bumpBy n f i j k).stns = d.stns := rfl
@[simp] theorem Dev.bumpBy_hk (d : Dev) (n : Nat) (f : Fld) (i j k : Nat) : (d.bumpBy n f i j k).hk = d.hk := rfl
@[simp] theorem Dev.bumpBy_clk (d : Dev) (n : Nat) (f : Fld) (i j k : Nat) : (d.bumpBy n f i j k).clk = d.clk := rfl
@[simp] theorem Dev.bumpBy_mld (d : Dev) (n : Nat) (f : Fld) (i j k : Nat) : (d.bumpBy n f i j k).mld = d.mld := rfl
@[simp] theorem Dev.bumpBy_streams (d : Dev) (n : Nat) (f : Fld) (i j k : Nat) : (d.bumpBy n f i j k).streams = d.streams := rfl
@[simp] theorem Dev.bumpBy_plane (d : Dev) (n : Nat) (f : Fld) (i j k : Nat) : (d.bumpBy n f i j k).plane = d.plane := rfl
@[simp] theorem Dev.bumpBy_slc (d : Dev) (n : Nat) (f : Fld) (i j k : Nat) : (d.bumpBy n f i j k).slc = d.slc := rfl
@[simp] theorem Dev.bumpBy_pwr (d : Dev) (n : Nat) (f : Fld) (i j k : Nat) : (d.bumpBy n f i j k).pwr = d.pwr := rfl
@[simp] theorem Dev.bumpBy_chn (d : Dev) (n : Nat) (f : Fld) (i j k : Nat) : (d.bumpBy n f i j k).chn = d.chn := rfl
@[simp] theorem Dev.bumpBy_eng (d : Dev) (n : Nat) (f : Fld) (i j k : Nat) : (d.bumpBy n f i j k).eng = d.eng := rfl
@[simp] theorem Dev.bumpBy_iso (d : Dev) (n : Nat) (f : Fld) (i j k : Nat) : (d.bumpBy n f i j k).iso = d.iso := rfl
@[simp] theorem Dev.bumpBy_prt (d : Dev) (n : Nat) (f : Fld) (i j k : Nat) : (d.bumpBy n f i j k).prt = d.prt := rfl
@[simp] theorem Dev.bumpBy_faultLow (d : Dev) (n : Nat) (f : Fld) (i j k : Nat) : (d.bumpBy n f i j k).faultLow = d.faultLow := rfl

@[simp] theorem Dev.bumpWrap_now (d : Dev) (f : Fld) (i j k : Nat) : (d.bumpWrap f i j k).now = d.now := rfl
@[simp] theorem Dev.bumpWrap_draws (d : Dev) (f : Fld) (i j k : Nat) : (d.bumpWrap f i j k).draws = d.draws := rfl
@[simp] theorem Dev.bumpWrap_er (d : Dev) (f : Fld) (i j k : Nat) : (d.bumpWrap f i j k).er = d.er := rfl
@[simp] theorem Dev.bumpWrap_hif (d : Dev) (f : Fld) (i j k : Nat) : (d.bumpWrap f i j k).hif = d.hif := rfl
@[simp] theorem Dev.bumpWrap_orbs (d : Dev) (f : Fld) (i j k : Nat) : (d.bumpWrap f i j k).orbs = d.orbs := rfl
@[simp] theorem Dev.bumpWrap_lnk (d : Dev) (f : Fld) (i j k : Nat) : (d.bumpWrap f i j k).lnk = d.lnk := rfl
@[simp] theorem Dev.bumpWrap_don (d : Dev) (f : Fld) (i j k : Nat) : (d.bumpWrap f i j k).don = d.don := rfl
@[simp] theorem Dev.bumpWrap_stns (d : Dev) (f : Fld) (i j k : Nat) : (d.bumpWrap f i j k).stns = d.stns := rfl
@[simp] theorem Dev.bumpWrap_hk (d : Dev) (f : Fld) (i j k : Nat) : (d.bumpWrap f i j k).hk = d.hk := rfl
@[simp] theorem Dev.bumpWrap_clk (d : Dev) (f : Fld) (i j k : Nat) : (d.bumpWrap f i j k).clk = d.clk := rfl
@[simp] theorem Dev.bumpWrap_mld (d : Dev) (f : Fld) (i j k : Nat) : (d.bumpWrap f i j k).mld = d.mld := rfl
@[simp] theorem Dev.bumpWrap_streams (d : Dev) (f : Fld) (i j k : Nat) : (d.bumpWrap f i j k).streams = d.streams := rfl
@[simp] theorem Dev.bumpWrap_plane (d : Dev) (f : Fld) (i j k : Nat) : (d.bumpWrap f i j k).plane = d.plane := rfl
@[simp] theorem Dev.bumpWrap_slc (d : Dev) (f : Fld) (i j k : Nat) : (d.bumpWrap f i j k).slc = d.slc := rfl
@[simp] theorem Dev.bumpWrap_pwr (d : Dev) (f : Fld) (i j k : Nat) : (d.bumpWrap f i j k).pwr = d.pwr := rfl
@[simp] theorem Dev.bumpWrap_chn (d : Dev) (f : Fld) (i j k : Nat) : (d.bumpWrap f i j k).chn = d.chn := rfl
@[simp] theorem Dev.bumpWrap_eng (d : Dev) (f : Fld) (i j k : Nat) : (d.bumpWrap f i j k).eng = d.eng := rfl
@[simp] theorem Dev.bumpWrap_iso (d : Dev) (f : Fld) (i j k : Nat) : (d.bumpWrap f i j k).iso = d.iso := rfl
@[simp] theorem Dev.bumpWrap_prt (d : Dev) (f : Fld) (i j k : Nat) : (d.bumpWrap f i j k).prt = d.prt := rfl
@[simp] theorem Dev.bumpWrap_faultLow (d : Dev) (f : Fld) (i j k : Nat) : (d.bumpWrap f i j k).faultLow = d.faultLow := rfl

@[simp] theorem Dev.unset_now (d : Dev) (f : Fld) (i j k : Nat) : (d.unset f i j k).now = d.now := rfl
@[simp] theorem Dev.unset_draws (d : Dev) (f : Fld) (i j k : Nat) : (d.unset f i j k).draws = d.draws := rfl
@[simp] theorem Dev.unset_er (d : Dev) (f : Fld) (i j k : Nat) : (d.unset f i j k).er = d.er := rfl
@[simp] theorem Dev.unset_hif (d : Dev) (f : Fld) (i j k : Nat) : (d.unset f i j k).hif = d.hif := rfl
@[simp] theorem Dev.unset_orbs (d : Dev) (f : Fld) (i j k : Nat) : (d.unset f i j k).orbs = d.orbs := rfl
@[simp] theorem Dev.unset_lnk (d : Dev) (f : Fld) (i j k : Nat) : (d.unset f i j k).lnk = d.lnk := rfl
@[simp] theorem Dev.unset_don (d : Dev) (f : Fld) (i j k : Nat) : (d.unset f i j k).don = d.don := rfl
@[simp] theorem Dev.unset_stns (d : Dev) (f : Fld) (i j k : Nat) : (d.unset f i j k).stns = d.stns := rfl
@[simp] theorem Dev.unset_hk (d : Dev) (f : Fld) (i j k : Nat) : (d.unset f i j k).hk = d.hk := rfl
@[simp] theorem Dev.unset_clk (d : Dev) (f : Fld) (i j k : Nat) : (d.unset f i j k).clk = d.clk := rfl
@[simp] theorem Dev.unset_mld (d : Dev) (f : Fld) (i j k : Nat) : (d.unset f i j k).mld = d.mld := rfl
@[simp] theorem Dev.unset_streams (d : Dev) (f : Fld) (i j k : Nat) : (d.unset f i j k).streams = d.streams := rfl
@[simp] theorem Dev.unset_plane (d : Dev) (f : Fld) (i j k : Nat) : (d.unset f i j k).plane = d.plane := rfl
@[simp] theorem Dev.unset_slc (d : Dev) (f : Fld) (i j k : Nat) : (d.unset f i j k).slc = d.slc := rfl
@[simp] theorem Dev.unset_pwr (d : Dev) (f : Fld) (i j k : Nat) : (d.unset f i j k).pwr = d.pwr := rfl
@[simp] theorem Dev.unset_chn (d : Dev) (f : Fld) (i j k : Nat) : (d.unset f i j k).chn = d.chn := rfl
@[simp] theorem Dev.unset_eng (d : Dev) (f : Fld) (i j k : Nat) : (d.unset f i j k).eng = d.eng := rfl
@[simp] theorem Dev.unset_iso (d : Dev) (f : Fld) (i j k : Nat) : (d.unset f i j k).iso = d.iso := rfl
@[simp] theorem Dev.unset_prt (d : Dev) (f : Fld) (i j k : Nat) : (d.unset f i j k).prt = d.prt := rfl
@[simp] theorem Dev.unset_faultLow (d : Dev) (f : Fld) (i j k : Nat) : (d.unset f i j k).faultLow = d.faultLow := rfl

@[simp] theorem Dev.complete_regs (d : Dev) (st x : Nat) : (d.complete st x).regs = d.regs := rfl
@[simp] theorem Dev.complete_now (d : Dev) (st x : Nat) : (d.complete st x).now = d.now := rfl
@[simp] theorem Dev.complete_draws (d : Dev) (st x : Nat) : (d.complete st x).draws = d.draws := rfl
@[simp] theorem Dev.complete_er (d : Dev) (st x : Nat) : (d.complete st x).er = d.er := rfl
@[simp] theorem Dev.complete_orbs (d : Dev) (st x : Nat) : (d.complete st x).orbs = d.orbs := rfl
@[simp] theorem Dev.complete_lnk (d : Dev) (st x : Nat) : (d.complete st x).lnk = d.lnk := rfl
@[simp] theorem Dev.complete_don (d : Dev) (st x : Nat) : (d.complete st x).don = d.don := rfl
@[simp] theorem Dev.complete_stns (d : Dev) (st x : Nat) : (d.complete st x).stns = d.stns := rfl
@[simp] theorem Dev.complete_hk (d : Dev) (st x : Nat) : (d.complete st x).hk = d.hk := rfl
@[simp] theorem Dev.complete_clk (d : Dev) (st x : Nat) : (d.complete st x).clk = d.clk := rfl
@[simp] theorem Dev.complete_mld (d : Dev) (st x : Nat) : (d.complete st x).mld = d.mld := rfl
@[simp] theorem Dev.complete_streams (d : Dev) (st x : Nat) : (d.complete st x).streams = d.streams := rfl
@[simp] theorem Dev.complete_plane (d : Dev) (st x : Nat) : (d.complete st x).plane = d.plane := rfl
@[simp] theorem Dev.complete_slc (d : Dev) (st x : Nat) : (d.complete st x).slc = d.slc := rfl
@[simp] theorem Dev.complete_pwr (d : Dev) (st x : Nat) : (d.complete st x).pwr = d.pwr := rfl
@[simp] theorem Dev.complete_chn (d : Dev) (st x : Nat) : (d.complete st x).chn = d.chn := rfl
@[simp] theorem Dev.complete_eng (d : Dev) (st x : Nat) : (d.complete st x).eng = d.eng := rfl
@[simp] theorem Dev.complete_iso (d : Dev) (st x : Nat) : (d.complete st x).iso = d.iso := rfl
@[simp] theorem Dev.complete_prt (d : Dev) (st x : Nat) : (d.complete st x).prt = d.prt := rfl
@[simp] theorem Dev.complete_faultLow (d : Dev) (st x : Nat) : (d.complete st x).faultLow = d.faultLow := rfl
@[simp] theorem Dev.complete_cpl (d : Dev) (st x : Nat) : (d.complete st x).hif.cpl = ⟨st, x⟩ := rfl
@[simp] theorem Dev.complete_rd (d : Dev) (st x : Nat) (f : Fld) (i j k : Nat) :
    (d.complete st x).rd f i j k = d.rd f i j k := rfl
@[simp] theorem Dev.complete_flag (d : Dev) (st x : Nat) (f : Fld) (i j k : Nat) :
    (d.complete st x).flag f i j k = d.flag f i j k := rfl

/-- The value of a register field in a table of register fields. -/
def rdT (t : Tab Nat) (f : Fld) (i j k : Nat) : Nat := tabGet (f.rst i j k) t (f.key i j k) % 2 ^ f.w

/-- A field read from a state written out reads its table of register fields. -/
@[simp] theorem Dev.rd_mk (r : Tab Nat) (a b c d e f g h l m n o p q t u v w x y) (fl : Fld) (i j k : Nat) :
    Dev.rd ⟨r, a, b, c, d, e, f, g, h, l, m, n, o, p, q, t, u, v, w, x, y⟩ fl i j k = rdT r fl i j k := rfl

@[simp] theorem rdT_regs (d : Dev) (f : Fld) (i j k : Nat) : rdT d.regs f i j k = d.rd f i j k := rfl

/-- A field is never wider than its register gives it. -/
theorem Dev.rd_lt (d : Dev) (f : Fld) (i j k : Nat) : d.rd f i j k < 2 ^ f.w :=
  Nat.mod_lt _ (Nat.two_pow_pos _)

/-- A field reads back what was written, cut to its width (R15). -/
@[simp] theorem Dev.rd_wr (d : Dev) (f : Fld) (v i j k : Nat) : (d.wr f v i j k).rd f i j k = v % 2 ^ f.w := by
  simp [Dev.rd, Dev.wr]

/-- A write of one field leaves every field at another bit address alone. -/
theorem Dev.rd_wr_ne (d : Dev) (f g : Fld) (v i j k a b c : Nat) (h : g.key a b c ≠ f.key i j k) :
    (d.wr f v i j k).rd g a b c = d.rd g a b c := by
  simp [Dev.rd, Dev.wr, tabGet_tabSet_ne _ _ _ _ _ _ h]

/-- A saturated count fits its field. -/
theorem satNat_lt (w x : Nat) : satNat w x < 2 ^ w := by
  have := Nat.two_pow_pos w
  unfold satNat; split <;> omega

/-- A counting field reads one more, or its largest value. -/
@[simp] theorem Dev.rd_bump (d : Dev) (f : Fld) (i j k : Nat) :
    (d.bump f i j k).rd f i j k = satNat f.w (d.rd f i j k + 1) := by
  simp [Dev.bump, Nat.mod_eq_of_lt (satNat_lt _ _)]

theorem Dev.rd_bump_ne (d : Dev) (f g : Fld) (i j k a b c : Nat) (h : g.key a b c ≠ f.key i j k) :
    (d.bump f i j k).rd g a b c = d.rd g a b c := Dev.rd_wr_ne _ _ _ _ _ _ _ _ _ _ h

end Sys2Proof.Machine
end

