-- ==== Sys2Proof/Laws/Events.lean ====
section
/-! SUPPORT. What an event record, an interrupt message and a completion leave alone: each changes registers of its own region only. -/

namespace Sys2Proof.Machine

theorem Dev.Changes.refl (P : Nat → Prop) (d : Dev) : d.Changes P d := fun _ _ _ _ _ => rfl

theorem Dev.Changes.trans {P : Nat → Prop} {d e g : Dev} (h1 : d.Changes P e) (h2 : e.Changes P g) : d.Changes P g :=
  fun f i j k h => (h2 f i j k h).trans (h1 f i j k h)

theorem Dev.Changes.mono {P Q : Nat → Prop} {d e : Dev} (h : d.Changes P e) (hs : ∀ n, P n → Q n) : d.Changes Q e :=
  fun f i j k hf => h f i j k (fun hr => hf (hs _ hr))

theorem Dev.changes_of_regs (P : Nat → Prop) {d e : Dev} (h : e.regs = d.regs) : d.Changes P e := by
  intro f i j k _; simp [Dev.rd, h]

theorem Dev.Changes.regs {P : Nat → Prop} {d e g : Dev} (h : d.Changes P e) (hg : g.regs = e.regs) : d.Changes P g :=
  h.trans (Dev.changes_of_regs P hg)

/-- A write changes one field only. -/
theorem Dev.changes_wr {P : Nat → Prop} (d : Dev) (f : Fld) (v i j k : Nat) (h : P (f.key i j k)) :
    d.Changes P (d.wr f v i j k) := by
  intro g a b c hg
  apply Dev.rd_wr_ne
  intro he
  exact hg (he ▸ h)

theorem Dev.Changes.wr {P : Nat → Prop} {d e : Dev} (h : d.Changes P e) (f : Fld) (v i j k : Nat) (hf : P (f.key i j k)) :
    d.Changes P (e.wr f v i j k) := h.trans (Dev.changes_wr e f v i j k hf)

theorem Dev.markDepth_changes (d : Dev) : d.Changes evtBits d.markDepth := by
  unfold Dev.markDepth
  split
  · exact Dev.changes_wr _ _ _ _ _ _ (by simp [evtBits, Fld.key, F.EVT_STS_QMAX])
  · exact .refl _ _

theorem Dev.pushEnt_changes (d : Dev) (e : QEnt) : d.Changes evtBits (d.pushEnt e) :=
  (Dev.changes_of_regs _ rfl).trans (Dev.markDepth_changes _)

theorem Dev.admitDue_changes (n : Nat) (d : Dev) : d.Changes evtBits (d.admitDue n) := by
  induction n generalizing d with
  | zero => exact .refl _ _
  | succ n ih =>
    unfold Dev.admitDue
    split
    · exact .refl _ _
    · split
      · refine Dev.Changes.trans ?_ (ih _)
        refine Dev.Changes.trans ?_ (Dev.pushEnt_changes _ _)
        exact Dev.changes_of_regs _ rfl
      · split
        · exact .refl _ _
        · refine Dev.Changes.trans ?_ (ih _)
          refine Dev.Changes.trans ?_ (Dev.pushEnt_changes _ _)
          exact Dev.changes_of_regs _ rfl

theorem Dev.enqueue_changes (d : Dev) (c i a : Nat) : d.Changes evtBits (d.enqueue c i a) := by
  unfold Dev.enqueue
  dsimp only
  refine (Dev.admitDue_changes 520 d).trans ?_
  split
  · exact Dev.pushEnt_changes _ _
  · have h : (d.admitDue 520).Changes evtBits ((d.admitDue 520).bump F.EVT_CNT_LOST) :=
      Dev.changes_wr _ _ _ _ _ _ (by simp [evtBits, Fld.key, F.EVT_CNT_LOST])
    split <;> exact h.regs rfl

/-- The bit addresses of the registers by code are those of the recorder. -/
theorem evtCode_bits (c : Nat) (h : validCode c) :
    evtBits (F.EVT_CODE_STS_PENDING.key c 0 0) ∧ evtBits (F.EVT_CODE_STS_TOKENS.key c 0 0) := by
  have hc : c < 512 := by
    simp only [validCode, Bool.or_eq_true, Bool.and_eq_true, decide_eq_true_eq] at h
    omega
  simp only [evtBits, Fld.key, F.EVT_CODE_STS_PENDING, F.EVT_CODE_STS_TOKENS]
  omega

/-- Starting a code's refill clock changes no register. -/
theorem Dev.tokenClock_changes (P : Nat → Prop) (d : Dev) (c : Nat) : d.Changes P (d.tokenClock c) := by
  unfold Dev.tokenClock
  split
  · exact .refl _ _
  · exact Dev.changes_of_regs _ rfl

/-- An event record changes the recorder's status, counts and tokens only. -/
theorem Dev.raise_changes (d : Dev) (c i a : Nat) : d.Changes evtBits (d.raise c i a) := by
  unfold Dev.raise
  split
  · exact .refl _ _
  · rename_i hv
    have hr := evtCode_bits c (by simp only [Bool.or_eq_true, not_or] at hv; simpa using hv.1)
    split
    · exact Dev.enqueue_changes _ _ _ _
    · split
      · unfold Dev.suppress
        dsimp only
        have h : d.Changes evtBits ((d.bump F.EVT_CODE_STS_PENDING c).bump F.EVT_CNT2_SUPPRESSED) :=
          (Dev.changes_wr _ _ _ _ _ _ hr.1).trans
            (Dev.changes_wr _ _ _ _ _ _ (by simp [evtBits, Fld.key, F.EVT_CNT2_SUPPRESSED]))
        split
        · exact h.regs rfl
        · exact h
      · exact ((Dev.changes_wr _ _ _ _ _ _ hr.2).trans (Dev.tokenClock_changes _ _ _)).trans (Dev.enqueue_changes _ _ _ _)

/-- A register outside the recorder's status reads the same after an event record. -/
theorem Dev.rd_raise (d : Dev) (c x a : Nat) (f : Fld) (i j k : Nat) (h : ¬ evtBits (f.key i j k)) :
    (d.raise c x a).rd f i j k = d.rd f i j k := Dev.raise_changes d c x a f i j k h

theorem Dev.faultPin_changes (d : Dev) : d.Changes evtBits d.faultPin := by
  unfold Dev.faultPin
  dsimp only
  split
  · exact .refl _ _
  · exact (Dev.changes_of_regs _ rfl).trans (Dev.raise_changes _ _ _ _)

/-- A register outside the recorder's status reads the same after FAULT_N has followed its causes. -/
theorem Dev.rd_faultPin (d : Dev) (f : Fld) (i j k : Nat) (h : ¬ evtBits (f.key i j k)) : d.faultPin.rd f i j k = d.rd f i j k :=
  Dev.faultPin_changes d f i j k h

/-- An interrupt message changes a pending bit of the host interface only. -/
theorem Dev.msi_changes (d : Dev) (v : Nat) (hv : v < 64) : d.Changes accBits (d.msi v) := by
  unfold Dev.msi
  split
  · exact .refl _ _
  · split
    · refine Dev.changes_wr _ _ _ _ _ _ ?_
      simp only [accBits, Fld.key, F.HIF_PBA_PEND]
      omega
    · exact Dev.changes_of_regs _ rfl

/-- A failed access changes the access log, a pending interrupt bit and the recorder's status only. -/
theorem Dev.fail_changes (d : Dev) (p : Path) (a st : Nat) :
    d.Changes (fun n => accBits n ∨ evtBits n) (d.fail p a st) := by
  unfold Dev.fail
  refine Dev.Changes.trans (e := d.logFault p a st) ?_ (Dev.changes_of_regs _ rfl)
  unfold Dev.logFault
  split
  · exact .refl _ _
  · dsimp only
    refine Dev.Changes.trans ?_ ((Dev.raise_changes _ _ _ _).mono fun _ => Or.inr)
    split
    · refine Dev.Changes.mono (P := accBits) ?_ fun _ => Or.inl
      have h1 : ∀ (x : Dev) (v w z u : Nat), x.Changes accBits
          (((((x.wr F.HIF_ACC_STS_NEW v).wr F.HIF_ACC_STS_PATH w).wr F.HIF_ACC_STS_STATUS z).bump
            F.HIF_ACC_STS_COUNT).wr F.HIF_ACC_ADDR_ADDR u) := by
        intro x v w z u
        refine ((((Dev.changes_wr _ _ _ _ _ _ ?_).wr _ _ _ _ _ ?_).wr _ _ _ _ _ ?_).wr _ _ _ _ _ ?_).wr _ _ _ _ _ ?_ <;>
          simp [accBits, Fld.key, F.HIF_ACC_STS_NEW, F.HIF_ACC_STS_PATH, F.HIF_ACC_STS_STATUS, F.HIF_ACC_STS_COUNT,
            F.HIF_ACC_ADDR_ADDR]
      split
      · exact (h1 _ _ _ _ _).trans (Dev.msi_changes _ _ (Dev.rd_lt _ F.HIF_CTL_ERR_VEC 0 0 0))
      · exact h1 _ _ _ _ _
    · exact .refl _ _

theorem Dev.markDepth_form (d : Dev) : ∃ r, d.markDepth = { d with regs := r } := by
  unfold Dev.markDepth
  split <;> exact ⟨_, rfl⟩

/-- An event record changes the recorder's state and registers only. -/
theorem Dev.raise_form (d : Dev) (c i a : Nat) : ∃ r e, d.raise c i a = { d with regs := r, er := e } := by
  have hpush : ∀ (x : Dev) (q : QEnt), ∃ r e, x.pushEnt q = { x with regs := r, er := e } := by
    intro x q
    unfold Dev.pushEnt
    obtain ⟨r, h⟩ := Dev.markDepth_form { x with er := { x.er with
      queue := queuePut x.er.queue q, headAt := if x.er.queue.isEmpty then x.now else x.er.headAt } }
    exact ⟨r, _, h⟩
  have hadmit : ∀ (n : Nat) (x : Dev), ∃ r e, x.admitDue n = { x with regs := r, er := e } := by
    intro n
    induction n with
    | zero => intro x; exact ⟨_, _, rfl⟩
    | succ n ih =>
      intro x
      unfold Dev.admitDue
      split
      · exact ⟨_, _, rfl⟩
      · split
        · dsimp only
          obtain ⟨r, e, h⟩ := hpush { x with er := { x.er with lostCount := 0 } }
            { x.mkEnt 2 x.er.lostCode (x.er.lostCount % 2 ^ 32 + x.er.lostTime % 2 ^ 32 * 2 ^ 32) with cycle := none }
          obtain ⟨r2, e2, h2⟩ := ih { x with regs := r, er := e }
          exact ⟨r2, e2, by rw [h]; exact h2⟩
        · split
          · exact ⟨_, _, rfl⟩
          · rename_i k cnt t rest hs
            dsimp only
            obtain ⟨r, e, h⟩ := hpush { x with er := { x.er with supDue := rest } }
              { x.mkEnt 3 k (cnt % 2 ^ 32 + t % 2 ^ 32 * 2 ^ 32) with cycle := none }
            obtain ⟨r2, e2, h2⟩ := ih { x with regs := r, er := e }
            exact ⟨r2, e2, by rw [h]; exact h2⟩
  have henq : ∀ (x : Dev), ∃ r e, x.enqueue c i a = { x with regs := r, er := e } := by
    intro x
    unfold Dev.enqueue
    dsimp only
    obtain ⟨r, e, h⟩ := hadmit 520 x
    rw [h]
    split
    · obtain ⟨r2, e2, h2⟩ := hpush { x with regs := r, er := e } (Dev.mkEnt { x with regs := r, er := e } c i a)
      exact ⟨r2, e2, h2⟩
    · split <;> exact ⟨_, _, rfl⟩
  unfold Dev.raise
  split
  · exact ⟨_, _, rfl⟩
  · split
    · exact henq d
    · split
      · unfold Dev.suppress
        dsimp only
        split <;> exact ⟨_, _, rfl⟩
      · unfold Dev.tokenClock
        split
        · obtain ⟨r, e, h⟩ := henq (d.wr F.EVT_CODE_STS_TOKENS (d.rd F.EVT_CODE_STS_TOKENS c - 1) c)
          exact ⟨r, e, by rw [h]; rfl⟩
        · obtain ⟨r, e, h⟩ := henq { d.wr F.EVT_CODE_STS_TOKENS (d.rd F.EVT_CODE_STS_TOKENS c - 1) c with
            er := { d.er with tokenAt := tabPut d.er.tokenAt c d.now } }
          exact ⟨r, e, h⟩

@[simp] theorem Dev.raise_now (d : Dev) (c i a : Nat) : (d.raise c i a).now = d.now := by
  obtain ⟨r, e, h⟩ := Dev.raise_form d c i a; rw [h]
@[simp] theorem Dev.raise_draws (d : Dev) (c i a : Nat) : (d.raise c i a).draws = d.draws := by
  obtain ⟨r, e, h⟩ := Dev.raise_form d c i a; rw [h]
@[simp] theorem Dev.raise_hif (d : Dev) (c i a : Nat) : (d.raise c i a).hif = d.hif := by
  obtain ⟨r, e, h⟩ := Dev.raise_form d c i a; rw [h]
@[simp] theorem Dev.raise_orbs (d : Dev) (c i a : Nat) : (d.raise c i a).orbs = d.orbs := by
  obtain ⟨r, e, h⟩ := Dev.raise_form d c i a; rw [h]
@[simp] theorem Dev.raise_lnk (d : Dev) (c i a : Nat) : (d.raise c i a).lnk = d.lnk := by
  obtain ⟨r, e, h⟩ := Dev.raise_form d c i a; rw [h]
@[simp] theorem Dev.raise_don (d : Dev) (c i a : Nat) : (d.raise c i a).don = d.don := by
  obtain ⟨r, e, h⟩ := Dev.raise_form d c i a; rw [h]
@[simp] theorem Dev.raise_stns (d : Dev) (c i a : Nat) : (d.raise c i a).stns = d.stns := by
  obtain ⟨r, e, h⟩ := Dev.raise_form d c i a; rw [h]
@[simp] theorem Dev.raise_hk (d : Dev) (c i a : Nat) : (d.raise c i a).hk = d.hk := by
  obtain ⟨r, e, h⟩ := Dev.raise_form d c i a; rw [h]
@[simp] theorem Dev.raise_clk (d : Dev) (c i a : Nat) : (d.raise c i a).clk = d.clk := by
  obtain ⟨r, e, h⟩ := Dev.raise_form d c i a; rw [h]
@[simp] theorem Dev.raise_mld (d : Dev) (c i a : Nat) : (d.raise c i a).mld = d.mld := by
  obtain ⟨r, e, h⟩ := Dev.raise_form d c i a; rw [h]
@[simp] theorem Dev.raise_streams (d : Dev) (c i a : Nat) : (d.raise c i a).streams = d.streams := by
  obtain ⟨r, e, h⟩ := Dev.raise_form d c i a; rw [h]
@[simp] theorem Dev.raise_plane (d : Dev) (c i a : Nat) : (d.raise c i a).plane = d.plane := by
  obtain ⟨r, e, h⟩ := Dev.raise_form d c i a; rw [h]
@[simp] theorem Dev.raise_slc (d : Dev) (c i a : Nat) : (d.raise c i a).slc = d.slc := by
  obtain ⟨r, e, h⟩ := Dev.raise_form d c i a; rw [h]
@[simp] theorem Dev.raise_pwr (d : Dev) (c i a : Nat) : (d.raise c i a).pwr = d.pwr := by
  obtain ⟨r, e, h⟩ := Dev.raise_form d c i a; rw [h]
@[simp] theorem Dev.raise_chn (d : Dev) (c i a : Nat) : (d.raise c i a).chn = d.chn := by
  obtain ⟨r, e, h⟩ := Dev.raise_form d c i a; rw [h]
@[simp] theorem Dev.raise_eng (d : Dev) (c i a : Nat) : (d.raise c i a).eng = d.eng := by
  obtain ⟨r, e, h⟩ := Dev.raise_form d c i a; rw [h]
@[simp] theorem Dev.raise_iso (d : Dev) (c i a : Nat) : (d.raise c i a).iso = d.iso := by
  obtain ⟨r, e, h⟩ := Dev.raise_form d c i a; rw [h]
@[simp] theorem Dev.raise_prt (d : Dev) (c i a : Nat) : (d.raise c i a).prt = d.prt := by
  obtain ⟨r, e, h⟩ := Dev.raise_form d c i a; rw [h]
@[simp] theorem Dev.raise_faultLow (d : Dev) (c i a : Nat) : (d.raise c i a).faultLow = d.faultLow := by
  obtain ⟨r, e, h⟩ := Dev.raise_form d c i a; rw [h]

theorem Dev.faultPin_form (d : Dev) : ∃ r e b, d.faultPin = { d with regs := r, er := e, faultLow := b } := by
  unfold Dev.faultPin
  dsimp only
  split
  · exact ⟨_, _, _, rfl⟩
  · obtain ⟨r, e, h⟩ := Dev.raise_form { d with faultLow := !d.coreOn || (d.faultSts &&& d.rd F.PRT_FAULT_MASK_MASK) != 0 } 0xE5 0 d.faultSts
    exact ⟨r, e, _, h⟩

@[simp] theorem Dev.faultPin_now (d : Dev) : d.faultPin.now = d.now := by
  obtain ⟨r, e, b, h⟩ := Dev.faultPin_form d; rw [h]
@[simp] theorem Dev.faultPin_draws (d : Dev) : d.faultPin.draws = d.draws := by
  obtain ⟨r, e, b, h⟩ := Dev.faultPin_form d; rw [h]
@[simp] theorem Dev.faultPin_hif (d : Dev) : d.faultPin.hif = d.hif := by
  obtain ⟨r, e, b, h⟩ := Dev.faultPin_form d; rw [h]
@[simp] theorem Dev.faultPin_orbs (d : Dev) : d.faultPin.orbs = d.orbs := by
  obtain ⟨r, e, b, h⟩ := Dev.faultPin_form d; rw [h]
@[simp] theorem Dev.faultPin_lnk (d : Dev) : d.faultPin.lnk = d.lnk := by
  obtain ⟨r, e, b, h⟩ := Dev.faultPin_form d; rw [h]
@[simp] theorem Dev.faultPin_don (d : Dev) : d.faultPin.don = d.don := by
  obtain ⟨r, e, b, h⟩ := Dev.faultPin_form d; rw [h]
@[simp] theorem Dev.faultPin_stns (d : Dev) : d.faultPin.stns = d.stns := by
  obtain ⟨r, e, b, h⟩ := Dev.faultPin_form d; rw [h]
@[simp] theorem Dev.faultPin_hk (d : Dev) : d.faultPin.hk = d.hk := by
  obtain ⟨r, e, b, h⟩ := Dev.faultPin_form d; rw [h]
@[simp] theorem Dev.faultPin_clk (d : Dev) : d.faultPin.clk = d.clk := by
  obtain ⟨r, e, b, h⟩ := Dev.faultPin_form d; rw [h]
@[simp] theorem Dev.faultPin_mld (d : Dev) : d.faultPin.mld = d.mld := by
  obtain ⟨r, e, b, h⟩ := Dev.faultPin_form d; rw [h]
@[simp] theorem Dev.faultPin_streams (d : Dev) : d.faultPin.streams = d.streams := by
  obtain ⟨r, e, b, h⟩ := Dev.faultPin_form d; rw [h]
@[simp] theorem Dev.faultPin_slc (d : Dev) : d.faultPin.slc = d.slc := by
  obtain ⟨r, e, b, h⟩ := Dev.faultPin_form d; rw [h]
@[simp] theorem Dev.faultPin_pwr (d : Dev) : d.faultPin.pwr = d.pwr := by
  obtain ⟨r, e, b, h⟩ := Dev.faultPin_form d; rw [h]
@[simp] theorem Dev.faultPin_chn (d : Dev) : d.faultPin.chn = d.chn := by
  obtain ⟨r, e, b, h⟩ := Dev.faultPin_form d; rw [h]
@[simp] theorem Dev.faultPin_eng (d : Dev) : d.faultPin.eng = d.eng := by
  obtain ⟨r, e, b, h⟩ := Dev.faultPin_form d; rw [h]
@[simp] theorem Dev.faultPin_iso (d : Dev) : d.faultPin.iso = d.iso := by
  obtain ⟨r, e, b, h⟩ := Dev.faultPin_form d; rw [h]
@[simp] theorem Dev.faultPin_prt (d : Dev) : d.faultPin.prt = d.prt := by
  obtain ⟨r, e, b, h⟩ := Dev.faultPin_form d; rw [h]

end Sys2Proof.Machine
end

