-- ==== Sys2Proof/Laws/Engine.lean ====
section
/-! SUPPORT. What a building loop can do to the count of its reselections, and so how long a processor holds it at most. -/

namespace Sys2Proof.Machine

/-- Reselections of a tick (R500, R526). -/
def Dev.resel (d : Dev) (n r : Nat) : Nat := (d.loopTick n r).resel

theorem Dev.resel_of_eng {d e : Dev} (h : e.eng = d.eng) (n r : Nat) : e.resel n r = d.resel n r := by
  simp [Dev.resel, Dev.loopTick, h]

@[simp] theorem Dev.loopTick_setLoopTick (d : Dev) (n r : Nat) (x : LoopTick) : (d.setLoopTick n r x).loopTick n r = x := by
  simp [Dev.loopTick, Dev.setLoopTick]

theorem Dev.loopTick_setLoopTick_ne (d : Dev) (n r a b : Nat) (x : LoopTick) (h : 2 * a + b ≠ 2 * n + r) :
    (d.setLoopTick n r x).loopTick a b = d.loopTick a b := by
  simp [Dev.loopTick, Dev.setLoopTick, tabGet_tabSet_ne _ _ _ _ _ _ h]

/-- A write of a tick that keeps its count keeps every count. -/
theorem Dev.resel_setLoopTick (d : Dev) (n r a b : Nat) (x : LoopTick) (h : x.resel = d.resel n r) :
    (d.setLoopTick n r x).resel a b = d.resel a b := by
  by_cases hk : 2 * a + b = 2 * n + r
  · simpa [Dev.resel, Dev.loopTick, Dev.setLoopTick, hk] using h
  · simp [Dev.resel, Dev.loopTick_setLoopTick_ne d n r a b x hk]

@[simp] theorem Dev.stick_eng (d : Dev) (f : Fld) (c : Bool) (id : Nat) : (d.stick f c id).eng = d.eng := by
  unfold Dev.stick; split <;> simp

/-- A selection counts no reselection. -/
@[simp] theorem Dev.choose_resel (d : Dev) (m t : Nat) (sh : Int) (c : Coef) (ceil : Option Int) (a b : Nat) :
    (d.choose m t sh c ceil).resel a b = d.resel a b := by
  have stage : ∀ (e : Dev) (g : Nat), (e.stageGain m t g).resel a b = e.resel a b := by
    intro e g; unfold Dev.stageGain; split
    · rfl
    · exact Dev.resel_setLoopTick _ _ _ _ _ _ rfl
  unfold Dev.choose
  rw [stage]
  apply Dev.resel_of_eng
  cases ceil <;> dsimp only
  · simp [Dev.showCands]
  · split <;> simp [Dev.showCands]

/-- A change applied to each of a list adds at most `k` for each. -/
theorem Dev.each_resel_le (g : Dev → Nat → Dev) (k a b : Nat) (h : ∀ d t, (g d t).resel a b ≤ d.resel a b + k) (l : List Nat) :
    ∀ d : Dev, (d.each l g).resel a b ≤ d.resel a b + k * l.length := by
  induction l with
  | nil => intro d; simp [Dev.each]
  | cons x l ih =>
    intro d
    have h1 := ih (g d x)
    have h2 := h d x
    simp only [Dev.each, List.foldl_cons, List.length_cons, Nat.mul_add] at *
    omega

theorem Dev.streamsIn_length_le (d : Dev) (n r : Nat) : (d.streamsIn n r).length ≤ 2048 := by
  have h : (upTo 2048).length = 2048 := by simp [upTo]
  unfold Dev.streamsIn Dev.streamsOf Dev.portStreams
  exact Nat.le_trans (List.length_filter_le _ _)
    (Nat.le_trans (List.length_filter_le _ _) (Nat.le_trans (List.length_filter_le _ _) (Nat.le_of_eq h)))

/-- Of one tile the streams that reselect are counted, each once. -/
theorem Dev.reselect_resel_le (d : Dev) (n r t : Nat) : (d.reselect n r t).resel n r ≤ d.resel n r + 2048 := by
  unfold Dev.reselect
  simp only [Dev.resel, Dev.loopTick_setLoopTick]
  have h1 := Dev.each_resel_le (fun x m =>
    let id := 256 * m + t
    (x.choose m t (x.shareDb m) (coefOf (x.tile id).coef)
      (if x.flag F.LCX0_SS_RUN id then some (x.rdS F.LCX1_SS_CEIL id) else none)).bump F.CE_BLD3_RESELECTS n r) 0 n r
    (by intro e m; rw [Dev.resel_of_eng (Dev.bump_eng _ _ _ _ _)]; simp)
    ((d.streamsIn n r).filter (fun m => d.selected m t && !(d.flag F.TIL_STREAM_MANUAL m))) d
  have h2 := List.length_filter_le (fun m => d.selected m t && !(d.flag F.TIL_STREAM_MANUAL m)) (d.streamsIn n r)
  have h3 := d.streamsIn_length_le n r
  simp only [Dev.resel, Nat.zero_mul, Nat.add_zero] at h1
  omega

theorem Dev.budgetCheck_resel_le (d : Dev) (n r t : Nat) (q : Int) (f : Fld) (of : Dev → Option Int) :
    (d.budgetCheck n r t q f of).resel n r ≤ d.resel n r + 2048 := by
  unfold Dev.budgetCheck
  split
  · have h := Dev.reselect_resel_le (d.wr f 0 n r t) n r t
    rw [Dev.resel_of_eng (Dev.wr_eng d f 0 n r t)] at h
    dsimp only
    split
    · rw [Dev.resel_of_eng (d := (d.wr f 0 n r t).reselect n r t) (by simp [Dev.budgetOver])]; exact h
    · exact h
  · omega

/-- A tile of a building loop counts at most 4,096 reselections. -/
theorem Dev.budgetTile_resel_le (d : Dev) (n r t : Nat) : (d.budgetTile n r t).resel n r ≤ d.resel n r + 4096 := by
  unfold Dev.budgetTile
  have beta : ∀ e : Dev, (e.betaStep n r t).resel n r = e.resel n r := fun e => Dev.resel_of_eng (by simp [Dev.betaStep]) n r
  have nu : ∀ e : Dev, (e.nuStep n t).resel n r = e.resel n r := fun e => Dev.resel_of_eng (by simp [Dev.nuStep]) n r
  by_cases hr : r = 1
  · subst hr
    simp only [if_true, nu, beta]
    exact Nat.le_trans (Dev.budgetCheck_resel_le _ _ _ _ _ _ _)
      (Nat.add_le_add_right (Dev.budgetCheck_resel_le _ _ _ _ _ _ _) 2048)
  · simp only [if_neg hr, beta]
    exact Nat.le_trans (Dev.budgetCheck_resel_le _ _ _ _ _ _ _) (by omega)

@[simp] theorem Dev.dominant_eng (d : Dev) (n r t : Nat) : (d.dominant n r t).eng = d.eng := by
  unfold Dev.dominant; split <;> simp

/-- A building loop counts at most 4,096 reselections for each of its 256 tiles. -/
theorem Dev.buildingLoop_resel_le (d : Dev) (n r : Nat) : (d.buildingLoop n r).resel n r ≤ d.resel n r + 1048576 := by
  unfold Dev.buildingLoop
  split
  · omega
  · have h1 := Dev.each_resel_le (fun x t => (x.budgetTile n r t).dominant n r t) 4096 n r
      (by intro e t; rw [Dev.resel_of_eng (Dev.dominant_eng _ _ _ _)]; exact Dev.budgetTile_resel_le e n r t)
      (upTo 256) (d.profileBudgets n r)
    have h2 : (d.profileBudgets n r).resel n r = d.resel n r := by simp [Dev.resel, Dev.loopTick, Dev.profileBudgets]
    have h3 : (upTo 256).length = 256 := by simp [upTo]
    rw [h2, h3] at h1
    dsimp only
    refine Nat.le_trans (Nat.le_of_eq ?_) h1
    simp only [Dev.resel, Dev.loopTick_setLoopTick]
    exact Dev.resel_of_eng (Dev.wr_eng _ _ _ _ _ _) n r

/-- A processor that has held a unit for its time, while its tick is open, is done with it. -/
theorem Dev.unitReady_first (d : Dev) (u : LoopUnit) (time lp : Nat) (q : LoopProc) (l : Tab LoopProc)
    (ho : d.tickOpen (d.unitSlice u).1 (d.unitSlice u).2 = true) (hp : d.eng.procs = (lp, q) :: l) (hu : q.unit = u)
    (ht : time ≤ d.now - q.since) : d.unitReady u time = some lp := by
  simp [Dev.unitReady, ho, hp, hu, ht]

/-- A building loop without reselections before it is done within 1,573,121 samples, whatever it reselects. -/
theorem Dev.buildingTime_le (d : Dev) (n r : Nat) (h : d.resel n r = 0) :
    (2048 + 12 * ((d.buildingLoop n r).loopTick n r).resel + 7) / 8 ≤ 1573121 := by
  have h1 := d.buildingLoop_resel_le n r
  simp only [Dev.resel] at h h1
  omega

end Sys2Proof.Machine
end

