-- ==== Sys2Proof/Laws/Memory.lean ====
section
/-! SUPPORT. The memories' canonical form: every operation keeps it, and a byte reads back what was written. -/

namespace Sys2Proof.Machine

theorem cellsWf_mono (b : Nat) (l : List Host.Cell) (lo hi : Nat) (h : lo ≤ hi) (w : cellsWf b hi l = true) :
    cellsWf b lo l = true := by
  cases l with
  | nil => rfl
  | cons p t => obtain ⟨k, v⟩ := p; simp [cellsWf] at w ⊢; exact ⟨⟨by omega, w.1.2⟩, w.2⟩

theorem cellDel_wf (b : Nat) (l : List Host.Cell) (n lo : Nat) (w : cellsWf b lo l = true) :
    cellsWf b lo (cellDel l n) = true := by
  induction l generalizing lo with
  | nil => rfl
  | cons p t ih =>
    obtain ⟨k, v⟩ := p
    simp [cellsWf] at w
    by_cases h : k = n
    · simp only [cellDel, h, if_true]
      exact ih lo (cellsWf_mono b t lo (k + 1) (by omega) w.2)
    · simp [cellDel, h, cellsWf, w.1, ih (k + 1) w.2]

theorem cellPut_wf (b : Nat) (l : List Host.Cell) (n lo : Nat) (x : BitVec 8) (hx : x.toNat ≠ b) (hn : lo ≤ n)
    (w : cellsWf b lo l = true) : cellsWf b lo (cellPut l n x) = true := by
  induction l generalizing lo with
  | nil => simp [cellPut, cellsWf, hn, hx]
  | cons p t ih =>
    obtain ⟨k, v⟩ := p
    simp [cellsWf] at w
    by_cases h1 : n < k
    · have h3 : n + 1 ≤ k := h1
      simp [cellPut, h1, cellsWf, hn, hx, w, h3]
    · by_cases h2 : n = k
      · subst h2; simp [cellPut, cellsWf, hn, hx, w.2]
      · simp [cellPut, h1, h2, cellsWf, w.1, ih (k + 1) (by omega) w.2]

/-- A byte written keeps the canonical form. -/
theorem cellSet_wf (b : Nat) (l : List Host.Cell) (n x : Nat) (w : cellsWf b 0 l = true) :
    cellsWf b 0 (cellSet b l n x) = true := by
  by_cases h : x % 256 = b
  · simp [cellSet, h, cellDel_wf b l n 0 w]
  · rw [cellSet, if_neg h]
    exact cellPut_wf b l n 0 _ (by simpa using h) (Nat.zero_le n) w

theorem cellsWrite_wf (b : Nat) (xs : List Nat) (l : List Host.Cell) (a : Nat) (w : cellsWf b 0 l = true) :
    cellsWf b 0 (cellsWrite b l a xs) = true := by
  induction xs generalizing l a with
  | nil => exact w
  | cons x t ih => exact ih _ _ (cellSet_wf b l a x w)

theorem cellsProgram_wf (xs : List Nat) (l : List Host.Cell) (a : Nat) (w : cellsWf flashBlank 0 l = true) :
    cellsWf flashBlank 0 (cellsProgram l a xs) = true := by
  induction xs generalizing l a with
  | nil => exact w
  | cons x t ih => exact ih _ _ (cellSet_wf flashBlank l a _ w)

theorem cells_filter_wf (b : Nat) (q : Host.Cell → Bool) (l : List Host.Cell) (lo : Nat) (w : cellsWf b lo l = true) :
    cellsWf b lo (l.filter q) = true := by
  induction l generalizing lo with
  | nil => rfl
  | cons p t ih =>
    obtain ⟨k, v⟩ := p
    simp [cellsWf] at w
    by_cases h : q (k, v) = true
    · simp [h, cellsWf, w.1, ih (k + 1) w.2]
    · simp only [List.filter_cons, h, if_false, Bool.false_eq_true]
      exact ih lo (cellsWf_mono b t lo (k + 1) (by omega) w.2)

theorem cellsErase_wf (b : Nat) (l : List Host.Cell) (lo hi : Nat) (w : cellsWf b 0 l = true) :
    cellsWf b 0 (cellsErase l lo hi) = true := cells_filter_wf b _ l 0 w

theorem cellGet_cellPut_same (b : Nat) (l : List Host.Cell) (n : Nat) (x : BitVec 8) :
    cellGet b (cellPut l n x) n = x.toNat := by
  induction l with
  | nil => simp [cellPut, cellGet]
  | cons p t ih =>
    obtain ⟨k, v⟩ := p
    by_cases h1 : n < k
    · simp [cellPut, cellGet, h1]
    · by_cases h2 : n = k
      · simp [cellPut, cellGet, h2]
      · simp [cellPut, cellGet, h1, h2, Ne.symm h2, ih]

theorem cellGet_cellPut_ne (b : Nat) (l : List Host.Cell) (n m : Nat) (x : BitVec 8) (h : m ≠ n) :
    cellGet b (cellPut l n x) m = cellGet b l m := by
  induction l with
  | nil => simp [cellPut, cellGet, Ne.symm h]
  | cons p t ih =>
    obtain ⟨k, v⟩ := p
    by_cases h1 : n < k
    · simp [cellPut, cellGet, h1, Ne.symm h]
    · by_cases h2 : n = k
      · subst h2; simp [cellPut, cellGet, Ne.symm h]
      · simp [cellPut, cellGet, h1, h2, ih]

theorem cellGet_cellDel_same (b : Nat) (l : List Host.Cell) (n : Nat) : cellGet b (cellDel l n) n = b := by
  induction l with
  | nil => rfl
  | cons p t ih =>
    obtain ⟨k, v⟩ := p
    by_cases h : k = n
    · simp [cellDel, h, ih]
    · simp [cellDel, cellGet, h, ih]

theorem cellGet_cellDel_ne (b : Nat) (l : List Host.Cell) (n m : Nat) (h : m ≠ n) :
    cellGet b (cellDel l n) m = cellGet b l m := by
  induction l with
  | nil => rfl
  | cons p t ih =>
    obtain ⟨k, v⟩ := p
    by_cases h2 : k = n
    · subst h2; simp [cellDel, cellGet, Ne.symm h, ih]
    · simp [cellDel, cellGet, h2, ih]

/-- A byte reads back what was written. -/
@[simp] theorem cellGet_cellSet_same (b : Nat) (l : List Host.Cell) (n x : Nat) :
    cellGet b (cellSet b l n x) n = x % 256 := by
  by_cases h : x % 256 = b
  · simp [cellSet, h, cellGet_cellDel_same]
  · simp [cellSet, h, cellGet_cellPut_same]

/-- Every other byte reads as before. -/
theorem cellGet_cellSet_ne (b : Nat) (l : List Host.Cell) (n m x : Nat) (h : m ≠ n) :
    cellGet b (cellSet b l n x) m = cellGet b l m := by
  by_cases hx : x % 256 = b
  · simp [cellSet, hx, cellGet_cellDel_ne b l n m h]
  · simp [cellSet, hx, cellGet_cellPut_ne b l n m _ h]

/-- Bytes outside a run of written bytes read as before. -/
theorem cellGet_cellsWrite_out (b : Nat) (xs : List Nat) (l : List Host.Cell) (a m : Nat)
    (h : m < a ∨ a + xs.length ≤ m) : cellGet b (cellsWrite b l a xs) m = cellGet b l m := by
  induction xs generalizing l a with
  | nil => rfl
  | cons x t ih =>
    simp only [List.length_cons] at h
    rw [cellsWrite, ih _ _ (by omega), cellGet_cellSet_ne _ _ _ _ _ (by omega)]

theorem Mem.sdWrite_wf (m : Mem) (a : Nat) (l : List Nat) (h : Memory.wf m = true) : Memory.wf (m.sdWrite a l) = true := by
  simp only [Memory.wf, Bool.and_eq_true] at h ⊢
  exact ⟨cellsWrite_wf _ _ _ _ h.1, h.2⟩

theorem Mem.sdLose_wf (m : Mem) (h : Memory.wf m = true) : Memory.wf m.sdLose = true := by
  simp only [Memory.wf, Bool.and_eq_true] at h ⊢
  exact ⟨rfl, h.2⟩

theorem Mem.flProgram_wf (m : Mem) (a : Nat) (l : List Nat) (h : Memory.wf m = true) :
    Memory.wf (m.flProgram a l) = true := by
  simp only [Memory.wf, Bool.and_eq_true] at h ⊢
  exact ⟨h.1, cellsProgram_wf _ _ _ h.2⟩

theorem Mem.flErase_wf (m : Mem) (a n : Nat) (h : Memory.wf m = true) : Memory.wf (m.flErase a n) = true := by
  simp only [Memory.wf, Bool.and_eq_true] at h ⊢
  exact ⟨h.1, cellsErase_wf _ _ _ _ h.2⟩

theorem Memory.wf_otp (m : Mem) (o : Otp) (h : Memory.wf m = true) : Memory.wf { m with otp := o } = true := h

theorem State.journal_wf (s : State) (ty a n : Nat) (h : Memory.wf s.mem = true) :
    Memory.wf (s.journal ty a n).mem = true := by
  simp only [State.journal]
  refine Mem.flProgram_wf _ _ _ ?_
  split
  · exact Mem.flErase_wf _ _ _ h
  · exact h

theorem State.progJ_wf (s : State) (a : Nat) (l : List Nat) (h : Memory.wf s.mem = true) :
    Memory.wf (s.progJ a l).mem = true := by
  simp only [State.progJ]
  exact State.journal_wf _ _ _ _ (Mem.flProgram_wf _ _ _ (State.journal_wf _ _ _ _ h))

theorem State.eraseJ_wf (s : State) (a : Nat) (h : Memory.wf s.mem = true) : Memory.wf (s.eraseJ a).mem = true := by
  simp only [State.eraseJ]
  exact State.journal_wf _ _ _ _ (Mem.flErase_wf _ _ _ (State.journal_wf _ _ _ _ h))

theorem State.reset_wf : Memory.wf State.reset.mem = true := rfl

end Sys2Proof.Machine
end

