-- ==== Sys2Proof/Laws/Setters.lean ====
section
/-! SUPPORT. The replacements of one part of the state: each reads back what was put, leaves every other key, every register field and the
sample count alone. -/

namespace Sys2Proof.Machine

@[simp] theorem Dev.orb_setOrb (d : Dev) (i : Nat) (x : Orbit) : (d.setOrb i x).orb i = x := by
  simp [Dev.orb, Dev.setOrb]
theorem Dev.orb_setOrb_ne (d : Dev) (i j : Nat) (x : Orbit) (h : j ≠ i) : (d.setOrb i x).orb j = d.orb j := by
  simp [Dev.orb, Dev.setOrb, tabGet_tabSet_ne _ _ _ _ _ _ h]
@[simp] theorem Dev.setOrb_regs (d : Dev) (i : Nat) (x : Orbit) : (d.setOrb i x).regs = d.regs := rfl
@[simp] theorem Dev.setOrb_now (d : Dev) (i : Nat) (x : Orbit) : (d.setOrb i x).now = d.now := rfl
@[simp] theorem Dev.setOrb_er (d : Dev) (i : Nat) (x : Orbit) : (d.setOrb i x).er = d.er := rfl
@[simp] theorem Dev.setOrb_rd (d : Dev) (i : Nat) (x : Orbit) (f : Fld) (a b c : Nat) :
    (d.setOrb i x).rd f a b c = d.rd f a b c := rfl

@[simp] theorem Dev.lp_setLp (d : Dev) (p : Nat) (x : LinkPort) : (d.setLp p x).lp p = x := by
  simp [Dev.lp, Dev.setLp]
theorem Dev.lp_setLp_ne (d : Dev) (p j : Nat) (x : LinkPort) (h : j ≠ p) : (d.setLp p x).lp j = d.lp j := by
  simp [Dev.lp, Dev.setLp, tabGet_tabSet_ne _ _ _ _ _ _ h]
@[simp] theorem Dev.setLp_regs (d : Dev) (p : Nat) (x : LinkPort) : (d.setLp p x).regs = d.regs := rfl
@[simp] theorem Dev.setLp_now (d : Dev) (p : Nat) (x : LinkPort) : (d.setLp p x).now = d.now := rfl
@[simp] theorem Dev.setLp_er (d : Dev) (p : Nat) (x : LinkPort) : (d.setLp p x).er = d.er := rfl
@[simp] theorem Dev.setLp_rd (d : Dev) (p : Nat) (x : LinkPort) (f : Fld) (a b c : Nat) :
    (d.setLp p x).rd f a b c = d.rd f a b c := rfl

@[simp] theorem Dev.ll_setLl (d : Dev) (n : Nat) (x : LinkLane) : (d.setLl n x).ll n = x := by
  simp [Dev.ll, Dev.setLl]
theorem Dev.ll_setLl_ne (d : Dev) (n j : Nat) (x : LinkLane) (h : j ≠ n) : (d.setLl n x).ll j = d.ll j := by
  simp [Dev.ll, Dev.setLl, tabGet_tabSet_ne _ _ _ _ _ _ h]
@[simp] theorem Dev.setLl_regs (d : Dev) (n : Nat) (x : LinkLane) : (d.setLl n x).regs = d.regs := rfl
@[simp] theorem Dev.setLl_now (d : Dev) (n : Nat) (x : LinkLane) : (d.setLl n x).now = d.now := rfl
@[simp] theorem Dev.setLl_er (d : Dev) (n : Nat) (x : LinkLane) : (d.setLl n x).er = d.er := rfl
@[simp] theorem Dev.setLl_rd (d : Dev) (n : Nat) (x : LinkLane) (f : Fld) (a b c : Nat) :
    (d.setLl n x).rd f a b c = d.rd f a b c := rfl

@[simp] theorem Dev.stn_setStn (d : Dev) (t : Nat) (x : Station) : (d.setStn t x).stn t = x := by
  simp [Dev.stn, Dev.setStn]
theorem Dev.stn_setStn_ne (d : Dev) (t j : Nat) (x : Station) (h : j ≠ t) : (d.setStn t x).stn j = d.stn j := by
  simp [Dev.stn, Dev.setStn, tabGet_tabSet_ne _ _ _ _ _ _ h]
@[simp] theorem Dev.setStn_regs (d : Dev) (t : Nat) (x : Station) : (d.setStn t x).regs = d.regs := rfl
@[simp] theorem Dev.setStn_now (d : Dev) (t : Nat) (x : Station) : (d.setStn t x).now = d.now := rfl
@[simp] theorem Dev.setStn_er (d : Dev) (t : Nat) (x : Station) : (d.setStn t x).er = d.er := rfl
@[simp] theorem Dev.setStn_rd (d : Dev) (t : Nat) (x : Station) (f : Fld) (a b c : Nat) :
    (d.setStn t x).rd f a b c = d.rd f a b c := rfl

@[simp] theorem Dev.stream_setStream (d : Dev) (m : Nat) (x : Stream) : (d.setStream m x).stream m = x := by
  simp [Dev.stream, Dev.setStream]
theorem Dev.stream_setStream_ne (d : Dev) (m j : Nat) (x : Stream) (h : j ≠ m) : (d.setStream m x).stream j = d.stream j := by
  simp [Dev.stream, Dev.setStream, tabGet_tabSet_ne _ _ _ _ _ _ h]
@[simp] theorem Dev.setStream_regs (d : Dev) (m : Nat) (x : Stream) : (d.setStream m x).regs = d.regs := rfl
@[simp] theorem Dev.setStream_now (d : Dev) (m : Nat) (x : Stream) : (d.setStream m x).now = d.now := rfl
@[simp] theorem Dev.setStream_er (d : Dev) (m : Nat) (x : Stream) : (d.setStream m x).er = d.er := rfl
@[simp] theorem Dev.setStream_rd (d : Dev) (m : Nat) (x : Stream) (f : Fld) (a b c : Nat) :
    (d.setStream m x).rd f a b c = d.rd f a b c := rfl

@[simp] theorem Dev.ps_setPs (d : Dev) (m : Nat) (x : PlaneStream) : (d.setPs m x).ps m = x := by
  simp [Dev.ps, Dev.setPs]
theorem Dev.ps_setPs_ne (d : Dev) (m j : Nat) (x : PlaneStream) (h : j ≠ m) : (d.setPs m x).ps j = d.ps j := by
  simp [Dev.ps, Dev.setPs, tabGet_tabSet_ne _ _ _ _ _ _ h]
@[simp] theorem Dev.setPs_regs (d : Dev) (m : Nat) (x : PlaneStream) : (d.setPs m x).regs = d.regs := rfl
@[simp] theorem Dev.setPs_now (d : Dev) (m : Nat) (x : PlaneStream) : (d.setPs m x).now = d.now := rfl
@[simp] theorem Dev.setPs_er (d : Dev) (m : Nat) (x : PlaneStream) : (d.setPs m x).er = d.er := rfl
@[simp] theorem Dev.setPs_rd (d : Dev) (m : Nat) (x : PlaneStream) (f : Fld) (a b c : Nat) :
    (d.setPs m x).rd f a b c = d.rd f a b c := rfl

@[simp] theorem Dev.tile_setTile (d : Dev) (id : Nat) (x : TileX) : (d.setTile id x).tile id = x := by
  simp [Dev.tile, Dev.setTile]
theorem Dev.tile_setTile_ne (d : Dev) (id j : Nat) (x : TileX) (h : j ≠ id) : (d.setTile id x).tile j = d.tile j := by
  simp [Dev.tile, Dev.setTile, tabGet_tabSet_ne _ _ _ _ _ _ h]
@[simp] theorem Dev.setTile_regs (d : Dev) (id : Nat) (x : TileX) : (d.setTile id x).regs = d.regs := rfl
@[simp] theorem Dev.setTile_now (d : Dev) (id : Nat) (x : TileX) : (d.setTile id x).now = d.now := rfl
@[simp] theorem Dev.setTile_er (d : Dev) (id : Nat) (x : TileX) : (d.setTile id x).er = d.er := rfl
@[simp] theorem Dev.setTile_rd (d : Dev) (id : Nat) (x : TileX) (f : Fld) (a b c : Nat) :
    (d.setTile id x).rd f a b c = d.rd f a b c := rfl

@[simp] theorem Dev.conv_setConv (d : Dev) (k : Nat) (x : HkConv) : (d.setConv k x).conv k = x := by
  simp [Dev.conv, Dev.setConv]
theorem Dev.conv_setConv_ne (d : Dev) (k j : Nat) (x : HkConv) (h : j ≠ k) : (d.setConv k x).conv j = d.conv j := by
  simp [Dev.conv, Dev.setConv, tabGet_tabSet_ne _ _ _ _ _ _ h]
@[simp] theorem Dev.setConv_regs (d : Dev) (k : Nat) (x : HkConv) : (d.setConv k x).regs = d.regs := rfl
@[simp] theorem Dev.setConv_now (d : Dev) (k : Nat) (x : HkConv) : (d.setConv k x).now = d.now := rfl
@[simp] theorem Dev.setConv_er (d : Dev) (k : Nat) (x : HkConv) : (d.setConv k x).er = d.er := rfl
@[simp] theorem Dev.setConv_rd (d : Dev) (k : Nat) (x : HkConv) (f : Fld) (a b c : Nat) :
    (d.setConv k x).rd f a b c = d.rd f a b c := rfl

@[simp] theorem Dev.mon_setMon (d : Dev) (n : Nat) (x : WinMon) : (d.setMon n x).mon n = x := by
  simp [Dev.mon, Dev.setMon]
theorem Dev.mon_setMon_ne (d : Dev) (n j : Nat) (x : WinMon) (h : j ≠ n) : (d.setMon n x).mon j = d.mon j := by
  simp [Dev.mon, Dev.setMon, tabGet_tabSet_ne _ _ _ _ _ _ h]
@[simp] theorem Dev.setMon_regs (d : Dev) (n : Nat) (x : WinMon) : (d.setMon n x).regs = d.regs := rfl
@[simp] theorem Dev.setMon_now (d : Dev) (n : Nat) (x : WinMon) : (d.setMon n x).now = d.now := rfl
@[simp] theorem Dev.setMon_er (d : Dev) (n : Nat) (x : WinMon) : (d.setMon n x).er = d.er := rfl
@[simp] theorem Dev.setMon_rd (d : Dev) (n : Nat) (x : WinMon) (f : Fld) (a b c : Nat) :
    (d.setMon n x).rd f a b c = d.rd f a b c := rfl

@[simp] theorem Dev.chain_setChain (d : Dev) (m tap : Nat) (x : ChainRun) : (d.setChain m tap x).chain m tap = x := by
  simp [Dev.chain, Dev.setChain]
theorem Dev.chain_setChain_ne (d : Dev) (m tap a b : Nat) (x : ChainRun) (h : 2 * a + b ≠ 2 * m + tap) :
    (d.setChain m tap x).chain a b = d.chain a b := by
  simp [Dev.chain, Dev.setChain, tabGet_tabSet_ne _ _ _ _ _ _ h]
@[simp] theorem Dev.setChain_regs (d : Dev) (m tap : Nat) (x : ChainRun) : (d.setChain m tap x).regs = d.regs := rfl
@[simp] theorem Dev.setChain_now (d : Dev) (m tap : Nat) (x : ChainRun) : (d.setChain m tap x).now = d.now := rfl
@[simp] theorem Dev.setChain_rd (d : Dev) (m tap : Nat) (x : ChainRun) (f : Fld) (a b c : Nat) :
    (d.setChain m tap x).rd f a b c = d.rd f a b c := rfl

@[simp] theorem Dev.corr_setCorr (d : Dev) (m t : Nat) (x : Corr) : (d.setCorr m t x).corr m t = x := by
  simp [Dev.corr, Dev.setCorr]
theorem Dev.corr_setCorr_ne (d : Dev) (m t a b : Nat) (x : Corr) (h : 256 * a + b ≠ 256 * m + t) :
    (d.setCorr m t x).corr a b = d.corr a b := by
  simp [Dev.corr, Dev.setCorr, tabGet_tabSet_ne _ _ _ _ _ _ h]
@[simp] theorem Dev.setCorr_regs (d : Dev) (m t : Nat) (x : Corr) : (d.setCorr m t x).regs = d.regs := rfl
@[simp] theorem Dev.setCorr_now (d : Dev) (m t : Nat) (x : Corr) : (d.setCorr m t x).now = d.now := rfl
@[simp] theorem Dev.setCorr_rd (d : Dev) (m t : Nat) (x : Corr) (f : Fld) (a b c : Nat) :
    (d.setCorr m t x).rd f a b c = d.rd f a b c := rfl

@[simp] theorem Dev.survey_setSurvey (d : Dev) (n : Nat) (v : Survey) : (d.setSurvey n v).survey n = some v := by
  simp [Dev.survey, Dev.setSurvey, tabFind_tabPut_same]
theorem Dev.survey_setSurvey_ne (d : Dev) (n k : Nat) (v : Survey) (h : k ≠ n) : (d.setSurvey n v).survey k = d.survey k := by
  simp [Dev.survey, Dev.setSurvey, tabFind_tabPut_ne _ _ _ _ h]
@[simp] theorem Dev.setSurvey_regs (d : Dev) (n : Nat) (v : Survey) : (d.setSurvey n v).regs = d.regs := rfl
@[simp] theorem Dev.setMig_regs (d : Dev) (m : Nat) (x : Mig) : (d.setMig m x).regs = d.regs := rfl
@[simp] theorem Dev.setPrt_regs (d : Dev) (x : Protect) : (d.setPrt x).regs = d.regs := rfl
@[simp] theorem Dev.setSlc_regs (d : Dev) (x : SliceProcs) : (d.setSlc x).regs = d.regs := rfl
@[simp] theorem Dev.setPwr_regs (d : Dev) (x : Power) : (d.setPwr x).regs = d.regs := rfl
@[simp] theorem Dev.setClk_regs (d : Dev) (x : Clocks) : (d.setClk x).regs = d.regs := rfl

/-- Counting activity changes the counts only (R743). -/
@[simp] theorem Dev.tally_regs (d : Dev) (k n : Nat) : (d.tally k n).regs = d.regs := rfl
@[simp] theorem Dev.tally_rd (d : Dev) (k n : Nat) (f : Fld) (a b c : Nat) : (d.tally k n).rd f a b c = d.rd f a b c := rfl
@[simp] theorem Dev.tally_eng (d : Dev) (k n : Nat) : (d.tally k n).eng = d.eng := rfl
@[simp] theorem Dev.tally_hif (d : Dev) (k n : Nat) : (d.tally k n).hif = d.hif := rfl
@[simp] theorem Dev.tally_er (d : Dev) (k n : Nat) : (d.tally k n).er = d.er := rfl
@[simp] theorem Dev.tally_now (d : Dev) (k n : Nat) : (d.tally k n).now = d.now := rfl

end Sys2Proof.Machine
end

