-- ==== Sys2Proof/Laws/Writes.lean ====
section
/-! SUPPORT. What a judged write of a register does: performed, refused by its judgement, or refused by the register's own rule. -/

namespace Sys2Proof.Machine

theorem unit_lt {n lim : Nat} {o : Out} (h : n < lim) : unit n lim o = o := by simp [unit, h]

/-- A write that is let through and that the register accepts takes its effect and ends `OK`. -/
theorem Dev.write_ok {d d1 : Dev} {p : Path} {h : Hit} {w : Nat} {act : Dev → Option Dev} (rej : Dev → Dev)
    (hj : d.Admits p h w) (ha : act d = some d1) : d.write p h w act rej = d1.complete 0 := by
  simp [Dev.write, show d.judge h p w = 0 from hj, ha]

/-- A write that is not let through fails with its judgement and has no effect of its own. -/
theorem Dev.write_judged {d : Dev} {p : Path} {h : Hit} {w : Nat} (act : Dev → Option Dev) (rej : Dev → Dev)
    (hj : d.judge h p w ≠ 0) : d.write p h w act rej = d.fail p h.addr (d.judge h p w) := by
  simp [Dev.write, hj]

/-- A write that the register's own rule refuses ends `REJECTED`. -/
theorem Dev.write_rejected {d : Dev} {p : Path} {h : Hit} {w : Nat} {act : Dev → Option Dev} (rej : Dev → Dev)
    (hj : d.Admits p h w) (ha : act d = none) : d.write p h w act rej = (rej d).fail p h.addr 4 := by
  simp [Dev.write, show d.judge h p w = 0 from hj, ha]

theorem State.write_ok {s s1 : State} {p : Path} {h : Hit} {w : Nat} {act : State → Option State} (rej : Dev → Dev)
    (hj : s.dev.Admits p h w) (ha : act s = some s1) : s.write p h w act rej = s1.onDev (fun d => d.complete 0) := by
  simp [State.write, show s.dev.judge h p w = 0 from hj, ha]

theorem State.write_judged {s : State} {p : Path} {h : Hit} {w : Nat} (act : State → Option State) (rej : Dev → Dev)
    (hj : s.dev.judge h p w ≠ 0) :
    s.write p h w act rej = s.onDev (fun d => d.fail p h.addr (s.dev.judge h p w)) := by
  simp [State.write, hj]

end Sys2Proof.Machine
end

