-- ==== Sys2Proof/Tests/Slice0.lean ====
section
/-! SUPPORT. Tests: worked examples of the spec, ill-formed commands refused, and for every statement with hypotheses states and operands that meet them, clause by clause. -/

set_option Elab.async false

open Sys2Proof Sys2Proof.Machine

namespace Sys2Proof.Tests

/-! ### Worked examples -/

/-- The check value that R841 gives for `123456789`. -/
theorem test_crc8_check : crc8 [0x31, 0x32, 0x33, 0x34, 0x35, 0x36, 0x37, 0x38, 0x39] = 0xF4 := by
  decide +kernel

/-- The CRC of the request in chapter 15's worked side-band exchange. -/
theorem test_side_band_request : crc8 ([0x01, 0x21, 0x08, 0x00, 0x60, 0x00] ++ List.replicate 9 0) = 0x24 := by
  decide +kernel

/-- The CRC of its response. -/
theorem test_side_band_response : crc8 ([0x00, 0x21, 0x01, 0x00, 0x00, 0x00, 0x48] ++ List.replicate 8 0) = 0x5E := by
  decide +kernel

/-- +10.5 dB is 0x0A80 and −3.25 dB is 0xFCC0 (chapter 00). -/
theorem test_gain_codes : dbOf 0x0A80 = 2688 ∧ dbOf 0xFCC0 = -832 := by decide

/-- Λ of R457's worked example: −19.97 dB before port 31 locks, −22.55 dB after, −14.55 dB without cancellation. -/
theorem test_loop_gain_sums :
    dbSum ([-8320, -8576, -5888, -8576] ++ List.replicate 36 (-10240)) = some (-5113) ∧
    dbSum ([-8320, -8576, -8448, -8576] ++ List.replicate 36 (-10240)) = some (-5773) ∧
    dbSum ([-4608, -5504, -5888, -6272] ++ List.replicate 36 (-10240)) = some (-3724) := by decide +kernel

/-- Λ' of chapter 08's worked example: −23.37 dB. -/
theorem test_loop_gain_of_shares :
    dbSum (List.replicate 4 (-9221) ++ List.replicate 36 (-10240)) = some (-5983) := by decide +kernel

/-- SHA-256 of `abc`, as FIPS 180-4 gives it (the spec names the function, R57). -/
theorem test_sha256 :
    sha256 [0x61, 0x62, 0x63] = toOctets 32 0xAD1500F261FF10B49C7A1796A36103B02322AE5DDE404141EACF018FBF1678BA := by
  decide +kernel

/-- No row of the table has bits: the decoder answers none. -/
theorem test_no_row_has_bits : decodeTableWord 8 0 = none := by decide

/-! ### Ill-formed commands are refused, one for each check -/

theorem test_ill_formed_1 :
    (([
      .registerWrite .bar0 (2 ^ 32) 0 false 0 0, .registerWrite .bar0 0 0 false (2 ^ 64) 0, .registerWrite .bar0 0 0 false
      0 (2 ^ 64), .latchingRead .bar0 6, .ownerWrite .bar0 32 0 none, .ownerWrite .bar0 0 (2 ^ 32) none, .loadFlash .bar0
      (2 ^ 32), .loadStaged .bar0 (2 ^ 32), .writeSlot .bar0 (2 ^ 32), .reload .bar0 (2 ^ 32), .confirm .bar0 (2 ^ 32),
      .remould .bar0 (2 ^ 32), .abort .bar0 (2 ^ 32), .go .bar0 (2 ^ 32), .cmdReserved .bar0 9 (2 ^ 32), .cmdReserved
      .bar0 8 0, .cmdReserved .bar0 16 0, .migrationRequest 2080 0, .migrationRequest 0 36, .migShadowStart 2080,
      .migShadowEnd 2080, .migWaitExpiry 2080, .migSwitch 2080 0, .migRelease 2080, .orbMeasurement 2 [],
      .measurementMissing 2, .holdLimitExpiry 2, .uncLimitExceeded 2, .orbitMuteEnd 2, .orbCtlWrite .bar0 2 0,
      .orbCtlWrite .bar0 0 (2 ^ 32), .reacquire .bar0 2 0, .reacquire .bar0 0 (2 ^ 32), .orbClrCnt .bar0 2 0, .orbClrCnt
      .bar0 0 (2 ^ 32), .learn .bar0 2 0, .learn .bar0 0 (2 ^ 32), .learnRunEnd 2, .internalPatternSwap 2, .trnEntryWrite
      .bar0 2 0 0, .trnEntryWrite .bar0 0 256 0, .trnEntryWrite .bar0 0 0 (2 ^ 32), .trnClrCnt .bar0 2 0, .trnClrCnt .bar0
      0 (2 ^ 32), .patternEdge 2, .tickCommit 2, .gainCommit 2 0, .gainCommit 0 256, .transitNone 2 0, .transitNone 0 256,
      .fesCmd 2 0, .fesCmd 0 256, .hkInject 2 0, .hkInject 0 256, .capture 2 0, .capture 0 256, .tddPatSwap 2 0,
      .tddPatSwap 0 256, .mark 2 0, .mark 0 256, .irq 2 0] :
      List Instr).all (fun c => !c.wellFormed)) = true := by decide +kernel

theorem test_ill_formed_2 :
    (([
      .irq 0 256, .laneEnableWrite .bar0 128 0, .laneEnableWrite .bar0 0 (2 ^ 32), .laneRestart .bar0 128 0, .laneRestart
      .bar0 0 (2 ^ 32), .lnkClrCnt .bar0 128 0, .lnkClrCnt .bar0 0 (2 ^ 32), .signalLoss 128, .blockLock 128,
      .blockLockLoss 128, .tdlFrameRx 128 {}, .frameMissing 128, .noFrameTimeout 128, .helloRx 128, .capsRx 128,
      .sliceAckRx 128, .mapIdSwitch 128, .stnRspRx 128, .alarmRx 128, .readRspRx 128, .writeRspRx 128, .vendorRx 128,
      .heartbeatRx 128, .latUpdateRx 128, .helloTx 128, .heartbeatTx 128, .resendTimeout 128, .hbLimitExpiry 128,
      .incompatibleTimeout 128, .tddEdgeSend 128 0 false false 0, .tddEdgeSend 0 8 false false 0, .lnkMsgSend .bar0 128 0,
      .lnkMsgSend .bar0 0 (2 ^ 32), .protReqWrite .bar0 64 0, .protReqWrite .bar0 0 (2 ^ 32), .pairSwitchApply 64,
      .wtrExpiry 64, .signalDegradeClear 128, .mgbPoll 128 false [], .mgbXfer .bar0 4 0, .mgbXfer .bar0 0 (2 ^ 32),
      .mgbXferDone 4 false 0, .mgbTimeout 4, .donShLock 4, .donEmbLock 4, .donDataEntry 4 [], .donLockLoss 4 false 0 [],
      .donLate 4 0, .donTxDataEntry 8, .sysrefArm .bar0 (2 ^ 32), .relink .bar0 (2 ^ 32), .donClrCnt .bar0 (2 ^ 32),
      .donLinkCfgWrite .bar0 8 0, .donLinkCfgWrite .bar0 0 (2 ^ 32), .fesEnWrite .bar0 8 0, .fesEnWrite .bar0 0 (2 ^ 32),
      .fesRun .bar0 8 0, .fesRun .bar0 0 (2 ^ 32), .stnNop 8 0, .stnNop 0 16, .stnTune 8 0 0 false] :
      List Instr).all (fun c => !c.wellFormed)) = true := by decide +kernel

theorem test_ill_formed_3 :
    (([
      .stnTune 0 16 0 false, .stnTune 0 0 (2 ^ 16) false, .stnTxOn 8 0, .stnTxOn 0 16, .stnTxOff 8 0, .stnTxOff 0 16,
      .stnRenew 8 0, .stnRenew 0 16, .stnRxSet 8 0 false false, .stnRxSet 0 16 false false, .stnPinSet 8 0 0 0, .stnPinSet
      0 16 0 0, .stnCalibrate 8 0 0 false, .stnCalibrate 0 16 0 false, .stnCalibrate 0 0 (2 ^ 32) false, .stnSpiWrite 8 0
      0 [], .stnSpiWrite 0 16 0 [], .stnSpiWrite 0 0 0 [256], .stnSpiRead 8 0 0 0 [], .stnSpiRead 0 16 0 0 [], .stnSpiRead
      0 0 0 0 [256], .stnBadOpcode 8 0 10, .stnBadOpcode 0 16 10, .stnBadOpcode 0 0 256, .stnBadOpcode 0 0 9,
      .hopTimeExpiry 8, .lockPoll 8 0, .txWaitLimitExpiry 8, .maxOnExpiry 8, .paDelayExpiry 8, .stationPinEdge 8 0,
      .stationPinEdge 0 8, .fesAlmActive 8 false 0, .fesAlmStuck 8, .fesAlmLockoutEnd 8, .faultClr .bar0 8 0, .faultClr
      .bar0 0 (2 ^ 32), .almRearm .bar0 8 0, .almRearm .bar0 0 (2 ^ 32), .cacheLoad .bar0 8 0, .cacheLoad .bar0 0 (2 ^
      32), .cacheLoadDone 8 false, .remRenew 512, .fesClrCnt .bar0 (2 ^ 32), .pendingGainWrite .bar0 262144 0,
      .pendingGainWrite .bar0 0 (2 ^ 32), .tilCommitWrite .bar0 2048 0, .tilCommitWrite .bar0 0 (2 ^ 32), .tilManualWrite
      .bar0 2048 0, .tilManualWrite .bar0 0 (2 ^ 32), .fadeEnd 2048, .tilClrCnt .bar0 (2 ^ 32), .realign .bar0 16 0,
      .realign .bar0 0 (2 ^ 32), .residueMismatch 2080 0 0, .residueMismatch 0 10 0, .residueMismatch 0 0 36,
      .spWatchdogExpiry 36, .slcTestFail .bar0 (2 ^ 32), .slcClrCnt .bar0 (2 ^ 32), .spFailure 36 0 []] :
      List Instr).all (fun c => !c.wellFormed)) = true := by decide +kernel

theorem test_ill_formed_4 :
    (([
      .fastTailWindow 2048 0, .fastTailWindow 0 256, .ftHoldoffExpiry 2048, .chainOutput 2080 0, .chainOutput 0 2,
      .meaSync .bar0 (2 ^ 32), .syncResetExec 16, .meaSwap .bar0 2080 0, .meaSwap .bar0 0 (2 ^ 32), .swapExec 2080,
      .captureStart .bar0 16 0, .captureStart .bar0 0 (2 ^ 32), .captureDone 16 false, .meaWatchWrite .bar0 256 0 0,
      .meaWatchWrite .bar0 0 2 0, .meaWatchWrite .bar0 0 0 (2 ^ 32), .meaClrCnt .bar0 (2 ^ 32), .weavePeriodBoundary 16,
      .isoBlockClose 2048 0, .isoBlockClose 0 256, .cancBlockClose 16 0 0, .cancBlockClose 0 256 0, .cancBlockClose 0 0 4,
      .branchReassign 16 0, .branchReassign 0 256, .branchReleaseExpiry 16 0 0, .branchReleaseExpiry 0 256 0,
      .branchReleaseExpiry 0 0 4, .isoHoldLimitExpiry 2048 0, .isoHoldLimitExpiry 0 256, .isoSurvey .bar0 (2 ^ 32),
      .isoAbort .bar0 (2 ^ 32), .isoForget .bar0 (2 ^ 32), .isoClrCnt .bar0 (2 ^ 32), .cancDisable .bar0 (2 ^ 32),
      .surveyPrepEnd 16, .surveyRoundEnd 16, .resurveyTimer 16, .tileUpdate 2048, .buildingLoop 16 0, .buildingLoop 0 2,
      .gainRelease 16 0, .gainRelease 0 2, .sliceLoop 2048, .tickDeadline 2, .tickLengthChange 2, .coefCommit .bar0 (2 ^
      32), .coefCommitApply 16, .lpWatchdogExpiry 32, .lpFailure 32 0, .ceTestFail .bar0 (2 ^ 32), .ceClrCnt .bar0 (2 ^
      32), .ceRunWrite .bar0 (2 ^ 32), .lcxEnWrite .bar0 524288 0, .lcxEnWrite .bar0 0 (2 ^ 32), .cutHoldExpiry 2048,
      .cutFallStep 2048, .slowTailTick 16 0, .slowTailTick 0 2, .prtReenable .bar0 (2 ^ 32), .dlossBlock 16] :
      List Instr).all (fun c => !c.wellFormed)) = true := by decide +kernel

theorem test_ill_formed_5 :
    (([
      .noiseRiseEval 16, .nrCureExpiry 16, .nrRetryExpiry 16, .olBlock 2048, .olRetryExpiry 2048, .staleMuteExpiry 2048,
      .prtClrCnt .bar0 (2 ^ 32), .hkTimerExpiry 4, .hkTrigEdge 4 false, .regGo .bar0 16, .injGo .bar0 16, .conversionDone
      4 0, .hkCalZero .bar0 (2 ^ 32), .hkCalFull .bar0 (2 ^ 32), .hkClrCnt .bar0 (2 ^ 32), .wmEnable .bar0 16 0, .wmEnable
      .bar0 0 (2 ^ 32), .wmThrWrite .bar0 16 0, .wmThrWrite .bar0 0 (2 ^ 32), .wmBlankEnd 16 false false false false,
      .wmCrossing 16 false false, .wmLockoutEnd 16, .wmStuckExpiry 16, .wmRearm .bar0 16 0, .wmRearm .bar0 0 (2 ^ 32),
      .startMsExpiry 2, .xtalGate 2 0, .xtalStop 2, .permit .bar0 (2 ^ 32), .switch .bar0 4 0, .switch .bar0 0 (2 ^ 32),
      .retryA .bar0 (2 ^ 32), .retryB .bar0 (2 ^ 32), .xtalCfgWrite .bar0 2 0, .xtalCfgWrite .bar0 0 (2 ^ 32), .clkClrCnt
      .bar0 (2 ^ 32), .lrefGate 4 none, .chipReset .bar0 (2 ^ 32), .coreReset .bar0 (2 ^ 32), .domainSupplyGood 82,
      .domainFault 82 0, .pwrRetry .bar0 82 0, .pwrRetry .bar0 0 (2 ^ 32), .spGateTimer 36, .linkQuarterIdle 8, .restart
      .bar0 (2 ^ 32), .pwrClrCnt .bar0 (2 ^ 32), .ageMeasure 8 0, .eventRaise 512 0 0, .eventRaise 0 (2 ^ 16) 0,
      .eventRaise 0 0 (2 ^ 64), .tokenRefill 512, .evtCodeWrite .bar0 512 0, .evtCodeWrite .bar0 0 (2 ^ 32), .archRead
      .bar0 (2 ^ 32), .calendarSet .bar0 (2 ^ 32), .nonceReq .bar0 (2 ^ 32), .clearGo .bar0 (2 ^ 32), .evtClrCnt .bar0 (2
      ^ 32), .bar2Access (2 ^ 30) 0 false [] 0 0, .bar2Access 0 0 false [256] 0 0] :
      List Instr).all (fun c => !c.wellFormed)) = true := by decide +kernel

theorem test_ill_formed_6 :
    (([
      .bar2Access 0 0 false [] 3 0, .hostLinkChange 5 0 false false, .hostLinkChange 0 4 false false, .pcieLinkDown 4,
      .smpTake .bar0 (2 ^ 32), .dmaRun .bar0 8 0 [], .dmaRun .bar0 0 (2 ^ 32) [], .dmaRun .bar0 0 0 [256], .dmaAbort .bar0
      8 0, .dmaAbort .bar0 0 (2 ^ 32), .dmaDescriptorDone 8 [] 0 0 0 [], .dmaDescriptorDone 0 [256] 0 0 0 [],
      .dmaDescriptorDone 0 [] 0 3 0 [], .dmaDescriptorDone 0 [] 0 0 0 [256], .memReady 4, .scrubStep 3, .hifClrCnt .bar0
      (2 ^ 32), .usbConfigure 3, .usbRead (2 ^ 16) 0 0 0, .usbRead 0 256 0 0, .usbRead 0 0 (2 ^ 32) 0, .usbRead 0 0 0 (2 ^
      32), .usbWrite (2 ^ 16) 0 0 0 0, .usbWrite 0 256 0 0 0, .usbWrite 0 0 (2 ^ 32) 0 0, .usbWrite 0 0 0 (2 ^ 32) 0,
      .usbWrite 0 0 0 0 (2 ^ 64), .usbMemWrite (2 ^ 16) 0 0 0 [], .usbMemWrite 0 256 0 0 [], .usbMemWrite 0 0 (2 ^ 32) 0
      [], .usbMemWrite 0 0 0 (2 ^ 32) [], .usbMemWrite 0 0 0 0 [256], .usbMemRead (2 ^ 16) 0 0 0 0 0, .usbMemRead 0 256 0
      0 0 0, .usbMemRead 0 0 (2 ^ 32) 0 0 0, .usbMemRead 0 0 0 (2 ^ 32) 0 0, .usbMemRead 0 0 0 0 3 0, .usbEvtRead (2 ^ 16)
      0 0 0, .usbEvtRead 0 256 0 0, .usbEvtRead 0 0 (2 ^ 32) 0, .usbEvtRead 0 0 0 (2 ^ 64), .usbBadOp (2 ^ 16) 0 0,
      .usbBadOp 0 256 0, .usbBadOp 0 0 256, .smpFrame [256], .smpMemRead64 3, .smpClrCnt .bar0 (2 ^ 32), .mbPost .bar0 16
      0, .mbPost .bar0 0 (2 ^ 32), .mbAccept 16, .mbPostTimeout 16, .mbResponse 16 false [], .mbAck .bar0 16 0, .mbAck
      .bar0 0 (2 ^ 32), .mbRelease .bar0 16 0, .mbRelease .bar0 0 (2 ^ 32), .flashRead .bar0 (2 ^ 32), .flashProgram .bar0
      (2 ^ 32), .flashErase .bar0 (2 ^ 32), .otpGo .bar0 (2 ^ 32), .registerRead .bar0 (2 ^ 32) 0] :
      List Instr).all (fun c => !c.wellFormed)) = true := by decide +kernel

theorem test_ill_formed_7 :
    (([
      .spiReadDone 8 0] :
      List Instr).all (fun c => !c.wellFormed)) = true := by decide +kernel

/-! ### States and operands that meet the hypotheses of each statement -/

/-- The value of a register word with field `f` at `v` and the rest 0. -/
def fw (f : Fld) (v : Nat) : Nat := v * 2 ^ f.lo

/-- Flash that holds the octets `l` from address `a` on, and SDRAM likewise. -/
def flashed (a : Nat) (l : List Nat) : Mem := { flash := cellsWrite flashBlank [] a l }
def loaded (a : Nat) (l : List Nat) : Mem := { sdram := cellsWrite sdramBlank [] a l }

/-- The octets followed by their CRC-32C. -/
def sealed (l : List Nat) : List Nat := l ++ toOctets 4 (crc32c l)

/-- A device in *OPERATE* with every domain on, its clocks good, external memory ready, and every block owned by the host. -/
def up : Dev :=
  let d : Dev := { pwr := { good := upTo 82 }, clk := { cold := false }, faultLow := false, mld := { entered := true } }
  (upTo 16).foldl (fun d b => d.wr (ownerFld b) 1)
    (d |>.wr F.CLK_BOOT_STS_CORE_ON 1 |>.wr F.CLK_BOOT_STS_BOOT_STATE 8 |>.wr F.CLK_STS_REF_SEL 0 |>.wr F.CLK_STS_A_STATE 3
      |>.wr F.CLK_STS_SAMP_STATE 2 |>.wr F.CLK_STS_LREF_OK 15 |>.wr F.HIF_MEM_STS_READY 1 |>.wr F.HIF_MEM_STS_SIZE_MB 1792)

/-- A full image with empty sections 1 to 3, and a delta of port scope with an empty section 2: 256 octets each, signed
outside this package with a P-256 key of the test's own over the octets that R56 names. -/
def fullImage : List Nat := toOctets 256 0x2d50794363a09e1ae90faca262ce654b9da3949b49a9b5c7245240905d556bbc963df0902812e9f8aaea7537fa78ac999b34067c4c0e3b28ad560f60d21546d558a8f7092da125dc02e7828385ade3bbc9f0e81df537cc7a918b8aca7a0f52dd4c71fa6dd7b0e7f8d25bd25707ebad24f5d08e11537eba5b2804498c753e1c4700000000000000000000000000000000000000000000000000000080000100030000000000000000000000800001000200000000000000000000008000010001af5198d6000000000000000000000000000000000000000000000000000000000000000000000000000000030000412800000001000001000000000155424e4d
def deltaImage : List Nat := toOctets 256 0xbe451b726ec6f990e340d513ba7216f0fc4b4f254db68efd7957473cacfdeeab963df0902812e9f8aaea7537fa78ac999b34067c4c0e3b28ad560f60d21546d558a8f7092da125dc02e7828385ade3bbc9f0e81df537cc7a918b8aca7a0f52dd4c71fa6dd7b0e7f8d25bd25707ebad24f5d08e11537eba5b2804498c753e1c47000000000000000000000000000000000000000000000000000000000000000000000000000000000000000000000000000000000000000000000080000100027095fa82000000000000000000000000000000000000000000000000000000000001007f00000000000000010000412800000001000001000001000155424e4d

/-- Memories with an image staged at address 0, its signer's key in slot 0. -/
def staged (l : List Nat) : Mem :=
  { loaded 0 l with otp := { key0 := sha256 ((l.drop 128).take 64), done := 1 } }


/-- A learning run that has counted no tile samples is loud where it has energy. -/
theorem silentHeard (l : LearnRun) (t : Nat) (q : l.heard = []) :
    l.loud t = fun h k => decide (0 < tabGet 0 l.energy (28 * h + k) * 2 ^ 40) := by
  funext h k
  simp [LearnRun.loud, q, tabGet, tabFind]

/-- A frame whose blocks went through the scrambler from state 0. -/
def sentAs (l : List LineBlock) : TdlFrame := { line := (scramble false 0 l).1 }

/-- The hypotheses of `StepRunsTheFrontCommand` are met. -/
theorem witness_StepRunsTheFrontCommand :
    (∃ (c : Instr) (rest : List Instr) (s : State), s.pending = c :: rest) ∧
    (∃ (s : State), s.pending = []) :=
  ⟨⟨.ringWrite, [.smpNop], { pending := [.ringWrite, .smpNop] }, by decide +kernel⟩,
    ⟨{ dev := up }, by decide +kernel⟩⟩

/-- The hypotheses of `EveryWellFormedCommandRunsAndKeepsTheQueue` are met. -/
theorem witness_EveryWellFormedCommandRunsAndKeepsTheQueue :
    ∃ (c : Instr), c.wellFormed = true :=
  ⟨.registerRead .bar0 4 4, by decide +kernel⟩

/-- The hypotheses of `EveryStepKeepsTheFormOfTheMemories` are met. -/
theorem witness_EveryStepKeepsTheFormOfTheMemories :
    ∃ (s : State) (t : State), s.Formed ∧ step s = Host.Outcome.next t :=
  ⟨{ dev := up }, _, by decide +kernel, rfl⟩

/-- The hypotheses of `RefusedWritesAreLoggedAndChangeNothing` are met, with the command `pendingGainWrite`: with the compute die off,
and by a master that does not own the block. -/
theorem witness_RefusedWritesAreLoggedAndChangeNothing :
    (∃ (p : Path) (i w v : Nat) (c : Instr) (h : Hit) (s : State),
      (c = .pendingGainWrite p i w ∧ h = hit .TIL_PEND RD.TIL_PEND i ∧ v = w ∧ i < 262144) ∧ s.dev.judge h p v ≠ 0 ∧
      (s.dev.clk.resetLow = true ∨ (h.desc.ao = false ∧ (s.dev.coreOn = false ∨ s.dev.gated = true)))) ∧
    (∃ (p : Path) (i w v : Nat) (c : Instr) (h : Hit) (s : State),
      (c = .pendingGainWrite p i w ∧ h = hit .TIL_PEND RD.TIL_PEND i ∧ v = w ∧ i < 262144) ∧ s.dev.judge h p v ≠ 0 ∧
      s.dev.clk.resetLow = false ∧ (h.desc.ao = true ∨ (s.dev.coreOn = true ∧ s.dev.gated = false)) ∧
      mixedReg h.reg = false ∧ h.desc.lock = true ∧ s.dev.governor h ≠ masterOf p) :=
  ⟨⟨.bar0, 262143, 0, 0, _, _, {}, ⟨rfl, rfl, rfl, by decide⟩, by decide +kernel⟩,
    ⟨.smp, 262143, 0, 0, _, _, { dev := up }, ⟨rfl, rfl, rfl, by decide⟩, by decide +kernel⟩⟩

/-- The hypotheses of `LoaderCommandsStartLoadsAndAct` are met. -/
theorem witness_LoaderCommandsStartLoadsAndAct :
    (∃ (p : Path) (w : Nat) (s : State), s.dev.Admits p (hit Reg.MLD_CTL RD.MLD_CTL) (withBits w 0 4 1) ∧ s.dev.boot = 9 ∧
    s.dev.cmdBusy = false ∧ bitAt w 5 = false) ∧
    (∃ (p : Path) (w : Nat) (s : State), s.dev.Admits p (hit Reg.MLD_CTL RD.MLD_CTL) (withBits w 0 4 1) ∧ s.dev.boot ≠ 9) ∧
    (∃ (p : Path) (w : Nat) (s : State), s.dev.Admits p (hit Reg.MLD_CTL RD.MLD_CTL) (withBits w 0 4 2) ∧ s.dev.boot = 9 ∧
    s.dev.loadBlocked = false) ∧
    (∃ (p : Path) (w : Nat) (s : State), s.dev.Admits p (hit Reg.MLD_CTL RD.MLD_CTL) (withBits w 0 4 4) ∧ 5 ≤ s.dev.boot ∧
    s.dev.boot ≤ 8 ∧ s.dev.loadBlocked = false ∧ s.dev.noTransit = false) ∧
    (∃ (p : Path) (w : Nat) (s : State), s.dev.Admits p (hit Reg.MLD_CTL RD.MLD_CTL) (withBits w 0 4 3) ∧ 5 ≤ s.dev.boot ∧
    s.dev.boot ≠ 10 ∧ s.dev.flag F.HIF_MEM_STS_READY = true ∧ s.dev.cmdBusy = false ∧ (s.mldStored p 3 w).dev.imgCheck
    s.mem.otp CheckFor.slot ((s.mldStored p 3 w).dev.stagedLen 2) none (State.imageOctets 2 (s.mldStored p 3 w)) = none) ∧
    (∃ (p : Path) (w : Nat) (s : State), s.dev.Admits p (hit Reg.MLD_CTL RD.MLD_CTL) (withBits w 0 4 6) ∧ s.dev.boot = 8 ∧
    s.dev.cmdBusy = false ∧ (s.mldStored p 6 w).dev.imgCheck s.mem.otp CheckFor.delta ((s.mldStored p 6 w).dev.stagedLen
    2) none (State.imageOctets 2 (s.mldStored p 6 w)) = none) ∧
    (∃ (p : Path) (w : Nat) (s : State), s.dev.Admits p (hit Reg.MLD_CTL RD.MLD_CTL) (withBits w 0 4 5) ∧ s.dev.boot = 8 ∧
    s.dev.flag F.MLD_STS_TRIAL = true ∧ s.mem.dir.trial = 1 ∧ s.mem.dir.preferred = s.dev.mld.activeSource) ∧
    (∃ (p : Path) (w : Nat) (s : State), s.dev.Admits p (hit Reg.MLD_CTL RD.MLD_CTL) (withBits w 0 4 7) ∧
    s.dev.mld.checking = 6) ∧
    (∃ (p : Path) (w : Nat) (s : State), s.dev.Admits p (hit Reg.MLD_CTL RD.MLD_CTL) (withBits w 0 4 8) ∧ s.dev.boot = 6) ∧
    (∃ (p : Path) (w : Nat) (s : State), s.dev.Admits p (hit Reg.MLD_CTL RD.MLD_CTL) (withBits w 0 4 8) ∧ 2 ≤ s.dev.boot ∧
    s.dev.boot ≤ 5) ∧
    (∃ (p : Path) (cmd : Nat) (w : Nat) (s : State), 9 ≤ cmd ∧ cmd ≤ 15 ∧ s.dev.Admits p (hit Reg.MLD_CTL RD.MLD_CTL)
    (withBits w 0 4 cmd)) :=
  ⟨⟨.bar0, 0, { dev := (up |>.wr F.CLK_BOOT_STS_BOOT_STATE 9) }, by decide +kernel⟩,
    ⟨.bar0, 0, { dev := up }, by decide +kernel⟩,
    ⟨.bar0, 0, { dev := (up |>.wr F.CLK_BOOT_STS_BOOT_STATE 9) }, by decide +kernel⟩,
    ⟨.bar0, 0, { dev := { (up |>.wr F.CLK_BOOT_STS_BOOT_STATE 5) with orbs := [(1, { ticks := 2 })] } },
    by decide +kernel⟩,
    ⟨.bar0, 0,
    { dev := (up |>.wr F.CLK_BOOT_STS_BOOT_STATE 5 |>.wr F.MLD_STAGE_LEN_LENGTH 256), mem := staged fullImage },
    by decide +kernel⟩,
    ⟨.bar0, 0, { dev := (up |>.wr F.MLD_STAGE_LEN_LENGTH 256), mem := staged deltaImage }, by decide +kernel⟩,
    ⟨.bar0, 0,
    { dev := { (up |>.wr F.MLD_STS_TRIAL 1) with mld := { activeSource := 1 } }, mem := flashed 0 (sealed [1, 0, 0, 0, 1, 1, 3, 0]) },
    by decide +kernel⟩,
    ⟨.bar0, 0, { dev := { up with mld := { checking := 6 } } }, by decide +kernel⟩,
    ⟨.bar0, 0, { dev := (up |>.wr F.CLK_BOOT_STS_BOOT_STATE 6) }, by decide +kernel⟩,
    ⟨.bar0, 0, { dev := (up |>.wr F.CLK_BOOT_STS_BOOT_STATE 2) }, by decide +kernel⟩,
    ⟨.bar0, 15, 0, { dev := up }, by decide +kernel⟩⟩

/-- The hypotheses of `BringUpGoesOn` are met. -/
theorem witness_BringUpGoesOn :
    (∃ (s : State), s.dev.boot = 2 ∧ s.dev.coreOn = true ∧ s.dev.refOk = true ∧ s.dev.bringupGoes = true ∧ s.mem.dir.trial
    = 0) ∧
    (∃ (body : ImageBody) (s : State), s.dev.boot = 3 ∧ s.dev.mld.loadAbandoned = false ∧ s.dev.bringupGoes = true ∧
    s.dev.imgCheck s.mem.otp CheckFor.load (s.dev.stagedLen s.dev.mld.source) none (State.imageOctets s.dev.mld.source s)
    = none ∧ s.dev.imgLimits (State.imageOctets s.dev.mld.source s) (imgBody (State.imageOctets s.dev.mld.source s) body)
    = 0) ∧
    (∃ (code : Nat) (sect : Nat) (s : State), s.dev.boot = 3 ∧ s.dev.mld.loadAbandoned = false ∧ s.dev.bringupGoes = true
    ∧ s.dev.mld.fallback = false ∧ s.dev.imgCheck s.mem.otp CheckFor.load (s.dev.stagedLen s.dev.mld.source) none
    (State.imageOctets s.dev.mld.source s) = some (code, sect)) ∧
    (∃ (s : State), s.dev.boot = 4 ∧ s.dev.bringupGoes = true ∧ s.dev.mld.loadAbandoned = false ∧ s.dev.rd
    F.CLK_STS_SAMP_STATE = 2) ∧
    (∃ (s : State), s.dev.boot = 5 ∧ s.dev.bringupGoes = true ∧ s.dev.flag F.CLK_STS_SAFE = false) ∧
    (∃ (s : State), s.dev.boot = 6 ∧ s.dev.bringupGoes = true ∧ s.dev.flag F.CLK_STS_SAFE = false ∧ s.dev.mld.permit =
    true ∧ s.dev.orbitsLocked = true) ∧
    (∃ (s : State), s.dev.boot = 6 ∧ s.dev.mld.permit = false ∧ 122880 * s.dev.mld.body.orbitWaitMs ≤ s.dev.now -
    s.dev.mld.waitAt) ∧
    (∃ (s : State), s.dev.boot = 8 ∧ s.dev.flag F.CLK_STS_SAFE = false ∧ 122880000 * s.dev.mld.body.confirmTime ≤
    s.dev.now - s.dev.mld.stateAt ∧ bitAt s.dev.mld.flags 1 = true) ∧
    (∃ (j : FlashJob) (k : Nat) (l : List Nat) (s : State), s.dev.hif.flashJobs = [j] ∧ s.dev.mld.writing = some (k, l) ∧
    j.slot = true ∧ j.begun = true) :=
  ⟨⟨{ dev := (up |>.wr F.CLK_BOOT_STS_BOOT_STATE 2) }, by decide +kernel⟩,
    ⟨{},
    { dev := { (up |>.wr F.CLK_BOOT_STS_BOOT_STATE 3 |>.wr F.MLD_STAGE_LEN_LENGTH 256) with mld := { source := 2 } }, mem := staged fullImage },
    by decide +kernel⟩,
    ⟨0x11, 0, { dev := { (up |>.wr F.CLK_BOOT_STS_BOOT_STATE 3) with mld := { source := 2 } } }, by decide +kernel⟩,
    ⟨{ dev := (up |>.wr F.CLK_BOOT_STS_BOOT_STATE 4) }, by decide +kernel⟩,
    ⟨{ dev := (up |>.wr F.CLK_BOOT_STS_BOOT_STATE 5) }, by decide +kernel⟩,
    ⟨{ dev := { (up |>.wr F.CLK_BOOT_STS_BOOT_STATE 6) with mld := { permit := true } } }, by decide +kernel⟩,
    ⟨{ dev := { (up |>.wr F.CLK_BOOT_STS_BOOT_STATE 6) with now := 1000000000 } }, by decide +kernel⟩,
    ⟨{ dev := { up with now := 100000000000, mld := { entered := true, flags := 2 } } }, by decide +kernel⟩,
    ⟨{ slot := true, begun := true }, 1, [],
    { dev := { up with mld := { writing := some (1, []) }, hif := { flashJobs := [{ slot := true, begun := true }] } } },
    by decide +kernel⟩⟩

/-- The hypotheses of `MigrationGoesStepByStep` are met. -/
theorem witness_MigrationGoesStepByStep :
    (∃ (m : Nat) (sp : Nat) (s : State), m < 2080 ∧ sp < 36 ∧ tabFind s.dev.mld.migs m = none ∧ s.dev.has m = true ∧
    s.dev.spFailed sp = false ∧ s.dev.spOf m ≠ sp ∧ s.dev.spRoom m sp = true) ∧
    (∃ (m : Nat) (sp : Nat) (g : Mig) (s : State), m < 2080 ∧ sp < 36 ∧ tabFind s.dev.mld.migs m = some g) ∧
    (∃ (m : Nat) (g : Mig) (s : State), m < 2080 ∧ tabFind s.dev.mld.migs m = some g ∧ (g.phase = 1 ∨ g.phase = 7) ∧
    s.dev.domOn (6 + s.dev.rd F.MLD_PLACE_SHADOW_SP m) = true) ∧
    (∃ (m : Nat) (g : Mig) (s : State), m < 2080 ∧ tabFind s.dev.mld.migs m = some g ∧ (g.phase = 2 ∨ g.phase = 8) ∧
    s.dev.shadowTime m ≤ s.dev.now - g.since) ∧
    (∃ (m : Nat) (g : Mig) (s : State), m < 2080 ∧ tabFind s.dev.mld.migs m = some g ∧ g.phase = 3 ∧ 122880 *
    s.dev.mld.body.migWaitMs ≤ s.dev.now - g.since) ∧
    (∃ (m : Nat) (g : Mig) (s : State), m < 2080 ∧ tabFind s.dev.mld.migs m = some g ∧ s.dev.migMay m g.phase = true ∧
    s.dev.classWaits (s.dev.orbitOf m) 4 = false) ∧
    (∃ (m : Nat) (g : Mig) (s : State), m < 2080 ∧ tabFind s.dev.mld.migs m = some g ∧ g.phase = 5) ∧
    (∃ (x : Delta) (s : State), s.dev.mld.delta = some x ∧ x.held = true ∧ s.dev.deltaHeld x = false ∧ s.dev.noTransit =
    false) :=
  ⟨⟨2047, 35, { dev := (({} : Dev) |>.wr F.MLD_PLACE_VALID 1 2047) }, by decide +kernel⟩,
    ⟨2047, 35, { phase := 1 }, { dev := { up with mld := { migs := [(2047, { phase := 1 })] } } }, by decide +kernel⟩,
    ⟨2047, { phase := 1 }, { dev := { up with mld := { migs := [(2047, { phase := 1 })] } } }, by decide +kernel⟩,
    ⟨2047, { phase := 2 },
    { dev := { (up |>.wr F.ORB_STS_STATE 2 0) with now := 1000000000000, mld := { migs := [(2047, { phase := 2 })] } } },
    by decide +kernel⟩,
    ⟨2047, { phase := 3 },
    { dev := { (up |>.wr F.ORB_STS_STATE 2 0) with now := 1000000000000, mld := { migs := [(2047, { phase := 3 })] } } },
    by decide +kernel⟩,
    ⟨2047, { phase := 7 },
    { dev := { (up |>.wr F.ORB_STS_STATE 2 0) with now := 1000000000000, mld := { migs := [(2047, { phase := 7 })] } } },
    by decide +kernel⟩,
    ⟨2047, { phase := 5 }, { dev := { up with mld := { migs := [(2047, { phase := 5 })] } } }, by decide +kernel⟩,
    ⟨{ held := true }, { dev := { up with orbs := [(0, { ticks := 2 })], mld := { delta := some { held := true } } } },
    by decide +kernel⟩⟩

/-- The hypotheses of `MeasurementsLockAndTrackAnOrbit` are met. -/
theorem witness_MeasurementsLockAndTrackAnOrbit :
    (∃ (i : Nat) (l : List SyncCell) (c : SyncCell) (e : Int) (s : State), i < 2 ∧ s.dev.orbState i = 2 ∧ s.dev.orbSrc i =
    1 ∧ s.dev.donorLinkUp (s.dev.rd F.ORB_CTL_SRC_SLICE i) = true ∧ s.dev.cellOf i l = some c ∧ e = wrapErr (16 *
    s.dev.rdS F.ORB_REF_OFS_OFFSET i - cellBoundary true c) ∧ absI e ≤ 16 * (↑(min (s.dev.lockWin i) (s.dev.slewMax i)) :
    Int)) ∧
    (∃ (i : Nat) (l : List SyncCell) (c : SyncCell) (e : Int) (s : State), i < 2 ∧ s.dev.orbState i = 2 ∧ s.dev.orbSrc i =
    1 ∧ s.dev.donorLinkUp (s.dev.rd F.ORB_CTL_SRC_SLICE i) = true ∧ s.dev.cellOf i l = some c ∧ e = wrapErr (16 *
    s.dev.rdS F.ORB_REF_OFS_OFFSET i - cellBoundary true c) ∧ 16 * (↑(min (s.dev.lockWin i) (s.dev.slewMax i)) : Int) <
    absI e ∧ (s.dev.orb i).outside ≠ 2) ∧
    (∃ (i : Nat) (l : List SyncCell) (c : SyncCell) (e : Int) (s : State), i < 2 ∧ s.dev.orbState i = 2 ∧ s.dev.orbSrc i =
    1 ∧ s.dev.donorLinkUp (s.dev.rd F.ORB_CTL_SRC_SLICE i) = true ∧ s.dev.cellOf i l = some c ∧ e = wrapErr (16 *
    s.dev.rdS F.ORB_REF_OFS_OFFSET i - cellBoundary true c) ∧ 16 * (↑(min (s.dev.lockWin i) (s.dev.slewMax i)) : Int) <
    absI e ∧ (s.dev.orb i).outside = 2) ∧
    (∃ (i : Nat) (l : List SyncCell) (c : SyncCell) (e : Int) (f : Int) (run : List (Nat × Int)) (s : State), i < 2 ∧
    s.dev.orbState i = 1 ∧ (s.dev.orbSrc i = 1 ∨ s.dev.orbSrc i = 2) ∧ s.dev.donorLinkUp (s.dev.rd F.ORB_CTL_SRC_SLICE i)
    = true ∧ s.dev.cellOf i l = some c ∧ e = wrapErr (16 * s.dev.rdS F.ORB_REF_OFS_OFFSET i - cellBoundary (s.dev.orbSrc i
    == 1) c) ∧ run = lastOf (s.dev.lockCount i) ((s.dev.orb i).hist ++ [(s.dev.now, wrapErr (16 * ((↑(s.dev.orbPos i) :
    Int) - (↑s.dev.now : Int)) + e))]) ∧ run.length = s.dev.lockCount i ∧ fitAgrees (fitPoints run) (16 * s.dev.lockWin i)
    = true ∧ fitFreq (fitPoints run) = some f ∧ -freqLimit ≤ f ∧ f ≤ freqLimit) ∧
    (∃ (i : Nat) (s : State), i < 2 ∧ s.dev.measLate i = false) ∧
    (∃ (i : Nat) (s : State), i < 2 ∧ s.dev.orbSrc i ≠ 0 ∧ s.dev.measLate i = true ∧ s.dev.orbState i = 2) ∧
    (∃ (i : Nat) (s : State), i < 2 ∧ s.dev.orbSrc i ≠ 0 ∧ s.dev.measLate i = true ∧ (s.dev.orbState i = 1 ∨
    s.dev.orbState i = 4)) ∧
    (∃ (i : Nat) (falling : Bool) (s : State) (a : Nat), i < 2 ∧ ((firstBelow 2 fun j => (s.dev.orb j).pin) = some i) ∧
    falling = s.dev.flag F.ORB_SYNC_CFG_POLARITY ∧ (s.dev.orb i).pinAt = some a ∧ 2 * (s.dev.now - a) < s.dev.measInterval
    i) ∧
    (∃ (i : Nat) (falling : Bool) (s : State), i < 2 ∧ ((firstBelow 2 fun j => (s.dev.orb j).pin) = some i) ∧ falling =
    s.dev.flag F.ORB_SYNC_CFG_POLARITY ∧ (∀ (a : Nat), (s.dev.orb i).pinAt = some a → s.dev.measInterval i ≤ 2 *
    (s.dev.now - a)) ∧ s.dev.orbState i = 2 ∧ s.dev.orbSrc i = 3 ∧ absI (wrapErr (16 * s.dev.rdS F.ORB_REF_OFS_OFFSET i -
    (↑(16 * ((s.dev.orb i).pos % 1228800)) : Int))) ≤ 16 * (↑(min (s.dev.lockWin i) (s.dev.slewMax i)) : Int)) :=
  ⟨⟨1, [{ pci := 503, time := 16 * (Config.ssbStart 15 4 0 : Nat) }],
    { pci := 503, time := 16 * (Config.ssbStart 15 4 0 : Nat) }, 0,
    { dev := (up |>.wr F.ORB_STS_STATE 2 1 |>.wr F.ORB_CTL_SRC 1 1 |>.wr F.ORB_CELL_PCI 503 1) },
    by decide +kernel, by decide +kernel, by decide +kernel, by decide +kernel, rfl, (by rw [show cellBoundary true { pci := 503, time := 16 * (Config.ssbStart 15 4 0 : Nat) } = 0 from by simp [cellBoundary, b2n] <;> omega]; decide +kernel), by decide +kernel⟩,
    ⟨1, [{ pci := 503, time := 16 * (Config.ssbStart 15 4 0 : Nat) + 1600000 }],
    { pci := 503, time := 16 * (Config.ssbStart 15 4 0 : Nat) + 1600000 }, -1600000,
    { dev := (up |>.wr F.ORB_STS_STATE 2 1 |>.wr F.ORB_CTL_SRC 1 1 |>.wr F.ORB_CELL_PCI 503 1) },
    by decide +kernel, by decide +kernel, by decide +kernel, by decide +kernel, rfl, (by rw [show cellBoundary true { pci := 503, time := 16 * (Config.ssbStart 15 4 0 : Nat) + 1600000 } = 1600000 from by simp [cellBoundary, b2n] <;> omega]; decide +kernel), by decide +kernel, by decide +kernel⟩,
    ⟨1, [{ pci := 503, time := 16 * (Config.ssbStart 15 4 0 : Nat) + 1600000 }],
    { pci := 503, time := 16 * (Config.ssbStart 15 4 0 : Nat) + 1600000 }, -1600000,
    { dev := { (up |>.wr F.ORB_STS_STATE 2 1 |>.wr F.ORB_CTL_SRC 1 1 |>.wr F.ORB_CELL_PCI 503 1) with orbs := [(1, { outside := 2 })] } },
    by decide +kernel, by decide +kernel, by decide +kernel, by decide +kernel, rfl, (by rw [show cellBoundary true { pci := 503, time := 16 * (Config.ssbStart 15 4 0 : Nat) + 1600000 } = 1600000 from by simp [cellBoundary, b2n] <;> omega]; decide +kernel), by decide +kernel, by decide +kernel⟩,
    ⟨1, [{ pci := 503 }], { pci := 503 }, 0, 0, [(0, 0), (1228800, 0)],
    { dev := { (up |>.wr F.ORB_STS_STATE 1 1 |>.wr F.ORB_CTL_SRC 2 1 |>.wr F.ORB_CELL_PCI 503 1 |>.wr F.ORB_LOCK_CFG_LOCK_COUNT 2 1) with now := 1228800, orbs := [(1, { pos := 1228800, hist := [(0, 0)] })] } },
    by decide +kernel⟩,
    ⟨1, { dev := (up |>.wr F.ORB_STS_STATE 2 1 |>.wr F.ORB_CTL_SRC 1 1 |>.wr F.ORB_CELL_PCI 503 1) }, by decide +kernel⟩,
    ⟨1, { dev := { (up |>.wr F.ORB_STS_STATE 2 1 |>.wr F.ORB_CTL_SRC 1 1) with now := 10000000000 } }, by decide +kernel⟩,
    ⟨1, { dev := { (up |>.wr F.ORB_STS_STATE 4 1 |>.wr F.ORB_CTL_SRC 1 1) with now := 10000000000 } }, by decide +kernel⟩,
    ⟨1, false, { dev := { up with orbs := [(1, { pin := true, pinAt := some 0 })] } }, 0, by decide +kernel⟩,
    ⟨1, false, { dev := { (up |>.wr F.ORB_STS_STATE 2 1 |>.wr F.ORB_CTL_SRC 3 1) with orbs := [(1, { pin := true })] } },
    by decide +kernel, by decide +kernel, by decide +kernel, (by intro a h; cases h), by decide +kernel⟩⟩

/-- The hypotheses of `OrbitsAreControlledAndLost` are met. -/
theorem witness_OrbitsAreControlledAndLost :
    (∃ (i : Nat) (s : State), i < 2 ∧ s.dev.orbState i = 3 ∧ 1228800 * max 1 (s.dev.rd F.ORB_HOLD_CFG_HOLD_LIMIT i) ≤
    s.dev.now - (s.dev.orb i).holdAt) ∧
    (∃ (i : Nat) (s : State), i < 2 ∧ s.dev.orbState i = 3 ∧ 16 * 10 ^ 9 * s.dev.rd F.ORB_HOLD_CFG_UNC_LIMIT i <
    (s.dev.orb i).holdU0 * 10 ^ 9 + 16 * s.dev.rd F.ORB_HOLD_CFG_DRIFT_PPB i * (s.dev.now - (s.dev.orb i).holdAt)) ∧
    (∃ (i : Nat) (pos : Nat) (s : State), i < 2 ∧ (s.dev.orb i).muteEnd = some pos ∧ s.dev.reached i pos = true) ∧
    (∃ (p : Path) (i : Nat) (w : Nat) (s : State), i < 2 ∧ s.dev.Admits p (hit Reg.ORB_CTL RD.ORB_CTL i) w ∧
    F.ORB_CTL_REACQUIRE.of w = 0 ∧ F.ORB_CTL_CLR_CNT.of w = 0 ∧ s.dev.rd F.ORB_CTL_EN i = 0 ∧ s.dev.orbState i = 0 ∧
    F.ORB_CTL_EN.of w = 1 ∧ F.ORB_CTL_SRC.of w < 5) ∧
    (∃ (p : Path) (i : Nat) (w : Nat) (s : State), i < 2 ∧ s.dev.Admits p (hit Reg.ORB_CTL RD.ORB_CTL i) w ∧
    F.ORB_CTL_REACQUIRE.of w = 0 ∧ F.ORB_CTL_CLR_CNT.of w = 0 ∧ s.dev.rd F.ORB_CTL_EN i = 1 ∧ F.ORB_CTL_EN.of w = 0 ∧
    s.dev.orbState i ≠ 0 ∧ (F.ORB_CTL_SRC.of w ≠ 0 ∨ s.dev.orbSrc i = 0 ∨ s.dev.tddOn i = [])) ∧
    (∃ (p : Path) (i : Nat) (w : Nat) (s : State), i < 2 ∧ s.dev.Admits p (hit Reg.ORB_CTL RD.ORB_CTL i) w ∧
    F.ORB_CTL_REACQUIRE.of w = 0 ∧ F.ORB_CTL_CLR_CNT.of w = 0 ∧ s.dev.rd F.ORB_CTL_EN i = 1 ∧ F.ORB_CTL_SRC.of w = 0 ∧
    s.dev.orbSrc i ≠ 0 ∧ s.dev.tddOn i ≠ []) ∧
    (∃ (p : Path) (i : Nat) (w : Nat) (s : State), i < 2 ∧ s.dev.Admits p (hit Reg.ORB_CTL RD.ORB_CTL i) (withBits w 8 1
    1) ∧ F.ORB_CTL_CLR_CNT.of (withBits w 8 1 1) = 0 ∧ s.dev.rd F.ORB_CTL_EN i = 1 ∧ F.ORB_CTL_EN.of (withBits w 8 1 1) =
    1 ∧ F.ORB_CTL_SRC.of (withBits w 8 1 1) = s.dev.orbSrc i ∧ s.dev.orbSrc i ≠ 0 ∧ F.ORB_CTL_SRC_SLICE.of (withBits w 8 1
    1) = s.dev.rd F.ORB_CTL_SRC_SLICE i ∧ s.dev.orbSrc i < 5 ∧ (s.dev.orbSrc i < 3 ∨ (s.dev.orb i).pin = true) ∧
    (s.dev.orbState i = 2 ∨ s.dev.orbState i = 3)) ∧
    (∃ (p : Path) (i : Nat) (w : Nat) (s : State), i < 2 ∧ s.dev.Admits p (hit Reg.ORB_CTL RD.ORB_CTL i) (withBits w 8 1
    1) ∧ F.ORB_CTL_CLR_CNT.of (withBits w 8 1 1) = 0 ∧ s.dev.rd F.ORB_CTL_EN i = 1 ∧ F.ORB_CTL_EN.of (withBits w 8 1 1) =
    1 ∧ F.ORB_CTL_SRC.of (withBits w 8 1 1) = s.dev.orbSrc i ∧ s.dev.orbSrc i ≠ 0 ∧ F.ORB_CTL_SRC_SLICE.of (withBits w 8 1
    1) = s.dev.rd F.ORB_CTL_SRC_SLICE i ∧ s.dev.orbSrc i < 5 ∧ (s.dev.orbSrc i < 3 ∨ (s.dev.orb i).pin = true) ∧
    (s.dev.orbState i = 1 ∨ s.dev.orbState i = 4)) ∧
    (∃ (p : Path) (i : Nat) (w : Nat) (s : State), i < 2 ∧ s.dev.Admits p (hit Reg.ORB_CTL RD.ORB_CTL i) (withBits w 9 1
    1) ∧ (F.ORB_CTL_SRC.of (withBits w 9 1 1) ≠ 0 ∨ s.dev.orbSrc i = 0)) :=
  ⟨⟨1, { dev := { (up |>.wr F.ORB_STS_STATE 3 1 |>.wr F.ORB_HOLD_CFG_HOLD_LIMIT 1 1) with now := 1228800 } },
    by decide +kernel⟩,
    ⟨1,
    { dev := { (up |>.wr F.ORB_STS_STATE 3 1 |>.wr F.ORB_HOLD_CFG_UNC_LIMIT 0 1) with orbs := [(1, { holdU0 := 1 })] } },
    by decide +kernel⟩,
    ⟨1, 0, { dev := { up with orbs := [(1, { muteEnd := some 0 })] } }, by decide +kernel⟩,
    ⟨.bar0, 1, fw F.ORB_CTL_EN 1 + fw F.ORB_CTL_SRC 4, { dev := up }, by decide +kernel⟩,
    ⟨.bar0, 1, 0, { dev := (up |>.wr F.ORB_CTL_EN 1 1 |>.wr F.ORB_STS_STATE 2 1) }, by decide +kernel⟩,
    ⟨.bar0, 1, fw F.ORB_CTL_EN 1,
    { dev := { (up |>.wr F.ORB_CTL_EN 1 1 |>.wr F.ORB_CTL_SRC 1 1) with mld := { plan := { donors := [(15, { orbit := 1, tdd := true })] } } } },
    by decide +kernel⟩,
    ⟨.bar0, 1, fw F.ORB_CTL_EN 1 + fw F.ORB_CTL_SRC 1,
    { dev := (up |>.wr F.ORB_CTL_EN 1 1 |>.wr F.ORB_CTL_SRC 1 1 |>.wr F.ORB_STS_STATE 2 1) }, by decide +kernel⟩,
    ⟨.bar0, 1, fw F.ORB_CTL_EN 1 + fw F.ORB_CTL_SRC 1,
    { dev := (up |>.wr F.ORB_CTL_EN 1 1 |>.wr F.ORB_CTL_SRC 1 1 |>.wr F.ORB_STS_STATE 4 1) }, by decide +kernel⟩,
    ⟨.bar0, 1, 0, { dev := up }, by decide +kernel⟩⟩

/-- The hypotheses of `PatternIsLearnedAndFollowed` are met. -/
theorem witness_PatternIsLearnedAndFollowed :
    (∃ (p : Path) (i : Nat) (w : Nat) (s : State), i < 2 ∧ s.dev.Admits p (hit Reg.ORB_TDD_CTL RD.ORB_TDD_CTL i) (withBits
    w 9 1 1) ∧ s.dev.rd F.ORB_TDD_CTL_LEARN_STS i ≠ 1) ∧
    (∃ (i : Nat) (s : State), i < 2 ∧ (s.dev.rd F.ORB_TDD_CTL_LEARN_STS i ≠ 1 ∨ s.dev.now - (s.dev.orb i).learning.since <
    max 1 (s.dev.rd F.ORB_TDD_CTL_LEARN_FRAMES i) * 1228800)) ∧
    (∃ (i : Nat) (lo : Nat) (hi : Nat) (l : LearnRun) (s : State), i < 2 ∧ s.dev.rd F.ORB_TDD_CTL_LEARN_STS i = 1 ∧ l =
    (s.dev.orb i).learning ∧ max 1 (s.dev.rd F.ORB_TDD_CTL_LEARN_FRAMES i) * 1228800 ≤ s.dev.now - l.since ∧ lo = (l.start
    % 2457600 + 61439) / 61440 ∧ hi = (l.start % 2457600 + max 1 (s.dev.rd F.ORB_TDD_CTL_LEARN_FRAMES i) * 1228800) /
    61440 ∧ learnResult (s.dev.rd F.ORB_SLICE_CFG_SCS l.slice) (s.dev.rd F.ORB_TDD_CTL_LEARN_GUARD i) (l.loud (max 1
    (s.dev.rd F.ORB_TDD_CTL_LEARN_THR i))) lo hi = none) ∧
    (∃ (i : Nat) (lo : Nat) (hi : Nat) (r : Nat × List (Nat × Nat)) (l : LearnRun) (s : State), i < 2 ∧ s.dev.rd
    F.ORB_TDD_CTL_LEARN_STS i = 1 ∧ l = (s.dev.orb i).learning ∧ max 1 (s.dev.rd F.ORB_TDD_CTL_LEARN_FRAMES i) * 1228800 ≤
    s.dev.now - l.since ∧ lo = (l.start % 2457600 + 61439) / 61440 ∧ hi = (l.start % 2457600 + max 1 (s.dev.rd
    F.ORB_TDD_CTL_LEARN_FRAMES i) * 1228800) / 61440 ∧ learnResult (s.dev.rd F.ORB_SLICE_CFG_SCS l.slice) (s.dev.rd
    F.ORB_TDD_CTL_LEARN_GUARD i) (l.loud (max 1 (s.dev.rd F.ORB_TDD_CTL_LEARN_THR i))) lo hi = some r) ∧
    (∃ (i : Nat) (q : Nat) (s : State), i < 2 ∧ (s.dev.orb i).adopt = some q ∧ s.dev.reached i q = true ∧ s.dev.orbState i
    = 0) ∧
    (∃ (i : Nat) (q : Nat) (s : State), i < 2 ∧ (s.dev.orb i).adopt = some q ∧ s.dev.reached i q = true ∧ s.dev.orbState i
    ≠ 0 ∧ (s.dev.orb i).slotAt ≠ (s.dev.orb i).pos) ∧
    (∃ (i : Nat) (s : State), i < 2 ∧ (s.dev.orbState i = 2 ∨ s.dev.orbState i = 3) ∧ s.dev.classWaits i 2 = false) :=
  ⟨⟨.bar0, 1, 0, { dev := up }, by decide +kernel⟩,
    ⟨1, { dev := (up |>.wr F.ORB_TDD_CTL_LEARN_STS 1 1) }, by decide +kernel⟩,
    ⟨1, 0, 20, { energy := (upTo 17).map (fun h => (28 * h, 1)) },
    { dev := { (up |>.wr F.ORB_TDD_CTL_LEARN_STS 1 1 |>.wr F.ORB_TDD_CTL_LEARN_FRAMES 1 1) with now := 1228800, orbs := [(1, { learning := { energy := (upTo 17).map (fun h => (28 * h, 1)) } })] } },
    by decide +kernel, by decide +kernel, rfl, by decide +kernel, by decide +kernel, by decide +kernel, by
        rw [silentHeard _ _ rfl]; decide +kernel⟩,
    ⟨1, 0, 20, (61440, [(1, 0)]), {},
    { dev := { (up |>.wr F.ORB_TDD_CTL_LEARN_STS 1 1 |>.wr F.ORB_TDD_CTL_LEARN_FRAMES 1 1) with now := 1228800, orbs := [(1, { learning := {} })] } },
    by decide +kernel, by decide +kernel, rfl, by decide +kernel, by decide +kernel, by decide +kernel, by
        rw [silentHeard _ _ rfl]; decide +kernel⟩,
    ⟨1, 0, { dev := { up with orbs := [(1, { adopt := some 0 })] } }, by decide +kernel⟩,
    ⟨1, 0, { dev := { (up |>.wr F.ORB_STS_STATE 2 1) with orbs := [(1, { adopt := some 0, slotAt := 1 })] } },
    by decide +kernel⟩,
    ⟨1, { dev := (up |>.wr F.ORB_STS_STATE 3 1) }, by decide +kernel⟩⟩

/-- The hypotheses of `TransitEntriesAreArmedMissedOrInConflict` are met. -/
theorem witness_TransitEntriesAreArmedMissedOrInConflict :
    (∃ (p : Path) (i : Nat) (n : Nat) (w : Nat) (s : State), i < 2 ∧ n < 192 ∧ s.dev.Admits p (hit Reg.TRN_ENT0
    RD.TRN_ENT0 i n) w ∧ F.TRN_ENT0_SAMPLE.of w < 1228800 ∧ (F.TRN_ENT0_ACTION.of w = 5 → F.TRN_ENT0_SAMPLE.of w = 0) ∧
    F.TRN_ENT0_EN.of w = 0) ∧
    (∃ (p : Path) (i : Nat) (n : Nat) (w : Nat) (s : State) (v : Nat) (base : Nat), i < 2 ∧ n < 192 ∧ s.dev.Admits p (hit
    Reg.TRN_ENT0 RD.TRN_ENT0 i n) w ∧ F.TRN_ENT0_SAMPLE.of w < 1228800 ∧ (F.TRN_ENT0_ACTION.of w = 5 →
    F.TRN_ENT0_SAMPLE.of w = 0) ∧ F.TRN_ENT0_EN.of w = 1 ∧ tabFind (s.dev.orb i).stage (4 * n + 1) = some v ∧ base =
    F.TRN_ENT1_FRAME.of v * 1228800 + F.TRN_ENT0_SAMPLE.of w ∧ inFuture (s.dev.orbPos i) base = true) ∧
    (∃ (p : Path) (i : Nat) (n : Nat) (w : Nat) (s : State) (v : Nat) (base : Nat), i < 2 ∧ n < 192 ∧ s.dev.Admits p (hit
    Reg.TRN_ENT0 RD.TRN_ENT0 i n) w ∧ F.TRN_ENT0_SAMPLE.of w < 1228800 ∧ (F.TRN_ENT0_ACTION.of w = 5 →
    F.TRN_ENT0_SAMPLE.of w = 0) ∧ F.TRN_ENT0_EN.of w = 1 ∧ tabFind (s.dev.orb i).stage (4 * n + 1) = some v ∧ base =
    F.TRN_ENT1_FRAME.of v * 1228800 + F.TRN_ENT0_SAMPLE.of w ∧ inFuture (s.dev.orbPos i) base = false ∧
    F.TRN_ENT1_PERIOD.of v = 0) ∧
    (∃ (p : Path) (i : Nat) (n : Nat) (w : Nat) (s : State), i < 2 ∧ n < 192 ∧ s.dev.Admits p (hit Reg.TRN_ENT0
    RD.TRN_ENT0 i n) w ∧ (1228800 ≤ F.TRN_ENT0_SAMPLE.of w ∨ F.TRN_ENT0_ACTION.of w = 5 ∧ F.TRN_ENT0_SAMPLE.of w ≠ 0)) ∧
    (∃ (p : Path) (i : Nat) (n : Nat) (w : Nat) (s : State), i < 2 ∧ 192 ≤ n ∧ n < 256 ∧ s.dev.Admits p (hit Reg.TRN_ENT0
    RD.TRN_ENT0 i n) w) ∧
    (∃ (p : Path) (i : Nat) (w : Nat) (s : State), i < 2 ∧ s.dev.Admits p (hit Reg.TRN_CTL RD.TRN_CTL i) (withBits w 1 1
    1)) ∧
    (∃ (i : Nat) (n : Nat) (q : TrnDue) (s : State), i < 2 ∧ n < 192 ∧ tabFind (s.dev.orb i).due n = some q ∧ s.dev.rd
    F.TRN_ENT0_ACTION i n = 6 ∧ s.dev.trnDue i n q = true ∧ s.dev.rd F.TRN_ENT1_PERIOD i n = 0 ∧ (s.dev.orbState i = 0 ∨
    s.dev.rd F.TRN_CTL_EN i = 0)) ∧
    (∃ (i : Nat) (n : Nat) (q : TrnDue) (s : State), i < 2 ∧ n < 192 ∧ tabFind (s.dev.orb i).due n = some q ∧ q.moved =
    none ∧ s.dev.rd F.TRN_ENT0_ACTION i n = 5 ∧ s.dev.trnDue i n q = true ∧ s.dev.rd F.TRN_ENT1_PERIOD i n = 0 ∧
    s.dev.orbState i ≠ 0 ∧ s.dev.rd F.TRN_CTL_EN i = 1 ∧ s.dev.trnFirst i n q = true ∧ s.dev.internalDue i 1 = false ∧
    (s.dev.orb i).slotAt = (s.dev.orb i).pos ∧ (5, 0) ∈ (s.dev.orb i).slotDone) ∧
    (∃ (i : Nat) (n : Nat) (q : TrnDue) (s : State), i < 2 ∧ n < 192 ∧ tabFind (s.dev.orb i).due n = some q ∧ s.dev.rd
    F.TRN_ENT0_ACTION i n = 6 ∧ s.dev.trnDue i n q = true ∧ s.dev.orbState i ≠ 0 ∧ s.dev.rd F.TRN_CTL_EN i = 1 ∧
    s.dev.trnFirst i n q = true ∧ s.dev.internalDue i 8 = false ∧ (s.dev.orb i).slotAt = (s.dev.orb i).pos ∧ 4 ≤
    (s.dev.orb i).slotCount) :=
  ⟨⟨.bar0, 1, 191, fw F.TRN_ENT0_SAMPLE 1228799, { dev := up }, by decide +kernel⟩,
    ⟨.bar0, 1, 191, fw F.TRN_ENT0_EN 1 + fw F.TRN_ENT0_SAMPLE 256,
    { dev := { up with orbs := [(1, { stage := [(765, 0)] })] } }, 0, 256, by decide +kernel⟩,
    ⟨.bar0, 1, 191, fw F.TRN_ENT0_EN 1 + fw F.TRN_ENT0_SAMPLE 256,
    { dev := { up with orbs := [(1, { pos := 1000, stage := [(765, 0)] })] } }, 0, 256, by decide +kernel⟩,
    ⟨.bar0, 1, 191, fw F.TRN_ENT0_SAMPLE 1228800, { dev := up }, by decide +kernel⟩,
    ⟨.bar0, 1, 255, 0, { dev := up }, by decide +kernel⟩,
    ⟨.bar0, 1, 0, { dev := up }, by decide +kernel⟩,
    ⟨1, 191, {}, { dev := { (up |>.wr F.TRN_ENT0_ACTION 6 1 191) with orbs := [(1, { due := [(191, {})] })] } },
    by decide +kernel⟩,
    ⟨1, 191, {},
    { dev := { (up |>.wr F.TRN_ENT0_ACTION 5 1 191 |>.wr F.ORB_STS_STATE 2 1 |>.wr F.TRN_CTL_EN 1 1) with orbs := [(1, { due := [(191, {})], slotDone := [(5, 0)] })] } },
    by decide +kernel⟩,
    ⟨1, 191, {},
    { dev := { (up |>.wr F.TRN_ENT0_ACTION 6 1 191 |>.wr F.ORB_STS_STATE 2 1 |>.wr F.TRN_CTL_EN 1 1) with orbs := [(1, { due := [(191, {})], slotCount := 4 })] } },
    by decide +kernel⟩⟩

/-- The hypotheses of `DueTransitActs` are met. -/
theorem witness_DueTransitActs :
    (∃ (i : Nat) (n : Nat) (q : TrnDue) (s : State), i < 2 ∧ n < 192 ∧ tabFind (s.dev.orb i).due n = some q ∧ s.dev.trnDue
    i n q = true ∧ (s.dev.rd F.TRN_ENT0_ACTION i n = 0 ∨ 8 ≤ s.dev.rd F.TRN_ENT0_ACTION i n) ∧ s.dev.rd F.TRN_ENT1_PERIOD
    i n = 0) ∧
    (∃ (i : Nat) (n : Nat) (m : Nat) (q : TrnDue) (s : State), s.dev.Serves i n 1 q ∧ s.dev.rd F.TRN_ENT1_PERIOD i n = 0 ∧
    s.dev.rd F.TRN_ENT2_TARGET i n % 4096 = m ∧ m < 2048 ∧ s.dev.has m = true ∧ s.dev.orbitOf m = i ∧ s.dev.rd
    F.TIL_STREAM_FADING m = 0 ∧ (s.dev.orb i).due = [(n, q)] ∧ ((s.dev.orb i).slotAt = (s.dev.orb i).pos → (1, m) ∉
    (s.dev.orb i).slotDone)) ∧
    (∃ (i : Nat) (n : Nat) (t' : Nat) (k : Nat) (q : TrnDue) (s : State), s.dev.Serves i n 2 q ∧ s.dev.rd
    F.TRN_ENT1_PERIOD i n = 0 ∧ t' = s.dev.rd F.TRN_ENT2_TARGET i n % 4096 ∧ k = s.dev.rd F.TRN_ENT3_ARG i n % 16 ∧ t' < 8
    ∧ s.dev.coreOn = true ∧ listAt (s.dev.slotBody t' k) 0 = 0) ∧
    (∃ (i : Nat) (n : Nat) (t' : Nat) (k : Nat) (q : TrnDue) (s : State), s.dev.Serves i n 2 q ∧ s.dev.rd
    F.TRN_ENT1_PERIOD i n = 0 ∧ t' = s.dev.rd F.TRN_ENT2_TARGET i n % 4096 ∧ k = s.dev.rd F.TRN_ENT3_ARG i n % 16 ∧ 8 ≤ t'
    ∧ t' < 520 ∧ s.dev.portActive ((t' - 8) / 4) = true) ∧
    (∃ (i : Nat) (n : Nat) (q : TrnDue) (s : State), s.dev.Serves i n 5 q ∧ s.dev.rd F.TRN_ENT1_PERIOD i n = 0) ∧
    (∃ (i : Nat) (n : Nat) (q : TrnDue) (s : State), s.dev.Serves i n 6 q ∧ s.dev.rd F.TRN_ENT1_PERIOD i n = 0 ∧
    s.dev.clk.resetLow = false ∧ s.dev.rd F.EVT_CODE_BURST 65 = 0 ∧ s.dev.er.lostCount = 0 ∧ s.dev.er.supDue = [] ∧
    s.dev.er.queue.length < 64) ∧
    (∃ (i : Nat) (n : Nat) (v : Nat) (q : TrnDue) (s : State), s.dev.Serves i n 7 q ∧ s.dev.rd F.TRN_ENT1_PERIOD i n = 0 ∧
    v = s.dev.rd F.TRN_ENT3_ARG i n % 64 ∧ s.dev.rd F.HIF_LINK_STS_PCIE_UP = 1 ∧ s.dev.rd F.HIF_MSIX_CTRL_MASK v = 0) ∧
    (∃ (i : Nat) (n : Nat) (k : Nat) (q : TrnDue) (s : State), s.dev.Serves i n 3 q ∧ s.dev.rd F.TRN_ENT1_PERIOD i n = 0 ∧
    k < 4 ∧ s.dev.rd F.TRN_ENT2_TARGET i n % 16 = 2 ^ k ∧ bitAt (s.dev.rd F.HK_CFG_INJ_TRIG k) 0 = true ∧ s.dev.injEntries
    k ≠ [] ∧ (s.dev.conv k).inj = none ∧ (s.dev.conv k).injAt ≠ some s.dev.hkCycle) ∧
    (∃ (i : Nat) (n : Nat) (c : Nat) (q : TrnDue) (s : State), s.dev.Serves i n 4 q ∧ s.dev.rd F.TRN_ENT1_PERIOD i n = 0 ∧
    c = s.dev.rd F.TRN_ENT3_ARG i n % 16 ∧ s.dev.rd F.BGV_STS_DEFER = 0 ∧ s.dev.rd F.MEA_CAP3_BUSY c = 0 ∧ s.dev.hasTap
    (s.dev.rd F.MEA_CAP0_STREAM c) (s.dev.rd F.MEA_CAP0_TAP c) = true ∧ s.dev.rd F.MEA_CAP0_FIRST_TILE c ≤ s.dev.rd
    F.MEA_CAP0_LAST_TILE c) :=
  ⟨⟨1, 191, {}, { dev := { up with orbs := [(1, { due := [(191, {})] })] } }, by decide +kernel⟩,
    ⟨1, 191, 2047, {},
    { dev := { (up |>.wr F.TRN_ENT0_ACTION 1 1 191 |>.wr F.ORB_STS_STATE 2 1 |>.wr F.TRN_CTL_EN 1 1 |>.wr F.TRN_ENT2_TARGET 2047 1 191 |>.wr F.MLD_PLACE_VALID 1 2047) with orbs := [(1, { due := [(191, {})] })], mld := { plan := { donors := [(0, { orbit := 1 })] } } } },
    by decide +kernel⟩,
    ⟨1, 191, 7, 15, {},
    { dev := { (up |>.wr F.TRN_ENT0_ACTION 2 1 191 |>.wr F.ORB_STS_STATE 2 1 |>.wr F.TRN_CTL_EN 1 1 |>.wr F.TRN_ENT2_TARGET 7 1 191 |>.wr F.TRN_ENT3_ARG 15 1 191) with orbs := [(1, { due := [(191, {})] })] } },
    by decide +kernel⟩,
    ⟨1, 191, 519, 15, {},
    { dev := { (up |>.wr F.TRN_ENT0_ACTION 2 1 191 |>.wr F.ORB_STS_STATE 2 1 |>.wr F.TRN_CTL_EN 1 1 |>.wr F.TRN_ENT2_TARGET 519 1 191 |>.wr F.TRN_ENT3_ARG 15 1 191 |>.wr F.LNK_STS_PORT_STATE 5 127) with orbs := [(1, { due := [(191, {})] })] } },
    by decide +kernel⟩,
    ⟨1, 191, {},
    { dev := { (up |>.wr F.TRN_ENT0_ACTION 5 1 191 |>.wr F.ORB_STS_STATE 2 1 |>.wr F.TRN_CTL_EN 1 1) with orbs := [(1, { due := [(191, {})] })] } },
    by decide +kernel⟩,
    ⟨1, 191, {},
    { dev := { (up |>.wr F.TRN_ENT0_ACTION 6 1 191 |>.wr F.ORB_STS_STATE 2 1 |>.wr F.TRN_CTL_EN 1 1 |>.wr F.EVT_CODE_BURST 0 65) with orbs := [(1, { due := [(191, {})] })] } },
    by decide +kernel⟩,
    ⟨1, 191, 63, {},
    { dev := { (up |>.wr F.TRN_ENT0_ACTION 7 1 191 |>.wr F.ORB_STS_STATE 2 1 |>.wr F.TRN_CTL_EN 1 1 |>.wr F.TRN_ENT3_ARG 63 1 191 |>.wr F.HIF_LINK_STS_PCIE_UP 1 |>.wr F.HIF_MSIX_CTRL_MASK 0 63) with orbs := [(1, { due := [(191, {})] })] } },
    by decide +kernel⟩,
    ⟨1, 191, 3, {},
    { dev := { (up |>.wr F.TRN_ENT0_ACTION 3 1 191 |>.wr F.ORB_STS_STATE 2 1 |>.wr F.TRN_CTL_EN 1 1 |>.wr F.TRN_ENT2_TARGET 8 1 191 |>.wr F.HK_CFG_INJ_TRIG 1 3 |>.wr F.HK_CFG_INJ_LEN 1 3) with orbs := [(1, { due := [(191, {})] })] } },
    by decide +kernel⟩,
    ⟨1, 191, 15, {},
    { dev := { (up |>.wr F.TRN_ENT0_ACTION 4 1 191 |>.wr F.ORB_STS_STATE 2 1 |>.wr F.TRN_CTL_EN 1 1 |>.wr F.TRN_ENT3_ARG 15 1 191 |>.wr F.MEA_CAP0_STREAM 2079 15 |>.wr F.MLD_PLACE_VALID 1 2079 |>.wr F.MEA_CAP0_TAP 0 15) with orbs := [(1, { due := [(191, {})] })] } },
    by decide +kernel⟩⟩

/-- The hypotheses of `TicksAreTakenAndCommitted` are met. -/
theorem witness_TicksAreTakenAndCommitted :
    (∃ (i : Nat) (s : State), i < 2 ∧ (s.dev.orb i).base = s.dev.baseTick i ∧ (∀ n ∈ s.dev.slicesOn i, s.dev.rd
    F.CE_SLICE_TICK_MULT_EFF n = s.dev.multWanted n (s.dev.baseTick i))) ∧
    (∃ (i : Nat) (s : State), i < 2 ∧ (s.dev.orb i).base ≠ s.dev.baseTick i) ∧
    (∃ (i : Nat) (s : State), i < 2 ∧ s.dev.orbState i = 0) ∧
    (∃ (i : Nat) (n : Nat) (a : Nat) (s : State), i < 2 ∧ s.dev.orbState i ≠ 0 ∧ (s.dev.orb i).commitAt = [(n, a)] ∧ n <
    16 ∧ s.dev.reached i a = true ∧ s.dev.classWaits i 5 = false ∧ s.dev.mld.delta = none ∧ s.dev.mld.restart = none) ∧
    (∃ (i : Nat) (s : State), i < 2 ∧ (∀ n ∈ s.dev.slicesOn i, 0 < s.dev.deadlineIn n) ∧ s.dev.beatDue i = false) ∧
    (∃ (i : Nat) (s : State), i < 2 ∧ (∀ n ∈ s.dev.slicesOn i, 0 < s.dev.deadlineIn n) ∧ s.dev.beatDue i = true ∧
    s.dev.heartbeatDue i = false) ∧
    (∃ (n : Nat) (r : Nat) (s : State), n < 16 ∧ r < 2 ∧ n ∈ s.dev.slicesOn (s.dev.donor n).orbit ∧ s.dev.deadlineIn n ≤ 0
    ∧ (s.dev.loopTick n r).live = true) :=
  ⟨⟨1, { dev := up }, by decide +kernel⟩,
    ⟨1, { dev := { up with orbs := [(1, { base := 30720 })] } }, by decide +kernel⟩,
    ⟨1, { dev := up }, by decide +kernel⟩,
    ⟨1, 15, 0, { dev := { (up |>.wr F.ORB_STS_STATE 2 1) with orbs := [(1, { commitAt := [(15, 0)] })] } },
    by decide +kernel⟩,
    ⟨1,
    { dev := { up with orbs := [(1, { ticks := 2 })], mld := { entered := true, plan := { donors := [(15, { orbit := 1 })] } } } },
    by decide +kernel⟩,
    ⟨1, { dev := { (up |>.wr F.CE_CTL_RUN 0) with orbs := [(1, { ticks := 2, pos := 122879 })] } }, by decide +kernel⟩,
    ⟨15, 1,
    { dev := { up with orbs := [(1, { ticks := 2, pos := 122879 })], eng := { ticks := [(31, { live := true })] }, mld := { entered := true, plan := { donors := [(15, { orbit := 1 })] } } } },
    by decide +kernel⟩⟩

/-- The hypotheses of `LaneGoesFromStateToState` are met. -/
theorem witness_LaneGoesFromStateToState :
    (∃ (p : Path) (n : Nat) (w : Nat) (s : State), n < 128 ∧ s.dev.Admits p (hit Reg.LNK_CTL RD.LNK_CTL n) w ∧
    s.dev.laneAbsent n = false ∧ F.LNK_CTL_RESTART.of w = 0 ∧ s.dev.rd F.LNK_CTL_EN n = 0 ∧ F.LNK_CTL_EN.of w = 1 ∧ bitAt
    (s.dev.rd F.CLK_STS_LREF_OK) (n / 32) = true) ∧
    (∃ (p : Path) (n : Nat) (w : Nat) (s : State), n < 128 ∧ s.dev.Admits p (hit Reg.LNK_CTL RD.LNK_CTL n) w ∧
    s.dev.laneAbsent n = false ∧ F.LNK_CTL_RESTART.of w = 0 ∧ s.dev.rd F.LNK_CTL_EN n = 0 ∧ F.LNK_CTL_EN.of w = 1 ∧ bitAt
    (s.dev.rd F.CLK_STS_LREF_OK) (n / 32) = false) ∧
    (∃ (p : Path) (n : Nat) (w : Nat) (s : State), n < 128 ∧ s.dev.Admits p (hit Reg.LNK_CTL RD.LNK_CTL n) w ∧
    s.dev.laneAbsent n = false ∧ F.LNK_CTL_RESTART.of w = 0 ∧ s.dev.rd F.LNK_CTL_EN n = 1 ∧ F.LNK_CTL_EN.of w = 0) ∧
    (∃ (p : Path) (n : Nat) (w : Nat) (s : State), n < 128 ∧ s.dev.Admits p (hit Reg.LNK_CTL RD.LNK_CTL n) w ∧
    s.dev.laneAbsent n = true) ∧
    (∃ (p : Path) (n : Nat) (w : Nat) (s : State), n < 128 ∧ s.dev.Admits p (hit Reg.LNK_CTL RD.LNK_CTL n) (withBits w 8 1
    1) ∧ s.dev.laneAbsent n = false ∧ s.dev.rd F.LNK_CTL_EN n = F.LNK_CTL_EN.of (withBits w 8 1 1)) ∧
    (∃ (p : Path) (n : Nat) (w : Nat) (s : State), n < 128 ∧ s.dev.Admits p (hit Reg.LNK_CTL RD.LNK_CTL n) (withBits w 9 1
    1) ∧ s.dev.laneAbsent n = false ∧ s.dev.rd F.LNK_CTL_EN n = F.LNK_CTL_EN.of (withBits w 9 1 1) ∧ F.LNK_CTL_RESTART.of
    (withBits w 9 1 1) = 0) ∧
    (∃ (n : Nat) (s : State), n < 128 ∧ 2 ≤ s.dev.laneState n) ∧
    (∃ (n : Nat) (s : State), n < 128 ∧ 2 ≤ s.dev.laneState n ∧ (s.dev.ll n).due + 4096 ≤ 16 * s.dev.gridNow) ∧
    (∃ (n : Nat) (s : State), n < 128 ∧ s.dev.laneState n = 1 ∧ bitAt (s.dev.rd F.CLK_STS_LREF_OK) (n / 32) = true ∧
    s.dev.domOn (laneDomain n) = true) ∧
    (∃ (n : Nat) (s : State), n < 128 ∧ s.dev.laneState n = 3 ∧ 4 ≤ (s.dev.ll n).miss) ∧
    (∃ (n : Nat) (s : State), n < 128 ∧ s.dev.laneState n = 3 ∧ s.dev.portOfLane n = n ∧ (s.dev.portDecl n).isSome = true
    ∧ s.dev.paired n = false ∧ s.dev.laneOf n = n ∧ (s.dev.lp n).pend = none ∧ s.dev.portState n ≠ 0) :=
  ⟨⟨.bar0, 127, fw F.LNK_CTL_EN 1, { dev := up }, by decide +kernel⟩,
    ⟨.bar0, 127, fw F.LNK_CTL_EN 1, { dev := (up |>.wr F.CLK_STS_LREF_OK 7) }, by decide +kernel⟩,
    ⟨.bar0, 127, 0, { dev := (up |>.wr F.LNK_CTL_EN 1 127) }, by decide +kernel⟩,
    ⟨.bar0, 127, 0, { dev := { up with mld := { config := 2 } } }, by decide +kernel⟩,
    ⟨.bar0, 127, fw F.LNK_CTL_EN 1, { dev := (up |>.wr F.LNK_CTL_EN 1 127) }, by decide +kernel⟩,
    ⟨.bar0, 127, 0, { dev := up }, by decide +kernel⟩,
    ⟨127, { dev := (up |>.wr F.LNK_STS_LANE_STATE 2 127) }, by decide +kernel⟩,
    ⟨127, { dev := { (up |>.wr F.LNK_STS_LANE_STATE 3 127) with now := 100000 } }, by decide +kernel⟩,
    ⟨127, { dev := (up |>.wr F.LNK_STS_LANE_STATE 1 127) }, by decide +kernel⟩,
    ⟨127, { dev := { (up |>.wr F.LNK_STS_LANE_STATE 3 127) with lnk := { lanes := [(127, { miss := 4 })] } } },
    by decide +kernel⟩,
    ⟨127,
    { dev := { (up |>.wr F.LNK_STS_LANE_STATE 3 127 |>.wr F.LNK_STS_PORT_STATE 1 127) with mld := { plan := { ports := [{ port := 127 }] } } } },
    by decide +kernel⟩⟩

/-- The hypotheses of `FramesAreSentAndJudged` are met. -/
theorem witness_FramesAreSentAndJudged :
    (∃ (n : Nat) (f : TdlFrame) (s : State), n < 128 ∧ 2 ≤ s.dev.laneState n ∧ s.dev.frameFault n f = 1) ∧
    (∃ (n : Nat) (f : TdlFrame) (s : State), n < 128 ∧ 2 ≤ s.dev.laneState n ∧ s.dev.frameFault n f = 2) ∧
    (∃ (n : Nat) (f : TdlFrame) (s : State), n < 128 ∧ 2 ≤ s.dev.laneState n ∧ s.dev.frameFault n f = 3) ∧
    (∃ (n : Nat) (f : TdlFrame) (s : State), n < 128 ∧ 2 ≤ s.dev.laneState n ∧ s.dev.frameFault n f = 4) ∧
    (∃ (n : Nat) (f : TdlFrame) (s : State), n < 128 ∧ 2 ≤ s.dev.laneState n ∧ s.dev.frameFault n f = 5) ∧
    (∃ (n : Nat) (f : TdlFrame) (s : State), n < 128 ∧ 2 ≤ s.dev.laneState n ∧ s.dev.frameFault n f = 0) :=
  ⟨⟨127, sentAs (nativeBlocks (List.replicate 6 1) 0), { dev := (up |>.wr F.LNK_STS_LANE_STATE 2 127) },
    by decide +kernel⟩,
    ⟨127, sentAs (nativeBlocks (frameWords 0 [] []) 12), { dev := (up |>.wr F.LNK_STS_LANE_STATE 2 127) },
    by decide +kernel⟩,
    ⟨127, sentAs (macBlocks (List.replicate 30 0)),
    { dev := (up |>.wr F.LNK_STS_LANE_STATE 2 127 |>.wr F.LNK_CTL_CARRIAGE 1 127) }, by decide +kernel⟩,
    ⟨127, sentAs (macBlocks (macFrame 0 0 1 none [] 0)),
    { dev := (up |>.wr F.LNK_STS_LANE_STATE 2 127 |>.wr F.LNK_CTL_CARRIAGE 1 127) }, by decide +kernel⟩,
    ⟨127, {}, { dev := (up |>.wr F.LNK_STS_LANE_STATE 2 127) }, by decide +kernel⟩,
    ⟨127, sentAs (nativeBlocks (frameWords (3 * 2 ^ 59 + 127 * 2 ^ 50) [] []) 12),
    { dev := (up |>.wr F.LNK_STS_LANE_STATE 2 127) }, by decide +kernel⟩⟩

/-- The hypotheses of `ReceivedMessageMovesTheSession` are met. -/
theorem witness_ReceivedMessageMovesTheSession :
    (∃ (port : Nat) (c : List Nat) (s : State), port < 128 ∧ (s.dev.lp port).rxCell = some c ∧ listAt c 0 = 1 ∧ listAt c 4
    = 1 ∧ s.dev.portState port = 1 ∧ listAt c 5 / 16 = 1) ∧
    (∃ (port : Nat) (c : List Nat) (s : State), port < 128 ∧ (s.dev.lp port).rxCell = some c ∧ listAt c 0 = 1 ∧ listAt c 4
    = 1 ∧ s.dev.portState port = 1 ∧ listAt c 5 / 16 ≠ 1) ∧
    (∃ (port : Nat) (c : List Nat) (s : State), port < 128 ∧ (s.dev.lp port).rxCell = some c ∧ listAt c 0 = 2 ∧
    s.dev.portState port = 2 ∧ bitAt (listAt c 17) (s.dev.rd F.LNK_CTL_RATE port + 2 * s.dev.rd F.LNK_CTL_CARRIAGE port) =
    true ∧ (s.dev.planMap port).length ≤ listAt c 18 ∧ mapSum (s.dev.planMap port) false ≤ listAt c 19 ∧ mapSum
    (s.dev.planMap port) true ≤ listAt c 19 ∧ ((Option.map (fun q => q.stations) (s.dev.portDecl port)).getD 0 ≤ listAt c
    20)) ∧
    (∃ (port : Nat) (c : List Nat) (s : State), port < 128 ∧ (s.dev.lp port).rxCell = some c ∧ listAt c 0 = 2 ∧
    s.dev.portState port = 2 ∧ bitAt (listAt c 17) (s.dev.rd F.LNK_CTL_RATE port + 2 * s.dev.rd F.LNK_CTL_CARRIAGE port) =
    false) ∧
    (∃ (port : Nat) (c : List Nat) (s : State) (o : Nat × List MapSlice), port < 128 ∧ (s.dev.lp port).rxCell = some c ∧
    listAt c 0 = 4 ∧ (s.dev.lp port).offered = some o ∧ listAt c 4 = o.1 ∧ s.dev.portState port = 3 ∧ listAt c 5 = 0) ∧
    (∃ (port : Nat) (c : List Nat) (s : State) (o : Nat × List MapSlice), port < 128 ∧ (s.dev.lp port).rxCell = some c ∧
    listAt c 0 = 4 ∧ (s.dev.lp port).offered = some o ∧ listAt c 4 = o.1 ∧ s.dev.portState port = 3 ∧ listAt c 5 ≠ 0) ∧
    (∃ (port : Nat) (c : List Nat) (s : State) (o : Nat × List MapSlice), port < 128 ∧ (s.dev.lp port).rxCell = some c ∧
    listAt c 0 = 4 ∧ (s.dev.lp port).offered = some o ∧ listAt c 4 = o.1 ∧ listAt c 5 = 0 ∧ (s.dev.portState port = 4 ∨
    s.dev.portState port = 5)) ∧
    (∃ (port : Nat) (c : List Nat) (s : State), port < 128 ∧ (s.dev.lp port).rxCell = some c ∧ listAt c 0 = 13 ∧ 2 ≤
    s.dev.portState port ∧ (s.dev.lp port).peer = some (leAt c 4 4)) ∧
    (∃ (port : Nat) (c : List Nat) (s : State), port < 128 ∧ (s.dev.lp port).rxCell = some c ∧ listAt c 0 = 13 ∧ 2 ≤
    s.dev.portState port ∧ (s.dev.lp port).peer ≠ some (leAt c 4 4)) ∧
    (∃ (port : Nat) (c : List Nat) (s : State), port < 128 ∧ (s.dev.lp port).rxCell = some c ∧ listAt c 0 = 14) ∧
    (∃ (port : Nat) (c : List Nat) (s : State) (i : Instr) (ty : Nat), port < 128 ∧ (s.dev.lp port).rxCell = some c ∧ (i =
    Instr.alarmRx port ∧ ty = 8 ∨ i = Instr.readRspRx port ∧ ty = 10 ∨ i = Instr.writeRspRx port ∧ ty = 12 ∨ i =
    Instr.vendorRx port ∧ ty = 15) ∧ listAt c 0 = ty ∧ (s.dev.rd F.LNK_MSG_RX_HEAD port + 1) % 16 ≠ s.dev.rd
    F.LNK_MSG_RX_TAIL port) ∧
    (∃ (port : Nat) (c : List Nat) (s : State) (i : Instr) (ty : Nat), port < 128 ∧ (s.dev.lp port).rxCell = some c ∧ (i =
    Instr.alarmRx port ∧ ty = 8 ∨ i = Instr.readRspRx port ∧ ty = 10 ∨ i = Instr.writeRspRx port ∧ ty = 12 ∨ i =
    Instr.vendorRx port ∧ ty = 15) ∧ listAt c 0 = ty ∧ (s.dev.rd F.LNK_MSG_RX_HEAD port + 1) % 16 = s.dev.rd
    F.LNK_MSG_RX_TAIL port) ∧
    (∃ (port : Nat) (o : Nat × List MapSlice) (s : State), port < 128 ∧ (s.dev.lp port).accepted = some o ∧ lfnSince
    (s.dev.lp port).switchAt s.dev.lfn < 2 ^ 31) :=
  ⟨⟨127, [1, 0, 0, 0, 1, 16],
    { dev := { (up |>.wr F.LNK_STS_PORT_STATE 1 127) with lnk := { ports := [(127, { rxCell := some [1, 0, 0, 0, 1, 16] })] } } },
    by decide +kernel⟩,
    ⟨127, [1, 0, 0, 0, 1, 15],
    { dev := { (up |>.wr F.LNK_STS_PORT_STATE 1 127) with lnk := { ports := [(127, { rxCell := some [1, 0, 0, 0, 1, 15] })] } } },
    by decide +kernel⟩,
    ⟨127, [2, 0, 0, 0, 0, 0, 0, 0, 0, 0, 0, 0, 0, 0, 0, 0, 0, 1, 0, 0, 0],
    { dev := { (up |>.wr F.LNK_STS_PORT_STATE 2 127) with lnk := { ports := [(127, { rxCell := some [2, 0, 0, 0, 0, 0, 0, 0, 0, 0, 0, 0, 0, 0, 0, 0, 0, 1, 0, 0, 0] })] } } },
    by decide +kernel⟩,
    ⟨127, [2],
    { dev := { (up |>.wr F.LNK_STS_PORT_STATE 2 127) with lnk := { ports := [(127, { rxCell := some [2] })] } } },
    by decide +kernel⟩,
    ⟨127, [4, 0, 0, 0, 7, 0],
    { dev := { (up |>.wr F.LNK_STS_PORT_STATE 3 127) with lnk := { ports := [(127, { rxCell := some [4, 0, 0, 0, 7, 0], offered := some (7, []) })] } } },
    (7, []), by decide +kernel⟩,
    ⟨127, [4, 0, 0, 0, 7, 255],
    { dev := { (up |>.wr F.LNK_STS_PORT_STATE 3 127) with lnk := { ports := [(127, { rxCell := some [4, 0, 0, 0, 7, 255], offered := some (7, []) })] } } },
    (7, []), by decide +kernel⟩,
    ⟨127, [4, 0, 0, 0, 7, 0],
    { dev := { (up |>.wr F.LNK_STS_PORT_STATE 5 127) with lnk := { ports := [(127, { rxCell := some [4, 0, 0, 0, 7, 0], offered := some (7, []) })] } } },
    (7, []), by decide +kernel⟩,
    ⟨127, [13, 0, 0, 0, 1],
    { dev := { (up |>.wr F.LNK_STS_PORT_STATE 2 127) with lnk := { ports := [(127, { rxCell := some [13, 0, 0, 0, 1], peer := some 1 })] } } },
    by decide +kernel⟩,
    ⟨127, [13, 0, 0, 0, 1],
    { dev := { (up |>.wr F.LNK_STS_PORT_STATE 2 127) with lnk := { ports := [(127, { rxCell := some [13, 0, 0, 0, 1] })] } } },
    by decide +kernel⟩,
    ⟨127, [14],
    { dev := { (up |>.wr F.LNK_STS_PORT_STATE 5 127) with lnk := { ports := [(127, { rxCell := some [14] })] } } },
    by decide +kernel⟩,
    ⟨127, [15],
    { dev := { (up |>.wr F.LNK_STS_PORT_STATE 5 127) with lnk := { ports := [(127, { rxCell := some [15] })] } } },
    .vendorRx 127, 15, by decide +kernel⟩,
    ⟨127, [8],
    { dev := { (up |>.wr F.LNK_STS_PORT_STATE 5 127 |>.wr F.LNK_MSG_RX_HEAD 15 127) with lnk := { ports := [(127, { rxCell := some [8] })] } } },
    .alarmRx 127, 8, by decide +kernel⟩,
    ⟨127, (7, []), { dev := { up with lnk := { ports := [(127, { accepted := some (7, []) })] } } }, by decide +kernel⟩⟩

/-- The hypotheses of `PortsKeepTimersPairsSwitchAndBusesTransfer` are met. -/
theorem witness_PortsKeepTimersPairsSwitchAndBusesTransfer :
    (∃ (port : Nat) (s : State), port < 128 ∧ s.dev.portState port = 1 ∧ s.dev.greetDue port 16 = true) ∧
    (∃ (port : Nat) (s : State), port < 128 ∧ 2 ≤ s.dev.portState port ∧ s.dev.portState port ≤ 5 ∧ s.dev.greetDue port
    480 = true) ∧
    (∃ (port : Nat) (s : State), port < 128 ∧ 2 ≤ s.dev.portState port ∧ s.dev.portState port ≤ 5 ∧ 122880 * max 1
    (s.dev.rd F.LNK_TIMING_HB_LIMIT port) ≤ s.dev.now - (s.dev.lp port).hbAt) ∧
    (∃ (port : Nat) (s : State), port < 128 ∧ s.dev.portState port = 6 ∧ 1228800000 ≤ s.dev.now - (s.dev.lp port).incAt) ∧
    (∃ (port : Nat) (u : RelMsg) (l : List RelMsg) (s : State), port < 128 ∧ (s.dev.lp port).unacked = u :: l ∧ (s.dev.lp
    port).resend = [] ∧ 64 ≤ lfnSince u.sentAt s.dev.lfn ∧ u.resends < 8) ∧
    (∃ (port : Nat) (u : RelMsg) (l : List RelMsg) (s : State), port < 128 ∧ (s.dev.lp port).unacked = u :: l ∧ (s.dev.lp
    port).resend = [] ∧ 64 ≤ lfnSince u.sentAt s.dev.lfn ∧ 8 ≤ u.resends ∧ s.dev.portState port = 0) ∧
    (∃ (port : Nat) (u : RelMsg) (l : List RelMsg) (s : State), port < 128 ∧ (s.dev.lp port).unacked = u :: l ∧ (s.dev.lp
    port).resend = [] ∧ 64 ≤ lfnSince u.sentAt s.dev.lfn ∧ 8 ≤ u.resends ∧ s.dev.portState port ≠ 0) ∧
    (∃ (port : Nat) (q : Nat) (pos : Nat) (up : Bool) (opens : Bool) (s : State) (at1 : Nat), port < 128 ∧ q < 8 ∧
    s.dev.portState port = 5 ∧ (s.dev.has (if up = true then streamOf port 0 q + 8 else streamOf port 0 q) = true) ∧
    (s.dev.donor (s.dev.sliceDonor (streamOf port 0 q))).tdd = true ∧ (s.dev.orbState (s.dev.donor (s.dev.sliceDonor
    (streamOf port 0 q))).orbit = 2 ∨ s.dev.orbState (s.dev.donor (s.dev.sliceDonor (streamOf port 0 q))).orbit = 3) ∧
    s.dev.isEdge (s.dev.donor (s.dev.sliceDonor (streamOf port 0 q))).orbit up opens pos = true ∧ at1 = (s.dev.edgeNamed
    (streamOf port 0 q) up opens (s.dev.streamPos (s.dev.sliceDonor (streamOf port 0 q)) pos) % (↑(2 ^ 40) : Int)).toNat ∧
    max 1 (s.dev.rd F.LNK_TIMING_EDGE_LEAD port) ≤ lfnSince (s.dev.firstCopy port) (at1 / 256) ∧ lfnSince (s.dev.firstCopy
    port) (at1 / 256) < 2 ^ 31) ∧
    (∃ (p : Path) (n : Nat) (w : Nat) (s : State), n < 128 ∧ s.dev.Admits p (hit Reg.LNK_MSG_CTL RD.LNK_MSG_CTL n)
    (withBits w 0 1 1) ∧ s.dev.rd F.LNK_MSG_CTL_BUSY n = 0 ∧ s.dev.portState (s.dev.portOfLane n) = 5 ∧ s.dev.rd
    F.LNK_MSG_TXB_DATA n % 256 ≤ 16) ∧
    (∃ (p : Path) (n : Nat) (w : Nat) (s : State), n < 128 ∧ s.dev.Admits p (hit Reg.LNK_MSG_CTL RD.LNK_MSG_CTL n)
    (withBits w 0 1 1) ∧ s.dev.rd F.LNK_MSG_CTL_BUSY n = 0 ∧ s.dev.portState (s.dev.portOfLane n) ≠ 5) ∧
    (∃ (p : Path) (k : Nat) (w : Nat) (s : State), k < 64 ∧ s.dev.Admits p (hit Reg.LNK_PROT RD.LNK_PROT k) w) ∧
    (∃ (k : Nat) (v : Nat) (s : State), k < 64 ∧ (s.dev.lp k).pend = some v ∧ v < 2) ∧
    (∃ (k : Nat) (s : State), k < 64 ∧ s.dev.rd F.LNK_PROT_STS_WTR_RUN k = 1 ∧ 122880000 * max 1 (s.dev.rd F.LNK_PROT_WTR
    k) ≤ s.dev.now - (s.dev.lp k).wtrAt) ∧
    (∃ (n : Nat) (s : State), n < 128 ∧ s.dev.paired (s.dev.portOfLane n) = true ∧ s.dev.lostNow n ≤ s.dev.rd
    F.LNK_PROT_SD_THR (s.dev.portOfLane n) / 2) ∧
    (∃ (n : Nat) (s : State), n < 128 ∧ s.dev.rd F.LNK_MGMT_KIND n = 1 ∧ s.dev.pollDue n = true) ∧
    (∃ (p : Path) (b : Nat) (w : Nat) (s : State), b < 4 ∧ s.dev.Admits p (hit Reg.LNK_MGB_XFER RD.LNK_MGB_XFER b)
    (withBits w 31 1 1) ∧ s.dev.rd F.LNK_MGB_XFER_BUSY b = 0 ∧ s.dev.laneAbsent (32 * b + F.LNK_MGB_XFER_LANE_IDX.of
    (withBits w 31 1 1)) = false) ∧
    (∃ (p : Path) (b : Nat) (w : Nat) (s : State), b < 4 ∧ s.dev.Admits p (hit Reg.LNK_MGB_XFER RD.LNK_MGB_XFER b)
    (withBits w 31 1 1) ∧ s.dev.rd F.LNK_MGB_XFER_BUSY b = 0 ∧ s.dev.laneAbsent (32 * b + F.LNK_MGB_XFER_LANE_IDX.of
    (withBits w 31 1 1)) = true) ∧
    (∃ (b : Nat) (s : State), b < 4 ∧ s.dev.rd F.LNK_MGB_XFER_BUSY b = 1 ∧ s.dev.rd F.LNK_MGB_CFG_EN b = 1) ∧
    (∃ (b : Nat) (s : State), b < 4 ∧ s.dev.rd F.LNK_MGB_XFER_BUSY b = 1 ∧ 1228800 < s.dev.now - tabGet 0 s.dev.lnk.xferAt
    b) :=
  ⟨⟨127, { dev := (up |>.wr F.LNK_STS_PORT_STATE 1 127) }, by decide +kernel⟩,
    ⟨127, { dev := (up |>.wr F.LNK_STS_PORT_STATE 5 127) }, by decide +kernel⟩,
    ⟨127, { dev := { (up |>.wr F.LNK_STS_PORT_STATE 2 127 |>.wr F.LNK_TIMING_HB_LIMIT 1 127) with now := 122880 } },
    by decide +kernel⟩,
    ⟨127, { dev := { (up |>.wr F.LNK_STS_PORT_STATE 6 127) with now := 1228800000 } }, by decide +kernel⟩,
    ⟨127, { resends := 7 }, [],
    { dev := { up with now := 16384, lnk := { ports := [(127, { unacked := [{ resends := 7 }] })] } } },
    by decide +kernel⟩,
    ⟨127, { resends := 8 }, [],
    { dev := { up with now := 16384, lnk := { ports := [(127, { unacked := [{ resends := 8 }] })] } } },
    by decide +kernel⟩,
    ⟨127, { resends := 8 }, [],
    { dev := { (up |>.wr F.LNK_STS_PORT_STATE 5 127) with now := 16384, lnk := { ports := [(127, { unacked := [{ resends := 8 }] })] } } },
    by decide +kernel⟩,
    ⟨127, 7, 614400, false, false,
    { dev := { (up |>.wr F.LNK_STS_PORT_STATE 5 127 |>.wr F.MLD_PLACE_VALID 1 2039 |>.wr F.MLD_PLACE_DONOR_SLICE 15 2039 |>.wr F.ORB_STS_STATE 3 1 |>.wr F.ORB_TDD_PER_PERIOD 1228800 1 0 |>.wr F.ORB_TDD_SEG_TYPE 0 1 0 0 |>.wr F.ORB_TDD_SEG_TYPE 1 1 0 1 |>.wr F.ORB_TDD_SEG_START 614400 1 0 1) with mld := { entered := true, plan := { donors := [(15, { orbit := 1, tdd := true })] } } } },
    614756, by decide +kernel⟩,
    ⟨.bar0, 127, 0, { dev := (up |>.wr F.LNK_STS_PORT_STATE 5 127 |>.wr F.LNK_MSG_TXB_DATA 16 127 0) }, by decide +kernel⟩,
    ⟨.bar0, 127, 0, { dev := up }, by decide +kernel⟩,
    ⟨.bar0, 63, 0, { dev := up }, by decide +kernel⟩,
    ⟨63, 1, { dev := { up with lnk := { ports := [(63, { pend := some 1 })] } } }, by decide +kernel⟩,
    ⟨63, { dev := { (up |>.wr F.LNK_PROT_STS_WTR_RUN 1 63) with now := 1000000000000 } }, by decide +kernel⟩,
    ⟨127, { dev := { up with mld := { plan := { ports := [{ port := 63, pair := true }] } } } }, by decide +kernel⟩,
    ⟨127, { dev := (up |>.wr F.LNK_MGMT_KIND 1 127 |>.wr F.LNK_MGB_CFG_EN 1 3 |>.wr F.LNK_MGB_CFG_POLL_MS 1 3) },
    by decide +kernel⟩,
    ⟨.bar0, 3, fw F.LNK_MGB_XFER_LANE_IDX 31, { dev := (up |>.wr F.GLB_CAPS_LANES 64) }, by decide +kernel⟩,
    ⟨.bar0, 3, fw F.LNK_MGB_XFER_LANE_IDX 31, { dev := { up with mld := { config := 2 } } }, by decide +kernel⟩,
    ⟨3, { dev := (up |>.wr F.LNK_MGB_XFER_BUSY 1 3 |>.wr F.LNK_MGB_CFG_EN 1 3) }, by decide +kernel⟩,
    ⟨3, { dev := { (up |>.wr F.LNK_MGB_XFER_BUSY 1 3) with now := 1228801 } }, by decide +kernel⟩⟩

/-- The hypotheses of `DonorLinksLockAndSysrefSetsThePhase` are met. -/
theorem witness_DonorLinksLockAndSysrefSetsThePhase :
    (∃ (j : Nat) (s : State), j < 4 ∧ s.dev.donState j = 1) ∧
    (∃ (j : Nat) (s : State), j < 4 ∧ s.dev.donState j = 2) ∧
    (∃ (j : Nat) (l : List Nat) (s : State), j < 4 ∧ s.dev.donState j = 3 ∧ s.dev.rd F.DON_SYSREF_STS_ALIGNED = 1 ∧
    l.length = s.dev.donL j ∧ s.dev.lemcNow j (s.dev.releaseOff j) = true ∧ (∀ a ∈ l, a ≤ s.dev.rd F.DON_LINK_CFG_RBD j)) ∧
    (∃ (j : Nat) (l : List Nat) (s : State) (a : Nat), j < 4 ∧ s.dev.donState j = 3 ∧ s.dev.rd F.DON_SYSREF_STS_ALIGNED =
    1 ∧ l.length = s.dev.donL j ∧ s.dev.lemcNow j (s.dev.releaseOff j) = true ∧ a ∈ l ∧ s.dev.rd F.DON_LINK_CFG_RBD j < a) ∧
    (∃ (j : Nat) (s : State), j < 4 ∧ s.dev.donState j ≠ 0) ∧
    (∃ (j : Nat) (a : Nat) (s : State), j < 4 ∧ (s.dev.donState j = 3 ∨ s.dev.donState j = 4) ∧ s.dev.rd
    F.DON_LINK_CFG_RBD j < a) ∧
    (∃ (j : Nat) (a : Nat) (s : State), j < 4 ∧ (s.dev.donState j = 3 ∨ s.dev.donState j = 4) ∧ a ≤ s.dev.rd
    F.DON_LINK_CFG_RBD j) ∧
    (∃ (j : Nat) (s : State), 4 ≤ j ∧ j < 8 ∧ s.dev.donState j = 3 ∧ s.dev.rd F.DON_SYSREF_STS_ALIGNED = 1 ∧ s.dev.lemcNow
    j 0 = true) ∧
    (∃ (s : State), s.dev.don.armed = true) ∧
    (∃ (s : State), s.dev.don.armed = false ∧ s.dev.rd F.DON_SYSREF_STS_ALIGNED = 0) ∧
    (∃ (h : Nat) (s : State), s.dev.don.armed = false ∧ s.dev.rd F.DON_SYSREF_STS_ALIGNED = 1 ∧ s.dev.rd
    F.DON_CTL_SYSREF_MODE = 1 ∧ s.dev.onLemc (2 * s.dev.now + h % 2) = false) ∧
    (∃ (p : Path) (w : Nat) (s : State), s.dev.Admits p (hit Reg.DON_CTL RD.DON_CTL) (withBits w 6 1 1)) ∧
    (∃ (p : Path) (w : Nat) (s : State), s.dev.Admits p (hit Reg.DON_CTL RD.DON_CTL) (withBits w 2 1 1)) ∧
    (∃ (p : Path) (w : Nat) (s : State), s.dev.Admits p (hit Reg.DON_CTL RD.DON_CTL) (withBits w 3 1 1)) ∧
    (∃ (p : Path) (j : Nat) (w : Nat) (s : State), j < 8 ∧ s.dev.Admits p (hit Reg.DON_LINK_CFG RD.DON_LINK_CFG j) w ∧
    s.dev.donState j = 0) ∧
    (∃ (p : Path) (j : Nat) (w : Nat) (s : State), j < 8 ∧ s.dev.Admits p (hit Reg.DON_LINK_CFG RD.DON_LINK_CFG j) w ∧
    s.dev.donState j ≠ 0) :=
  ⟨⟨3, { dev := (up |>.wr F.DON_LINK_STS_STATE 1 3) }, by decide +kernel⟩,
    ⟨3, { dev := (up |>.wr F.DON_LINK_STS_STATE 2 3) }, by decide +kernel⟩,
    ⟨3, [0],
    { dev := { (up |>.wr F.DON_LINK_STS_STATE 3 3 |>.wr F.DON_SYSREF_STS_ALIGNED 1) with don := { phase := some 0 } } },
    by decide +kernel⟩,
    ⟨3, [200],
    { dev := { (up |>.wr F.DON_LINK_STS_STATE 3 3 |>.wr F.DON_SYSREF_STS_ALIGNED 1) with don := { phase := some 0 } } },
    200, by decide +kernel⟩,
    ⟨3, { dev := (up |>.wr F.DON_LINK_STS_STATE 1 3) }, by decide +kernel⟩,
    ⟨3, 200, { dev := (up |>.wr F.DON_LINK_STS_STATE 4 3) }, by decide +kernel⟩,
    ⟨3, 0, { dev := (up |>.wr F.DON_LINK_STS_STATE 4 3) }, by decide +kernel⟩,
    ⟨7,
    { dev := { (up |>.wr F.DON_LINK_STS_STATE 3 7 |>.wr F.DON_SYSREF_STS_ALIGNED 1) with don := { phase := some 0 } } },
    by decide +kernel⟩,
    ⟨{ dev := { up with don := { armed := true } } }, by decide +kernel⟩,
    ⟨{ dev := up }, by decide +kernel⟩,
    ⟨1,
    { dev := { (up |>.wr F.DON_SYSREF_STS_ALIGNED 1 |>.wr F.DON_CTL_SYSREF_MODE 1 |>.wr F.DON_LINK_CFG_EN 1 7) with don := { phase := some 0 } } },
    by decide +kernel⟩,
    ⟨.bar0, 0, { dev := up }, by decide +kernel⟩,
    ⟨.bar0, 0, { dev := up }, by decide +kernel⟩,
    ⟨.bar0, 0, { dev := up }, by decide +kernel⟩,
    ⟨.bar0, 7, 0, { dev := up }, by decide +kernel⟩,
    ⟨.bar0, 7, 0, { dev := (up |>.wr F.DON_LINK_STS_STATE 1 7) }, by decide +kernel⟩⟩

/-- The hypotheses of `StationCommandReportsItsResult` are met. -/
theorem witness_StationCommandReportsItsResult :
    (∃ (u : Nat) (k : Nat) (s : State), u < 8 ∧ k < 16 ∧ s.dev.coreOn = true) ∧
    (∃ (u : Nat) (k : Nat) (s : State), u < 8 ∧ k < 16 ∧ s.dev.coreOn = true ∧ s.dev.stnState u ≠ 0) ∧
    (∃ (u : Nat) (k : Nat) (s : State), u < 8 ∧ k < 16 ∧ s.dev.coreOn = true ∧ s.dev.stnState u = 0) ∧
    (∃ (u : Nat) (k : Nat) (mask : Nat) (v : Nat) (s : State), u < 8 ∧ k < 16 ∧ s.dev.coreOn = true ∧ s.dev.stnState u ≠ 0
    ∧ mask < 256 ∧ v < 256 ∧ s.dev.rd F.FES_CTL_PAT u = 0 ∧ (s.dev.stnPins u).getD 1 false = false) ∧
    (∃ (u : Nat) (k : Nat) (mask : Nat) (v : Nat) (s : State), u < 8 ∧ k < 16 ∧ s.dev.coreOn = true ∧ s.dev.stnState u ≠ 0
    ∧ mask < 256 ∧ v < 256 ∧ s.dev.rd F.FES_CTL_PAT u = 0 ∧ (s.dev.stnPins u).getD 1 false = true ∧ bitAt mask 0 = true ∧
    bitAt v 0 = true) ∧
    (∃ (u : Nat) (k : Nat) (len : Nat) (s : State), u < 8 ∧ k < 16 ∧ s.dev.coreOn = true ∧ s.dev.stnState u ≠ 0 ∧ len <
    256 ∧ 1 ≤ len ∧ len ≤ 8) ∧
    (∃ (u : Nat) (k : Nat) (len : Nat) (s : State), u < 8 ∧ k < 16 ∧ s.dev.coreOn = true ∧ s.dev.stnState u ≠ 0 ∧ len <
    256 ∧ (len = 0 ∨ 8 < len)) ∧
    (∃ (u : Nat) (k : Nat) (wlen : Nat) (rlen : Nat) (s : State), u < 8 ∧ k < 16 ∧ s.dev.coreOn = true ∧ s.dev.stnState u
    ≠ 0 ∧ 1 ≤ wlen ∧ wlen ≤ 4 ∧ 1 ≤ rlen ∧ rlen ≤ 4) ∧
    (∃ (u : Nat) (k : Nat) (rlen : Nat) (s : State), u < 8 ∧ k < 16 ∧ rlen ≤ 4 ∧ (s.dev.stn u).reading = some (k + 16 *
    rlen)) :=
  ⟨⟨7, 15, { dev := up }, by decide +kernel⟩,
    ⟨7, 15, { dev := (up |>.wr F.FES_STS_STATE 5 7) }, by decide +kernel⟩,
    ⟨7, 15, { dev := up }, by decide +kernel⟩,
    ⟨7, 15, 255, 255, { dev := (up |>.wr F.FES_STS_STATE 5 7) }, by decide +kernel⟩,
    ⟨7, 15, 1, 1,
    { dev := { (up |>.wr F.FES_STS_STATE 5 7 |>.wr F.FES_STS_TXEN 0 7) with stns := [(7, { rxen := true })] } },
    by decide +kernel⟩,
    ⟨7, 15, 8, { dev := (up |>.wr F.FES_STS_STATE 1 7) }, by decide +kernel⟩,
    ⟨7, 15, 9, { dev := (up |>.wr F.FES_STS_STATE 1 7) }, by decide +kernel⟩,
    ⟨7, 15, 4, 4, { dev := (up |>.wr F.FES_STS_STATE 1 7) }, by decide +kernel⟩,
    ⟨7, 15, 4, { dev := { (up |>.wr F.FES_STS_STATE 1 7) with stns := [(7, { reading := some 79 })] } },
    by decide +kernel⟩⟩

/-- The hypotheses of `StationTunesAndLocks` are met. -/
theorem witness_StationTunesAndLocks :
    (∃ (u : Nat) (k : Nat) (ch : Nat) (s : State) (e : List Nat), u < 8 ∧ k < 16 ∧ ch < 65536 ∧ s.dev.coreOn = true ∧
    s.dev.cached u ch = some e ∧ (s.dev.stnState u = 1 ∨ s.dev.stnState u = 2 ∨ s.dev.stnState u = 4) ∧ bitAt (listAt e 8)
    0 = false) ∧
    (∃ (u : Nat) (k : Nat) (ch : Nat) (s : State) (e : List Nat), u < 8 ∧ k < 16 ∧ ch < 65536 ∧ s.dev.coreOn = true ∧
    s.dev.cached u ch = some e ∧ s.dev.stnState u = 5 ∧ bitAt (listAt e 8) 0 = false ∧ (s.dev.stn u).pend = none) ∧
    (∃ (u : Nat) (k : Nat) (ch : Nat) (s : State) (e : List Nat), u < 8 ∧ k < 16 ∧ ch < 65536 ∧ s.dev.coreOn = true ∧
    s.dev.cached u ch = some e ∧ s.dev.stnState u = 3) ∧
    (∃ (u : Nat) (k : Nat) (ch : Nat) (s : State), u < 8 ∧ k < 16 ∧ ch < 65536 ∧ s.dev.coreOn = true ∧ s.dev.cached u ch =
    none ∧ s.dev.stnState u ≠ 0 ∧ s.dev.stnState u ≠ 6) ∧
    (∃ (u : Nat) (k : Nat) (e : List Nat) (s : State), u < 8 ∧ k < 16 ∧ s.dev.coreOn = true ∧ (s.dev.stnState u = 1 ∨
    s.dev.stnState u = 2 ∨ s.dev.stnState u = 4) ∧ s.dev.cached u (s.dev.rd F.FES_STS_CHANNEL u) = some e) ∧
    (∃ (u : Nat) (s : State), u < 8 ∧ s.dev.stnState u = 2 ∧ (s.dev.stn u).hopOver = false ∧ (s.dev.stn u).hopLen * 12288
    ≤ (s.dev.now - (s.dev.stn u).hopAt) * 20000 ∧ s.dev.rd F.FES_LOCK_CFG_POLL_EN u = 1) ∧
    (∃ (u : Nat) (s : State), u < 8 ∧ s.dev.stnState u = 2 ∧ (s.dev.stn u).hopOver = false ∧ (s.dev.stn u).hopLen * 12288
    ≤ (s.dev.now - (s.dev.stn u).hopAt) * 20000 ∧ s.dev.rd F.FES_LOCK_CFG_POLL_EN u = 0 ∧ (s.dev.stn u).pend = none) ∧
    (∃ (u : Nat) (s : State) (k : Nat), u < 8 ∧ s.dev.stnState u = 2 ∧ (s.dev.stn u).hopOver = false ∧ (s.dev.stn
    u).hopLen * 12288 ≤ (s.dev.now - (s.dev.stn u).hopAt) * 20000 ∧ s.dev.rd F.FES_LOCK_CFG_POLL_EN u = 0 ∧ (s.dev.stn
    u).pend = some k ∧ s.dev.rd F.FES_SAFE_STS_SAFE_N = 0) ∧
    (∃ (u : Nat) (data : Nat) (s : State), u < 8 ∧ s.dev.rd F.FES_LOCK_CFG_POLL_EN u = 1 ∧ s.dev.pollsNow u = true ∧
    s.dev.stnState u = 4 ∧ data &&& s.dev.rd F.FES_LOCK_CFG_MASK u ≠ s.dev.rd F.FES_LOCK_CFG_MASK u ∧ (s.dev.stn u).missed
    = 0) ∧
    (∃ (u : Nat) (data : Nat) (s : State), u < 8 ∧ s.dev.rd F.FES_LOCK_CFG_POLL_EN u = 1 ∧ s.dev.pollsNow u = true ∧
    s.dev.stnState u = 4 ∧ data &&& s.dev.rd F.FES_LOCK_CFG_MASK u ≠ s.dev.rd F.FES_LOCK_CFG_MASK u ∧ (s.dev.stn u).missed
    ≠ 0) ∧
    (∃ (u : Nat) (data : Nat) (s : State), u < 8 ∧ s.dev.rd F.FES_LOCK_CFG_POLL_EN u = 1 ∧ s.dev.pollsNow u = true ∧
    s.dev.stnState u = 2 ∧ (s.dev.stn u).hopOver = true ∧ (s.dev.stn u).pend = none ∧ data &&& s.dev.rd
    F.FES_LOCK_CFG_MASK u = s.dev.rd F.FES_LOCK_CFG_MASK u) :=
  ⟨⟨7, 15, 65535, { dev := { (up |>.wr F.FES_STS_STATE 4 7) with stns := [(7, { cache := [(0, [255, 255])] })] } },
    [255, 255], by decide +kernel⟩,
    ⟨7, 15, 65535, { dev := { (up |>.wr F.FES_STS_STATE 5 7) with stns := [(7, { cache := [(0, [255, 255])] })] } },
    [255, 255], by decide +kernel⟩,
    ⟨7, 15, 65535, { dev := { (up |>.wr F.FES_STS_STATE 3 7) with stns := [(7, { cache := [(0, [255, 255])] })] } },
    [255, 255], by decide +kernel⟩,
    ⟨7, 15, 65535, { dev := (up |>.wr F.FES_STS_STATE 1 7) }, by decide +kernel⟩,
    ⟨7, 15, [255, 255],
    { dev := { (up |>.wr F.FES_STS_STATE 4 7 |>.wr F.FES_STS_CHANNEL 65535 7) with stns := [(7, { cache := [(0, [255, 255])] })] } },
    by decide +kernel⟩,
    ⟨7, { dev := (up |>.wr F.FES_STS_STATE 2 7 |>.wr F.FES_LOCK_CFG_POLL_EN 1 7) }, by decide +kernel⟩,
    ⟨7,
    { dev := { (up |>.wr F.FES_STS_STATE 2 7 |>.wr F.FES_LOCK_CFG_POLL_EN 0 7) with now := 12288, stns := [(7, { hopLen := 20000 })] } },
    by decide +kernel⟩,
    ⟨7,
    { dev := { (up |>.wr F.FES_STS_STATE 2 7 |>.wr F.FES_LOCK_CFG_POLL_EN 0 7) with stns := [(7, { pend := some 15 })] } },
    15, by decide +kernel⟩,
    ⟨7, 254, { dev := (up |>.wr F.FES_STS_STATE 4 7 |>.wr F.FES_LOCK_CFG_POLL_EN 1 7 |>.wr F.FES_LOCK_CFG_MASK 255 7) },
    by decide +kernel⟩,
    ⟨7, 254,
    { dev := { (up |>.wr F.FES_STS_STATE 4 7 |>.wr F.FES_LOCK_CFG_POLL_EN 1 7 |>.wr F.FES_LOCK_CFG_MASK 255 7) with stns := [(7, { missed := 1 })] } },
    by decide +kernel⟩,
    ⟨7, 255,
    { dev := { (up |>.wr F.FES_STS_STATE 2 7 |>.wr F.FES_LOCK_CFG_POLL_EN 1 7 |>.wr F.FES_LOCK_CFG_MASK 255 7) with stns := [(7, { hopOver := true })] } },
    by decide +kernel⟩⟩

/-- The hypotheses of `StationTransmitsUnderItsLimits` are met. -/
theorem witness_StationTransmitsUnderItsLimits :
    (∃ (u : Nat) (k : Nat) (s : State), u < 8 ∧ k < 16 ∧ s.dev.coreOn = true ∧ s.dev.stnState u = 4 ∧ s.dev.rd
    F.FES_SAFE_STS_SAFE_N = 0) ∧
    (∃ (u : Nat) (k : Nat) (s : State), u < 8 ∧ k < 16 ∧ s.dev.coreOn = true ∧ (s.dev.stnState u = 2 ∨ s.dev.stnState u =
    3) ∧ s.dev.rd F.FES_SAFE_STS_SAFE_N = 0 ∧ (s.dev.stn u).pend = none) ∧
    (∃ (u : Nat) (k : Nat) (s : State), u < 8 ∧ k < 16 ∧ s.dev.coreOn = true ∧ (s.dev.stnState u = 1 ∨ s.dev.stnState u =
    4 ∧ s.dev.rd F.FES_SAFE_STS_SAFE_N = 1)) ∧
    (∃ (u : Nat) (k : Nat) (s : State), u < 8 ∧ k < 16 ∧ s.dev.coreOn = true ∧ s.dev.stnState u = 5) ∧
    (∃ (u : Nat) (k : Nat) (s : State), u < 8 ∧ k < 16 ∧ (s.dev.stn u).pend = some k ∧ (s.dev.stnState u = 2 ∨
    s.dev.stnState u = 3) ∧ max 10 (s.dev.rd F.FES_LIMIT_TX_WAIT_LIMIT u) * 12288 ≤ (s.dev.now - (s.dev.stn u).pendAt) *
    100) ∧
    (∃ (u : Nat) (s : State), u < 8 ∧ s.dev.stnState u = 5 ∧ s.dev.maxOn u ≤ s.dev.now - (s.dev.stn u).renewAt) ∧
    (∃ (u : Nat) (s : State), u < 8 ∧ s.dev.rd F.FES_TIMING_PA_DELAY u ≤ s.dev.now - (s.dev.stn u).stepAt ∧ (s.dev.stn
    u).step = 1) ∧
    (∃ (u : Nat) (s : State), u < 8 ∧ s.dev.rd F.FES_TIMING_PA_DELAY u ≤ s.dev.now - (s.dev.stn u).stepAt ∧ (s.dev.stn
    u).step = 2 ∧ s.dev.stnState u = 5 ∧ s.dev.txAllowed = true) :=
  ⟨⟨7, 15, { dev := (up |>.wr F.FES_STS_STATE 4 7) }, by decide +kernel⟩,
    ⟨7, 15, { dev := (up |>.wr F.FES_STS_STATE 3 7) }, by decide +kernel⟩,
    ⟨7, 15, { dev := (up |>.wr F.FES_STS_STATE 4 7 |>.wr F.FES_SAFE_STS_SAFE_N 1) }, by decide +kernel⟩,
    ⟨7, 15, { dev := (up |>.wr F.FES_STS_STATE 5 7) }, by decide +kernel⟩,
    ⟨7, 15,
    { dev := { (up |>.wr F.FES_STS_STATE 3 7 |>.wr F.FES_LIMIT_TX_WAIT_LIMIT 10 7) with now := 1229, stns := [(7, { pend := some 15 })] } },
    by decide +kernel⟩,
    ⟨7, { dev := { (up |>.wr F.FES_STS_STATE 5 7 |>.wr F.FES_LIMIT_MAX_ON 1 7) with now := 1000000 } }, by decide +kernel⟩,
    ⟨7,
    { dev := { (up |>.wr F.FES_STS_STATE 5 7 |>.wr F.FES_TIMING_PA_DELAY 7 7) with now := 7, stns := [(7, { step := 1 })] } },
    by decide +kernel⟩,
    ⟨7,
    { dev := { (up |>.wr F.FES_STS_STATE 5 7 |>.wr F.FES_TIMING_PA_DELAY 7 7) with now := 7, stns := [(7, { step := 2 })] } },
    by decide +kernel⟩⟩

/-- The hypotheses of `StationPinsAlarmsControlAndRemotes` are met. -/
theorem witness_StationPinsAlarmsControlAndRemotes :
    (∃ (u : Nat) (s : State), u < 8 ∧ s.dev.rd F.FES_CTL_PAT u = 1 ∧ s.dev.stnState u ≠ 0 ∧ s.dev.rd
    F.FES_SAFE_STS_CLK_SAFE = 0 ∧ s.dev.pinCalled u 0 = true) ∧
    (∃ (u : Nat) (s : State), u < 8 ∧ s.dev.rd F.FES_CTL_PAT u = 1 ∧ s.dev.stnState u ≠ 0 ∧ s.dev.rd
    F.FES_SAFE_STS_CLK_SAFE = 0 ∧ s.dev.pinCalled u 1 = true) ∧
    (∃ (u : Nat) (s : State), u < 8 ∧ s.dev.rd F.FES_CTL_PAT u = 1 ∧ s.dev.stnState u ≠ 0 ∧ s.dev.rd
    F.FES_SAFE_STS_CLK_SAFE = 0 ∧ s.dev.pinCalled u 2 = true ∧ s.dev.stnState u = 5 ∧ s.dev.txAllowed = true) ∧
    (∃ (u : Nat) (s : State), u < 8 ∧ s.dev.rd F.FES_CTL_PAT u = 1 ∧ s.dev.stnState u ≠ 0 ∧ s.dev.rd
    F.FES_SAFE_STS_CLK_SAFE = 0 ∧ s.dev.pinCalled u 3 = true ∧ s.dev.stnState u = 5 ∧ s.dev.txAllowed = true ∧ s.dev.rd
    F.FES_STS_TXEN u = 1) ∧
    (∃ (u : Nat) (s : State), u < 8 ∧ s.dev.rd F.FES_CTL_PAT u = 1 ∧ s.dev.stnState u ≠ 0 ∧ s.dev.rd
    F.FES_SAFE_STS_CLK_SAFE = 0 ∧ s.dev.pinCalled u 4 = true) ∧
    (∃ (u : Nat) (s : State), u < 8 ∧ s.dev.rd F.FES_CTL_PAT u = 1 ∧ s.dev.stnState u ≠ 0 ∧ s.dev.rd
    F.FES_SAFE_STS_CLK_SAFE = 0 ∧ s.dev.pinCalled u 5 = true) ∧
    (∃ (u : Nat) (s : State), u < 8 ∧ s.dev.rd F.FES_CTL_PAT u = 1 ∧ s.dev.stnState u ≠ 0 ∧ s.dev.rd
    F.FES_SAFE_STS_CLK_SAFE = 0 ∧ s.dev.pinCalled u 6 = true) ∧
    (∃ (u : Nat) (s : State) (e : Nat), u < 8 ∧ s.dev.rd F.FES_CTL_PAT u = 1 ∧ s.dev.stnState u ≠ 0 ∧ s.dev.rd
    F.FES_SAFE_STS_CLK_SAFE = 0 ∧ e < 8 ∧ s.dev.pinCalled u e = false) ∧
    (∃ (u : Nat) (s : State), u < 8 ∧ s.dev.rd F.FES_CTL_PAT u = 1 ∧ s.dev.stnState u ≠ 0 ∧ s.dev.rd
    F.FES_SAFE_STS_CLK_SAFE = 0 ∧ s.dev.pinCalled u 7 = true) ∧
    (∃ (u : Nat) (held : Nat) (high : Bool) (s : State), u < 8 ∧ s.dev.coreOn = true ∧ s.dev.rd F.FES_STS_ALARM u = 0 ∧
    high ≠ s.dev.flag F.FES_ALARM_CFG_POL u ∧ 12288 * s.dev.rd F.FES_ALARM_CFG_FILTER u ≤ 100 * held) ∧
    (∃ (u : Nat) (high : Bool) (s : State), u < 8 ∧ s.dev.coreOn = true ∧ high = s.dev.flag F.FES_ALARM_CFG_POL u) ∧
    (∃ (u : Nat) (held : Nat) (high : Bool) (s : State), u < 8 ∧ s.dev.coreOn = true ∧ high ≠ s.dev.flag
    F.FES_ALARM_CFG_POL u ∧ 100 * held < 12288 * s.dev.rd F.FES_ALARM_CFG_FILTER u) ∧
    (∃ (u : Nat) (s : State), u < 8 ∧ s.dev.rd F.FES_STS_ALARM u = 1 ∧ s.dev.rd F.FES_ALARM_CFG_STUCK_TIME u ≠ 0 ∧
    12288000 * s.dev.rd F.FES_ALARM_CFG_STUCK_TIME u < s.dev.now - (s.dev.stn u).alarmAt) ∧
    (∃ (u : Nat) (b : Nat) (s : State), u < 8 ∧ (s.dev.stn u).lockout = some b ∧ 122880 * max 1 (s.dev.rd
    F.FES_ALARM_CFG_LOCKOUT u) ≤ s.dev.now - b) ∧
    (∃ (s : State), s.dev.coreOn = true ∧ s.dev.rd F.FES_SAFE_STS_SAFE_N = 0) ∧
    (∃ (p : Path) (u : Nat) (w : Nat) (s : State), u < 8 ∧ s.dev.Admits p (hit Reg.FES_CTL RD.FES_CTL u) w ∧
    F.FES_CTL_RUN.of w = 0 ∧ s.dev.stnState u = 0 ∧ F.FES_CTL_EN.of w = 1) ∧
    (∃ (p : Path) (u : Nat) (w : Nat) (s : State), u < 8 ∧ s.dev.Admits p (hit Reg.FES_CTL RD.FES_CTL u) w ∧
    F.FES_CTL_RUN.of w = 0 ∧ s.dev.stnState u ≠ 0 ∧ F.FES_CTL_EN.of w = 0) ∧
    (∃ (p : Path) (u : Nat) (w : Nat) (s : State), u < 8 ∧ s.dev.coreOn = true ∧ s.dev.Admits p (hit Reg.FES_CTL
    RD.FES_CTL u) (withBits w 20 1 1) ∧ listAt (s.dev.slotBody u (F.FES_CTL_RUN_SLOT.of (withBits w 20 1 1))) 0 = 0) ∧
    (∃ (p : Path) (u : Nat) (w : Nat) (s : State), u < 8 ∧ s.dev.Admits p (hit Reg.FES_CTL RD.FES_CTL u) (withBits w 8 1
    1) ∧ F.FES_CTL_RUN.of (withBits w 8 1 1) = 0 ∧ F.FES_CTL_EN.of (withBits w 8 1 1) = 1 ∧ s.dev.stnState u = 6) ∧
    (∃ (p : Path) (u : Nat) (w : Nat) (s : State), u < 8 ∧ s.dev.Admits p (hit Reg.FES_CTL RD.FES_CTL u) (withBits w 9 1
    1) ∧ F.FES_CTL_RUN.of (withBits w 9 1 1) = 0) ∧
    (∃ (p : Path) (w : Nat) (s : State), s.dev.Admits p (hit Reg.FES_GLB_CTL RD.FES_GLB_CTL) (withBits w 1 1 1)) ∧
    (∃ (p : Path) (u : Nat) (w : Nat) (s : State), u < 8 ∧ s.dev.Admits p (hit Reg.FES_CACHE_CTL RD.FES_CACHE_CTL u)
    (withBits w 31 1 1) ∧ s.dev.rd F.FES_CACHE_CTL_BUSY u = 0 ∧ s.dev.memReady = true) ∧
    (∃ (u : Nat) (idx : Nat) (ch : Nat) (e : List Nat) (s : State), u < 8 ∧ (s.dev.stn u).load = some (idx, ch) ∧
    s.dev.memReady = true ∧ s.dev.memFits (64 * (s.dev.rd F.FES_TBL_ADDR64 u + ch)) 64 = true ∧ e = s.mem.sdRead (64 *
    (s.dev.rd F.FES_TBL_ADDR64 u + ch)) 64 ∧ crcGood e = true ∧ leAt e 0 2 = ch) ∧
    (∃ (u : Nat) (idx : Nat) (ch : Nat) (e : List Nat) (s : State), u < 8 ∧ (s.dev.stn u).load = some (idx, ch) ∧
    s.dev.memReady = true ∧ s.dev.memFits (64 * (s.dev.rd F.FES_TBL_ADDR64 u + ch)) 64 = true ∧ e = s.mem.sdRead (64 *
    (s.dev.rd F.FES_TBL_ADDR64 u + ch)) 64 ∧ crcGood e = false) ∧
    (∃ (u : Nat) (idx : Nat) (ch : Nat) (e : List Nat) (s : State), u < 8 ∧ (s.dev.stn u).load = some (idx, ch) ∧
    s.dev.memReady = true ∧ s.dev.memFits (64 * (s.dev.rd F.FES_TBL_ADDR64 u + ch)) 64 = true ∧ e = s.mem.sdRead (64 *
    (s.dev.rd F.FES_TBL_ADDR64 u + ch)) 64 ∧ crcGood e = true ∧ leAt e 0 2 ≠ ch) ∧
    (∃ (q : Nat) (s : State), q < 512 ∧ s.dev.rd F.FES_GLB_CTL_HB_EN = 1 ∧ s.dev.engineOn = true ∧ s.dev.rd
    F.FES_REM_STS_ARMED q = 1 ∧ s.dev.rd F.FES_GLB_CTL_REM_RENEW ≠ 0 ∧ s.dev.portActive (q / 4) = true ∧ (∀ (b : Nat),
    tabFind (s.dev.lp (q / 4)).renewedAt (q % 4) = some b → 61440 * s.dev.rd F.FES_GLB_CTL_REM_RENEW ≤ s.dev.now - b)) ∧
    (∃ (port : Nat) (c : List Nat) (s : State), port < 128 ∧ (s.dev.lp port).rxCell = some c ∧ listAt c 0 = 7 ∧ listAt c 6
    < 8 ∧ listAt c 5 < 16) :=
  ⟨⟨7,
    { dev := { (up |>.wr F.FES_STS_STATE 5 7 |>.wr F.FES_CTL_PAT 1 7 |>.wr F.FES_SAFE_STS_CLK_SAFE 0 |>.wr F.ORB_STS_STATE 3 0 |>.wr F.ORB_TDD_PER_PERIOD 1228800 0 0 |>.wr F.ORB_TDD_SEG_TYPE 0 0 0 0 |>.wr F.ORB_TDD_SEG_TYPE 1 0 0 1 |>.wr F.ORB_TDD_SEG_START 614400 0 0 1) with orbs := [(0, { pos := 700000 })] } },
    by decide +kernel⟩,
    ⟨7,
    { dev := { (up |>.wr F.FES_STS_STATE 5 7 |>.wr F.FES_CTL_PAT 1 7 |>.wr F.FES_SAFE_STS_CLK_SAFE 0 |>.wr F.ORB_STS_STATE 3 0 |>.wr F.ORB_TDD_PER_PERIOD 1228800 0 0 |>.wr F.ORB_TDD_SEG_TYPE 0 0 0 0 |>.wr F.ORB_TDD_SEG_TYPE 1 0 0 1 |>.wr F.ORB_TDD_SEG_START 614400 0 0 1) with orbs := [(0, { pos := 700000 })] } },
    by decide +kernel⟩,
    ⟨7,
    { dev := { (up |>.wr F.FES_STS_STATE 5 7 |>.wr F.FES_CTL_PAT 1 7 |>.wr F.FES_SAFE_STS_CLK_SAFE 0 |>.wr F.ORB_STS_STATE 3 0 |>.wr F.ORB_TDD_PER_PERIOD 1228800 0 0 |>.wr F.ORB_TDD_SEG_TYPE 0 0 0 0 |>.wr F.ORB_TDD_SEG_TYPE 1 0 0 1 |>.wr F.ORB_TDD_SEG_START 614400 0 0 1) with orbs := [(0, { pos := 700000 })] } },
    by decide +kernel⟩,
    ⟨7,
    { dev := { (up |>.wr F.FES_STS_STATE 5 7 |>.wr F.FES_CTL_PAT 1 7 |>.wr F.FES_SAFE_STS_CLK_SAFE 0 |>.wr F.FES_STS_TXEN 1 7 |>.wr F.ORB_STS_STATE 3 0 |>.wr F.ORB_TDD_PER_PERIOD 1228800 0 0 |>.wr F.ORB_TDD_SEG_TYPE 0 0 0 0 |>.wr F.ORB_TDD_SEG_TYPE 1 0 0 1 |>.wr F.ORB_TDD_SEG_START 614400 0 0 1) with orbs := [(0, { pos := 700000 })] } },
    by decide +kernel⟩,
    ⟨7,
    { dev := { (up |>.wr F.FES_STS_STATE 5 7 |>.wr F.FES_CTL_PAT 1 7 |>.wr F.FES_SAFE_STS_CLK_SAFE 0 |>.wr F.ORB_STS_STATE 3 0 |>.wr F.ORB_TDD_PER_PERIOD 1228800 0 0 |>.wr F.ORB_TDD_SEG_TYPE 0 0 0 0 |>.wr F.ORB_TDD_SEG_TYPE 1 0 0 1 |>.wr F.ORB_TDD_SEG_START 614400 0 0 1) with orbs := [(0, { pos := 100000 })] } },
    by decide +kernel⟩,
    ⟨7,
    { dev := { (up |>.wr F.FES_STS_STATE 5 7 |>.wr F.FES_CTL_PAT 1 7 |>.wr F.FES_SAFE_STS_CLK_SAFE 0 |>.wr F.ORB_STS_STATE 3 0 |>.wr F.ORB_TDD_PER_PERIOD 1228800 0 0 |>.wr F.ORB_TDD_SEG_TYPE 0 0 0 0 |>.wr F.ORB_TDD_SEG_TYPE 1 0 0 1 |>.wr F.ORB_TDD_SEG_START 614400 0 0 1) with orbs := [(0, { pos := 100000 })] } },
    by decide +kernel⟩,
    ⟨7,
    { dev := { (up |>.wr F.FES_STS_STATE 5 7 |>.wr F.FES_CTL_PAT 1 7 |>.wr F.FES_SAFE_STS_CLK_SAFE 0 |>.wr F.ORB_STS_STATE 3 0 |>.wr F.ORB_TDD_PER_PERIOD 1228800 0 0 |>.wr F.ORB_TDD_SEG_TYPE 0 0 0 0 |>.wr F.ORB_TDD_SEG_TYPE 1 0 0 1 |>.wr F.ORB_TDD_SEG_START 614400 0 0 1) with orbs := [(0, { pos := 100000 })] } },
    by decide +kernel⟩,
    ⟨7, { dev := (up |>.wr F.FES_STS_STATE 5 7 |>.wr F.FES_CTL_PAT 1 7 |>.wr F.FES_SAFE_STS_CLK_SAFE 0) }, 7,
    by decide +kernel⟩,
    ⟨7,
    { dev := { (up |>.wr F.FES_STS_STATE 5 7 |>.wr F.FES_CTL_PAT 1 7 |>.wr F.FES_SAFE_STS_CLK_SAFE 0 |>.wr F.ORB_STS_STATE 3 0 |>.wr F.ORB_TDD_PER_PERIOD 1228800 0 0 |>.wr F.ORB_TDD_SEG_TYPE 0 0 0 0 |>.wr F.ORB_TDD_SEG_TYPE 1 0 0 1 |>.wr F.ORB_TDD_SEG_START 614400 0 0 1) with orbs := [(0, { pos := 100000 })] } },
    by decide +kernel⟩,
    ⟨7, 123, true, { dev := (up |>.wr F.FES_ALARM_CFG_FILTER 1 7) }, by decide +kernel⟩,
    ⟨7, false, { dev := up }, by decide +kernel⟩,
    ⟨7, 122, true, { dev := (up |>.wr F.FES_ALARM_CFG_FILTER 1 7) }, by decide +kernel⟩,
    ⟨7, { dev := { (up |>.wr F.FES_STS_ALARM 1 7 |>.wr F.FES_ALARM_CFG_STUCK_TIME 1 7) with now := 12288001 } },
    by decide +kernel⟩,
    ⟨7, 0, { dev := { (up |>.wr F.FES_ALARM_CFG_LOCKOUT 1 7) with now := 122880, stns := [(7, { lockout := some 0 })] } },
    by decide +kernel⟩,
    ⟨{ dev := up }, by decide +kernel⟩,
    ⟨.bar0, 7, fw F.FES_CTL_EN 1, { dev := up }, by decide +kernel⟩,
    ⟨.bar0, 7, 0, { dev := (up |>.wr F.FES_STS_STATE 5 7) }, by decide +kernel⟩,
    ⟨.bar0, 7, fw F.FES_CTL_RUN_SLOT 15, { dev := up }, by decide +kernel⟩,
    ⟨.bar0, 7, fw F.FES_CTL_EN 1, { dev := (up |>.wr F.FES_STS_STATE 6 7) }, by decide +kernel⟩,
    ⟨.bar0, 7, 0, { dev := up }, by decide +kernel⟩,
    ⟨.bar0, 0, { dev := up }, by decide +kernel⟩,
    ⟨.bar0, 7, 0, { dev := up }, by decide +kernel⟩,
    ⟨7, 0, 0, (sealed (0 :: 0 :: List.replicate 58 7)),
    { dev := { up with stns := [(7, { load := some (0, 0) })] }, mem := loaded 0 (sealed (0 :: 0 :: List.replicate 58 7)) },
    by decide +kernel⟩,
    ⟨7, 0, 0, (List.replicate 64 7),
    { dev := { up with stns := [(7, { load := some (0, 0) })] }, mem := loaded 0 (List.replicate 64 7) },
    by decide +kernel⟩,
    ⟨7, 0, 0, (sealed (1 :: 0 :: List.replicate 58 7)),
    { dev := { up with stns := [(7, { load := some (0, 0) })] }, mem := loaded 0 (sealed (1 :: 0 :: List.replicate 58 7)) },
    by decide +kernel⟩,
    ⟨511,
    { dev := (up |>.wr F.FES_GLB_CTL_HB_EN 1 |>.wr F.FES_REM_STS_ARMED 1 511 |>.wr F.FES_GLB_CTL_REM_RENEW 1 |>.wr F.LNK_STS_PORT_STATE 5 127 |>.wr F.CE_CTL_RUN 1) },
    by decide +kernel⟩,
    ⟨127, [7, 0, 0, 0, 0, 15, 7],
    { dev := { up with lnk := { ports := [(127, { rxCell := some [7, 0, 0, 0, 0, 15, 7] })] } } }, by decide +kernel⟩⟩

/-- The hypotheses of `GainBanksAreWrittenAndCommitted` are met. -/
theorem witness_GainBanksAreWrittenAndCommitted :
    (∃ (p : Path) (k : Nat) (w : Nat) (s : State), k < 262144 ∧ s.dev.Admits p (hit Reg.TIL_PEND RD.TIL_PEND k) w ∧
    s.dev.has (k / 128) = true ∧ s.dev.rd F.TIL_STREAM_MANUAL (k / 128) = 1 ∧ s.dev.mld.entered = true) ∧
    (∃ (p : Path) (k : Nat) (w : Nat) (s : State), k < 262144 ∧ s.dev.Admits p (hit Reg.TIL_PEND RD.TIL_PEND k) w ∧
    s.dev.has (k / 128) = true ∧ s.dev.rd F.TIL_STREAM_MANUAL (k / 128) = 0) ∧
    (∃ (p : Path) (k : Nat) (w : Nat) (s : State), k < 262144 ∧ s.dev.Admits p (hit Reg.TIL_PEND RD.TIL_PEND k) w ∧
    (s.dev.has (k / 128) = false ∨ s.dev.rd F.TIL_STREAM_MANUAL (k / 128) = 1 ∧ s.dev.mld.entered = false)) ∧
    (∃ (p : Path) (m : Nat) (w : Nat) (s : State), m < 2048 ∧ s.dev.has m = true ∧ s.dev.Admits p (hit Reg.TIL_STREAM
    RD.TIL_STREAM m) (withBits w 8 1 1) ∧ F.TIL_STREAM_MANUAL.of (withBits w 8 1 1) = 1 ∧ s.dev.rd F.TIL_STREAM_FADING m =
    0) ∧
    (∃ (p : Path) (m : Nat) (w : Nat) (s : State), m < 2048 ∧ s.dev.has m = true ∧ s.dev.Admits p (hit Reg.TIL_STREAM
    RD.TIL_STREAM m) (withBits w 8 1 1) ∧ F.TIL_STREAM_MANUAL.of (withBits w 8 1 1) = 1 ∧ s.dev.rd F.TIL_STREAM_FADING m =
    1 ∧ s.dev.rd F.TIL_STREAM_WAITING m = 0) ∧
    (∃ (p : Path) (m : Nat) (w : Nat) (s : State), m < 2048 ∧ s.dev.has m = true ∧ s.dev.Admits p (hit Reg.TIL_STREAM
    RD.TIL_STREAM m) (withBits w 8 1 1) ∧ F.TIL_STREAM_MANUAL.of (withBits w 8 1 1) = 1 ∧ s.dev.rd F.TIL_STREAM_FADING m =
    1 ∧ s.dev.rd F.TIL_STREAM_WAITING m = 1) ∧
    (∃ (p : Path) (m : Nat) (w : Nat) (s : State), m < 2048 ∧ s.dev.Admits p (hit Reg.TIL_STREAM RD.TIL_STREAM m) w ∧
    F.TIL_STREAM_COMMIT.of w = 0) ∧
    (∃ (m : Nat) (s : State), m < 2048 ∧ s.dev.rd F.TIL_STREAM_FADING m = 1 ∧ (s.dev.stream m).swapLate = false ∧
    (s.dev.stream m).fadeAt + 16 ≤ s.dev.gainNo (s.dev.donorOf m) ∧ s.dev.rd F.TIL_STREAM_WAITING m = 0) ∧
    (∃ (m : Nat) (s : State), m < 2048 ∧ s.dev.rd F.TIL_STREAM_FADING m = 1 ∧ (s.dev.stream m).swapLate = false ∧
    (s.dev.stream m).fadeAt + 16 ≤ s.dev.gainNo (s.dev.donorOf m) ∧ s.dev.rd F.TIL_STREAM_WAITING m = 1) ∧
    (∃ (p : Path) (w : Nat) (s : State), s.dev.Admits p (hit Reg.TIL_CTL RD.TIL_CTL) (withBits w 0 1 1)) ∧
    (∃ (p : Path) (n : Nat) (w : Nat) (s : State), n < 16 ∧ s.dev.Admits p (hit Reg.SLC_DSLICE RD.SLC_DSLICE n) (withBits
    w 8 1 1) ∧ F.SLC_DSLICE_ALIGN_MODE.of (withBits w 8 1 1) = 0 ∧ s.dev.ulActive n ≠ []) ∧
    (∃ (p : Path) (n : Nat) (w : Nat) (s : State), n < 16 ∧ s.dev.Admits p (hit Reg.SLC_DSLICE RD.SLC_DSLICE n) (withBits
    w 8 1 1) ∧ F.SLC_DSLICE_ALIGN_MODE.of (withBits w 8 1 1) = 1) :=
  ⟨⟨.bar0, 262143, 0, { dev := (up |>.wr F.MLD_PLACE_VALID 1 2047 |>.wr F.TIL_STREAM_MANUAL 1 2047) }, by decide +kernel⟩,
    ⟨.bar0, 262143, 0, { dev := (up |>.wr F.MLD_PLACE_VALID 1 2047) }, by decide +kernel⟩,
    ⟨.bar0, 262143, 0, { dev := { (up |>.wr F.MLD_PLACE_VALID 1 2047 |>.wr F.TIL_STREAM_MANUAL 1 2047) with mld := {} } },
    by decide +kernel⟩,
    ⟨.bar0, 2047, fw F.TIL_STREAM_MANUAL 1, { dev := (up |>.wr F.MLD_PLACE_VALID 1 2047) }, by decide +kernel⟩,
    ⟨.bar0, 2047, fw F.TIL_STREAM_MANUAL 1,
    { dev := (up |>.wr F.MLD_PLACE_VALID 1 2047 |>.wr F.TIL_STREAM_FADING 1 2047) }, by decide +kernel⟩,
    ⟨.bar0, 2047, fw F.TIL_STREAM_MANUAL 1,
    { dev := (up |>.wr F.MLD_PLACE_VALID 1 2047 |>.wr F.TIL_STREAM_FADING 1 2047 |>.wr F.TIL_STREAM_WAITING 1 2047) },
    by decide +kernel⟩,
    ⟨.bar0, 2047, 0, { dev := up }, by decide +kernel⟩,
    ⟨2047, { dev := { (up |>.wr F.TIL_STREAM_FADING 1 2047) with now := 2048 } }, by decide +kernel⟩,
    ⟨2047, { dev := { (up |>.wr F.TIL_STREAM_FADING 1 2047 |>.wr F.TIL_STREAM_WAITING 1 2047) with now := 2048 } },
    by decide +kernel⟩,
    ⟨.bar0, 0, { dev := up }, by decide +kernel⟩,
    ⟨.bar0, 15, fw F.SLC_DSLICE_ALIGN_MODE 0,
    { dev := ((({} : Dev).wr (ownerFld 5) 1) |>.wr F.CLK_BOOT_STS_CORE_ON 1 |>.wr F.MLD_PLACE_VALID 1 2047 |>.wr F.MLD_PLACE_DONOR_SLICE 15 2047 |>.wr F.LNK_STS_PORT_STATE 5 127) },
    by decide +kernel⟩,
    ⟨.bar0, 15, fw F.SLC_DSLICE_ALIGN_MODE 1, { dev := up }, by decide +kernel⟩⟩

/-- The hypotheses of `FailedSliceProcessorIsTakenOver` are met. -/
theorem witness_FailedSliceProcessorIsTakenOver :
    (∃ (sp : Nat) (cause : Nat) (l : List Bool) (s : State), sp < 36 ∧ s.dev.spFailed sp = false ∧ s.dev.mld.migs = [] ∧
    cause < 8 ∧ (cause = 1 ∧ s.dev.resReached sp = true ∨ cause = 2 ∨ cause = 3 ∧ ringRun (tabGet 0 s.dev.slc.ringRuns sp)
    l = 2 ∨ cause = 4 ∧ s.dev.rd F.PWR_DOM_STATE (6 + sp) = 5)) ∧
    (∃ (sp : Nat) (cause : Nat) (l : List Bool) (s : State), sp < 36 ∧ s.dev.spFailed sp = false ∧ s.dev.mld.migs = [] ∧
    cause < 8 ∧ cause = 3 ∧ ringRun (tabGet 0 s.dev.slc.ringRuns sp) l ≠ 2) ∧
    (∃ (sp : Nat) (cause : Nat) (s : State), sp < 36 ∧ s.dev.spFailed sp = false ∧ s.dev.mld.migs = [] ∧ cause < 8) ∧
    (∃ (sp : Nat) (s : State), sp < 36 ∧ s.dev.spFailed sp = true) ∧
    (∃ (m : Nat) (u : Nat) (sp : Nat), m < 2080 ∧ u < 10 ∧ sp < 36) ∧
    (∃ (p : Path) (w : Nat) (s : State), s.dev.Admits p (hit Reg.SLC_CTL RD.SLC_CTL) (withBits w 8 1 1) ∧
    F.SLC_CTL_TEST_SP.of (withBits w 8 1 1) < 36 ∧ s.dev.spFailed (F.SLC_CTL_TEST_SP.of (withBits w 8 1 1)) = false) ∧
    (∃ (p : Path) (w : Nat) (s : State), s.dev.Admits p (hit Reg.SLC_CTL RD.SLC_CTL) (withBits w 0 1 1) ∧
    F.SLC_CTL_TEST_FAIL.of (withBits w 0 1 1) = 0) ∧
    (∃ (n : Nat) (tk : Takeover) (s : State), s.dev.slc.takeover = some tk ∧ tk.target = some n ∧ n < 36 ∧
    tk.streams.Nodup ∧ (∀ m ∈ tk.streams, m < 2080) ∧ s.dev.rd F.SLC_TAKEOVER_STEP = 2 ∧ s.dev.domOn (6 + n) = true) ∧
    (∃ (tk : Takeover) (s : State), s.dev.slc.takeover = some tk ∧ s.dev.slc.waiting = [] ∧ (s.dev.rd F.SLC_TAKEOVER_STEP
    = 3 ∨ s.dev.rd F.SLC_TAKEOVER_STEP = 4) ∧ s.dev.banksFilled tk = true ∧ s.dev.sinceFrame = 0) :=
  ⟨⟨35, 2, [], { dev := up }, by decide +kernel⟩,
    ⟨35, 3, [true], { dev := up }, by decide +kernel⟩,
    ⟨35, 7, { dev := up }, by decide +kernel⟩,
    ⟨35, { dev := { up with slc := { failed := [(35, 1)] } } }, by decide +kernel⟩,
    ⟨2079, 9, 35, by decide +kernel⟩,
    ⟨.bar0, fw F.SLC_CTL_TEST_SP 35, { dev := up }, by decide +kernel⟩,
    ⟨.bar0, 0, { dev := up }, by decide +kernel⟩,
    ⟨35, { target := some 35, streams := [0, 2079] },
    { dev := { (up |>.wr F.SLC_TAKEOVER_STEP 2) with slc := { takeover := some { target := some 35, streams := [0, 2079] } } } },
    by decide +kernel⟩,
    ⟨{}, { dev := { (up |>.wr F.SLC_TAKEOVER_STEP 3) with now := 512, slc := { takeover := some {} } } },
    by decide +kernel⟩⟩

/-- The hypotheses of `ChainOutputFillsTheMirrorTable` are met. -/
theorem witness_ChainOutputFillsTheMirrorTable :
    (∃ (m : Nat) (tap : Nat) (o : ChainOut) (s : State), m < 2080 ∧ tap < 2 ∧ s.dev.hasTap m tap = true ∧ (s.dev.chain m
    tap).ready = some o) ∧
    (∃ (m : Nat) (tap : Nat) (s : State), m < 2080 ∧ tap < 2 ∧ (s.dev.hasTap m tap = false ∨ (s.dev.chain m tap).ready =
    none)) :=
  ⟨⟨2079, 0, {},
    { dev := { (up |>.wr F.MLD_PLACE_VALID 1 2079) with chn := { chains := [(4158, { ready := some {} })] } } },
    by decide +kernel⟩,
    ⟨2079, 0, { dev := (up |>.wr F.MLD_PLACE_VALID 1 2079) }, by decide +kernel⟩⟩

/-- The hypotheses of `ChainsAreSyncedSwappedWatchedAndCaptured` are met. -/
theorem witness_ChainsAreSyncedSwappedWatchedAndCaptured :
    (∃ (falling : Bool) (held : Bool) (s : State), (s.dev.flag F.MEA_CTL_PIN_EN && held && s.dev.flag F.MEA_CTL_PIN_POL ==
    falling) = false) ∧
    (∃ (falling : Bool) (i : Nat) (m : Nat) (s : State), s.dev.rd F.MEA_CTL_PIN_EN = 1 ∧ s.dev.flag F.MEA_CTL_PIN_POL =
    falling ∧ i < 2 ∧ s.dev.rd F.MEA_CTL_SYNC_MASK = 2 ^ i ∧ tabGet [] s.dev.chn.sync i = [] ∧ m ∈ s.dev.allStreams ∧
    s.dev.orbitOf m = i) ∧
    (∃ (falling : Bool) (i : Nat) (s : State), s.dev.rd F.MEA_CTL_PIN_EN = 1 ∧ s.dev.flag F.MEA_CTL_PIN_POL = falling ∧ i
    < 2 ∧ s.dev.rd F.MEA_CTL_SYNC_MASK = 2 ^ i ∧ tabGet [] s.dev.chn.sync i ≠ []) ∧
    (∃ (p : Path) (w : Nat) (i : Nat) (m : Nat) (s : State), s.dev.Admits p (hit Reg.MEA_CTL RD.MEA_CTL) (withBits w 1 1
    1) ∧ i < 2 ∧ bitAt (F.MEA_CTL_SYNC_MASK.of (withBits w 1 1 1)) i = true ∧ tabGet [] s.dev.chn.sync i = [] ∧ m ∈
    s.dev.allStreams ∧ s.dev.orbitOf m = i) ∧
    (∃ (p : Path) (w : Nat) (s : State), s.dev.Admits p (hit Reg.MEA_CTL RD.MEA_CTL) (withBits w 0 1 1) ∧
    F.MEA_CTL_SYNC.of (withBits w 0 1 1) = 0) ∧
    (∃ (n : Nat) (s : State), n < 16 ∧ tabGet [] s.dev.chn.sync (s.dev.donor n).orbit ≠ [] ∧ (∀ m ∈ tabGet []
    s.dev.chn.sync (s.dev.donor n).orbit, s.dev.dsliceOf m = n) ∧ tabGet 0 s.dev.chn.syncAt (s.dev.donor n).orbit + 128 *
    s.dev.scale n ≤ (s.dev.boundaryNear n).2) ∧
    (∃ (p : Path) (m : Nat) (w : Nat) (f : Fld) (s : State), m < 2080 ∧ s.dev.Admits p (hit Reg.MEA_PRESET RD.MEA_PRESET
    m) (withBits w 6 1 1) ∧ (f = if s.dev.flag F.MEA_PRESET_ACTIVE m = true then F.MEA_PRESET_BANK_B else
    F.MEA_PRESET_BANK_A) ∧ f.of (withBits w 6 1 1) ≠ s.dev.rd f m) ∧
    (∃ (p : Path) (m : Nat) (w : Nat) (f : Fld) (s : State), m < 2080 ∧ s.dev.Admits p (hit Reg.MEA_PRESET RD.MEA_PRESET
    m) (withBits w 6 1 1) ∧ (f = if s.dev.flag F.MEA_PRESET_ACTIVE m = true then F.MEA_PRESET_BANK_B else
    F.MEA_PRESET_BANK_A) ∧ f.of (withBits w 6 1 1) = s.dev.rd f m ∧ s.dev.has m = true) ∧
    (∃ (m : Nat) (s : State), m < 2080 ∧ s.dev.rd F.MEA_PRESET_PENDING m = 1 ∧ (s.dev.stream m).swapAt <
    (s.dev.boundaryNear (s.dev.dsliceOf m)).2 ∧ (2048 ≤ m ∨ s.dev.rd F.TIL_STREAM_FADING m = 0)) ∧
    (∃ (m : Nat) (s : State), m < 2080 ∧ s.dev.rd F.MEA_PRESET_PENDING m = 1 ∧ (s.dev.stream m).swapAt <
    (s.dev.boundaryNear (s.dev.dsliceOf m)).2 ∧ m < 2048 ∧ s.dev.rd F.TIL_STREAM_FADING m = 1 ∧ (s.dev.stream m).swapLate
    = false) ∧
    (∃ (p : Path) (e : Nat) (w : Nat) (s : State), e < 256 ∧ s.dev.Admits p (hit Reg.MEA_WATCH0 RD.MEA_WATCH0 e) w) ∧
    (∃ (p : Path) (e : Nat) (w : Nat) (s : State), e < 256 ∧ s.dev.Admits p (hit Reg.MEA_WATCH1 RD.MEA_WATCH1 e) w) ∧
    (∃ (p : Path) (c : Nat) (w : Nat) (s : State), c < 16 ∧ s.dev.Admits p (hit Reg.MEA_CAP3 RD.MEA_CAP3 c) (withBits w 0
    1 1) ∧ s.dev.rd F.MEA_CAP3_BUSY c = 1) ∧
    (∃ (p : Path) (c : Nat) (w : Nat) (s : State), c < 16 ∧ s.dev.Admits p (hit Reg.MEA_CAP3 RD.MEA_CAP3 c) (withBits w 0
    1 1) ∧ s.dev.rd F.MEA_CAP3_BUSY c = 0 ∧ s.dev.rd F.BGV_STS_DEFER = 0 ∧ s.dev.hasTap (s.dev.rd F.MEA_CAP0_STREAM c)
    (s.dev.rd F.MEA_CAP0_TAP c) = true ∧ s.dev.rd F.MEA_CAP0_FIRST_TILE c ≤ s.dev.rd F.MEA_CAP0_LAST_TILE c) ∧
    (∃ (c : Nat) (a : Nat) (r : CapRun) (s : State), c < 16 ∧ tabFind s.dev.chn.caps c = some r ∧ a = 64 * s.dev.rd
    F.MEA_CAP2_ADDR64 c ∧ s.dev.captureFull c r = true ∧ s.dev.memReady = true ∧ s.dev.memFits a (s.dev.captureOctets c
    r).length = true) ∧
    (∃ (c : Nat) (a : Nat) (r : CapRun) (s : State), c < 16 ∧ tabFind s.dev.chn.caps c = some r ∧ a = 64 * s.dev.rd
    F.MEA_CAP2_ADDR64 c ∧ s.dev.captureFull c r = false ∧ s.dev.captureCut c r = true ∧ r.rows = [] ∧ s.dev.memReady =
    true ∧ s.dev.memFits a 0 = true) ∧
    (∃ (c : Nat) (a : Nat) (r : CapRun) (s : State), c < 16 ∧ tabFind s.dev.chn.caps c = some r ∧ a = 64 * s.dev.rd
    F.MEA_CAP2_ADDR64 c) ∧
    (∃ (c : Nat) (a : Nat) (r : CapRun) (s : State), c < 16 ∧ tabFind s.dev.chn.caps c = some r ∧ a = 64 * s.dev.rd
    F.MEA_CAP2_ADDR64 c ∧ s.dev.captureFull c r = false ∧ s.dev.captureCut c r = false) :=
  ⟨⟨false, false, { dev := up }, by decide +kernel⟩,
    ⟨false, 1, 2079,
    { dev := { (({} : Dev) |>.wr F.MEA_CTL_PIN_EN 1 |>.wr F.MEA_CTL_SYNC_MASK 2 |>.wr F.MLD_PLACE_VALID 1 2079) with mld := { plan := { donors := [(15, { orbit := 1 })] } } } },
    by decide +kernel⟩,
    ⟨false, 1,
    { dev := { (up |>.wr F.MEA_CTL_PIN_EN 1 |>.wr F.MEA_CTL_SYNC_MASK 2) with chn := { sync := [(1, [0])] } } },
    by decide +kernel⟩,
    ⟨.bar0, fw F.MEA_CTL_SYNC_MASK 2, 1, 2079,
    { dev := { ((({} : Dev).wr (ownerFld 7) 1) |>.wr F.CLK_BOOT_STS_CORE_ON 1 |>.wr F.MLD_PLACE_VALID 1 2079) with mld := { plan := { donors := [(15, { orbit := 1 })] } } } },
    by decide +kernel⟩,
    ⟨.bar0, 0, { dev := up }, by decide +kernel⟩,
    ⟨15, { dev := { up with now := 100000, chn := { sync := [(0, [2079])] } } }, by decide +kernel⟩,
    ⟨.bar0, 2079, fw F.MEA_PRESET_BANK_A 2, F.MEA_PRESET_BANK_A, { dev := up },
    by decide +kernel, by decide +kernel, rfl, by decide +kernel⟩,
    ⟨.bar0, 2079, fw F.MEA_PRESET_BANK_A 1, F.MEA_PRESET_BANK_A, { dev := (up |>.wr F.MLD_PLACE_VALID 1 2079) },
    by decide +kernel, by decide +kernel, rfl, by decide +kernel⟩,
    ⟨2079, { dev := { (up |>.wr F.MEA_PRESET_PENDING 1 2079) with now := 100000 } }, by decide +kernel⟩,
    ⟨2047, { dev := { (up |>.wr F.MEA_PRESET_PENDING 1 2047 |>.wr F.TIL_STREAM_FADING 1 2047) with now := 100000 } },
    by decide +kernel⟩,
    ⟨.bar0, 255, 0, { dev := up }, by decide +kernel⟩,
    ⟨.bar0, 255, 0, { dev := up }, by decide +kernel⟩,
    ⟨.bar0, 15, 0, { dev := (up |>.wr F.MEA_CAP3_BUSY 1 15) }, by decide +kernel⟩,
    ⟨.bar0, 15, 0,
    { dev := (up |>.wr F.MEA_CAP0_STREAM 2079 15 |>.wr F.MLD_PLACE_VALID 1 2079 |>.wr F.MEA_CAP0_TAP 0 15) },
    by decide +kernel⟩,
    ⟨15, 0, { rows := [[]] }, { dev := { up with chn := { caps := [(15, { rows := [[]] })] } } }, by decide +kernel⟩,
    ⟨15, 0, { epoch := 1 }, { dev := { up with chn := { caps := [(15, { epoch := 1 })] } } }, by decide +kernel⟩,
    ⟨15, 0, {}, { dev := { up with chn := { caps := [(15, {})] } } }, by decide +kernel⟩,
    ⟨15, 0, {}, { dev := { up with chn := { caps := [(15, {})] } } }, by decide +kernel⟩⟩

/-- The hypotheses of `BlocksMoveTheEstimateOfACell` are met. -/
theorem witness_BlocksMoveTheEstimateOfACell :
    (∃ (m : Nat) (k : Nat) (o : BlockOut) (s : State), m < 2048 ∧ k < 256 ∧ s.dev.has m = true ∧ (s.dev.corr m k).done =
    some o ∧ s.dev.far m = false ∧ s.dev.survey (s.dev.donorOf m) = none ∧ s.dev.cellHeld m false = false ∧ (s.dev.cell m
    k).run = none) ∧
    (∃ (m : Nat) (k : Nat) (o : BlockOut) (s : State) (r : Int), m < 2048 ∧ k < 256 ∧ s.dev.has m = true ∧ (s.dev.corr m
    k).done = some o ∧ s.dev.far m = false ∧ s.dev.survey (s.dev.donorOf m) = none ∧ s.dev.cellHeld m false = false ∧
    (s.dev.cell m k).run = some r ∧ o.floor = false ∧ absI (o.level - r) ≤ s.dev.jump) ∧
    (∃ (m : Nat) (k : Nat) (o : BlockOut) (s : State) (r : Int), m < 2048 ∧ k < 256 ∧ s.dev.has m = true ∧ (s.dev.corr m
    k).done = some o ∧ s.dev.far m = false ∧ s.dev.survey (s.dev.donorOf m) = none ∧ s.dev.cellHeld m false = false ∧
    (s.dev.cell m k).run = some r ∧ o.floor = false ∧ s.dev.jump < absI (o.level - r)) ∧
    (∃ (m : Nat) (k : Nat) (o : BlockOut) (s : State) (r : Int), m < 2048 ∧ k < 256 ∧ s.dev.has m = true ∧ (s.dev.corr m
    k).done = some o ∧ s.dev.far m = false ∧ s.dev.survey (s.dev.donorOf m) = none ∧ s.dev.cellHeld m false = false ∧
    (s.dev.cell m k).run = some r ∧ o.floor = true) ∧
    (∃ (m : Nat) (k : Nat) (s : State), m < 2048 ∧ k < 256 ∧ (s.dev.corr m k).done = none) ∧
    (∃ (m : Nat) (k : Nat) (o : BlockOut) (s : State), m < 2048 ∧ k < 256 ∧ (s.dev.corr m k).done = some o ∧ s.dev.far m =
    true) ∧
    (∃ (m : Nat) (k : Nat) (c : Nat) (s : State), m < 2048 ∧ k < 256 ∧ s.dev.has m = true ∧ s.dev.cellHeld m (s.dev.far m)
    = true ∧ tabFind s.dev.iso.heldAt m = some c ∧ 122880000 * max 1 (s.dev.rd F.ISO_HOLD_CFG_HOLD_LIMIT) ≤ s.dev.now - c) :=
  ⟨⟨2047, 255, {},
    { dev := { (up |>.wr F.MLD_PLACE_VALID 1 2047 |>.wr F.LNK_STS_PORT_STATE 5 127) with iso := { corrs := [(524287, { done := some {} })] } } },
    by decide +kernel⟩,
    ⟨2047, 255, {},
    { dev := { (up |>.wr F.MLD_PLACE_VALID 1 2047 |>.wr F.LNK_STS_PORT_STATE 5 127) with iso := { corrs := [(524287, { done := some {} })], cells := [(524287, { run := some 0 })] } } },
    0, by decide +kernel⟩,
    ⟨2047, 255, { level := 1000000 },
    { dev := { (up |>.wr F.MLD_PLACE_VALID 1 2047 |>.wr F.LNK_STS_PORT_STATE 5 127) with iso := { corrs := [(524287, { done := some { level := 1000000 } })], cells := [(524287, { run := some 0 })] } } },
    0, by decide +kernel⟩,
    ⟨2047, 255, { floor := true },
    { dev := { (up |>.wr F.MLD_PLACE_VALID 1 2047 |>.wr F.LNK_STS_PORT_STATE 5 127) with iso := { corrs := [(524287, { done := some { floor := true } })], cells := [(524287, { run := some 0 })] } } },
    0, by decide +kernel⟩,
    ⟨2047, 255, { dev := (up |>.wr F.MLD_PLACE_VALID 1 2047) }, by decide +kernel⟩,
    ⟨2047, 255, {},
    { dev := { (up |>.wr F.MLD_PLACE_VALID 1 2047 |>.wr F.LNK_STS_PORT_STATE 5 127 |>.wr F.ISO_MAP_UL_FAR 1 127 0 0) with iso := { corrs := [(524287, { done := some {} })] } } },
    by decide +kernel⟩,
    ⟨2047, 255, 0,
    { dev := { (up |>.wr F.MLD_PLACE_VALID 1 2047) with now := 1000000000000, iso := { heldAt := [(2047, 0)] } } },
    by decide +kernel⟩⟩

/-- The hypotheses of `CancellerBranchesFollowTheirBlocks` are met. -/
theorem witness_CancellerBranchesFollowTheirBlocks :
    (∃ (n : Nat) (k : Nat) (b : Nat) (m : Nat) (o : BlockOut) (c : Int) (s : State), n < 16 ∧ k < 256 ∧ b < 4 ∧ (s.dev.rd
    F.ISO_BRANCH_STATE n k b = 1 ∨ s.dev.rd F.ISO_BRANCH_STATE n k b = 2) ∧ s.dev.streamAt 0 (s.dev.rd F.ISO_BRANCH_PORT n
    k b) n = some m ∧ (tabGet { } s.dev.iso.residuals (branchKey n k b)).done = some o ∧ c = min (o.level - (s.dev.cell m
    k).run.getD 0) (↑(128 * min 63 (s.dev.rd F.ISO_CANC_CFG_CANC_CAP)) : Int)) ∧
    (∃ (n : Nat) (k : Nat) (s : State), n < 16 ∧ k < 256 ∧ s.dev.rd F.ISO_CANC_CFG_EN = 0) ∧
    (∃ (n : Nat) (k : Nat) (s : State) (m : Nat) (g : Int) (b : Nat), n < 16 ∧ k < 256 ∧ s.dev.rd F.ISO_CANC_CFG_EN = 1 ∧
    tabFind s.dev.iso.changed (n * 256 + k) = none ∧ topOf (s.dev.branchWanted n k) = some (m, g) ∧ ((firstBelow 4 fun b
    => s.dev.rd F.ISO_BRANCH_STATE n k b == 0) = some b)) ∧
    (∃ (n : Nat) (k : Nat) (b : Nat) (s : State), n < 16 ∧ k < 256 ∧ b < 4 ∧ s.dev.rd F.ISO_BRANCH_STATE n k b = 3 ∧ max 1
    (s.dev.rd F.ISO_CANC_CFG_RELEASE_TICKS) * s.dev.tickLen n ≤ s.dev.now - tabGet 0 s.dev.iso.releasedAt (branchKey n k
    b)) ∧
    (∃ (p : Path) (w : Nat) (s : State), s.dev.Admits p (hit Reg.ISO_CANC_CFG RD.ISO_CANC_CFG) (withBits w 16 1 0)) :=
  ⟨⟨15, 255, 3, 2039, {}, 0,
    { dev := { (up |>.wr F.ISO_BRANCH_STATE 2 15 255 3 |>.wr F.ISO_BRANCH_PORT 127 15 255 3 |>.wr F.MLD_PLACE_VALID 1 2039 |>.wr F.MLD_PLACE_DONOR_SLICE 15 2039) with iso := { residuals := [(16383, { done := some {} })] } } },
    by decide +kernel⟩,
    ⟨15, 255, { dev := (up |>.wr F.ISO_CANC_CFG_EN 0) }, by decide +kernel⟩,
    ⟨15, 255,
    { dev := { (({} : Dev) |>.wr F.ISO_CANC_CFG_EN 1 |>.wr F.MLD_PLACE_VALID 1 2039 |>.wr F.MLD_PLACE_DONOR_SLICE 15 2039 |>.wr F.ISO_MAP_DL_TRUSTED 1 127 15 255 |>.wr F.ISO_WEAVE_EN 1 15 |>.wr F.ISO_PS_VERDICT 1 2039 |>.wr F.TIL_ACT_G_HI 0 261119 |>.wr F.ISO_MAP_DL_ISO 0 127 15 255 |>.wr F.LNK_STS_PORT_STATE 5 127) with mld := { plan := { donors := [(15, { dlEn := true })] } } } },
    2039, 0, 0, by decide +kernel⟩,
    ⟨15, 255, 3, { dev := { (up |>.wr F.ISO_BRANCH_STATE 3 15 255 3) with now := 1000000000 } }, by decide +kernel⟩,
    ⟨.bar0, 0, { dev := up }, by decide +kernel⟩⟩

/-- The hypotheses of `WeavesAndSurveysRun` are met. -/
theorem witness_WeavesAndSurveysRun :
    (∃ (n : Nat) (s : State), n < 16 ∧ (s.dev.weave n).seen = some (s.dev.codePeriod n (16 * 2 ^ (s.dev.weave n).chip))) ∧
    (∃ (n : Nat) (s : State), n < 16 ∧ (s.dev.weave n).seen ≠ some (s.dev.codePeriod n (16 * 2 ^ (s.dev.weave n).chip))) ∧
    (∃ (n : Nat) (s : State), n < 16 ∧ (s.dev.rd F.ISO_RESURVEY_CFG_PERIOD = 0 ∨ tabFind s.dev.iso.surveyedAt n = none ∨
    s.dev.rd F.BGV_STS_DEFER = 1 ∨ s.dev.boot ≠ 8 ∨ s.dev.declared n = false)) ∧
    (∃ (n : Nat) (s : State) (c : Nat), n < 16 ∧ s.dev.rd F.ISO_RESURVEY_CFG_PERIOD ≠ 0 ∧ s.dev.rd F.BGV_STS_DEFER = 0 ∧
    s.dev.boot = 8 ∧ s.dev.declared n = true ∧ tabFind s.dev.iso.surveyedAt n = some c ∧ 3600 * 122880000 * s.dev.rd
    F.ISO_RESURVEY_CFG_PERIOD ≤ s.dev.now - c ∧ s.dev.rd F.ISO_RESURVEY_CFG_MODE = 0 ∧ ((List.any s.dev.iso.weaves fun v
    => v.2.resurvey.isSome) = false)) ∧
    (∃ (n : Nat) (s : State) (c : Nat) (m : Nat) (l : List Nat), n < 16 ∧ s.dev.rd F.ISO_RESURVEY_CFG_PERIOD ≠ 0 ∧
    s.dev.rd F.BGV_STS_DEFER = 0 ∧ s.dev.boot = 8 ∧ s.dev.declared n = true ∧ tabFind s.dev.iso.surveyedAt n = some c ∧
    3600 * 122880000 * s.dev.rd F.ISO_RESURVEY_CFG_PERIOD ≤ s.dev.now - c ∧ s.dev.rd F.ISO_RESURVEY_CFG_MODE = 1 ∧
    (List.map sliceKey (s.dev.streamsOf n)).eraseDups = m :: l ∧ s.dev.has m = true ∧ s.dev.donorOf m = n ∧ s.dev.survey n
    = none) ∧
    (∃ (n : Nat) (sv : Survey) (s : State), n < 16 ∧ s.dev.survey n = some sv ∧ sv.step = 2 ∧ 122880000 * max 1 (s.dev.rd
    F.ISO_SURVEY_CFG_PREP) ≤ s.dev.now - sv.since ∧ surveyDir sv 0 ≠ []) ∧
    (∃ (n : Nat) (sv : Survey) (s : State), n < 16 ∧ s.dev.survey n = some sv ∧ sv.step = 2 ∧ 122880000 * max 1 (s.dev.rd
    F.ISO_SURVEY_CFG_PREP) ≤ s.dev.now - sv.since ∧ surveyDir sv 0 = []) ∧
    (∃ (n : Nat) (sv : Survey) (s : State) (m : Nat) (k : Nat) (l : Int), n < 16 ∧ s.dev.survey n = some sv ∧ sv.step = 3
    ∧ (allClosed sv 0 = true ∨ 12288000 * max 1 (s.dev.rd F.ISO_SURVEY_CFG_ROUND_MAX) ≤ s.dev.now - sv.since) ∧ (∀ m ∈
    sv.streams, m < 2048) ∧ sv.round = 0 ∧ m ∈ surveyDir sv 0 ∧ k < 256 ∧ surveyL sv m k = some l ∧ -(↑(128 * s.dev.rd
    F.ISO_SURVEY_CFG_LIMIT) : Int) < l) ∧
    (∃ (n : Nat) (sv : Survey) (s : State), n < 16 ∧ s.dev.survey n = some sv ∧ sv.step = 3 ∧ (allClosed sv 0 = true ∨
    12288000 * max 1 (s.dev.rd F.ISO_SURVEY_CFG_ROUND_MAX) ≤ s.dev.now - sv.since) ∧ (∀ m ∈ sv.streams, m < 2048) ∧
    sv.round ≠ 0 ∧ sv.streams ≠ []) ∧
    (∃ (p : Path) (w : Nat) (s : State), s.dev.Admits p (hit Reg.ISO_CTL RD.ISO_CTL) (withBits w 1 1 1) ∧
    F.ISO_CTL_ABORT.of (withBits w 1 1 1) = 0 ∧ s.dev.iso.surveys = []) ∧
    (∃ (p : Path) (w : Nat) (s : State), s.dev.Admits p (hit Reg.ISO_CTL RD.ISO_CTL) (withBits w 1 1 1) ∧
    F.ISO_CTL_ABORT.of (withBits w 1 1 1) = 0 ∧ s.dev.iso.surveys ≠ []) ∧
    (∃ (p : Path) (w : Nat) (s : State), s.dev.Admits p (hit Reg.ISO_CTL RD.ISO_CTL) (withBits w 2 1 1) ∧
    F.ISO_CTL_SURVEY.of (withBits w 2 1 1) = 0) ∧
    (∃ (p : Path) (w : Nat) (s : State), s.dev.Admits p (hit Reg.ISO_CTL RD.ISO_CTL) (withBits w 3 1 1) ∧
    F.ISO_CTL_SURVEY.of (withBits w 3 1 1) = 0 ∧ F.ISO_CTL_ABORT.of (withBits w 3 1 1) = 0) ∧
    (∃ (p : Path) (w : Nat) (s : State), s.dev.Admits p (hit Reg.ISO_CTL RD.ISO_CTL) (withBits w 0 1 1) ∧
    F.ISO_CTL_SURVEY.of (withBits w 0 1 1) = 0 ∧ F.ISO_CTL_ABORT.of (withBits w 0 1 1) = 0 ∧ F.ISO_CTL_FORGET.of (withBits
    w 0 1 1) = 0) ∧
    (∃ (s : State), s.dev.boot ≠ 8) ∧
    (∃ (s : State), s.dev.boot = 8 ∧ 60 * 122880000 * max 1 (s.dev.rd F.ISO_RESURVEY_CFG_RETRY) ≤ s.dev.now -
    s.dev.iso.retriedAt) :=
  ⟨⟨15, { dev := { up with iso := { weaves := [(15, { seen := some 0 })] } } }, by decide +kernel⟩,
    ⟨15, { dev := { up with iso := { surveys := [(15, { step := 2, streams := [2039] })] } } }, by decide +kernel⟩,
    ⟨15, { dev := up }, by decide +kernel⟩,
    ⟨15,
    { dev := { (up |>.wr F.ISO_RESURVEY_CFG_PERIOD 1 |>.wr F.ISO_RESURVEY_CFG_MODE 0) with now := 1000000000000, iso := { surveyedAt := [(15, 0)] }, mld := { entered := true, plan := { donors := [(15, {})] } } } },
    0, by decide +kernel⟩,
    ⟨15,
    { dev := { (({} : Dev) |>.wr F.CLK_BOOT_STS_BOOT_STATE 8 |>.wr F.ISO_RESURVEY_CFG_PERIOD 1 |>.wr F.ISO_RESURVEY_CFG_MODE 1 |>.wr F.MLD_PLACE_VALID 1 2039 |>.wr F.MLD_PLACE_DONOR_SLICE 15 2039) with now := 1000000000000, iso := { surveyedAt := [(15, 0)] }, mld := { entered := true, plan := { donors := [(15, {})] } } } },
    0, 2039, [], by decide +kernel⟩,
    ⟨15, { step := 2, streams := [2039] },
    { dev := { up with now := 1000000000000, iso := { surveys := [(15, { step := 2, streams := [2039] })] } } },
    by decide +kernel⟩,
    ⟨15, { step := 2, streams := [2047] },
    { dev := { up with now := 1000000000000, iso := { surveys := [(15, { step := 2, streams := [2047] })] } } },
    by decide +kernel⟩,
    ⟨15, { step := 3, streams := [2039], gains := [(522239, 0)], blocks := [(522239, (0, false))] },
    { dev := { (up |>.wr F.ISO_SURVEY_CFG_LIMIT 1) with now := 1000000000000, iso := { surveys := [(15, { step := 3, streams := [2039], gains := [(522239, 0)], blocks := [(522239, (0, false))] })] } } },
    2039, 255, 0, by decide +kernel⟩,
    ⟨15, { step := 3, streams := [2039], round := 1 },
    { dev := { up with now := 1000000000000, iso := { surveys := [(15, { step := 3, streams := [2039], round := 1 })] } } },
    by decide +kernel⟩,
    ⟨.bar0, 0, { dev := up }, by decide +kernel⟩,
    ⟨.bar0, 0, { dev := { up with iso := { surveys := [(15, { step := 2, streams := [2039] })] } } }, by decide +kernel⟩,
    ⟨.bar0, 0, { dev := up }, by decide +kernel⟩,
    ⟨.bar0, 0, { dev := up }, by decide +kernel⟩,
    ⟨.bar0, 0, { dev := up }, by decide +kernel⟩,
    ⟨{ dev := (up |>.wr F.CLK_BOOT_STS_BOOT_STATE 7) }, by decide +kernel⟩,
    ⟨{ dev := { up with now := 10000000000000 } }, by decide +kernel⟩⟩

/-- The hypotheses of `TileBuildingAndSliceLoopsRunOncePerTick` are met. -/
theorem witness_TileBuildingAndSliceLoopsRunOncePerTick :
    (∃ (m : Nat) (lp : Nat) (s : State), m < 2048 ∧ s.dev.has m = true ∧ s.dev.unitReady (LoopUnit.tiles m) tilesTime =
    some lp ∧ (s.dev.loopTick (s.dev.donorOf m) (dirOf m)).settled m = false ∧ (s.dev.loopTick (s.dev.donorOf m) (dirOf
    m)).evaluated = false) ∧
    (∃ (n : Nat) (r : Nat) (lp : Nat) (s : State), n < 16 ∧ r < 2 ∧ s.dev.declared n = true ∧ (s.dev.loopTick n
    r).evaluated = false ∧ s.dev.unitReady (LoopUnit.building n r) ((2048 + 12 * ((Dev.buildingLoop n r s.dev).loopTick n
    r).resel + 7) / 8) = some lp) ∧
    (∃ (u : LoopUnit) (k : Nat) (s : State) (m : Nat), s.dev.unitReady u k = none ∧ u = LoopUnit.tiles m ∧ m < 2048 ∧ k =
    tilesTime) ∧
    (∃ (u : LoopUnit) (k : Nat) (s : State) (m : Nat), s.dev.unitReady u k = none ∧ u = LoopUnit.slice m ∧ m < 2048 ∧ k =
    sliceTime) ∧
    (∃ (u : LoopUnit) (k : Nat) (s : State) (n : Nat) (r : Nat), s.dev.unitReady u k = none ∧ u = LoopUnit.building n r ∧
    n < 16 ∧ r < 2 ∧ k = 256) ∧
    (∃ (n : Nat) (r : Nat) (s : State), n < 16 ∧ r < 2 ∧ s.dev.tickOpen n r = true ∧ (s.dev.loopTick n r).evaluated = true
    ∧ (s.dev.loopTick n r).released = false ∧ 2080 + n ∈ s.dev.eng.committed ∧ s.dev.commitsOpen n = false ∧ (∀ p ∈
    (s.dev.loopTick n r).staged, p.1 < 524288)) ∧
    (∃ (m : Nat) (lp : Nat) (ps : List Int) (s : State), m < 2048 ∧ s.dev.has m = true ∧ s.dev.unitReady (LoopUnit.slice
    m) sliceTime = some lp ∧ m ∉ (s.dev.loopTick (s.dev.donorOf m) (dirOf m)).sliced ∧ (ps = List.map (fun k => dbOf
    (s.dev.rd F.MEA_OUT_POWER (256 * m + k))) (List.filter (fun k => s.dev.flag F.MEA_OUT_VALID (256 * m + k)) (upTo
    256)))) :=
  ⟨⟨2047, 31,
    { dev := { (up |>.wr F.MLD_PLACE_VALID 1 2047) with now := 384, eng := { ticks := [(1, { live := true })], procs := [(31, { unit := .tiles 2047, since := 0 })] } } },
    by decide +kernel⟩,
    ⟨15, 1, 31,
    { dev := { up with now := 2000000, eng := { ticks := [(31, { live := true })], procs := [(31, { unit := .building 15 1, since := 0 })] }, mld := { entered := true, plan := { donors := [(15, {})] } } } },
    by decide +kernel, by decide +kernel, by decide +kernel, by decide +kernel, Dev.unitReady_first _ _ _ 31 { unit := .building 15 1, since := 0 } [] (by decide +kernel) rfl rfl (Nat.le_trans (Dev.buildingTime_le _ 15 1 (by decide +kernel)) (by decide))⟩,
    ⟨.tiles 2047, tilesTime, { dev := up }, 2047, by decide +kernel⟩,
    ⟨.slice 2047, sliceTime, { dev := up }, 2047, by decide +kernel⟩,
    ⟨.building 15 1, 256, { dev := up }, 15, 1, by decide +kernel⟩,
    ⟨15, 1,
    { dev := { up with eng := { ticks := [(31, { live := true, evaluated := true, staged := [(524287, 0)] })], committed := [2095] } } },
    by decide +kernel⟩,
    ⟨2047, 31, [],
    { dev := { (up |>.wr F.MLD_PLACE_VALID 1 2047) with now := 2, eng := { ticks := [(1, { live := true })], procs := [(31, { unit := .slice 2047, since := 0 })] } } },
    by decide +kernel⟩⟩

/-- The hypotheses of `CoefficientsProcessorsAndContextsFollowTheirCommands` are met. -/
theorem witness_CoefficientsProcessorsAndContextsFollowTheirCommands :
    (∃ (p : Path) (w : Nat) (s : State), s.dev.Admits p (hit Reg.CE_CTL RD.CE_CTL) (withBits w 2 1 1) ∧
    F.CE_CTL_CLR_CNT.of w = 0 ∧ F.CE_CTL_TEST_FAIL.of w = 0 ∧ F.CE_CTL_RUN.of w = s.dev.rd F.CE_CTL_RUN) ∧
    (∃ (n : Nat) (s : State), n < 16 ∧ n ∉ s.dev.eng.coefDue) ∧
    (∃ (n : Nat) (s : State), n < 16 ∧ n ∈ s.dev.eng.coefDue) ∧
    (∃ (lp : Nat) (cause : Nat) (s : State), lp < 32 ∧ tabFind s.dev.eng.failed lp = none ∧ cause < 8) ∧
    (∃ (lp : Nat) (cause : Nat) (s : State) (q : LoopProc), lp < 32 ∧ tabFind s.dev.eng.failed lp = none ∧ cause < 8 ∧
    tabFind s.dev.eng.procs lp = some q ∧ 1966 < s.dev.now - q.since) ∧
    (∃ (lp : Nat) (s : State), lp < 32 ∧ (tabFind s.dev.eng.failed lp).isSome = true) ∧
    (∃ (lp : Nat) (s : State), lp < 32 ∧ (∀ (q : LoopProc), tabFind s.dev.eng.procs lp = some q → s.dev.now - q.since ≤
    1966)) ∧
    (∃ (p : Path) (w : Nat) (s : State), s.dev.Admits p (hit Reg.CE_CTL RD.CE_CTL) (withBits w 7 1 1) ∧
    F.CE_CTL_COEF_COMMIT.of (withBits w 7 1 1) = 0 ∧ F.CE_CTL_TEST_LP.of (withBits w 7 1 1) < 32 ∧ tabFind
    s.dev.eng.failed (F.CE_CTL_TEST_LP.of (withBits w 7 1 1)) = none) ∧
    (∃ (p : Path) (w : Nat) (s : State), s.dev.Admits p (hit Reg.CE_CTL RD.CE_CTL) (withBits w 1 1 1) ∧
    F.CE_CTL_COEF_COMMIT.of (withBits w 1 1 1) = 0 ∧ F.CE_CTL_TEST_FAIL.of (withBits w 1 1 1) = 0) ∧
    (∃ (p : Path) (w : Nat) (s : State), s.dev.Admits p (hit Reg.CE_CTL RD.CE_CTL) w ∧ F.CE_CTL_CLR_CNT.of w = 0 ∧
    F.CE_CTL_COEF_COMMIT.of w = 0 ∧ F.CE_CTL_TEST_FAIL.of w = 0) ∧
    (∃ (p : Path) (id : Nat) (w : Nat) (s : State), id < 524288 ∧ s.dev.Admits p (hit Reg.LCX0 RD.LCX0 id) w ∧ s.dev.has
    (id / 256) = true) ∧
    (∃ (p : Path) (id : Nat) (w : Nat) (s : State), id < 524288 ∧ s.dev.Admits p (hit Reg.LCX0 RD.LCX0 id) w ∧ s.dev.has
    (id / 256) = false) :=
  ⟨⟨.bar0, fw F.CE_CTL_RUN 1, { dev := (up |>.wr F.CE_CTL_RUN 1) }, by decide +kernel⟩,
    ⟨15, { dev := { up with eng := { failed := [(31, 1)] } } }, by decide +kernel⟩,
    ⟨15, { dev := { up with eng := { coefDue := [15] } } }, by decide +kernel⟩,
    ⟨31, 7, { dev := up }, by decide +kernel⟩,
    ⟨31, 7, { dev := { up with now := 1967, eng := { procs := [(31, { unit := .tiles 0, since := 0 })] } } },
    { unit := .tiles 0, since := 0 }, by decide +kernel⟩,
    ⟨31, { dev := { up with eng := { failed := [(31, 1)] } } }, by decide +kernel⟩,
    ⟨31, { dev := up }, by decide +kernel⟩,
    ⟨.bar0, fw F.CE_CTL_TEST_LP 31, { dev := up }, by decide +kernel⟩,
    ⟨.bar0, 0, { dev := up }, by decide +kernel⟩,
    ⟨.bar0, 0, { dev := up }, by decide +kernel⟩,
    ⟨.bar0, 524287, 0, { dev := (up |>.wr F.MLD_PLACE_VALID 1 2047) }, by decide +kernel⟩,
    ⟨.bar0, 524287, 0, { dev := up }, by decide +kernel⟩⟩

/-- The hypotheses of `TailStepsCutHoldAndFall` are met. -/
theorem witness_TailStepsCutHoldAndFall :
    (∃ (m : Nat) (k : Nat) (s : State), m < 2048 ∧ k < 256 ∧ tabFind (s.dev.fastAccOf m).done k = none) ∧
    (∃ (m : Nat) (k : Nat) (q : Int × Bool) (s : State), m < 2048 ∧ k < 256 ∧ s.dev.has m = true ∧ tabFind
    (s.dev.fastAccOf m).done k = some q ∧ (q.2 = true ∨ s.dev.rd F.SLC_PROT_MUTE m = 1 ∨ s.dev.rd F.PRT_CTL_FT_EN = 0)) ∧
    (∃ (m : Nat) (k : Nat) (q : Int × Bool) (s : State), m < 2048 ∧ k < 256 ∧ s.dev.has m = true ∧ tabFind
    (s.dev.fastAccOf m).done k = some q ∧ q.2 = false ∧ s.dev.rd F.PRT_CTL_FT_EN = 1 ∧ s.dev.rd F.SLC_PROT_MUTE m = 0 ∧
    s.dev.rdS F.PRT_FT_LVL_FT_ABS ≤ q.1 ∧ sliceKey m ∉ s.dev.prt.holdoff ∧ s.dev.fastActs m k = true) ∧
    (∃ (m : Nat) (k : Nat) (q : Int × Bool) (s : State), m < 2048 ∧ k < 256 ∧ s.dev.has m = true ∧ tabFind
    (s.dev.fastAccOf m).done k = some q ∧ q.2 = false ∧ s.dev.rd F.PRT_CTL_FT_EN = 1 ∧ s.dev.rd F.SLC_PROT_MUTE m = 0 ∧
    s.dev.rdS F.PRT_FT_LVL_FT_ABS ≤ q.1 ∧ sliceKey m ∉ s.dev.prt.holdoff ∧ s.dev.fastActs m k = false) ∧
    (∃ (m : Nat) (s : State), m < 2048 ∧ max 1 (s.dev.rd F.PRT_FT_CFG_FT_HOLDOFF) * s.dev.tileSample (s.dev.donorOf m) ≤
    s.dev.now - tabGet 0 s.dev.prt.lastFast (sliceKey m)) ∧
    (∃ (m : Nat) (s : State), m < 2048 ∧ s.dev.now - tabGet 0 s.dev.prt.lastFast (sliceKey m) < max 1 (s.dev.rd
    F.PRT_FT_CFG_FT_HOLDOFF) * s.dev.tileSample (s.dev.donorOf m)) ∧
    (∃ (m : Nat) (s : State), m < 2048 ∧ (s.dev.prt.paused = true ∨ s.dev.rd F.PRT_CAUSE_HOLDING m = 0 ∨ s.dev.sinceStep m
    < 100 * msSamples * max 1 (s.dev.rd F.PRT_REL_CFG_HOLD))) ∧
    (∃ (m : Nat) (s : State), m < 2048 ∧ s.dev.prt.paused = false ∧ s.dev.rd F.PRT_CAUSE_HOLDING m = 1 ∧ 100 * msSamples *
    max 1 (s.dev.rd F.PRT_REL_CFG_HOLD) ≤ s.dev.sinceStep m) ∧
    (∃ (m : Nat) (s : State), m < 2048 ∧ (s.dev.prt.paused = true ∨ s.dev.rd F.PRT_CAUSE_RELEASING m = 0 ∨ s.dev.sinceStep
    m < msSamples * max 1 (s.dev.rd F.PRT_REL_CFG_REL_STEP))) ∧
    (∃ (m : Nat) (s : State), m < 2048 ∧ s.dev.prt.paused = false ∧ s.dev.rd F.PRT_CAUSE_RELEASING m = 1 ∧ msSamples * max
    1 (s.dev.rd F.PRT_REL_CFG_REL_STEP) ≤ s.dev.sinceStep m) ∧
    (∃ (n : Nat) (r : Nat), n < 16 ∧ r < 2) ∧
    (∃ (p : Path) (w : Nat) (m : Nat) (s : State), s.dev.Admits p (hit Reg.PRT_REENABLE RD.PRT_REENABLE) (withBits w 31 1
    1) ∧ m = F.PRT_REENABLE_STREAM.of (withBits w 31 1 1) ∧ m < 2048 ∧ s.dev.has m = true ∧ (s.dev.cause 0 (sliceKey m) =
    true ∨ s.dev.cause 0 (sliceKey m + 8) = true)) ∧
    (∃ (p : Path) (w : Nat) (m : Nat) (s : State), s.dev.Admits p (hit Reg.PRT_REENABLE RD.PRT_REENABLE) (withBits w 31 1
    1) ∧ m = F.PRT_REENABLE_STREAM.of (withBits w 31 1 1) ∧ m < 2048 ∧ s.dev.has m = true ∧ s.dev.cause 0 (sliceKey m) =
    false ∧ s.dev.cause 0 (sliceKey m + 8) = false) ∧
    (∃ (p : Path) (w : Nat) (m : Nat) (s : State), s.dev.Admits p (hit Reg.PRT_REENABLE RD.PRT_REENABLE) (withBits w 31 1
    1) ∧ m = F.PRT_REENABLE_STREAM.of (withBits w 31 1 1) ∧ (2048 ≤ m ∨ s.dev.has m = false)) ∧
    (∃ (p : Path) (w : Nat) (s : State), s.dev.Admits p (hit Reg.PRT_CTL RD.PRT_CTL) (withBits w 7 1 1)) :=
  ⟨⟨2047, 255, { dev := (up |>.wr F.MLD_PLACE_VALID 1 2047) }, by decide +kernel⟩,
    ⟨2047, 255, (30000, true),
    { dev := { (up |>.wr F.MLD_PLACE_VALID 1 2047 |>.wr F.PRT_CTL_FT_EN 1) with prt := { fastAcc := [(2047, { done := [(255, (30000, true))] })] } } },
    by decide +kernel⟩,
    ⟨2047, 255, (30000, false),
    { dev := { (up |>.wr F.MLD_PLACE_VALID 1 2047 |>.wr F.PRT_CTL_FT_EN 1) with prt := { fastAcc := [(2047, { done := [(255, (30000, false))] })] } } },
    by decide +kernel⟩,
    ⟨2047, 255, (30000, false),
    { dev := { (up |>.wr F.MLD_PLACE_VALID 1 2047 |>.wr F.PRT_CTL_FT_EN 1 |>.wr F.PRT_DOM_VALID 1 0 1 255 |>.wr F.PRT_DOM_PORT 0 0 1 255) with prt := { fastAcc := [(2047, { done := [(255, (30000, false))] })] } } },
    by decide +kernel⟩,
    ⟨2047, { dev := { up with now := 1000000000000 } }, by decide +kernel⟩,
    ⟨2047, { dev := up }, by decide +kernel⟩,
    ⟨2047, { dev := up }, by decide +kernel⟩,
    ⟨2047, { dev := { (up |>.wr F.PRT_CAUSE_HOLDING 1 2047) with now := 1000000000000 } }, by decide +kernel⟩,
    ⟨2047, { dev := up }, by decide +kernel⟩,
    ⟨2047, { dev := { (up |>.wr F.PRT_CAUSE_RELEASING 1 2047) with now := 1000000000000 } }, by decide +kernel⟩,
    ⟨15, 1, by decide +kernel⟩,
    ⟨.bar0, fw F.PRT_REENABLE_STREAM 2047, 2047,
    { dev := (up |>.wr F.MLD_PLACE_VALID 1 2047 |>.wr F.PRT_CAUSE_CAUSES 1 2039) }, by decide +kernel⟩,
    ⟨.bar0, fw F.PRT_REENABLE_STREAM 2047, 2047, { dev := (up |>.wr F.MLD_PLACE_VALID 1 2047) }, by decide +kernel⟩,
    ⟨.bar0, fw F.PRT_REENABLE_STREAM 2048, 2048, { dev := up }, by decide +kernel⟩,
    ⟨.bar0, 0, { dev := up }, by decide +kernel⟩⟩

/-- The hypotheses of `LossNoiseAndOverloadMuteStreams` are met. -/
theorem witness_LossNoiseAndOverloadMuteStreams :
    (∃ (n : Nat) (s : State), n < 16 ∧ (tabGet { } s.dev.prt.donorBlk n).done = none) ∧
    (∃ (n : Nat) (s : State), n < 16 ∧ (s.dev.declared n = false ∨ (s.dev.donor n).dlEn = false ∨ (tabGet { }
    s.dev.prt.donorBlk n).done = some none)) ∧
    (∃ (n : Nat) (s : State) (c : Nat), n < 16 ∧ (tabGet { } s.dev.prt.donorBlk n).done = some (some c) ∧ s.dev.declared n
    = true ∧ (s.dev.donor n).dlEn = true ∧ s.dev.rd F.PRT_DLOSS_STS_LOST n = 0 ∧ s.dev.rd F.PRT_CTL_DLOSS_EN = 1 ∧ dbOf c
    < s.dev.rdS F.PRT_DLOSS_CFG_DLOSS_THR ∧ s.dev.dlossMs ≤ tabGet 0 s.dev.prt.low n + 1) ∧
    (∃ (n : Nat) (s : State) (c : Nat), n < 16 ∧ (tabGet { } s.dev.prt.donorBlk n).done = some (some c) ∧ s.dev.declared n
    = true ∧ (s.dev.donor n).dlEn = true ∧ s.dev.rd F.PRT_DLOSS_STS_LOST n = 1 ∧ s.dev.donorLinkUp n = true ∧ s.dev.rdS
    F.PRT_DLOSS_CFG_DLOSS_THR + 256 * (↑(s.dev.rd F.PRT_DLOSS_CFG_DLOSS_HYST) : Int) < dbOf c ∧ 10 * max 1 (s.dev.rd
    F.PRT_DLOSS_CFG_DLOSS_RESTORE) ≤ tabGet 0 s.dev.prt.good n + 1) ∧
    (∃ (n : Nat) (s : State), n < 16 ∧ s.dev.declared n = true) ∧
    (∃ (n : Nat) (s : State), n < 16 ∧ (s.dev.prt.paused = true ∨ s.dev.sinceStage n < s.dev.nrCureTime ∨ s.dev.rd
    F.PRT_NR_STS_STAGE n ≠ 0 ∧ s.dev.rd F.PRT_CTL_NR_EN = 0)) ∧
    (∃ (n : Nat) (s : State), n < 16 ∧ s.dev.prt.paused = false ∧ s.dev.nrCureTime ≤ s.dev.sinceStage n ∧ s.dev.rd
    F.PRT_NR_STS_STAGE n = 0) ∧
    (∃ (n : Nat) (s : State), n < 16 ∧ s.dev.prt.paused = false ∧ s.dev.nrCureTime ≤ s.dev.sinceStage n ∧ s.dev.rd
    F.PRT_CTL_NR_EN = 1 ∧ s.dev.rd F.PRT_NR_STS_STAGE n = 1) ∧
    (∃ (n : Nat) (s : State), n < 16 ∧ s.dev.prt.paused = false ∧ s.dev.nrCureTime ≤ s.dev.sinceStage n ∧ s.dev.rd
    F.PRT_CTL_NR_EN = 1 ∧ 2 ≤ s.dev.rd F.PRT_NR_STS_STAGE n) ∧
    (∃ (n : Nat) (k : Nat) (s : State), n < 16 ∧ k < 2048 ∧ (tabGet [] s.dev.prt.noisy n = [] ∨ s.dev.prt.paused = true ∨
    s.dev.rd F.PRT_NR_STS_STAGE n ≠ 0 ∨ s.dev.sinceStage n < 10 * secSamples * max 1 (s.dev.rd F.PRT_NR_CFG_NR_RETRY) ∨ ∃
    c, tabFind s.dev.prt.retryAt n = some c ∧ tabGet 0 s.dev.prt.stageAt n < c ∧ s.dev.prtTime - c < s.dev.nrCureTime)) ∧
    (∃ (n : Nat) (k : Nat) (rest : List Nat) (s : State), n < 16 ∧ k < 2048 ∧ tabGet [] s.dev.prt.noisy n = k :: rest ∧
    s.dev.prt.paused = false ∧ s.dev.rd F.PRT_NR_STS_STAGE n = 0 ∧ 10 * secSamples * max 1 (s.dev.rd
    F.PRT_NR_CFG_NR_RETRY) ≤ s.dev.sinceStage n ∧ (∀ (c : Nat), tabFind s.dev.prt.retryAt n = some c → c ≤ tabGet 0
    s.dev.prt.stageAt n ∨ s.dev.nrCureTime ≤ s.dev.prtTime - c)) ∧
    (∃ (m : Nat) (s : State), m < 2048 ∧ (tabGet { } s.dev.prt.outBlk m).done = none) ∧
    (∃ (m : Nat) (s : State), m < 2048 ∧ (s.dev.has m = false ∨ s.dev.rd F.PRT_CTL_OL_EN = 0 ∨ (tabGet { }
    s.dev.prt.outBlk m).done = some none)) ∧
    (∃ (m : Nat) (s : State) (c : Nat), m < 2048 ∧ (tabGet { } s.dev.prt.outBlk m).done = some (some c) ∧ s.dev.has m =
    true ∧ s.dev.rd F.PRT_CTL_OL_EN = 1 ∧ dbOf c ≤ s.dev.sliceMax m + 16 * (↑(s.dev.rd F.PRT_OL_CFG_OL_MARGIN) : Int)) ∧
    (∃ (m : Nat) (s : State) (c : Nat), m < 2048 ∧ (tabGet { } s.dev.prt.outBlk m).done = some (some c) ∧ s.dev.has m =
    true ∧ s.dev.rd F.PRT_CTL_OL_EN = 1 ∧ s.dev.sliceMax m + 16 * (↑(s.dev.rd F.PRT_OL_CFG_OL_MARGIN) : Int) < dbOf c ∧
    s.dev.cause 4 m = false ∧ max 1 (s.dev.rd F.PRT_OL_CFG_OL_TIME) ≤ tabGet 0 s.dev.prt.overRuns m + 1) ∧
    (∃ (m : Nat) (s : State), m < 2048 ∧ (s.dev.prt.paused = true ∨ s.dev.prtTime - tabGet 0 s.dev.prt.overAt (sliceKey m)
    < secSamples * max 1 (s.dev.rd F.PRT_OL_CFG_OL_RETRY))) ∧
    (∃ (m : Nat) (s : State), m < 2048 ∧ s.dev.prt.paused = false ∧ secSamples * max 1 (s.dev.rd F.PRT_OL_CFG_OL_RETRY) ≤
    s.dev.prtTime - tabGet 0 s.dev.prt.overAt (sliceKey m)) ∧
    (∃ (m : Nat) (s : State), m < 2048 ∧ (sliceKey m ∉ s.dev.prt.stale ∨ s.dev.now - tabGet 0 s.dev.prt.staleAt (sliceKey
    m) < secSamples * s.dev.rd F.PRT_STALE_CFG_STALE_MUTE)) ∧
    (∃ (m : Nat) (s : State), m < 2048 ∧ sliceKey m ∈ s.dev.prt.stale ∧ secSamples * s.dev.rd F.PRT_STALE_CFG_STALE_MUTE ≤
    s.dev.now - tabGet 0 s.dev.prt.staleAt (sliceKey m) ∧ s.dev.has m = true ∧ (∃ k < 256, s.dev.rd F.LCX0_STALE (256 * m
    + k) = 1) ∧ s.dev.rd F.PRT_CTL_STALE_EN = 1 ∧ s.dev.cause 5 (sliceKey m) = false) :=
  ⟨⟨15, { dev := up }, by decide +kernel⟩,
    ⟨15, { dev := up }, by decide +kernel⟩,
    ⟨15,
    { dev := { (up |>.wr F.PRT_CTL_DLOSS_EN 1) with prt := { low := [(15, 8)], donorBlk := [(15, { done := some (some 0x8001) })] }, mld := { entered := true, plan := { donors := [(15, { dlEn := true })] } } } },
    0x8001, by decide +kernel⟩,
    ⟨15,
    { dev := { (up |>.wr F.PRT_DLOSS_STS_LOST 1 15) with prt := { good := [(15, 1000000)], donorBlk := [(15, { done := some (some 0x7FFF) })] }, mld := { entered := true, plan := { donors := [(15, { dlEn := true })] } } } },
    0x7FFF, by decide +kernel⟩,
    ⟨15, { dev := { up with mld := { plan := { donors := [(15, { dlEn := true })] } } } }, by decide +kernel⟩,
    ⟨15, { dev := { up with prt := { paused := true } } }, by decide +kernel⟩,
    ⟨15, { dev := { (up |>.wr F.PRT_CTL_NR_EN 1) with now := 1000000000000 } }, by decide +kernel⟩,
    ⟨15, { dev := { (up |>.wr F.PRT_CTL_NR_EN 1 |>.wr F.PRT_NR_STS_STAGE 1 15) with now := 1000000000000 } },
    by decide +kernel⟩,
    ⟨15, { dev := { (up |>.wr F.PRT_CTL_NR_EN 1 |>.wr F.PRT_NR_STS_STAGE 2 15) with now := 1000000000000 } },
    by decide +kernel⟩,
    ⟨15, 2047, { dev := up }, by decide +kernel⟩,
    ⟨15, 2047, [], { dev := { up with now := 1000000000000, prt := { noisy := [(15, [2047])] } } },
    by decide +kernel, by decide +kernel, by decide +kernel, by decide +kernel, by decide +kernel, by decide +kernel, by intro c h; simp [tabFind] at h⟩,
    ⟨2047, { dev := { up with prt := { paused := true } } }, by decide +kernel⟩,
    ⟨2047, { dev := up }, by decide +kernel⟩,
    ⟨2047,
    { dev := { (up |>.wr F.MLD_PLACE_VALID 1 2047 |>.wr F.PRT_CTL_OL_EN 1) with prt := { outBlk := [(2047, { done := some (some 0x8001) })] } } },
    0x8001, by decide +kernel⟩,
    ⟨2047,
    { dev := { (up |>.wr F.MLD_PLACE_VALID 1 2047 |>.wr F.PRT_CTL_OL_EN 1) with prt := { outBlk := [(2047, { done := some (some 0x7FFF) })], overRuns := [(2047, 1000000)] } } },
    0x7FFF, by decide +kernel⟩,
    ⟨2047, { dev := (up |>.wr F.MLD_PLACE_VALID 1 2047 |>.wr F.PRT_CTL_OL_EN 1) }, by decide +kernel⟩,
    ⟨2047, { dev := { up with now := 1000000000000 } }, by decide +kernel⟩,
    ⟨2047,
    { dev := { (up |>.wr F.MLD_PLACE_VALID 1 2047 |>.wr F.LCX0_STALE 1 524287 |>.wr F.PRT_CTL_STALE_EN 1) with prt := { stale := [2039] } } },
    by decide +kernel⟩,
    ⟨2047,
    { dev := { (up |>.wr F.MLD_PLACE_VALID 1 2047 |>.wr F.LCX0_STALE 1 524287 |>.wr F.PRT_CTL_STALE_EN 1) with now := 1000000000000, prt := { stale := [2039] } } },
    by decide +kernel⟩⟩

/-- The hypotheses of `ConvertersRunTheirSequences` are met. -/
theorem witness_ConvertersRunTheirSequences :
    (∃ (k : Nat) (w : Nat) (s : State), k < 4 ∧ entFilt w = none ∧ s.dev.converted k = false) ∧
    (∃ (k : Nat) (w : Nat) (s : State), k < 4 ∧ entFilt w = none ∧ s.dev.hkAct k = 0) ∧
    (∃ (k : Nat) (e : Nat) (w : Nat) (rest : List (Nat × Nat)) (s : State), k < 4 ∧ entFilt w = none ∧ e < 32 ∧
    s.dev.converted k = true ∧ s.dev.hkAct k = 1 ∧ (s.dev.conv k).reg = some ((e, w) :: rest)) ∧
    (∃ (k : Nat) (e : Nat) (w : Nat) (rest : List (Nat × Nat)) (s : State), k < 4 ∧ entFilt w = none ∧ e < 8 ∧
    s.dev.converted k = true ∧ s.dev.hkAct k = 2 ∧ (s.dev.conv k).inj = some { left := (e, w) :: rest, started := true }) ∧
    (∃ (s : State), s.dev.roundDue = false) ∧
    (∃ (s : State), s.dev.roundDue = true) ∧
    (∃ (k : Nat) (s : State), k < 4 ∧ (s.dev.rd F.HK_TIMER_EN k = 0 ∨ 100 * s.dev.now < (s.dev.conv k).timerAt +
    s.dev.hkPeriod k)) ∧
    (∃ (k : Nat) (s : State), k < 4 ∧ s.dev.rd F.HK_TIMER_EN k = 1 ∧ (s.dev.conv k).timerAt + s.dev.hkPeriod k ≤ 100 *
    s.dev.now ∧ (s.dev.conv k).regAt ≠ some s.dev.hkCycle ∧ (s.dev.conv k).injAt ≠ some s.dev.hkCycle) ∧
    (∃ (p : Nat) (falling : Bool) (s : State), p < 4 ∧ bitAt (s.dev.rd F.HK_PIN_CFG_POL) p ≠ falling) ∧
    (∃ (p : Nat) (falling : Bool) (s : State), p < 4 ∧ bitAt (s.dev.rd F.HK_PIN_CFG_POL) p = falling) ∧
    (∃ (p : Path) (m : Nat) (s : State), s.dev.Admits p (hit Reg.HK_GO RD.HK_GO) (m % 16)) ∧
    (∃ (p : Path) (m : Nat) (s : State), s.dev.Admits p (hit Reg.HK_GO RD.HK_GO) (m % 16 * 16)) ∧
    (∃ (p : Path) (w : Nat) (v : Nat) (pt : Nat) (ain : Nat) (k : Nat) (s : State) (c : Instr), pt < 2 ∧ v = withBits
    (withBits w 31 1 1) 12 2 pt ∧ s.dev.Admits p (hit Reg.HK_CAL_CTL RD.HK_CAL_CTL) v ∧ ain = F.HK_CAL_CTL_AIN.of v ∧ k =
    F.HK_CAL_CTL_HKA.of v ∧ (pt = 0 ∧ c = Instr.hkCalZero p w ∨ pt = 1 ∧ c = Instr.hkCalFull p w)) ∧
    (∃ (p : Path) (w : Nat) (s : State), s.dev.Admits p (hit Reg.HK_CTL RD.HK_CTL) (withBits w 0 1 1)) :=
  ⟨⟨3, 0, { dev := up }, by decide +kernel⟩,
    ⟨3, 0, { dev := up }, by decide +kernel⟩,
    ⟨3, 31, 0, [],
    { dev := { (up |>.wr F.HK_SEQ_STS_ACTIVITY 1 3) with now := 10000000, hk := { convs := [(3, { reg := some [(31, 0)] })] } } },
    by decide +kernel⟩,
    ⟨3, 7, 0, [],
    { dev := { (up |>.wr F.HK_SEQ_STS_ACTIVITY 2 3) with now := 10000000, hk := { convs := [(3, { inj := some { left := [(7, 0)], started := true } })] } } },
    by decide +kernel⟩,
    ⟨{ dev := up }, by decide +kernel⟩,
    ⟨{ dev := { up with now := 1000000000000 } }, by decide +kernel⟩,
    ⟨3, { dev := (up |>.wr F.HK_TIMER_EN 0 3) }, by decide +kernel⟩,
    ⟨3, { dev := { (up |>.wr F.HK_TIMER_EN 1 3) with now := 1000000000000 } }, by decide +kernel⟩,
    ⟨3, true, { dev := up }, by decide +kernel⟩,
    ⟨3, false, { dev := up }, by decide +kernel⟩,
    ⟨.bar0, 15, { dev := up }, by decide +kernel⟩,
    ⟨.bar0, 15, { dev := up }, by decide +kernel⟩,
    ⟨.bar0, fw F.HK_CAL_CTL_HKA 3, (withBits (withBits (fw F.HK_CAL_CTL_HKA 3) 31 1 1) 12 2 1), 1,
    (F.HK_CAL_CTL_AIN.of (withBits (withBits (fw F.HK_CAL_CTL_HKA 3) 31 1 1) 12 2 1)),
    (F.HK_CAL_CTL_HKA.of (withBits (withBits (fw F.HK_CAL_CTL_HKA 3) 31 1 1) 12 2 1)), { dev := up },
    .hkCalFull .bar0 (fw F.HK_CAL_CTL_HKA 3), by decide +kernel⟩,
    ⟨.bar0, 0, { dev := up }, by decide +kernel⟩⟩

/-- The hypotheses of `WindowMonitorsSettleCrossAndLockOut` are met. -/
theorem witness_WindowMonitorsSettleCrossAndLockOut :
    (∃ (p : Path) (n : Nat) (w : Nat) (s : State), n < 16 ∧ s.dev.Admits p (hit Reg.WM_CFG RD.WM_CFG n) w ∧ 47 <
    F.WM_CFG_AIN.of w) ∧
    (∃ (p : Path) (n : Nat) (w : Nat) (s : State), n < 16 ∧ s.dev.Admits p (hit Reg.WM_CFG RD.WM_CFG n) w ∧
    F.WM_CFG_AIN.of w ≤ 47) ∧
    (∃ (p : Path) (n : Nat) (w : Nat) (s : State), n < 16 ∧ s.dev.Admits p (hit Reg.WM_CFG RD.WM_CFG n) (withBits w 30 1
    1) ∧ F.WM_CFG_AIN.of (withBits w 30 1 1) ≤ 47 ∧ F.WM_CFG_EN.of (withBits w 30 1 1) = s.dev.rd F.WM_CFG_EN n) ∧
    (∃ (p : Path) (n : Nat) (w : Nat) (s : State), n < 16 ∧ s.dev.Admits p (hit Reg.WM_THR RD.WM_THR n) w ∧
    F.WM_THR_HIGH.of w ≤ F.WM_THR_LOW.of w) ∧
    (∃ (p : Path) (n : Nat) (w : Nat) (s : State), n < 16 ∧ s.dev.Admits p (hit Reg.WM_THR RD.WM_THR n) w ∧
    F.WM_THR_LOW.of w < F.WM_THR_HIGH.of w) ∧
    (∃ (n : Nat) (s : State), n < 16 ∧ (s.dev.mon n).blank = none) ∧
    (∃ (n : Nat) (b : Nat) (s : State), n < 16 ∧ (s.dev.mon n).blank = some b ∧ (s.dev.now - b) * 100 < 61440) ∧
    (∃ (n : Nat) (b : Nat) (hi : Bool) (hiH : Bool) (lo : Bool) (loH : Bool) (s : State), n < 16 ∧ (s.dev.mon n).blank =
    some b ∧ 61440 ≤ (s.dev.now - b) * 100 ∧ (s.dev.rd F.WM_CFG_HYST n = 0 ∨ hi = hiH ∧ lo = loH)) ∧
    (∃ (n : Nat) (b : Nat) (hi : Bool) (hiH : Bool) (lo : Bool) (loH : Bool) (s : State), n < 16 ∧ (s.dev.mon n).blank =
    some b ∧ 61440 ≤ (s.dev.now - b) * 100 ∧ s.dev.rd F.WM_CFG_HYST n ≠ 0 ∧ ¬(hi = hiH ∧ lo = loH)) ∧
    (∃ (n : Nat) (s : State), n < 16 ∧ (s.dev.rd F.WM_CFG_EN n = 0 ∨ (s.dev.mon n).blank.isSome = true ∨ s.dev.rd
    F.WM_STS_STATE n = 3)) ∧
    (∃ (n : Nat) (s : State), n < 16 ∧ s.dev.rd F.WM_CFG_EN n = 1 ∧ (s.dev.mon n).blank = none ∧ s.dev.rd F.WM_STS_STATE n
    ≠ 3) ∧
    (∃ (n : Nat) (s : State), n < 16 ∧ ((s.dev.mon n).lockout = none ∨ (s.dev.mon n).blank.isSome = true)) ∧
    (∃ (n : Nat) (b : Nat) (s : State), n < 16 ∧ (s.dev.mon n).lockout = some b ∧ s.dev.now - b < 122880 * max 1 (s.dev.rd
    F.WM_TIME_LOCKOUT n)) ∧
    (∃ (n : Nat) (b : Nat) (s : State), n < 16 ∧ (s.dev.mon n).lockout = some b ∧ (s.dev.mon n).blank = none ∧ 122880 *
    max 1 (s.dev.rd F.WM_TIME_LOCKOUT n) ≤ s.dev.now - b ∧ (s.dev.mon n).chat = 0) ∧
    (∃ (n : Nat) (b : Nat) (s : State), n < 16 ∧ (s.dev.mon n).lockout = some b ∧ (s.dev.mon n).blank = none ∧ 122880 *
    max 1 (s.dev.rd F.WM_TIME_LOCKOUT n) ≤ s.dev.now - b ∧ (s.dev.mon n).chat ≠ 0) ∧
    (∃ (n : Nat) (s : State), n < 16 ∧ ((s.dev.mon n).activeAt = none ∨ s.dev.rd F.WM_STS_STUCK n = 1 ∨ s.dev.rd
    F.WM_TIME_STUCK_TIME n = 0)) ∧
    (∃ (n : Nat) (b : Nat) (s : State), n < 16 ∧ (s.dev.mon n).activeAt = some b ∧ s.dev.rd F.WM_STS_STUCK n = 0 ∧
    s.dev.rd F.WM_TIME_STUCK_TIME n ≠ 0 ∧ 12288000 * s.dev.rd F.WM_TIME_STUCK_TIME n < s.dev.now - b) :=
  ⟨⟨.bar0, 15, fw F.WM_CFG_AIN 48, { dev := up }, by decide +kernel⟩,
    ⟨.bar0, 15, fw F.WM_CFG_AIN 47, { dev := up }, by decide +kernel⟩,
    ⟨.bar0, 15, 0, { dev := up }, by decide +kernel⟩,
    ⟨.bar0, 15, 0, { dev := up }, by decide +kernel⟩,
    ⟨.bar0, 15, fw F.WM_THR_HIGH 1, { dev := up }, by decide +kernel⟩,
    ⟨15, { dev := up }, by decide +kernel⟩,
    ⟨15, 0, { dev := { up with now := 614, hk := { mons := [(15, { blank := some 0 })] } } }, by decide +kernel⟩,
    ⟨15, 0, true, false, false, false,
    { dev := { (up |>.wr F.WM_CFG_HYST 0 15) with now := 615, hk := { mons := [(15, { blank := some 0 })] } } },
    by decide +kernel⟩,
    ⟨15, 0, true, false, false, false,
    { dev := { (up |>.wr F.WM_CFG_HYST 1 15) with now := 615, hk := { mons := [(15, { blank := some 0 })] } } },
    by decide +kernel⟩,
    ⟨15, { dev := (up |>.wr F.WM_CFG_EN 0 15) }, by decide +kernel⟩,
    ⟨15, { dev := (up |>.wr F.WM_CFG_EN 1 15) }, by decide +kernel⟩,
    ⟨15, { dev := up }, by decide +kernel⟩,
    ⟨15, 0,
    { dev := { (up |>.wr F.WM_TIME_LOCKOUT 1 15) with now := 122879, hk := { mons := [(15, { lockout := some 0 })] } } },
    by decide +kernel⟩,
    ⟨15, 0,
    { dev := { (up |>.wr F.WM_TIME_LOCKOUT 1 15) with now := 122880, hk := { mons := [(15, { lockout := some 0 })] } } },
    by decide +kernel⟩,
    ⟨15, 0,
    { dev := { (up |>.wr F.WM_TIME_LOCKOUT 1 15) with now := 122880, hk := { mons := [(15, { lockout := some 0, chat := 1 })] } } },
    by decide +kernel⟩,
    ⟨15, { dev := up }, by decide +kernel⟩,
    ⟨15, 0,
    { dev := { (up |>.wr F.WM_TIME_STUCK_TIME 1 15) with now := 12288001, hk := { mons := [(15, { activeAt := some 0 })] } } },
    by decide +kernel⟩⟩

/-- The hypotheses of `CrystalsQualifyAndRefSwitches` are met. -/
theorem witness_CrystalsQualifyAndRefSwitches :
    (∃ (x : Nat) (s : State), x < 2 ∧ (s.dev.xt x ≠ 1 ∨ s.dev.fioPast (tabGet 0 s.dev.clk.startAt x) (s.dev.startDelay x)
    = false)) ∧
    (∃ (x : Nat) (s : State), x < 2 ∧ s.dev.xt x = 1 ∧ s.dev.fioPast (tabGet 0 s.dev.clk.startAt x) (s.dev.startDelay x) =
    true) ∧
    (∃ (x : Nat) (s : State), x < 2 ∧ s.dev.xt x ≠ 2 ∧ s.dev.xt x ≠ 3) ∧
    (∃ (x : Nat) (s : State), x < 2 ∧ s.dev.fioPast (tabGet 0 s.dev.clk.gateAt x) 4096 = false) ∧
    (∃ (x : Nat) (n : Nat) (s : State), x < 2 ∧ absI ((↑n : Int) - 2048) ≤ (↑(2048 * max 50 (s.dev.rd (xtWin x)) / 1000) :
    Int) ∧ s.dev.fioPast (tabGet 0 s.dev.clk.gateAt x) 4096 = true ∧ s.dev.xt x = 3) ∧
    (∃ (x : Nat) (n : Nat) (s : State), x < 2 ∧ absI ((↑n : Int) - 2048) ≤ (↑(2048 * max 50 (s.dev.rd (xtWin x)) / 1000) :
    Int) ∧ s.dev.fioPast (tabGet 0 s.dev.clk.gateAt x) 4096 = true ∧ s.dev.xt x = 2) ∧
    (∃ (x : Nat) (n : Nat) (s : State) (c : Instr), x < 2 ∧ (↑(2048 * max 50 (s.dev.rd (xtWin x)) / 1000) : Int) < absI
    ((↑n : Int) - 2048) ∧ s.dev.xt x = 3 ∧ (c = Instr.xtalGate x n ∧ s.dev.fioPast (tabGet 0 s.dev.clk.gateAt x) 4096 =
    true ∨ c = Instr.xtalStop x)) ∧
    (∃ (x : Nat) (s : State), x < 2 ∧ s.dev.xt x = 2 ∧ s.dev.rd (xtEn x) = 1 ∧ tabGet 0 s.dev.clk.tries x < max 1
    (s.dev.rd (xtTries x))) ∧
    (∃ (s : State), (s.dev.xt 0 ≠ 3 ∨ s.dev.xt 1 ≠ 3 ∨ tabGet 0 s.dev.clk.spanGates 0 < 64 ∨ tabGet 0 s.dev.clk.spanGates
    1 < 64)) ∧
    (∃ (s : State), s.dev.xt 0 = 3 ∧ s.dev.xt 1 = 3 ∧ 64 ≤ tabGet 0 s.dev.clk.spanGates 0 ∧ 64 ≤ tabGet 0
    s.dev.clk.spanGates 1) ∧
    (∃ (r : Nat) (s : State), r < 3 ∧ s.dev.clk.switchTo = none) ∧
    (∃ (r : Nat) (s : State), r < 3 ∧ s.dev.clk.switchTo = some r ∧ s.dev.clk.domainReset = true) ∧
    (∃ (r : Nat) (s : State), r < 3 ∧ s.dev.clk.switchTo = some r ∧ s.dev.clk.domainReset = false ∧ s.dev.rd
    F.CLK_STS_REF_SEL ≠ r) ∧
    (∃ (r : Nat) (s : State), r < 3 ∧ s.dev.hung = false) ∧
    (∃ (r : Nat) (s : State), r < 3 ∧ s.dev.clk.switchTo = some r ∧ s.dev.clk.domainReset = false ∧ s.dev.hung = true) ∧
    (∃ (r : Nat) (s : State), r < 3 ∧ s.dev.fioPast s.dev.clk.holdAt 128 = false) ∧
    (∃ (r : Nat) (s : State), r < 3 ∧ s.dev.clk.switchTo = some r ∧ s.dev.clk.domainReset = true ∧ s.dev.fioPast
    s.dev.clk.holdAt 128 = true) ∧
    (∃ (r : Nat) (s : State), r < 3 ∧ (s.dev.clk.pllLocking = false ∨ s.dev.clk.domainReset = true)) ∧
    (∃ (r : Nat) (s : State), r < 3 ∧ s.dev.clk.pllLocking = true ∧ s.dev.clk.domainReset = false ∧ s.dev.boot = 1) ∧
    (∃ (p : Path) (x : Nat) (w : Nat) (v : Nat) (s : State) (c : Instr), x < 2 ∧ v = withBits w (10 + x) 1 1 ∧
    s.dev.Admits p (hit Reg.CLK_CTL RD.CLK_CTL) v ∧ F.CLK_CTL_PERMIT.of v = 0 ∧ s.dev.xt x = 4 ∧ s.dev.rd (xtEn x) = 1 ∧
    (x = 0 ∧ c = Instr.retryA p w ∨ x = 1 ∧ c = Instr.retryB p w)) ∧
    (∃ (p : Path) (x : Nat) (w : Nat) (s : State), x < 2 ∧ s.dev.Admits p (xtReg x) w ∧ ¬((xtEn x).of w = 0 ∧ s.dev.rd
    (xtEn x) = 1 ∧ s.dev.rd F.CLK_STS_REF_SEL = x)) ∧
    (∃ (p : Path) (r : Nat) (w : Nat) (v : Nat) (s : State), r < 4 ∧ v = withBits (withBits w 8 2 r) 7 1 1 ∧ s.dev.Admits
    p (hit Reg.CLK_CTL RD.CLK_CTL) v ∧ F.CLK_CTL_PERMIT.of v = 0 ∧ F.CLK_CTL_RETRY_A.of v = 0 ∧ F.CLK_CTL_RETRY_B.of v = 0
    ∧ r < 2 ∧ s.dev.xt r = 3 ∧ s.dev.clk.switchTo = none ∧ s.dev.clk.pllLocking = false ∧ s.dev.rd F.CLK_STS_SAFE = 0 ∧
    s.dev.rd F.CLK_STS_REF_SEL ≠ r) ∧
    (∃ (p : Path) (r : Nat) (w : Nat) (v : Nat) (s : State), r < 4 ∧ v = withBits (withBits w 8 2 r) 7 1 1 ∧ s.dev.Admits
    p (hit Reg.CLK_CTL RD.CLK_CTL) v ∧ F.CLK_CTL_PERMIT.of v = 0 ∧ F.CLK_CTL_RETRY_A.of v = 0 ∧ F.CLK_CTL_RETRY_B.of v = 0
    ∧ (2 ≤ r ∨ s.dev.xt r ≠ 3 ∨ s.dev.clk.switchTo ≠ none ∨ s.dev.clk.pllLocking = true ∨ s.dev.rd F.CLK_STS_SAFE = 1 ∨
    s.dev.rd F.CLK_STS_REF_SEL = r)) :=
  ⟨⟨1, { dev := (up |>.wr F.CLK_STS_B_STATE 2 |>.wr F.CLK_XTAL_CFG_B_EN 1) }, by decide +kernel⟩,
    ⟨1, { dev := { (up |>.wr F.CLK_STS_B_STATE 1 |>.wr F.CLK_XTAL_CFG_B_EN 1) with now := 1000000000000 } },
    by decide +kernel⟩,
    ⟨1, { dev := up }, by decide +kernel⟩,
    ⟨1, { dev := up }, by decide +kernel⟩,
    ⟨1, 2048, { dev := { (up |>.wr F.CLK_STS_B_STATE 3) with now := 1000000000000 } }, by decide +kernel⟩,
    ⟨1, 2048, { dev := { (up |>.wr F.CLK_STS_B_STATE 2) with now := 1000000000000 } }, by decide +kernel⟩,
    ⟨1, 0, { dev := { (up |>.wr F.CLK_STS_B_STATE 3) with now := 1000000000000 } }, (.xtalGate 1 0), by decide +kernel⟩,
    ⟨1, { dev := (up |>.wr F.CLK_STS_B_STATE 2 |>.wr F.CLK_XTAL_CFG_B_EN 1) }, by decide +kernel⟩,
    ⟨{ dev := (up |>.wr F.CLK_STS_B_STATE 2 |>.wr F.CLK_XTAL_CFG_B_EN 1) }, by decide +kernel⟩,
    ⟨{ dev := { (up |>.wr F.CLK_STS_A_STATE 3 |>.wr F.CLK_STS_B_STATE 3) with clk := { cold := false, spanGates := [(0, 64), (1, 64)] } } },
    by decide +kernel⟩,
    ⟨2, { dev := up }, by decide +kernel⟩,
    ⟨2, { dev := { up with clk := { cold := false, switchTo := some 2, domainReset := true } } }, by decide +kernel⟩,
    ⟨1, { dev := { up with clk := { cold := false, switchTo := some 1 } } }, by decide +kernel⟩,
    ⟨2, { dev := up }, by decide +kernel⟩,
    ⟨1,
    { dev := { (up |>.wr F.CLK_STS_A_STATE 2) with now := 1000000000000, clk := { cold := false, switchTo := some 1 } } },
    by decide +kernel⟩,
    ⟨1, { dev := { up with clk := { cold := false, switchTo := some 1 } } }, by decide +kernel⟩,
    ⟨2, { dev := { up with now := 1000000000000, clk := { cold := false, switchTo := some 2, domainReset := true } } },
    by decide +kernel⟩,
    ⟨2, { dev := up }, by decide +kernel⟩,
    ⟨2, { dev := { (up |>.wr F.CLK_BOOT_STS_BOOT_STATE 1) with clk := { cold := false, pllLocking := true } } },
    by decide +kernel⟩,
    ⟨.bar0, 1, 0, (withBits 0 11 1 1), { dev := (up |>.wr F.CLK_STS_B_STATE 4 |>.wr F.CLK_XTAL_CFG_B_EN 1) },
    (.retryB .bar0 0), by decide +kernel⟩,
    ⟨.bar0, 1, 0, { dev := up }, by decide +kernel⟩,
    ⟨.bar0, 1, 0, (withBits (withBits 0 8 2 1) 7 1 1), { dev := (up |>.wr F.CLK_STS_B_STATE 3) }, by decide +kernel⟩,
    ⟨.bar0, 3, 0, (withBits (withBits 0 8 2 3) 7 1 1), { dev := up }, by decide +kernel⟩⟩

/-- The hypotheses of `ClockFailuresEnterAndPermitsEndTheSafeState` are met. -/
theorem witness_ClockFailuresEnterAndPermitsEndTheSafeState :
    (∃ (s : State), (s.dev.rd F.CLK_STS_SAFE = 0 ∨ s.dev.refOk = false ∨ s.dev.sampOk = false ∨ s.dev.permitted = false) ∧
    s.dev.boot ≠ 3 ∧ s.dev.boot ≠ 4) ∧
    (∃ (s : State), s.dev.rd F.CLK_STS_SAFE = 1 ∧ s.dev.refOk = true ∧ s.dev.sampOk = true ∧ s.dev.permitted = true ∧ 5 ≤
    s.dev.boot ∧ s.dev.boot ≤ 8) ∧
    (∃ (s : State), (s.dev.rd F.MLD_STS_HOSTLESS = 0 ∨ s.dev.rd F.CLK_STS_SAFE = 0 ∨ s.dev.refOk = false ∨ s.dev.sampOk =
    false ∨ s.dev.clk.okAt = none ∨ ∃ b, s.dev.clk.okAt = some b ∧ s.dev.now - b < 1228800 * s.dev.rd
    F.CLK_MON_CFG_AUTO_PERMIT)) ∧
    (∃ (s : State), s.dev.rd F.MLD_STS_HOSTLESS = 1 ∧ s.dev.rd F.CLK_STS_SAFE = 1 ∧ s.dev.refOk = true ∧ s.dev.sampOk =
    true ∧ (∃ b, s.dev.clk.okAt = some b ∧ 1228800 * s.dev.rd F.CLK_MON_CFG_AUTO_PERMIT ≤ s.dev.now - b) ∧ 5 ≤ s.dev.boot
    ∧ s.dev.boot ≤ 8) ∧
    (∃ (p : Path) (w : Nat) (v : Nat) (s : State), v = withBits w 6 1 1 ∧ s.dev.Admits p (hit Reg.CLK_CTL RD.CLK_CTL) v ∧
    F.CLK_CTL_SWITCH.of v = 0 ∧ F.CLK_CTL_RETRY_A.of v = 0 ∧ F.CLK_CTL_RETRY_B.of v = 0 ∧ F.CLK_CTL_CLR_CNT.of v = 0 ∧
    s.dev.rd F.CLK_STS_SAFE = 0) ∧
    (∃ (p : Path) (w : Nat) (v : Nat) (s : State), v = withBits w 6 1 1 ∧ s.dev.Admits p (hit Reg.CLK_CTL RD.CLK_CTL) v ∧
    F.CLK_CTL_SWITCH.of v = 0 ∧ F.CLK_CTL_RETRY_A.of v = 0 ∧ F.CLK_CTL_RETRY_B.of v = 0 ∧ F.CLK_CTL_CLR_CNT.of v = 0 ∧
    s.dev.rd F.CLK_STS_SAFE = 1 ∧ (s.dev.refOk && s.dev.sampOk) = false) ∧
    (∃ (p : Path) (w : Nat) (v : Nat) (s : State), v = withBits w 6 1 1 ∧ s.dev.Admits p (hit Reg.CLK_CTL RD.CLK_CTL) v ∧
    F.CLK_CTL_SWITCH.of v = 0 ∧ F.CLK_CTL_RETRY_A.of v = 0 ∧ F.CLK_CTL_RETRY_B.of v = 0 ∧ F.CLK_CTL_CLR_CNT.of v = 0 ∧
    s.dev.rd F.CLK_STS_SAFE = 1 ∧ (s.dev.refOk && s.dev.sampOk) = true ∧ 5 ≤ s.dev.boot ∧ s.dev.boot ≤ 8) ∧
    (∃ (s : State), (s.dev.coreOn = false ∨ s.dev.refQualified = false ∨ s.dev.rd F.CLK_STS_SAMP_STATE = 0 ∨ s.dev.rd
    F.CLK_STS_SAMP_STATE = 3 ∨ s.dev.refPast s.dev.clk.sampAt 40960 = false)) ∧
    (∃ (n : Nat) (s : State), s.dev.coreOn = true ∧ s.dev.refQualified = true ∧ s.dev.refPast s.dev.clk.sampAt 40960 =
    true ∧ absI ((↑n : Int) - 251658) * 1000000 ≤ (↑(max 20 (s.dev.rd F.CLK_MON_CFG_SAMP_WIN) * 251658) : Int) ∧ s.dev.rd
    F.CLK_STS_SAMP_STATE = 2) ∧
    (∃ (n : Nat) (s : State), s.dev.coreOn = true ∧ s.dev.refQualified = true ∧ s.dev.refPast s.dev.clk.sampAt 40960 =
    true ∧ absI ((↑n : Int) - 251658) * 1000000 ≤ (↑(max 20 (s.dev.rd F.CLK_MON_CFG_SAMP_WIN) * 251658) : Int) ∧ s.dev.rd
    F.CLK_STS_SAMP_STATE = 1 ∧ 5 ≤ s.dev.boot ∧ s.dev.boot ≤ 8) ∧
    (∃ (n : Nat) (s : State), s.dev.coreOn = true ∧ s.dev.refQualified = true ∧ s.dev.refPast s.dev.clk.sampAt 40960 =
    true ∧ (↑(max 20 (s.dev.rd F.CLK_MON_CFG_SAMP_WIN) * 251658) : Int) < absI ((↑n : Int) - 251658) * 1000000 ∧ s.dev.rd
    F.CLK_STS_SAMP_STATE = 1) ∧
    (∃ (n : Nat) (s : State), s.dev.coreOn = true ∧ s.dev.refQualified = true ∧ s.dev.refPast s.dev.clk.sampAt 40960 =
    true ∧ (↑(max 20 (s.dev.rd F.CLK_MON_CFG_SAMP_WIN) * 251658) : Int) < absI ((↑n : Int) - 251658) * 1000000 ∧ s.dev.rd
    F.CLK_STS_SAMP_STATE = 2) ∧
    (∃ (s : State), s.dev.coreOn = false) ∧
    (∃ (s : State), s.dev.coreOn = true ∧ s.dev.rd F.CLK_STS_SAMP_STATE = 2) ∧
    (∃ (s : State), s.dev.coreOn = true ∧ s.dev.rd F.CLK_STS_SAMP_STATE ≠ 2) ∧
    (∃ (s : State), s.dev.coreOn = true ∧ s.dev.rd F.CLK_STS_SAMP_STATE = 3) ∧
    (∃ (s : State), s.dev.rd F.CLK_STS_SAMP_STATE ≠ 3) ∧
    (∃ (s : State), s.dev.boot = 4 ∧ s.dev.rd F.CLK_STS_SAMP_STATE ≠ 2 ∧ 122880000 ≤ s.dev.now - s.dev.clk.waitAt) ∧
    (∃ (s : State), (s.dev.boot ≠ 4 ∨ s.dev.rd F.CLK_STS_SAMP_STATE = 2 ∨ s.dev.now - s.dev.clk.waitAt < 122880000)) ∧
    (∃ (s : State), s.dev.rd F.CLK_STS_SIO_FAIL = 1) ∧
    (∃ (s : State), s.dev.rd F.CLK_STS_SIO_FAIL = 0) ∧
    (∃ (j : Nat) (n : Option Nat) (s : State), j < 4 ∧ (s.dev.linkDieOn (j / 2) = false ∨ s.dev.coreOn = false ∨ n ≠ none
    ∧ s.dev.refPast (tabGet 0 s.dev.clk.lrefAt j) 40960 = false)) ∧
    (∃ (j : Nat) (n : Option Nat) (s : State) (k : Nat), j < 4 ∧ s.dev.linkDieOn (j / 2) = true ∧ s.dev.coreOn = true ∧ n
    = some k ∧ s.dev.refPast (tabGet 0 s.dev.clk.lrefAt j) 40960 = true ∧ absI ((↑k : Int) - 160000) ≤ 32) ∧
    (∃ (j : Nat) (n : Option Nat) (s : State), j < 4 ∧ s.dev.linkDieOn (j / 2) = true ∧ s.dev.coreOn = true ∧ (n = none ∨
    ∃ k, n = some k ∧ s.dev.refPast (tabGet 0 s.dev.clk.lrefAt j) 40960 = true ∧ 32 < absI ((↑k : Int) - 160000)) ∧ bitAt
    (s.dev.rd F.CLK_STS_LREF_OK) j = false) ∧
    (∃ (j : Nat) (n : Option Nat) (s : State), j < 4 ∧ s.dev.linkDieOn (j / 2) = true ∧ s.dev.coreOn = true ∧ (n = none ∨
    ∃ k, n = some k ∧ s.dev.refPast (tabGet 0 s.dev.clk.lrefAt j) 40960 = true ∧ 32 < absI ((↑k : Int) - 160000)) ∧ bitAt
    (s.dev.rd F.CLK_STS_LREF_OK) j = true) ∧
    (∃ (p : Path) (w : Nat) (v : Nat) (s : State), v = withBits w 0 1 1 ∧ s.dev.Admits p (hit Reg.CLK_CTL RD.CLK_CTL) v ∧
    F.CLK_CTL_PERMIT.of v = 0 ∧ F.CLK_CTL_SWITCH.of v = 0 ∧ F.CLK_CTL_RETRY_A.of v = 0 ∧ F.CLK_CTL_RETRY_B.of v = 0) :=
  ⟨⟨{ dev := up }, by decide +kernel⟩,
    ⟨{ dev := { (up |>.wr F.CLK_STS_SAFE 1) with clk := { cold := false, permit := true } } }, by decide +kernel⟩,
    ⟨{ dev := up }, by decide +kernel⟩,
    ⟨{ dev := { (up |>.wr F.CLK_STS_SAFE 1 |>.wr F.MLD_STS_HOSTLESS 1) with now := 1000000000000, clk := { cold := false, okAt := some 0 } } },
    by decide +kernel, by decide +kernel, by decide +kernel, by decide +kernel, ⟨0, by decide +kernel⟩, by decide +kernel⟩,
    ⟨.bar0, 0, (withBits 0 6 1 1), { dev := up }, by decide +kernel⟩,
    ⟨.bar0, 0, (withBits 0 6 1 1), { dev := (up |>.wr F.CLK_STS_SAFE 1 |>.wr F.CLK_STS_SAMP_STATE 1) }, by decide +kernel⟩,
    ⟨.bar0, 0, (withBits 0 6 1 1), { dev := (up |>.wr F.CLK_STS_SAFE 1) }, by decide +kernel⟩,
    ⟨{ dev := ({} : Dev) }, by decide +kernel⟩,
    ⟨251658, { dev := { up with now := 1000000000000 } }, by decide +kernel⟩,
    ⟨251658, { dev := { (up |>.wr F.CLK_STS_SAMP_STATE 1) with now := 1000000000000 } }, by decide +kernel⟩,
    ⟨0, { dev := { (up |>.wr F.CLK_STS_SAMP_STATE 1) with now := 1000000000000 } }, by decide +kernel⟩,
    ⟨0, { dev := { up with now := 1000000000000 } }, by decide +kernel⟩,
    ⟨{ dev := ({} : Dev) }, by decide +kernel⟩,
    ⟨{ dev := up }, by decide +kernel⟩,
    ⟨{ dev := (up |>.wr F.CLK_STS_SAMP_STATE 1) }, by decide +kernel⟩,
    ⟨{ dev := (up |>.wr F.CLK_STS_SAMP_STATE 3) }, by decide +kernel⟩,
    ⟨{ dev := up }, by decide +kernel⟩,
    ⟨{ dev := { (up |>.wr F.CLK_BOOT_STS_BOOT_STATE 4 |>.wr F.CLK_STS_SAMP_STATE 1) with now := 1000000000000 } },
    by decide +kernel⟩,
    ⟨{ dev := up }, by decide +kernel⟩,
    ⟨{ dev := (up |>.wr F.CLK_STS_SIO_FAIL 1) }, by decide +kernel⟩,
    ⟨{ dev := up }, by decide +kernel⟩,
    ⟨3, none, { dev := ({} : Dev) }, by decide +kernel⟩,
    ⟨3, some 160032, { dev := { up with now := 1000000000000 } }, 160032, by decide +kernel⟩,
    ⟨3, none, { dev := (up |>.wr F.CLK_STS_LREF_OK 7) },
    by decide +kernel, by decide +kernel, by decide +kernel, .inl rfl, by decide +kernel⟩,
    ⟨3, none, { dev := up }, by decide +kernel, by decide +kernel, by decide +kernel, .inl rfl, by decide +kernel⟩,
    ⟨.bar0, 0, (withBits 0 0 1 1), { dev := up }, by decide +kernel⟩⟩

/-- The hypotheses of `ResetsLeaveTheirCauseAndResetValues` are met. -/
theorem witness_ResetsLeaveTheirCauseAndResetValues :
    (∃ (c : Instr) (cause : Nat) (keep : Bool) (s : State), ((c = Instr.aoPowerGood ∧ keep = false ∧ cause = if
    s.dev.clk.resetLow = true then 3 else 1) ∨ c = Instr.resetNAssert ∧ keep = true ∧ s.dev.clk.resetLow = false ∧ cause =
    s.dev.causeAfter 1 ∨ c = Instr.aoWatchdog ∧ keep = true ∧ cause = s.dev.causeAfter 4 ∨ ∃ p w, c = Instr.chipReset p w
    ∧ keep = true ∧ cause = s.dev.causeAfter 2 ∧ s.dev.Admits p (hit Reg.CLK_RST_CTL RD.CLK_RST_CTL) (withBits w 1 1 1) ∧
    F.CLK_RST_CTL_KEY.of (withBits w 1 1 1) = 90)) ∧
    (∃ (s : State), s.dev.clk.resetLow = true) ∧
    (∃ (p : Path) (w : Nat) (s : State), s.dev.Admits p (hit Reg.CLK_RST_CTL RD.CLK_RST_CTL) (withBits w 1 1 1) ∧
    F.CLK_RST_CTL_KEY.of (withBits w 1 1 1) ≠ 90) ∧
    (∃ (p : Path) (w : Nat) (s : State), s.dev.Admits p (hit Reg.CLK_RST_CTL RD.CLK_RST_CTL) (withBits w 0 1 1) ∧
    F.CLK_RST_CTL_KEY.of (withBits w 0 1 1) ≠ 90) ∧
    (∃ (p : Path) (w : Nat) (s : State), s.dev.Admits p (hit Reg.CLK_RST_CTL RD.CLK_RST_CTL) (withBits w 0 1 1) ∧
    F.CLK_RST_CTL_KEY.of (withBits w 0 1 1) = 90 ∧ F.CLK_RST_CTL_CHIP.of (withBits w 0 1 1) = 0 ∧ 2 ≤ s.dev.boot ∧
    s.dev.boot ≠ 10 ∧ s.dev.pwr.stopping = none) ∧
    (∃ (p : Path) (w : Nat) (s : State), s.dev.Admits p (hit Reg.CLK_RST_CTL RD.CLK_RST_CTL) (withBits w 0 1 1) ∧
    F.CLK_RST_CTL_KEY.of (withBits w 0 1 1) = 90 ∧ F.CLK_RST_CTL_CHIP.of (withBits w 0 1 1) = 0 ∧ (s.dev.boot ≤ 1 ∨
    s.dev.boot = 10)) ∧
    (∃ (s : State), (s.dev.boot ≠ 0 ∨ s.dev.clk.resetLow = true ∨ s.dev.fioPast s.dev.clk.bootAt 8192 = false)) ∧
    (∃ (s : State), s.dev.boot = 0 ∧ s.dev.clk.resetLow = false ∧ s.dev.fioPast s.dev.clk.bootAt 8192 = true) :=
  ⟨⟨.aoWatchdog, (up.causeAfter 4), true, { dev := up }, .inr (.inr (.inl ⟨rfl, rfl, rfl⟩))⟩,
    ⟨{ dev := { up with clk := { cold := false, resetLow := true } } }, by decide +kernel⟩,
    ⟨.bar0, 0, { dev := up }, by decide +kernel⟩,
    ⟨.bar0, 0, { dev := up }, by decide +kernel⟩,
    ⟨.bar0, fw F.CLK_RST_CTL_KEY 90, { dev := up }, by decide +kernel⟩,
    ⟨.bar0, fw F.CLK_RST_CTL_KEY 90, { dev := (up |>.wr F.CLK_BOOT_STS_BOOT_STATE 10) }, by decide +kernel⟩,
    ⟨{ dev := up }, by decide +kernel⟩,
    ⟨{ dev := { (up |>.wr F.CLK_BOOT_STS_BOOT_STATE 0) with now := 1000000000000 } }, by decide +kernel⟩⟩

/-- The hypotheses of `CrystalInUseStaysEnabledAndRetryIsOnce` are met. -/
theorem witness_CrystalInUseStaysEnabledAndRetryIsOnce :
    (∃ (p : Path) (x : Nat) (w : Nat) (s : State), x < 2 ∧ s.dev.Admits p (xtReg x) w ∧ (xtEn x).of w = 0 ∧ s.dev.rd (xtEn
    x) = 1 ∧ s.dev.rd F.CLK_STS_REF_SEL = x) ∧
    (∃ (p : Path) (n : Nat) (w : Nat) (s : State), n < 82 ∧ s.dev.Admits p (hit Reg.PWR_DOM RD.PWR_DOM n) (withBits w 31 1
    1) ∧ (n = 4 ∨ n = 5 ∨ 74 ≤ n) ∧ s.dev.rd F.PWR_DOM_STATE n = 5 ∧ n ∉ s.dev.pwr.retried) ∧
    (∃ (p : Path) (n : Nat) (w : Nat) (s : State), n < 82 ∧ s.dev.Admits p (hit Reg.PWR_DOM RD.PWR_DOM n) (withBits w 31 1
    1) ∧ ¬(n = 4 ∨ n = 5 ∨ 74 ≤ n) ∨ s.dev.rd F.PWR_DOM_STATE n ≠ 5 ∨ n ∈ s.dev.pwr.retried) :=
  ⟨⟨.bar0, 0, 0, { dev := (up |>.wr F.CLK_XTAL_CFG_A_EN 1) }, by decide +kernel⟩,
    ⟨.bar0, 81, 0, { dev := (up |>.wr F.PWR_DOM_STATE 5 81) }, by decide +kernel⟩,
    ⟨.bar0, 0, 0, { dev := up }, by decide +kernel⟩⟩

/-- The hypotheses of `DomainsWakeGateFaultStopAndRestart` are met. -/
theorem witness_DomainsWakeGateFaultStopAndRestart :
    (∃ (s : State), (s.dev.pwr.queue = [] ∨ s.dev.ladderDue = false ∨ s.dev.boot = 2 ∧ s.dev.pwr.stopping = none ∧
    s.dev.refOk = false)) ∧
    (∃ (n : Nat) (wake : Bool) (rest : List (Nat × Bool)) (s : State), n < 82 ∧ s.dev.pwr.queue = (n, wake) :: rest ∧ (∀ q
    ∈ rest, q.1 ≠ n) ∧ wakeStep n ≤ min 60 (s.dev.rd F.PWR_LADDER_MAX_A) ∧ s.dev.pwr.stopping = none ∧ (s.dev.boot = 2 →
    s.dev.refOk = true) ∧ s.dev.ladderDue = true) ∧
    (∃ (n : Nat) (s : State), n < 82 ∧ s.dev.rd F.PWR_DOM_STATE n ≠ 2) ∧
    (∃ (n : Nat) (s : State), n < 82 ∧ s.dev.rd F.PWR_DOM_STATE n = 2) ∧
    (∃ (n : Nat) (cause : Nat) (s : State), n < 82 ∧ (cause = 0 ∨ 3 < cause ∨ cause = 1 ∧ s.dev.rd F.PWR_DOM_STATE n ≠ 2 ∧
    s.dev.domOn n = false ∨ cause = 2 ∧ (s.dev.rd F.PWR_DOM_STATE n ≠ 2 ∨ 10 * (s.dev.now - tabGet 0 s.dev.pwr.wakeAt n +
    1) < 12288) ∨ cause = 3 ∧ s.dev.domOn n = false)) ∧
    (∃ (n : Nat) (cause : Nat) (s : State), n < 82 ∧ (cause = 1 ∧ (s.dev.rd F.PWR_DOM_STATE n = 2 ∨ s.dev.domOn n = true)
    ∨ cause = 2 ∧ s.dev.rd F.PWR_DOM_STATE n = 2 ∧ 12288 ≤ 10 * (s.dev.now - tabGet 0 s.dev.pwr.wakeAt n + 1) ∨ cause = 3
    ∧ s.dev.domOn n = true)) ∧
    (∃ (n : Nat) (s : State), n < 36 ∧ s.dev.idleFor (6 + n) 122880 = false) ∧
    (∃ (n : Nat) (s : State) (k : Takeover), n < 36 ∧ s.dev.slc.takeover = some k ∧ k.target = some n) ∧
    (∃ (n : Nat) (s : State), n < 36 ∧ s.dev.domOn (6 + n) = true ∧ s.dev.idleFor (6 + n) 122880 = true ∧
    s.dev.slc.takeover = none) ∧
    (∃ (q : Nat) (s : State), q < 8 ∧ s.dev.idleFor (74 + q) 122880000 = false) ∧
    (∃ (q : Nat) (s : State), q < 8 ∧ s.dev.domOn (74 + q) = true ∧ s.dev.idleFor (74 + q) 122880000 = true) ∧
    (∃ (done : Bool) (s : State), (s.dev.pwr.stopping = none ∨ s.dev.pwr.stopGating = true ∨ done = false ∧ s.dev.now -
    s.dev.pwr.stopAt < 491520)) ∧
    (∃ (done : Bool) (s : State), s.dev.pwr.stopping.isSome = true ∧ s.dev.pwr.stopGating = false ∧ s.dev.pwr.good ≠ [] ∧
    (done = true ∨ 491520 ≤ s.dev.now - s.dev.pwr.stopAt)) ∧
    (∃ (s : State), s.dev.clk.resetLow = true) ∧
    (∃ (s : State), s.dev.clk.resetLow = false) ∧
    (∃ (p : Path) (w : Nat) (v : Nat) (s : State), v = withBits w 1 1 1 ∧ s.dev.Admits p (hit Reg.PWR_CTL RD.PWR_CTL) v ∧
    F.PWR_CTL_CLR_CNT.of v = 0 ∧ s.dev.boot ≠ 10) ∧
    (∃ (p : Path) (w : Nat) (v : Nat) (s : State), v = withBits w 1 1 1 ∧ s.dev.Admits p (hit Reg.PWR_CTL RD.PWR_CTL) v ∧
    F.PWR_CTL_CLR_CNT.of v = 0 ∧ s.dev.boot = 10 ∧ (s.dev.now - s.dev.pwr.stoppedAt < 122880000 * max 1
    (F.PWR_CTL_COOL_S.of v) ∨ s.dev.pwr.cool < 3)) ∧
    (∃ (p : Path) (w : Nat) (v : Nat) (s : State), v = withBits w 1 1 1 ∧ s.dev.Admits p (hit Reg.PWR_CTL RD.PWR_CTL) v ∧
    F.PWR_CTL_CLR_CNT.of v = 0 ∧ s.dev.boot = 10 ∧ 122880000 * max 1 (F.PWR_CTL_COOL_S.of v) ≤ s.dev.now -
    s.dev.pwr.stoppedAt ∧ 3 ≤ s.dev.pwr.cool) ∧
    (∃ (p : Path) (w : Nat) (v : Nat) (s : State), v = withBits w 0 1 1 ∧ s.dev.Admits p (hit Reg.PWR_CTL RD.PWR_CTL) v ∧
    F.PWR_CTL_RESTART.of v = 0) ∧
    (∃ (s : State), (s.dev.boot ≠ 10 ∨ s.dev.rd F.PWR_CTL_AUTO_RESTART = 0 ∨ s.dev.rd F.PWR_STS_STOP_CAUSE ≠ 1 ∨ s.dev.rd
    F.PWR_CTL_AUTO_MAX ≤ s.dev.rd F.PWR_STS_AUTO_DONE ∨ s.dev.cooled = false)) ∧
    (∃ (s : State), s.dev.boot = 10 ∧ s.dev.rd F.PWR_CTL_AUTO_RESTART = 1 ∧ s.dev.rd F.PWR_STS_STOP_CAUSE = 1 ∧ s.dev.rd
    F.PWR_STS_AUTO_DONE < s.dev.rd F.PWR_CTL_AUTO_MAX ∧ s.dev.cooled = true) ∧
    (∃ (n : Nat) (s : State), n < 8 ∧ s.dev.ageDue n = false) ∧
    (∃ (n : Nat) (s : State), n < 8 ∧ s.dev.ageDue n = true) :=
  ⟨⟨{ dev := up }, by decide +kernel⟩,
    ⟨81, true, [], { dev := { (up |>.wr F.PWR_LADDER_MAX_A 60) with pwr := { good := upTo 82, queue := [(81, true)] } } },
    by decide +kernel⟩,
    ⟨81, { dev := up }, by decide +kernel⟩,
    ⟨81, { dev := (up |>.wr F.PWR_DOM_STATE 2 81) }, by decide +kernel⟩,
    ⟨81, 2, { dev := up }, by decide +kernel⟩,
    ⟨81, 3, { dev := up }, by decide +kernel⟩,
    ⟨7, { dev := ({} : Dev) }, by decide +kernel⟩,
    ⟨35, { dev := { ({} : Dev) with slc := { takeover := some { target := some 35 } } } }, { target := some 35 },
    by decide +kernel⟩,
    ⟨35, { dev := { ({} : Dev) with now := 1000000000000, pwr := { good := [41], idleAt := [(41, 0)] } } },
    by decide +kernel⟩,
    ⟨7, { dev := ({} : Dev) }, by decide +kernel⟩,
    ⟨7, { dev := { up with now := 1000000000000, pwr := { good := upTo 82, idleAt := [(81, 0)] } } }, by decide +kernel⟩,
    ⟨true, { dev := up }, by decide +kernel⟩,
    ⟨true, { dev := { up with pwr := { good := upTo 82, stopping := some 1 } } }, by decide +kernel⟩,
    ⟨{ dev := { up with clk := { cold := false, resetLow := true } } }, by decide +kernel⟩,
    ⟨{ dev := up }, by decide +kernel⟩,
    ⟨.bar0, 0, (withBits 0 1 1 1), { dev := up }, by decide +kernel⟩,
    ⟨.bar0, 0, (withBits 0 1 1 1),
    { dev := { (up |>.wr F.CLK_BOOT_STS_BOOT_STATE 10) with now := 122879999, pwr := { cool := 3 } } }, by decide +kernel⟩,
    ⟨.bar0, 0, (withBits 0 1 1 1),
    { dev := { (up |>.wr F.CLK_BOOT_STS_BOOT_STATE 10) with now := 122880000, pwr := { cool := 3 } } }, by decide +kernel⟩,
    ⟨.bar0, 0, (withBits 0 0 1 1), { dev := up }, by decide +kernel⟩,
    ⟨{ dev := up }, by decide +kernel⟩,
    ⟨{ dev := { (up |>.wr F.CLK_BOOT_STS_BOOT_STATE 10 |>.wr F.PWR_CTL_AUTO_RESTART 1 |>.wr F.PWR_STS_STOP_CAUSE 1 |>.wr F.PWR_CTL_AUTO_MAX 1 |>.wr F.PWR_CTL_COOL_S 1) with now := 122880000, pwr := { cool := 3 } } },
    by decide +kernel⟩,
    ⟨7, { dev := ({} : Dev) }, by decide +kernel⟩,
    ⟨7, { dev := up }, by decide +kernel⟩⟩

/-- The hypotheses of `ThermalLevelsThrottleAndGovern` are met. -/
theorem witness_ThermalLevelsThrottleAndGovern :
    (∃ (s : State), (s.dev.pwr.evalOwed = false ∨ s.dev.roundRead = false)) ∧
    (∃ (s : State), s.dev.pwr.evalOwed = true ∧ s.dev.roundRead = true) ∧
    (∃ (s : State), s.dev.now - s.dev.pwr.throttleAt < 12288000 * max 1 (s.dev.rd F.THM_THROTTLE_CFG_PERIOD)) ∧
    (∃ (s : State), 12288000 * max 1 (s.dev.rd F.THM_THROTTLE_CFG_PERIOD) ≤ s.dev.now - s.dev.pwr.throttleAt ∧ s.dev.rd
    F.THM_STS_THROTTLE = 1 ∧ s.dev.rd F.THM_STS_STEPS < min 63 (s.dev.rd F.THM_THROTTLE_CFG_MAX_STEPS)) ∧
    (∃ (s : State), 12288000 * max 1 (s.dev.rd F.THM_THROTTLE_CFG_PERIOD) ≤ s.dev.now - s.dev.pwr.throttleAt ∧ s.dev.rd
    F.THM_STS_THROTTLE = 1 ∧ min 63 (s.dev.rd F.THM_THROTTLE_CFG_MAX_STEPS) ≤ s.dev.rd F.THM_STS_STEPS) ∧
    (∃ (s : State), 12288000 * max 1 (s.dev.rd F.THM_THROTTLE_CFG_PERIOD) ≤ s.dev.now - s.dev.pwr.throttleAt ∧ s.dev.rd
    F.THM_STS_THROTTLE = 0 ∧ s.dev.rd F.THM_STS_STEPS = 0) ∧
    (∃ (s : State), 12288000 * max 1 (s.dev.rd F.THM_THROTTLE_CFG_PERIOD) ≤ s.dev.now - s.dev.pwr.throttleAt ∧ s.dev.rd
    F.THM_STS_THROTTLE = 0 ∧ s.dev.rd F.THM_STS_STEPS ≠ 0) ∧
    (∃ (s : State), (s.dev.pwr.governOwed = false ∨ s.dev.pwr.evalOwed = true)) ∧
    (∃ (model : Int) (corr : Int) (s : State), s.dev.pwr.governOwed = true ∧ s.dev.pwr.evalOwed = false ∧ model =
    s.dev.countsPower s.dev.pwr.act.round + s.dev.pStatic ∧ corr = s.dev.pwr.corr + divNear (s.dev.pMeas - model -
    s.dev.pwr.corr) (2 ^ s.dev.rd F.BGV_CTL_CORR_SHIFT)) :=
  ⟨⟨{ dev := up }, by decide +kernel⟩,
    ⟨{ dev := { up with pwr := { good := upTo 82, evalOwed := true } } }, by decide +kernel⟩,
    ⟨{ dev := (up |>.wr F.THM_STS_THROTTLE 1 |>.wr F.THM_THROTTLE_CFG_MAX_STEPS 63 |>.wr F.THM_STS_STEPS 62) },
    by decide +kernel⟩,
    ⟨{ dev := { (up |>.wr F.THM_STS_THROTTLE 1 |>.wr F.THM_THROTTLE_CFG_MAX_STEPS 63 |>.wr F.THM_STS_STEPS 62) with now := 1000000000000 } },
    by decide +kernel⟩,
    ⟨{ dev := { (up |>.wr F.THM_STS_THROTTLE 1 |>.wr F.THM_THROTTLE_CFG_MAX_STEPS 63 |>.wr F.THM_STS_STEPS 63) with now := 1000000000000 } },
    by decide +kernel⟩,
    ⟨{ dev := { up with now := 1000000000000 } }, by decide +kernel⟩,
    ⟨{ dev := { (up |>.wr F.THM_STS_STEPS 1) with now := 1000000000000 } }, by decide +kernel⟩,
    ⟨{ dev := up }, by decide +kernel⟩,
    ⟨_, _, { dev := { up with pwr := { good := upTo 82, governOwed := true } } },
    by decide +kernel, by decide +kernel, rfl, rfl⟩⟩

/-- The hypotheses of `EventIsQueuedSuppressedOrLost` are met. -/
theorem witness_EventIsQueuedSuppressedOrLost :
    (∃ (code : Nat) (s : State), validCode code = true ∧ s.dev.clk.resetLow = false ∧ 32 ≤ code ∧ s.dev.rd
    F.EVT_CODE_BURST code ≠ 0) ∧
    (∃ (code : Nat) (s : State), validCode code = true ∧ s.dev.clk.resetLow = false ∧ 32 ≤ code ∧ s.dev.rd
    F.EVT_CODE_BURST code ≠ 0 ∧ s.dev.rd F.EVT_CODE_STS_TOKENS code ≠ 0 ∧ s.dev.er.lostCount = 0 ∧ s.dev.er.supDue = [] ∧
    s.dev.er.queue.length < 64) ∧
    (∃ (code : Nat) (s : State), validCode code = true ∧ s.dev.clk.resetLow = false ∧ 32 ≤ code ∧ s.dev.rd
    F.EVT_CODE_BURST code ≠ 0 ∧ s.dev.rd F.EVT_CODE_STS_TOKENS code = 0) ∧
    (∃ (code : Nat) (s : State), validCode code = true ∧ s.dev.clk.resetLow = false ∧ 32 ≤ code ∧ s.dev.rd
    F.EVT_CODE_BURST code ≠ 0 ∧ s.dev.rd F.EVT_CODE_STS_TOKENS code ≠ 0 ∧ s.dev.er.queue.length = 64) :=
  ⟨⟨0x16D, { dev := (up |>.wr F.EVT_CODE_BURST 1 365) }, by decide +kernel⟩,
    ⟨0x16D,
    { dev := { (up |>.wr F.EVT_CODE_BURST 1 365 |>.wr F.EVT_CODE_STS_TOKENS 1 365) with er := { queue := List.replicate 63 {} } } },
    by decide +kernel⟩,
    ⟨0x16D, { dev := (up |>.wr F.EVT_CODE_BURST 1 365 |>.wr F.EVT_CODE_STS_TOKENS 0 365) }, by decide +kernel⟩,
    ⟨0x16D,
    { dev := { (up |>.wr F.EVT_CODE_BURST 1 365 |>.wr F.EVT_CODE_STS_TOKENS 1 365) with er := { queue := List.replicate 64 {} } } },
    by decide +kernel⟩⟩

/-- The hypotheses of `InputQueueHoldsAtMostSixtyFour` are met. -/
theorem witness_InputQueueHoldsAtMostSixtyFour :
    (∃ (s : State) (code : Nat) (index : Nat) (arg : Nat) (t : State), s.dev.er.queue.length ≤ 64 ∧ exec (Instr.eventRaise
    code index arg) s = Host.Outcome.next t) ∧
    (∃ (s : State) (t : State), s.dev.er.queue.length ≤ 64 ∧ exec Instr.ringWrite s = Host.Outcome.next t) ∧
    (∃ (s : State) (code : Nat) (t : State), s.dev.er.queue.length ≤ 64 ∧ exec (Instr.tokenRefill code) s =
    Host.Outcome.next t) :=
  ⟨⟨{ dev := up }, 32, 0, 0, _, by decide +kernel, rfl⟩,
    ⟨{ dev := up }, _, by decide +kernel, rfl⟩,
    ⟨{ dev := up }, 32, _, by decide +kernel, rfl⟩⟩

/-- The hypotheses of `HeadOfQueueBecomesTheNextRecord` are met. -/
theorem witness_HeadOfQueueBecomesTheNextRecord :
    (∃ (s : State), (s.dev.flag F.EVT_STS_RESUMED = false ∨ s.dev.er.queue = [] ∨ s.dev.fioPast s.dev.er.headAt 40 =
    false)) ∧
    (∃ (e : QEnt) (rest : List QEnt) (s : State), s.dev.flag F.EVT_STS_RESUMED = true ∧ s.dev.er.queue = e :: rest ∧
    s.dev.fioPast s.dev.er.headAt 40 = true) :=
  ⟨⟨{ dev := { (up |>.wr F.EVT_STS_RESUMED 1) with er := { queue := [{}] } } }, by decide +kernel⟩,
    ⟨{}, [], { dev := { (up |>.wr F.EVT_STS_RESUMED 1) with now := 1000000000000, er := { queue := [{}] } } },
    by decide +kernel⟩⟩

/-- The hypotheses of `TokensAreRefilledAndTimeResumes` are met. -/
theorem witness_TokensAreRefilledAndTimeResumes :
    (∃ (code : Nat) (a : Nat) (s : State), code < 512 ∧ tabFind s.dev.er.tokenAt code = some a ∧ s.dev.fioPast a (800000 *
    max 1 (s.dev.rd F.EVT_CODE_REFILL code)) = false) ∧
    (∃ (code : Nat) (s : State), 32 ≤ code ∧ code < 512 ∧ s.dev.rd F.EVT_CODE_STS_TOKENS code < s.dev.rd F.EVT_CODE_BURST
    code ∧ (∀ (a : Nat), tabFind s.dev.er.tokenAt code = some a → s.dev.fioPast a (800000 * max 1 (s.dev.rd
    F.EVT_CODE_REFILL code)) = true)) ∧
    (∃ (p : Path) (c : Nat) (w : Nat) (s : State), 32 ≤ c ∧ c < 512 ∧ s.dev.Admits p (hit Reg.EVT_CODE RD.EVT_CODE c) w) ∧
    (∃ (s : State), (s.dev.flag F.EVT_STS_RESUMED = true ∨ s.dev.boot = 0)) ∧
    (∃ (s : State), s.dev.flag F.EVT_STS_RESUMED = false ∧ s.dev.boot ≠ 0) ∧
    (∃ (s : State), s.dev.flag F.EVT_STS_UNSURE = true ∧ s.dev.memOn = true) ∧
    (∃ (s : State), s.dev.flag F.EVT_STS_RESUMED = true ∧ s.dev.memOn = true ∧ s.dev.anchorDue = true ∧
    s.dev.er.anchorSlot < 2048) ∧
    (∃ (s : State), s.dev.anchorDue = false) ∧
    (∃ (p : Path) (w : Nat) (s : State), s.dev.Admits p (hit Reg.EVT_CAL_HI RD.EVT_CAL_HI) (withBits w 31 1 1)) :=
  ⟨⟨511, 0, { dev := { up with er := { tokenAt := [(511, 0)] } } }, by decide +kernel⟩,
    ⟨511, { dev := (up |>.wr F.EVT_CODE_BURST 1 511 |>.wr F.EVT_CODE_STS_TOKENS 0 511) }, by decide +kernel⟩,
    ⟨.bar0, 511, 0, { dev := up }, by decide +kernel⟩,
    ⟨{ dev := (up |>.wr F.EVT_STS_RESUMED 1) }, by decide +kernel⟩,
    ⟨{ dev := (up |>.wr F.EVT_STS_RESUMED 0) }, by decide +kernel⟩,
    ⟨{ dev := (up |>.wr F.EVT_STS_UNSURE 1) }, by decide +kernel⟩,
    ⟨{ dev := { (up |>.wr F.EVT_STS_RESUMED 1) with er := { anchorSlot := 2047 } } }, by decide +kernel⟩,
    ⟨{ dev := { up with er := { anchor := some (1000000000000, 1000000000000) } } }, by decide +kernel⟩,
    ⟨.bar0, 0, { dev := up }, by decide +kernel⟩⟩

/-- The hypotheses of `ArchiveTakesRecordsAndClearingNeedsResponse` are met. -/
theorem witness_ArchiveTakesRecordsAndClearingNeedsResponse :
    (∃ (s : State), s.dev.memOn = true ∧ s.dev.flag F.EVT_STS_RESUMED = true ∧ s.dev.flag F.EVT_CTL_ARCH_EN = true ∧
    s.dev.er.archBusy = [] ∧ s.dev.er.clearTo = none ∧ s.dev.hif.flashJobs = [] ∧ s.dev.pwr.stopping = none ∧
    s.dev.toArchive ≠ []) ∧
    (∃ (n : Nat) (r : Rec) (again : Bool) (rest : List (Nat × Rec × Bool)) (s : State), s.dev.er.archBusy = (n, r, again)
    :: rest ∧ n % 1024 ≠ 0 ∧ s.dev.hif.flashJobs = []) ∧
    (∃ (p : Path) (w : Nat) (s : State), s.dev.Admits p (hit Reg.EVT_ARCH_RD_HI RD.EVT_ARCH_RD_HI) (withBits w 31 1 1) ∧
    s.dev.flag F.EVT_ARCH_RD_HI_BUSY = false) ∧
    (∃ (q : Nat) (s : State), s.dev.er.archRead = some q ∧ s.dev.memOn = true ∧ (List.find? (fun p => p.2.seq == q)
    s.mem.archive = none)) ∧
    (∃ (q : Nat) (s : State) (k : Nat) (r : Rec), s.dev.er.archRead = some q ∧ s.dev.memOn = true ∧ (List.find? (fun p =>
    p.2.seq == q) s.mem.archive = some (k, r))) ∧
    (∃ (p : Path) (w : Nat) (s : State), bits w 31 1 = 0 ∧ s.dev.Admits p (hit Reg.EVT_CLR_CTL RD.EVT_CLR_CTL) (withBits w
    30 1 1)) ∧
    (∃ (s : State), s.dev.fioPast s.dev.er.nonceAt 4800000000 = true) ∧
    (∃ (s : State), s.dev.fioPast s.dev.er.nonceAt 4800000000 = false) ∧
    (∃ (p : Path) (w : Nat) (s : State), bits w 30 1 = 0 ∧ s.dev.Admits p (hit Reg.EVT_CLR_CTL RD.EVT_CLR_CTL) (withBits w
    31 1 1) ∧ s.dev.judgeClear s.mem.otp = 0) ∧
    (∃ (p : Path) (w : Nat) (s : State), bits w 30 1 = 0 ∧ s.dev.Admits p (hit Reg.EVT_CLR_CTL RD.EVT_CLR_CTL) (withBits w
    31 1 1) ∧ s.dev.judgeClear s.mem.otp = 1) ∧
    (∃ (s : State), s.dev.er.archBusy ≠ []) ∧
    (∃ (q : Nat) (s : State), s.dev.er.clearTo = some q ∧ s.dev.er.archBusy = []) ∧
    (∃ (p : Path) (w : Nat) (s : State), s.dev.Admits p (hit Reg.EVT_CTL RD.EVT_CTL) (withBits w 0 1 1)) :=
  ⟨⟨{ dev := { (up |>.wr F.EVT_STS_RESUMED 1 |>.wr F.EVT_CTL_ARCH_EN 1) with er := { ring := [(0, {})] } } },
    by decide +kernel⟩,
    ⟨65535, {}, false, [], { dev := { up with er := { archBusy := [(65535, {}, false)] } } }, by decide +kernel⟩,
    ⟨.bar0, 0, { dev := up }, by decide +kernel⟩,
    ⟨0, { dev := { up with er := { archRead := some 0 } } }, by decide +kernel⟩,
    ⟨0, { dev := { up with er := { archRead := some 0 } }, mem := flashed flArchive (recOctets {}) }, 0, {},
    by decide +kernel⟩,
    ⟨.bar0, 0, { dev := up }, by decide +kernel⟩,
    ⟨{ dev := { up with now := 1000000000000 } }, by decide +kernel⟩,
    ⟨{ dev := up }, by decide +kernel⟩,
    ⟨.bar0, 0,
    { dev := { (up |>.wr F.EVT_AUTH_AUTH 0xFD6DD1B4 0 |>.wr F.EVT_AUTH_AUTH 0x5687EE6A 1 |>.wr F.EVT_AUTH_AUTH 0xCC7621D8 2 |>.wr F.EVT_AUTH_AUTH 0xB5ECF61D 3) with er := { nonceLive := true, nextSeq := 1, ring := [(0, {})] } }, mem := { otp := { done := 4, clearKey := List.replicate 32 1 } } },
    by decide +kernel⟩,
    ⟨.bar0, 0,
    { dev := { up with er := { nonceLive := true, nextSeq := 1, ring := [(0, {})] } }, mem := { otp := { done := 4, clearKey := List.replicate 32 1 } } },
    by decide +kernel⟩,
    ⟨{ dev := { up with er := { archBusy := [(0, {}, true)] } } }, List.cons_ne_nil _ _⟩,
    ⟨0, { dev := { up with er := { clearTo := some 0 } } }, by decide +kernel⟩,
    ⟨.bar0, 0, { dev := up }, by decide +kernel⟩⟩

/-- The hypotheses of `OwnerWriteFollowsTheTable` are met. -/
theorem witness_OwnerWriteFollowsTheTable :
    ∃ (p : Path) (b : Nat) (w : Nat) (s : State), b < 16 ∧ s.dev.Admits p (ownerHit b) w :=
  ⟨.bar0, 15, 0, { dev := up }, by decide +kernel⟩

/-- The hypotheses of `SameCycleOwnerWriteGoesToTheSideBand` are met. -/
theorem witness_SameCycleOwnerWriteGoesToTheSideBand :
    (∃ (p : Path) (b : Nat) (w : Nat) (v : Nat) (s : State), b < 16 ∧ s.dev.Admits p (ownerHit b) w ∧ ¬((ownJudge
    (s.dev.ownerOf b) (masterOf p) (w % 4)).1 = 0 ∧ (ownJudge (s.dev.ownerOf b) (3 - masterOf p) (v % 4)).1 = 0)) ∧
    (∃ (b : Nat) (w : Nat) (v : Nat) (s : State), b < 16 ∧ s.dev.Admits Path.smp (ownerHit b) w ∧ s.dev.Admits Path.bar0
    (ownerHit b) v ∧ (ownJudge (s.dev.ownerOf b) 2 (w % 4)).1 = 0 ∧ (ownJudge (s.dev.ownerOf b) 1 (v % 4)).1 = 0) :=
  ⟨⟨.bar0, 15, 1, 2, { dev := up }, by decide +kernel⟩,
    ⟨15, 2, 1, { dev := (up.wr (ownerFld 15) 0) }, by decide +kernel⟩⟩

/-- The hypotheses of `MailboxSlotGoesThroughItsStates` are met. -/
theorem witness_MailboxSlotGoesThroughItsStates :
    (∃ (p : Path) (k : Nat) (w : Nat) (s : State), k < 16 ∧ s.dev.Admits p (hit Reg.HIF_MB_CTL RD.HIF_MB_CTL k) (withBits
    w 4 1 1) ∧ s.dev.rd F.HIF_MB_CTL_SLOT_OWNER k = masterOf p ∧ F.HIF_MB_CTL_SLOT_OWNER.of (withBits w 4 1 1) = masterOf
    p ∧ s.dev.rd F.HIF_MB_CTL_STATE k = 1) ∧
    (∃ (p : Path) (k : Nat) (w : Nat) (s : State), k < 16 ∧ s.dev.Admits p (hit Reg.HIF_MB_CTL RD.HIF_MB_CTL k) (withBits
    w 5 1 1) ∧ s.dev.rd F.HIF_MB_CTL_SLOT_OWNER k = masterOf p ∧ F.HIF_MB_CTL_SLOT_OWNER.of (withBits w 5 1 1) = masterOf
    p ∧ s.dev.rd F.HIF_MB_CTL_STATE k = 4) ∧
    (∃ (p : Path) (k : Nat) (w : Nat) (s : State), k < 16 ∧ s.dev.Admits p (hit Reg.HIF_MB_CTL RD.HIF_MB_CTL k) (withBits
    w 0 2 0) ∧ s.dev.rd F.HIF_MB_CTL_SLOT_OWNER k = masterOf p ∧ s.dev.rd F.HIF_MB_CTL_STATE k ≠ 2 ∧ s.dev.rd
    F.HIF_MB_CTL_STATE k ≠ 3) ∧
    (∃ (p : Path) (k : Nat) (w : Nat) (s : State), k < 16 ∧ s.dev.Admits p (hit Reg.HIF_MB_CTL RD.HIF_MB_CTL k) (withBits
    w 0 2 0) ∧ s.dev.rd F.HIF_MB_CTL_SLOT_OWNER k = masterOf p ∧ (s.dev.rd F.HIF_MB_CTL_STATE k = 2 ∨ s.dev.rd
    F.HIF_MB_CTL_STATE k = 3)) ∧
    (∃ (k : Nat) (s : State), k < 16 ∧ s.dev.rd F.HIF_MB_CTL_STATE k = 2 ∧ s.dev.sequencersRun = true) ∧
    (∃ (k : Nat) (s : State), k < 16 ∧ s.dev.rd F.HIF_MB_CTL_STATE k = 2 ∧ s.dev.sequencersRun = true ∧ s.dev.now - tabGet
    0 s.dev.hif.postedAt k < 1228800) ∧
    (∃ (k : Nat) (s : State), k < 16 ∧ s.dev.rd F.HIF_MB_CTL_STATE k = 2 ∧ s.dev.sequencersRun = true ∧ 1228800 ≤
    s.dev.now - tabGet 0 s.dev.hif.postedAt k) ∧
    (∃ (k : Nat) (s : State), k < 16 ∧ s.dev.rd F.HIF_MB_CTL_STATE k = 3 ∧ s.dev.sequencersRun = true) :=
  ⟨⟨.bar0, 15, fw F.HIF_MB_CTL_SLOT_OWNER 1,
    { dev := (up |>.wr F.HIF_MB_CTL_SLOT_OWNER 1 15 |>.wr F.HIF_MB_CTL_STATE 1 15) }, by decide +kernel⟩,
    ⟨.bar0, 15, fw F.HIF_MB_CTL_SLOT_OWNER 1,
    { dev := (up |>.wr F.HIF_MB_CTL_SLOT_OWNER 1 15 |>.wr F.HIF_MB_CTL_STATE 4 15) }, by decide +kernel⟩,
    ⟨.bar0, 15, 0, { dev := (up |>.wr F.HIF_MB_CTL_SLOT_OWNER 1 15 |>.wr F.HIF_MB_CTL_STATE 4 15) }, by decide +kernel⟩,
    ⟨.bar0, 15, 0, { dev := (up |>.wr F.HIF_MB_CTL_SLOT_OWNER 1 15 |>.wr F.HIF_MB_CTL_STATE 3 15) }, by decide +kernel⟩,
    ⟨15, { dev := (up |>.wr F.HIF_MB_CTL_SLOT_OWNER 1 15 |>.wr F.HIF_MB_CTL_STATE 2 15) }, by decide +kernel⟩,
    ⟨15, { dev := (up |>.wr F.HIF_MB_CTL_SLOT_OWNER 1 15 |>.wr F.HIF_MB_CTL_STATE 2 15) }, by decide +kernel⟩,
    ⟨15, { dev := { (up |>.wr F.HIF_MB_CTL_SLOT_OWNER 1 15 |>.wr F.HIF_MB_CTL_STATE 2 15) with now := 1000000000000 } },
    by decide +kernel⟩,
    ⟨15, { dev := (up |>.wr F.HIF_MB_CTL_SLOT_OWNER 1 15 |>.wr F.HIF_MB_CTL_STATE 3 15) }, by decide +kernel⟩⟩

/-- The hypotheses of `HostBlocksAreReleasedOrTakenAndCountersClear` are met. -/
theorem witness_HostBlocksAreReleasedOrTakenAndCountersClear :
    (∃ (s : State), (s.dev.hostAbsent = false ∨ s.dev.hif.absentAt = none ∨ ∃ b, s.dev.hif.absentAt = some b ∧ s.dev.now -
    b < 12288000 * max 1 (s.dev.rd F.HIF_CTL_HOST_HOLD))) ∧
    (∃ (g : Nat) (s : State), s.dev.hostAbsent = true ∧ s.dev.hif.absentAt = some g ∧ 12288000 * max 1 (s.dev.rd
    F.HIF_CTL_HOST_HOLD) ≤ s.dev.now - g) ∧
    (∃ (p : Path) (w : Nat) (s : State), s.dev.Admits p (hit Reg.SMP_CTL RD.SMP_CTL) (withBits w 1 1 1)) ∧
    (∃ (p : Path) (w : Nat) (s : State), bits w 1 1 = 0 ∧ s.dev.Admits p (hit Reg.SMP_CTL RD.SMP_CTL) (withBits w 0 1 1)) ∧
    (∃ (p : Path) (w : Nat) (s : State), s.dev.Admits p (hit Reg.HIF_CTL RD.HIF_CTL) (withBits w 0 1 1)) :=
  ⟨⟨{ dev := up }, by decide +kernel⟩,
    ⟨0, { dev := { up with now := 1000000000000, hif := { absentAt := some 0 } } }, by decide +kernel⟩,
    ⟨.smp, 0, { dev := up }, by decide +kernel⟩,
    ⟨.smp, 0, { dev := up }, by decide +kernel⟩,
    ⟨.bar0, 0, { dev := up }, by decide +kernel⟩⟩

/-- The hypotheses of `DmaChannelRunsItsDescriptors` are met. -/
theorem witness_DmaChannelRunsItsDescriptors :
    (∃ (p : Path) (c : Nat) (w : Nat) (s : State), c < 8 ∧ bits w 1 1 = 0 ∧ s.dev.Admits p (hit Reg.HIF_DMA_CTL
    RD.HIF_DMA_CTL c) (withBits w 0 1 1) ∧ s.dev.flag F.HIF_DMA_STS_BUSY c = false) ∧
    (∃ (p : Path) (c : Nat) (w : Nat) (s : State), c < 8 ∧ s.dev.Admits p (hit Reg.HIF_DMA_CTL RD.HIF_DMA_CTL c) (withBits
    (withBits w 0 1 0) 1 1 1) ∧ s.dev.flag F.HIF_DMA_STS_BUSY c = true) ∧
    (∃ (c : Nat) (err : Nat) (s : State), c < 8 ∧ err < 3 ∧ s.dev.flag F.HIF_DMA_STS_BUSY c = true ∧ badDesc (dmaDesc
    (tabGet { } s.dev.hif.chans c).desc) = true) ∧
    (∃ (c : Nat) (s : State), c < 8 ∧ s.dev.flag F.HIF_DMA_STS_BUSY c = true ∧ badDesc (dmaDesc (tabGet { }
    s.dev.hif.chans c).desc) = false ∧ (tabGet { } s.dev.hif.chans c).aborting = false ∧ (dmaDesc (tabGet { }
    s.dev.hif.chans c).desc).srcSpace = 1 ∧ (dmaDesc (tabGet { } s.dev.hif.chans c).desc).dstSpace = 0 ∧ s.dev.memReady =
    true ∧ s.dev.memFits (dmaDesc (tabGet { } s.dev.hif.chans c).desc).src (dmaDesc (tabGet { } s.dev.hif.chans
    c).desc).len = true) :=
  ⟨⟨.bar0, 7, 0, { dev := up }, by decide +kernel⟩,
    ⟨.bar0, 7, 0, { dev := (up |>.wr F.HIF_DMA_STS_BUSY 1 7) }, by decide +kernel⟩,
    ⟨7, 2, { dev := (up |>.wr F.HIF_DMA_STS_BUSY 1 7) }, by decide +kernel⟩,
    ⟨7,
    { dev := { (up |>.wr F.HIF_DMA_STS_BUSY 1 7) with hif := { chans := [(7, { desc := [4, 0, 0, 0, 0, 0, 0, 1] })] } } },
    by decide +kernel⟩⟩

/-- The hypotheses of `ExternalMemoryIsReached` are met. -/
theorem witness_ExternalMemoryIsReached :
    (∃ (cap : Nat) (s : State), cap < 4 ∧ s.dev.memOn = true ∧ s.dev.flag F.HIF_MEM_STS_READY = false ∧
    s.dev.clk.domainReset = false) ∧
    (∃ (x : Nat) (len : Nat) (ecc : Nat) (s : State), x < 2 ^ 30 ∧ ecc < 3 ∧ s.dev.sdStatus (s.dev.rd
    F.HIF_BAR2_BASE_BASE_MB * 2 ^ 20 + x) len true = 0) ∧
    (∃ (x : Nat) (len : Nat) (s : State), x < 2 ^ 30 ∧ s.dev.sdStatus (s.dev.rd F.HIF_BAR2_BASE_BASE_MB * 2 ^ 20 + x) len
    false = 0) ∧
    (∃ (x : Nat) (len : Nat) (ecc : Nat) (s : State), x < 2 ^ 30 ∧ ecc < 3 ∧ s.dev.memReady = true ∧ s.dev.rd
    F.HIF_MEM_STS_SIZE_MB * 2 ^ 20 < s.dev.rd F.HIF_BAR2_BASE_BASE_MB * 2 ^ 20 + x + len) ∧
    (∃ (ecc : Nat) (s : State), ecc < 3 ∧ (s.dev.flag F.HIF_MEM_CFG_SCRUB_EN = false ∨ s.dev.memReady = false ∨ s.dev.flag
    F.BGV_STS_DEFER = true ∨ s.dev.scrubDue = false)) ∧
    (∃ (s : State), s.dev.flag F.HIF_MEM_CFG_SCRUB_EN = true ∧ s.dev.memReady = true ∧ s.dev.flag F.BGV_STS_DEFER = false
    ∧ s.dev.scrubDue = true) :=
  ⟨⟨3, { dev := (up |>.wr F.HIF_MEM_STS_READY 0) }, by decide +kernel⟩,
    ⟨1073741823, 1, 2, { dev := up }, by decide +kernel⟩,
    ⟨1073741823, 1, { dev := up }, by decide +kernel⟩,
    ⟨1073741823, 2, 2, { dev := (up |>.wr F.HIF_BAR2_BASE_BASE_MB 768) }, by decide +kernel⟩,
    ⟨2, { dev := (up |>.wr F.HIF_MEM_CFG_SCRUB_EN 1) }, by decide +kernel⟩,
    ⟨{ dev := { (up |>.wr F.HIF_MEM_CFG_SCRUB_EN 1) with now := 1000000000000 } }, by decide +kernel⟩⟩

/-- The hypotheses of `BarTwoReadsBackWhatWasWritten` are met. -/
theorem witness_BarTwoReadsBackWhatWasWritten :
    (∃ (x : Nat) (len : Nat) (ecc : Nat) (at0 : Nat) (data : List Nat) (s : State) (t : State), x < 2 ^ 30 ∧ ecc < 3 ∧ len
    ≤ 8 ∧ s.dev.sdStatus (s.dev.rd F.HIF_BAR2_BASE_BASE_MB * 2 ^ 20 + x) len true = 0 ∧ exec (Instr.bar2Access x len true
    data ecc at0) s = Host.Outcome.next t) ∧
    (∃ (x : Nat) (len : Nat) (ecc : Nat) (at0 : Nat) (data : List Nat) (s : State) (t : State) (a : Nat), x < 2 ^ 30 ∧ ecc
    < 3 ∧ len ≤ 8 ∧ s.dev.sdStatus (s.dev.rd F.HIF_BAR2_BASE_BASE_MB * 2 ^ 20 + x) len true = 0 ∧ exec (Instr.bar2Access x
    len true data ecc at0) s = Host.Outcome.next t ∧ (a < s.dev.rd F.HIF_BAR2_BASE_BASE_MB * 2 ^ 20 + x ∨ s.dev.rd
    F.HIF_BAR2_BASE_BASE_MB * 2 ^ 20 + x + len ≤ a)) :=
  ⟨⟨1073741816, 8, 2, 0, [1, 2, 3], { dev := up }, _,
    by decide +kernel, by decide +kernel, by decide +kernel, by decide +kernel, rfl⟩,
    ⟨1073741816, 8, 2, 0, [1, 2, 3], { dev := up }, _, 0,
    by decide +kernel, by decide +kernel, by decide +kernel, by decide +kernel, rfl, by decide +kernel⟩⟩

/-- The hypotheses of `HostLinksChangeState` are met. -/
theorem witness_HostLinksChangeState :
    (∃ (st : Nat) (gen : Nat) (s : State), st < 5 ∧ gen < 4 ∧ s.dev.coreOn = true ∧ (st = 4 ∨ s.dev.flag
    F.HIF_LINK_STS_PCIE_UP = false)) ∧
    (∃ (st : Nat) (s : State), st < 4 ∧ s.dev.coreOn = true ∧ s.dev.flag F.HIF_LINK_STS_PCIE_UP = true) ∧
    (∃ (st : Nat) (s : State), st < 3 ∧ (st = 0 ∨ s.dev.refQualified = true)) :=
  ⟨⟨4, 3, { dev := up }, by decide +kernel⟩,
    ⟨3, { dev := (up |>.wr F.HIF_LINK_STS_PCIE_UP 1) }, by decide +kernel⟩,
    ⟨2, { dev := up }, by decide +kernel⟩⟩

/-- The hypotheses of `RecoveryFunctionAnswersGoodMagicOnly` are met. -/
theorem witness_RecoveryFunctionAnswersGoodMagicOnly :
    (∃ (s : State), s.dev.usbTakes 21842 = true) ∧
    (∃ (a : Nat) (len : Nat) (s : State), s.dev.usbTakes 21842 = true ∧ len % 64 = 0 ∧ len ≤ 2 ^ 23 ∧ s.dev.sdStatus (64 *
    a) len true = 0) ∧
    (∃ (a : Nat) (len : Nat) (s : State), s.dev.usbTakes 21842 = true ∧ len % 64 = 0 ∧ len ≤ 2 ^ 23 ∧ s.dev.sdStatus (64 *
    a) len false = 0) ∧
    (∃ (len : Nat) (s : State), s.dev.usbTakes 21842 = true ∧ 0 < len ∧ len ≤ 2048) ∧
    (∃ (op : Nat) (s : State), s.dev.usbTakes 21842 = true ∧ (op = 0 ∨ 5 < op)) ∧
    (∃ (magic : Nat) (ecc : Nat), magic ≠ 21842 ∧ ecc < 3) :=
  ⟨⟨{ dev := { up with hif := { usb := 2 } } }, by decide +kernel⟩,
    ⟨0, 64, { dev := { up with hif := { usb := 2 } } }, by decide +kernel⟩,
    ⟨0, 64, { dev := { up with hif := { usb := 2 } } }, by decide +kernel⟩,
    ⟨2048, { dev := { up with hif := { usb := 2 } } }, by decide +kernel⟩,
    ⟨6, { dev := { up with hif := { usb := 2 } } }, by decide +kernel⟩,
    ⟨0x5553, 2, by decide +kernel⟩⟩

/-- The hypotheses of `SideBandFramesAreTakenOnceAndExecuted` are met. -/
theorem witness_SideBandFramesAreTakenOnceAndExecuted :
    (∃ (l : List Nat) (s : State), s.dev.clk.resetLow = false ∧ s.dev.hif.smp.running = none ∧ l.length = 16 ∧ crc8
    (List.take 15 l) = listAt l 15 ∧ List.take 15 l ≠ s.dev.hif.smp.lastReq ∧ listAt l 0 ≠ 0) ∧
    (∃ (l : List Nat) (s : State), s.dev.clk.resetLow = false ∧ s.dev.hif.smp.running = none ∧ l.length = 16 ∧ crc8
    (List.take 15 l) = listAt l 15 ∧ List.take 15 l = s.dev.hif.smp.lastReq) ∧
    (∃ (l : List Nat) (s : State), s.dev.clk.resetLow = false ∧ s.dev.hif.smp.running = none ∧ l.length = 16 ∧ crc8
    (List.take 15 l) ≠ listAt l 15) ∧
    (∃ (l : List Nat) (s : State), s.dev.clk.resetLow = false ∧ s.dev.hif.smp.running = none ∧ l.length ≠ 16) ∧
    (∃ (s : State) (op : Nat) (seq : Nat) (a : Nat) (w : Nat), s.dev.clk.resetLow = false ∧ s.dev.hif.smp.running = some
    (op, seq, a, w)) ∧
    (∃ (seq : Nat) (a : Nat) (w : Nat) (s : State), s.dev.hif.smp.running = some (1, seq, a, w) ∧ s.dev.hif.smp.result =
    none) ∧
    (∃ (seq : Nat) (a : Nat) (w : Nat) (s : State), s.dev.hif.smp.running = some (2, seq, a, w) ∧ s.dev.hif.smp.result =
    none) ∧
    (∃ (seq : Nat) (a : Nat) (w : Nat) (s : State), s.dev.hif.smp.running = some (3, seq, a, w) ∧ s.dev.hif.smp.result =
    none) ∧
    (∃ (seq : Nat) (a : Nat) (w : Nat) (s : State), s.dev.hif.smp.running = some (4, seq, a, w) ∧ s.dev.hif.smp.result =
    none) ∧
    (∃ (seq : Nat) (a : Nat) (w : Nat) (s : State), s.dev.hif.smp.running = some (5, seq, a, w) ∧ s.dev.hif.smp.result =
    none ∧ s.dev.sdStatus (8 * a) 8 false = 0) ∧
    (∃ (seq : Nat) (a : Nat) (w : Nat) (s : State), s.dev.hif.smp.running = some (6, seq, a, w) ∧ s.dev.hif.smp.result =
    none ∧ s.dev.sdStatus (8 * a) 8 true = 0) ∧
    (∃ (op : Nat) (seq : Nat) (a : Nat) (w : Nat) (s : State), s.dev.hif.smp.running = some (op, seq, a, w) ∧ 7 ≤ op) ∧
    (∃ (op : Nat) (seq : Nat) (a : Nat) (w : Nat) (st : Nat) (v : Nat) (s : State), s.dev.hif.smp.running = some (op, seq,
    a, w) ∧ s.dev.hif.smp.result = some (st, v)) :=
  ⟨⟨[1, 5, 0, 0, 0, 0, 0, 0, 0, 0, 0, 0, 0, 0, 0, 205], { dev := up }, by decide +kernel⟩,
    ⟨[1, 5, 0, 0, 0, 0, 0, 0, 0, 0, 0, 0, 0, 0, 0, 205],
    { dev := { up with hif := { smp := { lastReq := [1, 5, 0, 0, 0, 0, 0, 0, 0, 0, 0, 0, 0, 0, 0] } } } },
    by decide +kernel⟩,
    ⟨[1, 5, 0, 0, 0, 0, 0, 0, 0, 0, 0, 0, 0, 0, 0, 204], { dev := up }, by decide +kernel⟩,
    ⟨[1], { dev := up }, by decide +kernel⟩,
    ⟨{ dev := { up with hif := { smp := { running := some (1, 255, 0, 0) } } } }, 1, 255, 0, 0, by decide +kernel⟩,
    ⟨255, 0, 0, { dev := { up with hif := { smp := { running := some (1, 255, 0, 0) } } } }, by decide +kernel⟩,
    ⟨255, 0, 0, { dev := { up with hif := { smp := { running := some (2, 255, 0, 0) } } } }, by decide +kernel⟩,
    ⟨255, 0, 0, { dev := { up with hif := { smp := { running := some (3, 255, 0, 0) } } } }, by decide +kernel⟩,
    ⟨255, 0, 0, { dev := { up with hif := { smp := { running := some (4, 255, 0, 0) } } } }, by decide +kernel⟩,
    ⟨255, 0, 0, { dev := { up with hif := { smp := { running := some (5, 255, 0, 0) } } } }, by decide +kernel⟩,
    ⟨255, 0, 0, { dev := { up with hif := { smp := { running := some (6, 255, 0, 0) } } } }, by decide +kernel⟩,
    ⟨7, 255, 0, 0, { dev := { up with hif := { smp := { running := some (7, 255, 0, 0) } } } }, by decide +kernel⟩,
    ⟨1, 255, 0, 0, 0, 0,
    { dev := { up with hif := { smp := { running := some (1, 255, 0, 0), result := some (0, 0) } } } }, by decide +kernel⟩⟩

/-- The hypotheses of `RegisterAccessIsPerformedOrRefused` are met. -/
theorem witness_RegisterAccessIsPerformedOrRefused :
    (∃ (p : Path) (a : Nat) (w : Nat) (h : Hit) (s : State) (s1 : State), a % 4 = 0 ∧ lookup a = some h ∧ ownerBlock h.reg
    = none ∧ h.reg ≠ Reg.HIF_MB_CTL ∧ h.reg ≠ Reg.CLK_RST_CTL ∧ s.dev.Admits p h (w % 2 ^ 32) ∧ State.actReg p h (w % 2 ^
    32) s = some s1) ∧
    (∃ (p : Path) (w : Nat) (s : State), s.dev.Admits p (hit Reg.CLK_MON_CFG RD.CLK_MON_CFG) (w % 2 ^ 32)) ∧
    (∃ (p : Path) (w : Nat) (s : State), s.dev.Admits p (hit Reg.HK_IRQ RD.HK_IRQ) (w % 2 ^ 32)) ∧
    (∃ (a : Nat) (s : State), a % 4 = 0 ∧ lookup a = none ∧ s.dev.domainOff a = false) ∧
    (∃ (a : Nat) (h : Hit) (s : State), a % 4 = 0 ∧ lookup a = some h ∧ s.dev.domainOff a = false) ∧
    (∃ (k : Nat) (h : Hit) (g : Hit) (s : State), k < 6 ∧ lookup (latchAddr k) = some h ∧ lookup (latchAddr k + 4) = some
    g ∧ s.dev.domainOff (latchAddr k) = false) ∧
    (∃ (s : State), s.dev.clk.resetLow = false) :=
  ⟨⟨.bar0, 0xC00014, 0, _, { dev := up }, _,
    by decide +kernel, rfl, rfl, by decide +kernel, by decide +kernel, by decide +kernel, rfl⟩,
    ⟨.bar0, 0, { dev := up }, by decide +kernel⟩,
    ⟨.bar0, 0, { dev := up }, by decide +kernel⟩,
    ⟨0x3FFFFFC, { dev := up }, by decide +kernel, rfl, by decide +kernel⟩,
    ⟨0x100048, _, { dev := up }, by decide +kernel, rfl, by decide +kernel⟩,
    ⟨5, (lookup (latchAddr 5)).get (by decide +kernel), (lookup (latchAddr 5 + 4)).get (by decide +kernel), { dev := up },
    by decide, (Option.some_get _).symm, (Option.some_get _).symm, by decide +kernel⟩,
    ⟨{ dev := up }, by decide +kernel⟩⟩

/-- The hypotheses of `FlashAndOtpOperationsEnd` are met. -/
theorem witness_FlashAndOtpOperationsEnd :
    (∃ (p : Path) (w : Nat) (s : State), s.dev.Admits p (hit Reg.HIF_FLASH_CTL RD.HIF_FLASH_CTL) (withBits (withBits w 24
    2 0) 31 1 1) ∧ s.dev.flag F.HIF_FLASH_CTL_BUSY = false) ∧
    (∃ (p : Path) (w : Nat) (s : State), s.dev.Admits p (hit Reg.HIF_FLASH_CTL RD.HIF_FLASH_CTL) (withBits (withBits w 24
    2 1) 31 1 1) ∧ s.dev.flag F.HIF_FLASH_CTL_BUSY = false) ∧
    (∃ (p : Path) (w : Nat) (s : State), s.dev.Admits p (hit Reg.HIF_FLASH_CTL RD.HIF_FLASH_CTL) (withBits (withBits w 24
    2 2) 31 1 1) ∧ s.dev.flag F.HIF_FLASH_CTL_BUSY = false) ∧
    (∃ (j : FlashJob) (s : State), s.dev.hif.flashJobs = [j] ∧ j.slot = false ∧ j.begun = true ∧ j.op = 0) ∧
    (∃ (p : Path) (w : Nat) (s : State), s.dev.Admits p (hit Reg.HIF_OTP_CTL RD.HIF_OTP_CTL) (withBits w 31 1 1) ∧
    s.dev.flag F.HIF_OTP_CTL_BUSY = false) ∧
    (∃ (n : Nat) (s : State), s.dev.hif.otpRun = some n) :=
  ⟨⟨.bar0, 0, { dev := up }, by decide +kernel⟩,
    ⟨.bar0, 0, { dev := up }, by decide +kernel⟩,
    ⟨.bar0, 0, { dev := up }, by decide +kernel⟩,
    ⟨{ begun := true }, { dev := { up with hif := { flashJobs := [{ begun := true }] } } }, by decide +kernel⟩,
    ⟨.bar0, 0, { dev := up }, by decide +kernel⟩,
    ⟨3, { dev := { up with hif := { otpRun := some 3 } } }, by decide +kernel⟩⟩

/-- The hypotheses of `FramesBlocksAndSamplesAreReadBackAsSent` are met. -/
theorem witness_FramesBlocksAndSamplesAreReadBackAsSent :
    (∃ (l : List LineBlock), (∀ b ∈ l, b.payload < 2 ^ 64)) ∧
    (∃ (d : Dev) (n : Nat) (ws : List Nat), d.flag F.LNK_CTL_CARRIAGE (d.portOfLane n) = false ∧ ws.length < 2 ^ 16 ∧ (∀ w
    ∈ ws, w < 2 ^ 64)) ∧
    (∃ (da : Nat) (sa : Nat) (et : Nat) (tag : Option Nat), da < 2 ^ 48 ∧ sa < 2 ^ 48 ∧ et < 2 ^ 16 ∧ et ≠ 33024 ∧ (∀ (v :
    Nat), tag = some v → v < 2 ^ 16)) ∧
    (∃ (l : List Nat), (∀ x ∈ l, x < 256)) ∧
    (∃ (ws : List Nat), (∀ w ∈ ws, w < 2 ^ 64)) ∧
    (∃ (rate : Nat) (l : List Block), rate < 4 ∧ l.length = sectionBlocks rate ∧ (∀ b ∈ l, b.exp < 16 ∧ b.smp.length = 16
    ∧ ∀ c ∈ b.smp, -2048 ≤ c.1 ∧ c.1 ≤ 2047 ∧ -2048 ≤ c.2 ∧ c.2 ≤ 2047)) ∧
    (∃ (l : List (Int × Int)) (b : Block) (cut : Nat), toBlock l = (b, cut)) ∧
    (∃ (l : List (Int × Int)) (b : Block) (cut : Nat) (e : Nat), toBlock l = (b, cut) ∧ e < b.exp) ∧
    (∃ (l : List (Int × Int)) (b : Block) (cut : Nat) (c : Int × Int), toBlock l = (b, cut) ∧ c ∈ b.smp) ∧
    (∃ (l : List (Int × Int)) (b : Block) (cut : Nat) (q : (Int × Int) × Int × Int), toBlock l = (b, cut) ∧ cut = 0 ∧ q ∈
    l.zip b.smp) ∧
    (∃ (b : Block), b.valid = true) ∧
    (∃ (b : Block), b.valid = false) ∧
    (∃ (b : Block) (c : Cx), c ∈ b.samples) ∧
    (∃ (a : Comp), a.ok = true) ∧
    (∃ (a : Comp) (b : Comp), a.ok = true ∧ b.ok = true) ∧
    (∃ (p : Nat) (q : Nat), p < 128 ∧ q < 128) ∧
    (∃ (p : Nat) (q : Nat) (k : Nat), p < 128 ∧ q < 128 ∧ k < 128) :=
  ⟨⟨[{ sync := 2, payload := 2 ^ 64 - 1 }], by decide +kernel⟩,
    ⟨{}, 127, [2 ^ 64 - 1], by decide +kernel⟩,
    ⟨2 ^ 48 - 1, 0, 2 ^ 16 - 1, some (2 ^ 16 - 1), by decide, by decide, by decide, by decide, by rintro v ⟨⟩; decide⟩,
    ⟨[0, 255], by decide +kernel⟩,
    ⟨[0, 2 ^ 64 - 1], by decide +kernel⟩,
    ⟨3, List.replicate (sectionBlocks 3) { exp := 7, smp := List.replicate 16 (-2048, 2047) }, by decide +kernel⟩,
    ⟨[(-262144, 3), (0, 0)], (toBlock [(-262144, 3), (0, 0)]).1, 0, by decide +kernel⟩,
    ⟨[(-262144, 3), (0, 0)], (toBlock [(-262144, 3), (0, 0)]).1, 0, 6, by decide +kernel⟩,
    ⟨[(-262144, 3), (0, 0)], (toBlock [(-262144, 3), (0, 0)]).1, 0, (0, 0), by decide +kernel⟩,
    ⟨[(-262144, 3), (0, 0)], (toBlock [(-262144, 3), (0, 0)]).1, 0, ((0, 0), (0, 0)), by decide +kernel⟩,
    ⟨{ exp := 7 }, by decide +kernel⟩,
    ⟨{ exp := 8 }, by decide +kernel⟩,
    ⟨{ exp := 7, smp := [(2047, -2048)] }, Cx.attach 262016 (-262144), by decide +kernel⟩,
    ⟨Comp.attach (-5), by decide +kernel⟩,
    ⟨Comp.attach (-5), Comp.attach 6, by decide +kernel⟩,
    ⟨127, 0, by decide +kernel⟩,
    ⟨127, 0, 127, by decide +kernel⟩⟩

end Sys2Proof.Tests
end

section
/-! PROOF. Ownership: what a write of a block's `OWNER` does, alone and beside the other master's (R816, R817). -/

namespace Sys2Proof.Machine

/-! ### The judgement -/

/-! The lines of the table of R816, for master `x` writing `v` over owner `prev`. -/

theorem ownJudge_none_claim (x : Nat) : ownJudge 0 x x = (0, x) := by simp [ownJudge]

theorem ownJudge_none_zero (x : Nat) : ownJudge 0 x 0 = (0, 0) := by
  by_cases hx : 0 = x
  · simp [ownJudge, ← hx]
  · simp [ownJudge, hx]

theorem ownJudge_none_other {x v : Nat} (h0 : v ≠ 0) (hx : v ≠ x) : ownJudge 0 x v = (4, 0) := by
  simp [ownJudge, h0, hx]

theorem ownJudge_own {x v : Nat} (hx : x ≠ 0) (h3 : v ≠ 3) : ownJudge x x v = (0, v) := by
  simp [ownJudge, hx, h3]

theorem ownJudge_own_three {x : Nat} (hx : x ≠ 0) : ownJudge x x 3 = (4, x) := by
  simp [ownJudge, hx]

theorem ownJudge_foreign {prev x : Nat} (v : Nat) (h0 : prev ≠ 0) (hx : prev ≠ x) : ownJudge prev x v = (3, prev) := by
  simp [ownJudge, h0, hx]

/-- A granted write leaves the value written, a refused one the owner before. -/
theorem ownJudge_snd (prev x v : Nat) :
    (ownJudge prev x v).2 = if (ownJudge prev x v).1 = 0 then v else prev := by
  by_cases h0 : prev = 0
  · subst h0
    by_cases hx : v = x
    · subst hx
      rw [ownJudge_none_claim, if_pos rfl]
    · by_cases hv : v = 0
      · subst hv
        rw [ownJudge_none_zero, if_pos rfl]
      · rw [ownJudge_none_other hv hx, if_neg (Nat.succ_ne_zero _)]
  · by_cases hp : prev = x
    · subst hp
      by_cases h3 : v = 3
      · subst h3
        rw [ownJudge_own_three h0, if_neg (Nat.succ_ne_zero _)]
      · rw [ownJudge_own h0 h3, if_pos rfl]
    · rw [ownJudge_foreign v h0 hp, if_neg (Nat.succ_ne_zero _)]

theorem ownJudge_granted {prev x v : Nat} (h : (ownJudge prev x v).1 = 0) : (ownJudge prev x v).2 = v := by
  rw [ownJudge_snd, if_pos h]

theorem ownJudge_refused {prev x v : Nat} (h : (ownJudge prev x v).1 ≠ 0) : (ownJudge prev x v).2 = prev := by
  rw [ownJudge_snd, if_neg h]

/-- A path acts for HOST or for SMP. -/
theorem masterOf_eq (p : Path) : masterOf p = 1 ∨ masterOf p = 2 := by
  cases p <;> simp [masterOf]

/-! ### Where the ownership fields lie -/

/-- What an `OWNER` write may change beside the block's own register: the access log, the recorder's status and the
alert of a claim (R815, R819, R870). -/
def besideOwner (n : Nat) : Prop := accBits n ∨ evtBits n ∨ n = F.SMP_ALERT_STS_CLAIM.key 0 0 0

theorem ownerFld_w (b : Nat) : (ownerFld b).w = 2 := by
  unfold ownerFld; split <;> rfl

/-- A block's `CLAIM_CONFLICT` lies eight bits above its `OWNER`. -/
theorem conflictFld_key (b : Nat) : (conflictFld b).key 0 0 0 = (ownerFld b).key 0 0 0 + 8 := by
  unfold conflictFld ownerFld; split <;> rfl

theorem ownerFld_not_besideOwner (b : Nat) :
    ¬ besideOwner ((ownerFld b).key 0 0 0) ∧ ¬ besideOwner ((conflictFld b).key 0 0 0) := by
  rw [conflictFld_key]
  unfold besideOwner accBits evtBits ownerFld
  split <;> decide

/-- A block's `OWNER` lies apart from the `OWNER` and `CLAIM_CONFLICT` of every other block. -/
theorem ownerFld_key_ne : ∀ b < 16, ∀ c < 16, c ≠ b →
    (ownerFld c).key 0 0 0 ≠ (ownerFld b).key 0 0 0 ∧ (ownerFld c).key 0 0 0 ≠ (conflictFld b).key 0 0 0 := by
  decide

/-! ### What the parts of an `OWNER` write leave alone -/

theorem Dev.Changes.ownerOf {d e : Dev} (h : d.Changes besideOwner e) (b : Nat) : e.ownerOf b = d.ownerOf b :=
  h _ 0 0 0 (ownerFld_not_besideOwner b).1

theorem Dev.Changes.rd_conflict {d e : Dev} (h : d.Changes besideOwner e) (b : Nat) :
    e.rd (conflictFld b) = d.rd (conflictFld b) :=
  h _ 0 0 0 (ownerFld_not_besideOwner b).2

theorem Dev.raise_changes_besideOwner (d : Dev) (c i a : Nat) : d.Changes besideOwner (d.raise c i a) :=
  (Dev.raise_changes d c i a).mono fun _ h => .inr (.inl h)

theorem Dev.ownerReject_changes (d : Dev) (ix v x : Nat) : d.Changes besideOwner (d.ownerReject ix v x) :=
  Dev.raise_changes_besideOwner _ _ _ _

theorem Dev.fail_changes_besideOwner (d : Dev) (p : Path) (a st : Nat) : d.Changes besideOwner (d.fail p a st) :=
  (Dev.fail_changes d p a st).mono fun _ h => h.elim .inl (.inr ∘ .inl)

theorem Dev.logFault_changes (d : Dev) (p : Path) (a st : Nat) : d.Changes besideOwner (d.logFault p a st) :=
  (Dev.fail_changes_besideOwner d p a st).regs rfl

theorem Dev.ownerNote_changes (d : Dev) (ix old new x conflict : Nat) :
    d.Changes besideOwner (d.ownerNote ix old new x conflict) := by
  unfold Dev.ownerNote
  split
  · exact .refl _ _
  · have hraise := d.raise_changes_besideOwner 0x160 ix (new + 4 * old + 16 * conflict)
    dsimp only
    split
    · exact hraise.wr _ _ _ _ _ (.inr (.inr rfl))
    · exact hraise

@[simp] theorem Dev.ownerOf_complete (d : Dev) (st x b : Nat) : (d.complete st x).ownerOf b = d.ownerOf b := rfl

@[simp] theorem Dev.ownerOf_ownerReject (d : Dev) (ix v x b : Nat) :
    (d.ownerReject ix v x).ownerOf b = d.ownerOf b := (d.ownerReject_changes ix v x).ownerOf b

@[simp] theorem Dev.ownerOf_logFault (d : Dev) (p : Path) (a st b : Nat) :
    (d.logFault p a st).ownerOf b = d.ownerOf b := (d.logFault_changes p a st).ownerOf b

@[simp] theorem Dev.ownerOf_fail (d : Dev) (p : Path) (a st b : Nat) :
    (d.fail p a st).ownerOf b = d.ownerOf b := (d.fail_changes_besideOwner p a st).ownerOf b

@[simp] theorem Dev.rd_conflict_ownerReject (d : Dev) (ix v x b : Nat) :
    (d.ownerReject ix v x).rd (conflictFld b) = d.rd (conflictFld b) := (d.ownerReject_changes ix v x).rd_conflict b

@[simp] theorem Dev.rd_conflict_logFault (d : Dev) (p : Path) (a st b : Nat) :
    (d.logFault p a st).rd (conflictFld b) = d.rd (conflictFld b) := (d.logFault_changes p a st).rd_conflict b

@[simp] theorem Dev.rd_conflict_fail (d : Dev) (p : Path) (a st b : Nat) :
    (d.fail p a st).rd (conflictFld b) = d.rd (conflictFld b) := (d.fail_changes_besideOwner p a st).rd_conflict b

@[simp] theorem Dev.fail_status (d : Dev) (p : Path) (a st : Nat) : (d.fail p a st).hif.cpl.status = st := rfl

/-! ### A write that takes effect -/

/-- A granted write leaves the value written as the owner. -/
theorem Dev.ownerOf_ownerApply {d : Dev} {b x w : Nat} (conflict : Nat)
    (hg : (ownJudge (d.ownerOf b) x (w % 4)).1 = 0) : (d.ownerApply b x w conflict).ownerOf b = w % 4 := by
  unfold Dev.ownerApply
  rw [(Dev.ownerNote_changes _ _ _ _ _ _).ownerOf, Dev.ownerOf, Dev.rd_wr, ownJudge_granted hg, ownerFld_w]
  omega

/-- An applied write leaves the other blocks' owners alone. -/
theorem Dev.ownerOf_ownerApply_ne (d : Dev) {b c : Nat} (x w conflict : Nat) (hb : b < 16) (hc : c < 16) (hcb : c ≠ b) :
    (d.ownerApply b x w conflict).ownerOf c = d.ownerOf c := by
  obtain ⟨hown, hconf⟩ := ownerFld_key_ne b hb c hc hcb
  unfold Dev.ownerApply
  rw [(Dev.ownerNote_changes _ _ _ _ _ _).ownerOf, Dev.ownerOf, Dev.rd_wr_ne _ _ _ _ _ _ _ _ _ _ hown]
  have hclear : (if bitAt w 8 then d.wr (conflictFld b) 0 else d).rd (ownerFld c) = d.rd (ownerFld c) := by
    split
    · exact Dev.rd_wr_ne _ _ _ _ _ _ _ _ _ _ hconf
    · rfl
  split
  · rw [Dev.rd_wr_ne _ _ _ _ _ _ _ _ _ _ hconf]
    exact hclear
  · exact hclear

/-- A write applied with a conflict sets `CLAIM_CONFLICT`. -/
theorem Dev.rd_conflict_ownerApply (d : Dev) (b x w : Nat) : (d.ownerApply b x w 1).rd (conflictFld b) = 1 := by
  have hkey : (conflictFld b).key 0 0 0 ≠ (ownerFld b).key 0 0 0 := by rw [conflictFld_key]; omega
  unfold Dev.ownerApply
  rw [(Dev.ownerNote_changes _ _ _ _ _ _).rd_conflict, Dev.rd_wr_ne _ _ _ _ _ _ _ _ _ _ hkey, if_pos rfl, Dev.rd_wr]
  rfl

/-! ### The command -/

/-- OWNER_WRITE of a block is its `OWNER` write on the registers (R816). -/
theorem exec_ownerWrite_block (p : Path) {b : Nat} (w : Nat) (other : Option Nat) (s : State) (hb : b < 16) :
    exec (.ownerWrite p b w other) s = .next (s.onDev (Dev.ownerWrite p b w other)) := by
  change execOwnerWrite p b w other s = _
  simp only [execOwnerWrite, unit_lt (show b < 32 by omega), if_pos hb]

section Alone
variable {d : Dev} {p : Path} {b w : Nat} (hadm : d.Admits p (ownerHit b) w)
include hadm

theorem Dev.ownerWrite_alone_granted (hg : (ownJudge (d.ownerOf b) (masterOf p) (w % 4)).1 = 0) :
    d.ownerWrite p b w none = (d.ownerApply b (masterOf p) w 0).complete 0 := by
  simp [Dev.ownerWrite, show d.judge (ownerHit b) p w = 0 from hadm, hg]

theorem Dev.ownerWrite_alone_refused (hr : (ownJudge (d.ownerOf b) (masterOf p) (w % 4)).1 ≠ 0) :
    d.ownerWrite p b w none = (d.ownerReject b (w % 4) (masterOf p)).fail p (ownerHit b).addr
      (ownJudge (d.ownerOf b) (masterOf p) (w % 4)).1 := by
  simp [Dev.ownerWrite, show d.judge (ownerHit b) p w = 0 from hadm, hr]

/-- A write alone leaves the owner, and ends with the status, of its judgement. -/
theorem Dev.ownerWrite_alone_outcome :
    (d.ownerWrite p b w none).ownerOf b = (ownJudge (d.ownerOf b) (masterOf p) (w % 4)).2 ∧
    (d.ownerWrite p b w none).hif.cpl.status = (ownJudge (d.ownerOf b) (masterOf p) (w % 4)).1 := by
  by_cases hg : (ownJudge (d.ownerOf b) (masterOf p) (w % 4)).1 = 0
  · simp [Dev.ownerWrite_alone_granted hadm hg, Dev.ownerOf_ownerApply 0 hg, ownJudge_granted hg, hg]
  · simp [Dev.ownerWrite_alone_refused hadm hg, ownJudge_refused hg]

theorem Dev.ownerOf_ownerWrite_alone_ne {c : Nat} (hb : b < 16) (hc : c < 16) (hcb : c ≠ b) :
    (d.ownerWrite p b w none).ownerOf c = d.ownerOf c := by
  by_cases hg : (ownJudge (d.ownerOf b) (masterOf p) (w % 4)).1 = 0
  · simp [Dev.ownerWrite_alone_granted hadm hg, Dev.ownerOf_ownerApply_ne d _ _ _ hb hc hcb]
  · simp [Dev.ownerWrite_alone_refused hadm hg]

end Alone

section Together
variable {d : Dev} {p : Path} {b w v : Nat} (hadm : d.Admits p (ownerHit b) w)
include hadm

/-- Of two writes in one cycle that are not both granted, each has the outcome of its own judgement: the one granted, if
any, sets the owner, and the command ends with its own status (R817). -/
theorem Dev.ownerWrite_together_outcome
    (hnot : ¬ ((ownJudge (d.ownerOf b) (masterOf p) (w % 4)).1 = 0 ∧
      (ownJudge (d.ownerOf b) (3 - masterOf p) (v % 4)).1 = 0)) :
    (d.ownerWrite p b w (some v)).hif.cpl.status = (ownJudge (d.ownerOf b) (masterOf p) (w % 4)).1 ∧
    (d.ownerWrite p b w (some v)).ownerOf b =
      if (ownJudge (d.ownerOf b) (masterOf p) (w % 4)).1 = 0 then (ownJudge (d.ownerOf b) (masterOf p) (w % 4)).2
      else if (ownJudge (d.ownerOf b) (3 - masterOf p) (v % 4)).1 = 0 then
        (ownJudge (d.ownerOf b) (3 - masterOf p) (v % 4)).2
      else d.ownerOf b := by
  have hj : d.judge (ownerHit b) p w = 0 := hadm
  by_cases hmine : (ownJudge (d.ownerOf b) (masterOf p) (w % 4)).1 = 0
  · have htheirs : (ownJudge (d.ownerOf b) (3 - masterOf p) (v % 4)).1 ≠ 0 := fun h => hnot ⟨hmine, h⟩
    simp [Dev.ownerWrite, hj, hmine, htheirs, Dev.ownerOf_ownerApply, ownJudge_granted hmine]
  · by_cases htheirs : (ownJudge (d.ownerOf b) (3 - masterOf p) (v % 4)).1 = 0
    · simp [Dev.ownerWrite, hj, hmine, htheirs, Dev.ownerOf_ownerApply, ownJudge_granted htheirs]
    · simp [Dev.ownerWrite, hj, hmine, htheirs]

end Together

/-- Where both writes would be granted, the side-band port's command applies its own and ends `OK`. -/
theorem Dev.ownerWrite_smp_wins {d : Dev} {b w v : Nat} (hadm : d.Admits .smp (ownerHit b) w)
    (hsmp : (ownJudge (d.ownerOf b) 2 (w % 4)).1 = 0) (hhost : (ownJudge (d.ownerOf b) 1 (v % 4)).1 = 0) :
    d.ownerWrite .smp b w (some v) =
      (((d.ownerApply b 2 w 1).ownerReject b (v % 4) 1).logFault .bar0 (ownerHit b).addr 3).complete 0 := by
  simp [Dev.ownerWrite, show d.judge (ownerHit b) .smp w = 0 from hadm, masterOf, otherPath, hsmp, hhost]

/-- Where both writes would be granted, the host's command applies the side-band port's and ends `NOT_OWNER`. -/
theorem Dev.ownerWrite_host_loses {d : Dev} {b w v : Nat} (hadm : d.Admits .bar0 (ownerHit b) v)
    (hsmp : (ownJudge (d.ownerOf b) 2 (w % 4)).1 = 0) (hhost : (ownJudge (d.ownerOf b) 1 (v % 4)).1 = 0) :
    d.ownerWrite .bar0 b v (some w) =
      ((d.ownerApply b 2 w 1).ownerReject b (v % 4) 1).fail .bar0 (ownerHit b).addr 3 := by
  simp [Dev.ownerWrite, show d.judge (ownerHit b) .bar0 v = 0 from hadm, masterOf, hsmp, hhost]

/-- Settles O48: the outcome of a write alone is its judgement, whose lines are the table of R816. -/
theorem ownerWriteFollowsTheTable : Obligations.OwnerWriteFollowsTheTable := by
  intro p b w s hb hadm
  obtain ⟨hown, hst⟩ := Dev.ownerWrite_alone_outcome hadm
  refine ⟨_, exec_ownerWrite_block p w none s hb, rfl, rfl,
    fun c hc hcb => Dev.ownerOf_ownerWrite_alone_ne hadm hb hc hcb, ?_⟩
  rw [State.onDev_dev, hown, hst]
  have hx0 : masterOf p ≠ 0 := by have := masterOf_eq p; omega
  have hx3 : masterOf p ≠ 3 := by have := masterOf_eq p; omega
  have hother0 : 3 - masterOf p ≠ 0 := by have := masterOf_eq p; omega
  have hother3 : 3 - masterOf p ≠ 3 := by omega
  have hother : 3 - masterOf p ≠ masterOf p := by have := masterOf_eq p; omega
  refine ⟨fun ho hv => ?_, fun ho hv => ?_, fun ho hv0 hvx => ?_, fun ho hv => ?_, fun ho hv => ?_, fun ho hv => ?_,
    fun ho hv => ?_, fun ho => ?_⟩
  · simp [ho, hv, ownJudge_none_claim]
  · simp [ho, hv, ownJudge_none_zero]
  · simp [ho, ownJudge_none_other hv0 hvx]
  · simp [ho, hv, ownJudge_own hx0]
  · simp [ho, hv, ownJudge_own hx0 hx3]
  · simp [ho, hv, ownJudge_own hx0 hother3]
  · simp [ho, hv, ownJudge_own_three hx0]
  · simp [ho, ownJudge_foreign _ hother0 hother]

/-- Settles O49: each write has the outcome of its own judgement, unless both are granted; then both commands apply the
side-band port's write with its conflict bit. -/
theorem sameCycleOwnerWriteGoesToTheSideBand : Obligations.SameCycleOwnerWriteGoesToTheSideBand := by
  constructor
  · intro p b w v s hb hadm hnot
    exact ⟨_, exec_ownerWrite_block p w (some v) s hb, rfl, Dev.ownerWrite_together_outcome hadm hnot⟩
  · intro b w v s hb hadmSmp hadmHost hsmp hhost
    refine ⟨⟨_, exec_ownerWrite_block .smp w (some v) s hb, rfl, ?_⟩,
      ⟨_, exec_ownerWrite_block .bar0 v (some w) s hb, rfl, ?_⟩⟩
    · simp [Dev.ownerWrite_smp_wins hadmSmp hsmp hhost, Dev.ownerOf_ownerApply 1 hsmp, ownJudge_granted hsmp,
        Dev.rd_conflict_ownerApply]
    · simp [Dev.ownerWrite_host_loses hadmHost hsmp hhost, Dev.ownerOf_ownerApply 1 hsmp, ownJudge_granted hsmp,
        Dev.rd_conflict_ownerApply]

end Sys2Proof.Machine
end
